-- ==== Sys2Proof/Word.lean ====
section
/-! DEFINITION. Words of the model: a byte, little-endian reading and writing of byte lists, two's complement. -/

namespace Sys2Proof

/-- One byte, as the device stores it (R12: multi-byte fields are little-endian). -/
abbrev Byte := BitVec 8

/-- The byte at index `i` of a block; a block reads 0 past its end. -/
def byteAt (b : List Byte) (i : Nat) : Nat := (b.getD i 0).toNat

/-- The little-endian number in the `n` bytes from index `i` (R12). -/
def leAt (b : List Byte) (i : Nat) : Nat → Nat
  | 0 => 0
  | n + 1 => byteAt b i + 256 * leAt b (i + 1) n

/-- The `n` low bytes of a number, least significant first (R12). -/
def leBytes (n v : Nat) : List Byte :=
  (List.range n).map fun i => BitVec.ofNat 8 (v / 256 ^ i)

/-- The number whose `w`-bit two's complement pattern is `v`. -/
def toSigned (w v : Nat) : Int :=
  if v % 2 ^ w < 2 ^ (w - 1) then Int.ofNat (v % 2 ^ w) else Int.ofNat (v % 2 ^ w) - 2 ^ w

/-- The `w`-bit two's complement pattern of a number. -/
def ofSigned (w : Nat) (x : Int) : Nat := (x % 2 ^ w).toNat

/-- Bit `i` of a number. -/
def bit (v i : Nat) : Bool := v.testBit i

/-- 1 for true, 0 for false. -/
def b2n (b : Bool) : Nat := if b then 1 else 0

/-- `v` with bit `i` set to `b`. -/
def setBit (v i : Nat) (b : Bool) : Nat :=
  if b then v ||| 2 ^ i else v - (if v.testBit i then 2 ^ i else 0)

/-- Number of bits set among the `n` lowest. -/
def popcount (n v : Nat) : Nat := ((List.range n).filter fun i => v.testBit i).length

/-- A value moved up to `hi`, where a counter saturates. -/
def satInc (hi v : Nat) : Nat := if v < hi then v + 1 else hi

/-- A value held between two bounds. -/
def clampI (lo hi x : Int) : Int := if x < lo then lo else if hi < x then hi else x

/-- Integer quotient rounded to nearest, halves away from zero; the divisor is positive. -/
def roundDiv (x : Int) (d : Nat) : Int :=
  if 0 ≤ x then (x + (d / 2 : Nat)) / (d : Int) else -((-x + (d / 2 : Nat)) / (d : Int))

/-- Integer quotient rounded toward zero. -/
def truncDiv (x : Int) (d : Nat) : Int := if 0 ≤ x then x / (d : Int) else -((-x) / (d : Int))

end Sys2Proof
end

