-- ==== Sys2Proof/Machine/Inputs.lean ====
section
/-! DEFINITION. What commands of the environment carry as operands: received frames, sampled values, the board of a
slice. -/

namespace Sys2Proof

/-- A PTP datagram as a port receives it (R40, R42): the tag control of its 802.1Q tag where it has one, whether the frame
had an error, the receive stamp on GT before the latency correction, the UDP payload, and of a two-step Sync the payload of its
Follow_Up (empty where none came). -/
structure PtpRx where
  port   : Fin 2
  tag    : Option (Fin 65536)
  err    : Bool
  rx     : Nat
  data   : List Byte
  follow : List Byte
  deriving DecidableEq, Repr

/-- An ARP request: the tag control of its 802.1Q tag, sender hardware and protocol address, target protocol address. -/
structure ArpReq where
  tag : Option (Fin 65536)
  sha : Nat
  spa : Nat
  tpa : Nat
  deriving DecidableEq, Repr

/-- An ICMP echo request, with the tag control of its 802.1Q tag. -/
structure EchoReq where
  tag  : Option (Fin 65536)
  src  : Nat
  dst  : Nat
  id   : Nat
  seq  : Nat
  data : List Byte
  deriving DecidableEq, Repr

/-- The name of a ring (R69). -/
inductive RingId where
  | sq (q : Fin 32)
  | cq (q : Fin 32)
  | eq (e : Fin 8)
  deriving DecidableEq, Repr

/-- Causes of a host-island reset, coded as HST_STAT.LAST_RST (R94). -/
inductive HostReset where
  | perst | linkDown | hot | flr
  deriving DecidableEq, Repr

/-- An SSI frame of a drive encoder as clocked in: data field and parity bit (R156). -/
structure SsiFrame where
  data   : Nat
  parity : Bool
  deriving DecidableEq, Repr

/-- What a drive port sampled over a tick: ten count changes of 10 µs each, oldest first, or SSI frames (R156). -/
inductive EncIn where
  | abz (l : List Int)
  | ssi (l : List SsiFrame)
  deriving DecidableEq, Repr

/-- What a tick brings to the drive port of a car (R196). -/
structure CarIn where
  car : Fin 16
  enc : EncIn
  deriving DecidableEq, Repr

/-- A CAN frame (R111, R336): identifier format, FD format, bit rate switch, identifier, payload. -/
structure CanFrame where
  ide  : Bool
  fdf  : Bool
  brs  : Bool
  id   : Nat
  data : List Byte
  deriving DecidableEq, Repr

/-- A cell of a memory macro: in its array, in a spare row, in the spare column (R430, R437). -/
inductive MemCell where
  | array (addr : Fin 131072) (bit : Fin 256)
  | row (r : Fin 2) (bit : Fin 256)
  | col (addr : Fin 131072)
  deriving DecidableEq, Repr

/-- A cell that a read of the memory test finds wrong. The reads are the five of March C- (0 to 4) and the two of the
checkerboard (5, 6), in the order of R430. -/
structure ReadErr where
  step : Fin 7
  cell : MemCell
  deriving DecidableEq, Repr

/-- What a Whisk test leaves (R427 to R431). Logic: the MISR at the four pattern counts, a run of set k reaching the first k + 1, and
the 64 signatures of a diagnostic rerun. Memory: the wrong cells of each macro that has any. -/
inductive TestEnd where
  | logic (misr : Vector (BitVec 64) 4) (chains : Vector (BitVec 64) 64)
  | memory (reads : List (Fin 64 × List ReadErr))
  deriving DecidableEq, Repr

/-- The PLLs of the controller (R448). -/
inductive Pll where
  | spine | sys | mem | host | net | bus | peer | sp
  | engine (n : Fin 16)
  deriving DecidableEq, Repr

/-- Records of the persistent tier that carry a CRC of their own (R474): partner, slice identity, SEED, EVR marker, commit
markers, cue key, cue reserve, Logbook geometry, clear-marker slots (R422), landing table, load zero, force model. -/
inductive NvItem where
  | peer | marker | cueKey | cueReserve | geom
  | clearSlot (m : Fin 2)
  | commit (m : Fin 2)
  | idRec (n : Fin 16)
  | seed (n : Fin 16)
  | learned (n : Fin 16)
  | zero (n : Fin 16)
  | force (n : Fin 16) (d : Fin 2)
  deriving DecidableEq, Repr

/-- What a start-up finds (R456): strap, clocks present, TCXO error, voltages of the supplies in the order of PWR_MON (CORE, IO18, IO33,
VDD2, VDDQ, PCIE, SER), mV, die temperature, LP4X size, persistent device; persistent records, ring records and mirror records with a bad CRC; results of the start-up tests,
a test that is not listed having passed; what AON saw on the slice ports and Pebex during the reset; ms to BOOT_DONE. -/
structure BootIn where
  y      : Bool
  tcxo   : Bool
  xtal   : Bool
  refclk : Bool
  ppb    : Int
  rails  : Vector Nat 7
  tj     : Int
  lp4x   : Fin 65536
  xspMib : Fin 65536
  nor    : Bool
  badNv  : List NvItem
  badRing : List Nat
  badMirror : List Nat
  tests  : List (Fin 112 × TestEnd)
  sp     : BitVec 16
  pebex  : Bool
  ms     : Nat
  deriving DecidableEq, Repr

/-- Why a DMA read failed (R80): UR or CA status, completion timeout, poisoned completion; or what it brought was lost to an
uncorrectable error in SQ staging (R367). -/
inductive DmaErr where
  | ur | ca | timeout | poison | staging
  deriving DecidableEq, Repr

/-- Registers of configuration space (R64 to R66, R97 to R99). The spec names them and places none: they are known by their
names, their bits lie as PCI Express has them (log entry 102). -/
inductive ConfReg where
  | vendorId | deviceId | revision | classCode | subVendor | subId | serialLo | serialHi
  | bar (i : Fin 6)
  | command
  /-- The identifiers of the five capabilities. -/
  | capId (i : Fin 5)
  | msixControl | pmcsr | deviceCap | deviceControl | deviceCap2 | deviceControl2 | linkCap | linkControl | linkStatus
  | aerUncStatus | aerUncMask | aerUncSeverity | aerCorStatus | aerCorMask | aerControl
  deriving DecidableEq, Repr

/-- A write of the host: to BAR0 or BAR2 at an offset with its size in bytes, or to configuration space (R64, R66 to R68,
R74, R98, R99): Memory Space Enable, Bus Master Enable, MSI-X Enable and Function Mask, PME_En with a clearing of PME_Status,
ASPM L1, a BAR, the largest payload (128 or 256 B) and read request (128, 256 or 512 B), the completion timeout, ECRC, and an
AER register. -/
inductive HostWr where
  | bar0 (off : Fin 1048576) (size : Fin 9) (v : BitVec 32)
  | bar2 (off : Fin 8192) (size : Fin 9) (v : BitVec 64)
  | memSpace (on : Bool)
  | busMaster (on : Bool)
  | msixCtrl (en mask : Bool)
  | pmcsr (pmeEn clear : Bool)
  | aspm (l1 : Bool)
  | barReg (i : Fin 6) (v : BitVec 32)
  | devCtl (payload : Fin 2) (request : Fin 3)
  | timeout (range : Fin 16)
  | ecrc (gen chk : Bool)
  | aer (r : ConfReg) (v : BitVec 32)
  deriving DecidableEq, Repr

/-- A read of the host: of BAR0 or BAR2 at an offset with its size in bytes, or of configuration space. -/
inductive HostRd where
  | bar0 (off : Fin 1048576) (size : Fin 9)
  | bar2 (off : Fin 8192) (size : Fin 9)
  | conf (r : ConfReg)
  deriving DecidableEq, Repr

/-- An SQ entry as a fetch reads it (R76). With it stand the bytes of host memory its descriptor names, where it names any
and their read did not fail twice (R80), and the first OTP entry of a hard repair that reads back wrong, where one does
(R441). -/
structure Fetched where
  desc : List Byte
  mem  : Option (List Byte)
  bad  : Option (Fin 3)
  deriving DecidableEq, Repr

end Sys2Proof

namespace Sys2Proof.Machine

/-- Deviations of register fields from their reset values: pairs (key, value xor reset), keys strictly rising, no zero
(`RegMap.wf`). A field that is not listed holds its reset value. -/
abbrev RegMap := List (Nat × Nat)

/-- A slice configuration (R276): its car and the settings that differ from their reset values, keys as in the windows of
car 0. -/
structure SliceCfg where
  car  : Nat
  regs : RegMap
  deriving DecidableEq, Repr

/-- A calibration bank (R328, R331): library entries of 20 bytes and node entries of 2 bytes, by index. -/
structure Bank where
  tag  : Nat
  lib  : List (Nat × List Byte)
  node : List (Nat × List Byte)
  deriving DecidableEq, Repr

/-- The board of a slice: what its non-volatile memory and its straps hold (R3, R268, R276, R280, R331). -/
structure Board where
  serial : Nat
  step   : Nat
  boot   : Nat
  epoch  : Nat
  cfg    : Option SliceCfg
  bank   : Vector (Option Bank) 2
  deriving DecidableEq, Repr

end Sys2Proof.Machine
end

