-- ==== Sys2Proof/Syntax.lean ====
section
/-! DEFINITION. Syntax: the commands the block takes (spec/opcode_table.json). A command of the environment carries, as
operands, what the outside supplies with it: the bytes of a descriptor, a received frame, a measured value. -/

namespace Sys2Proof


/-- The commands of the block, one constructor per row of spec/opcode_table.json, in the table's order. -/
inductive Instr where
  /-- TICK, R35. -/
  | tick (cars : List CarIn) (missed : List (Fin 16)) (tj ppb : Int)
  /-- GT_STEP, R47. -/
  | gtStep
  /-- SYNC_RECEIVED, R46. -/
  | syncReceived (m : PtpRx)
  /-- ANNOUNCE_RECEIVED, R45. -/
  | announceReceived (m : PtpRx)
  /-- DELAY_RESP_RECEIVED, R41. -/
  | delayRespReceived (m : PtpRx)
  /-- DELAY_REQ_SEND, R41. -/
  | delayReqSend (stamp : Nat)
  /-- ANNOUNCE_TIMEOUT, R44. -/
  | announceTimeout
  /-- SYNC_TIMEOUT, R44. -/
  | syncTimeout
  /-- PTP_LINK_LOSS, R43. -/
  | ptpLinkLoss
  /-- ARP_REQUEST, R40. -/
  | arpRequest (p : Fin 2) (q : ArpReq)
  /-- ICMP_ECHO_REQUEST, R40. -/
  | icmpEchoRequest (p : Fin 2) (q : EchoReq)
  /-- IGMP_QUERY, R40. -/
  | igmpQuery (p : Fin 2) (tag : Option (Fin 65536)) (group : Nat)
  /-- GT_VALID_FREE_RUN, R38. -/
  | gtValidFreeRun
  /-- SLEW_DONE, R48. -/
  | slewDone
  /-- HOLDOVER_LIMIT, R49. -/
  | holdoverLimit
  /-- TCXO_LOST, R50. -/
  | tcxoLost
  /-- PPS_OUT_PULSE, R51. -/
  | ppsOutPulse (t : Nat)
  /-- PPS_IN_EDGE, R52. -/
  | ppsInEdge (stamp : Nat)
  /-- GT_BROADCAST, R53. -/
  | gtBroadcast (dev : List (Fin 23 × Int))
  /-- SQ_TAIL_DOORBELL, R75. -/
  | sqTailDoorbell (sq : Fin 32) (v : BitVec 32)
  /-- CQ_HEAD_DOORBELL, R75. -/
  | cqHeadDoorbell (cq : Fin 32) (v : BitVec 32)
  /-- EQ_HEAD_DOORBELL, R75. -/
  | eqHeadDoorbell (eq : Fin 8) (v : BitVec 32)
  /-- RING_ENABLE, R72. -/
  | ringEnable (r : RingId) (cfg : BitVec 32)
  /-- RING_DISABLE, R73. -/
  | ringDisable (r : RingId) (cfg : BitVec 32)
  /-- SQ_FETCH, R76. -/
  | sqFetch (data : List Fetched)
  /-- DMA_READ_ERROR, R80. -/
  | dmaReadError (sq : Fin 32) (e : DmaErr) (got : List Fetched) (again : Bool)
  /-- DMA_WRITE_ERROR, R93. -/
  | dmaWriteError (r : RingId)
  /-- UNKNOWN_OPCODE, R108. -/
  | unknownOpcode (sq : Fin 32) (d : List Byte)
  /-- BACKLOG_DRAIN, R83. -/
  | backlogDrain (cq : Fin 32)
  /-- EQ_OVERFLOW, R87. -/
  | eqOverflow (eq : Fin 8)
  /-- MODERATION_TIMER, R89. -/
  | moderationTimer
  /-- FENCE_RELEASE, R91. -/
  | fenceRelease
  /-- HOST_ISLAND_RESET, R94. -/
  | hostIslandReset (cause : HostReset)
  /-- HWD_KICK, R96. -/
  | hwdKick
  /-- HOST_WATCHDOG_EXPIRY, R96. -/
  | hostWatchdogExpiry
  /-- D3HOT_ENTRY, R97. -/
  | d3hotEntry
  /-- D0_ENTRY, R100. -/
  | d0Entry
  /-- D0_RECOVERY_END, R100. -/
  | d0RecoveryEnd
  /-- BUS_MASTER_ENABLE, R97. -/
  | busMasterEnable
  /-- ASPM_L1_ENTRY, R98. -/
  | aspmL1Entry
  /-- NOP, R111. -/
  | nop (sq : Fin 32) (d : List Byte)
  /-- HELD_READ, R84. -/
  | heldRead (sq : Fin 32) (d : List Byte)
  /-- HELD_DISCARD, R84. -/
  | heldDiscard (sq : Fin 32) (d : List Byte)
  /-- EQ_PING, R111. -/
  | eqPing (sq : Fin 32) (d : List Byte)
  /-- AUTH_CHALLENGE, R122. -/
  | authChallenge (sq : Fin 32) (d : List Byte)
  /-- CHALLENGE_EXPIRY, R122. -/
  | challengeExpiry
  /-- ACTION_CANCEL, R114. -/
  | actionCancel (sq : Fin 32) (d : List Byte)
  /-- CHORD, R139. -/
  | chord (sq : Fin 32) (d : List Byte)
  /-- CUE, R144. -/
  | cue (sq : Fin 32) (d : List Byte)
  /-- ACTION_QUERY, R111. -/
  | actionQuery (sq : Fin 32) (d : List Byte)
  /-- TRIP, R182. -/
  | trip (sq : Fin 32) (d : List Byte)
  /-- CALL_CANCEL, R183. -/
  | callCancel (sq : Fin 32) (d : List Byte)
  /-- CAR_MODE, R253. -/
  | carMode (sq : Fin 32) (d : List Byte)
  /-- EVR_START, R255. -/
  | evrStart (sq : Fin 32) (d : List Byte)
  /-- EVR_ABORT, R257. -/
  | evrAbort (sq : Fin 32) (d : List Byte)
  /-- LEARN_TRIP, R160. -/
  | learnTrip (sq : Fin 32) (d : List Byte)
  /-- LEARN_TRIP_END, R160. -/
  | learnTripEnd (n : Fin 16)
  /-- DOOR_OPEN, R213. -/
  | doorOpen (sq : Fin 32) (d : List Byte)
  /-- DOOR_CLOSE, R213. -/
  | doorClose (sq : Fin 32) (d : List Byte)
  /-- DOOR_HOLD, R213. -/
  | doorHold (sq : Fin 32) (d : List Byte)
  /-- LAMP_SET, R313. -/
  | lampSet (sq : Fin 32) (d : List Byte)
  /-- HELEA_SCENE, R323. -/
  | heleaScene (sq : Fin 32) (d : List Byte)
  /-- HELEA_NODE, R323. -/
  | heleaNode (sq : Fin 32) (d : List Byte)
  /-- CAL_SWAP, R331. -/
  | calSwap (sq : Fin 32) (d : List Byte) (mem : Option (List Byte))
  /-- OUT_SET, R300. -/
  | outSet (sq : Fin 32) (d : List Byte)
  /-- OUT_PULSE, R300. -/
  | outPulse (sq : Fin 32) (d : List Byte)
  /-- IO_PROBE, R308. -/
  | ioProbe (sq : Fin 32) (d : List Byte)
  /-- SAFE_OPEN, R247. -/
  | safeOpen (sq : Fin 32) (d : List Byte)
  /-- SAFE_REARM, R249. -/
  | safeRearm (sq : Fin 32) (d : List Byte)
  /-- BUS_TX, R339. -/
  | busTx (sq : Fin 32) (d : List Byte)
  /-- BUS_RECOVER, R352. -/
  | busRecover (sq : Fin 32) (d : List Byte)
  /-- LOG_READ, R418. -/
  | logRead (sq : Fin 32) (d : List Byte)
  /-- LOG_FREEZE, R412. -/
  | logFreeze (sq : Fin 32) (d : List Byte)
  /-- LOG_THAW, R412. -/
  | logThaw (sq : Fin 32) (d : List Byte)
  /-- LOG_CLEAR, R420. -/
  | logClear (sq : Fin 32) (d : List Byte)
  /-- BIST_RUN, R436. -/
  | bistRun (sq : Fin 32) (d : List Byte)
  /-- REPAIR_SOFT, R438. -/
  | repairSoft (sq : Fin 32) (d : List Byte)
  /-- REPAIR_HARD, R439. -/
  | repairHard (sq : Fin 32) (d : List Byte) (bad : Option (Fin 3))
  /-- LEASE_RELEASE, R384. -/
  | leaseRelease (sq : Fin 32) (d : List Byte)
  /-- DUTY_HANDOVER, R385. -/
  | dutyHandover (sq : Fin 32) (d : List Byte)
  /-- CHECKPOINT_NOW, R387. -/
  | checkpointNow (sq : Fin 32) (d : List Byte)
  /-- STANDBY_MODE, R393. -/
  | standbyMode (sq : Fin 32) (d : List Byte)
  /-- IMAGE_LOAD, R478. -/
  | imageLoad (sq : Fin 32) (d : List Byte) (mem : Option (List Byte))
  /-- IMAGE_COMMIT, R479. -/
  | imageCommit (sq : Fin 32) (d : List Byte)
  /-- SLICE_CONFIRM, R276. -/
  | sliceConfirm (sq : Fin 32) (d : List Byte)
  /-- ACTION_HAND_ON, R130. -/
  | actionHandOn
  /-- CONTROLLER_ACTION_FIRE, R134. -/
  | controllerActionFire (t : Nat)
  /-- SLICE_ACTION_FIRE, R132. -/
  | sliceActionFire (n : Fin 16) (t : Nat)
  /-- CUE_FIRST_COPY, R145. -/
  | cueFirstCopy (t : Nat)
  /-- CUE_SECOND_COPY, R145. -/
  | cueSecondCopy (t : Nat)
  /-- CUE_KEY_WRITE, R152. -/
  | cueKeyWrite (k : Fin 8) (v : BitVec 32)
  /-- CUE_KEY_STORED, R152. -/
  | cueKeyStored
  /-- VANE_EDGE, R164. -/
  | vaneEdge (n : Fin 16) (dzB active : Bool) (stamp : Nat)
  /-- ENC_LOST, R170. -/
  | encLost (n : Fin 16)
  /-- ENC_LOST_CLEAR, R170. -/
  | encLostClear (n : Fin 16)
  /-- INDEX_PULSE, R171. -/
  | indexPulse (n : Fin 16) (enc : Fin 3) (count : Int) (stamp : Nat)
  /-- ZERO_STALE, R177. -/
  | zeroStale (n : Fin 16)
  /-- TRIP_COMPLETE, R187. -/
  | tripComplete (n : Fin 16)
  /-- TRACKING_FAULT, R195. -/
  | trackingFault (n : Fin 16)
  /-- DRIVE_STATUS_CHANGE, R205. -/
  | driveStatusChange (n : Fin 16) (level : Bool)
  /-- DOOR_END_REACHED, R222. -/
  | doorEndReached (n : Fin 16) (d : Fin 2) (t : Nat)
  /-- STALL, R222. -/
  | stall (n : Fin 16) (d : Fin 2) (t : Nat)
  /-- FORCE_EXCESS, R222. -/
  | forceExcess (n : Fin 16) (d : Fin 2) (t : Nat)
  /-- DOOR_BRAKE_DONE, R224. -/
  | doorBrakeDone (n : Fin 16) (d : Fin 2) (t : Nat)
  /-- DWELL_EXPIRY, R211. -/
  | dwellExpiry (n : Fin 16) (d : Fin 2) (t : Nat)
  /-- HOLD_EXPIRY, R211. -/
  | holdExpiry (n : Fin 16) (d : Fin 2) (t : Nat)
  /-- LOCK_TIMER_EXPIRY, R227. -/
  | lockTimerExpiry (n : Fin 16) (d : Fin 2) (t : Nat)
  /-- NUDGE_TIMEOUT, R225. -/
  | nudgeTimeout (n : Fin 16) (d : Fin 2) (t : Nat)
  /-- HAND_PUSH, R226. -/
  | handPush (n : Fin 16) (d : Fin 2) (t : Nat)
  /-- DOOR_END_NOT_FOUND, R210. -/
  | doorEndNotFound (n : Fin 16) (d : Fin 2) (t : Nat)
  /-- DOOR_FAULT, R231. -/
  | doorFault (n : Fin 16) (d : Fin 2) (cause : Fin 7) (phase : Fin 2) (x : Int) (t : Nat)
  /-- DOOR_FAULT_CLEARED, R231. -/
  | doorFaultCleared (n : Fin 16) (d : Fin 2) (cause : Fin 7) (x : Int) (t : Nat)
  /-- ORPHAN_DOOR_HOLD_END, R232. -/
  | orphanDoorHoldEnd (n : Fin 16) (d : Fin 2) (t : Nat)
  /-- EVR_TIMEOUT, R256. -/
  | evrTimeout (n : Fin 16)
  /-- SAFE_ORPHAN_DROP, R247. -/
  | safeOrphanDrop (n : Fin 16) (t : Nat)
  /-- SFB_MISMATCH, R248. -/
  | sfbMismatch (n : Fin 16) (t : Nat)
  /-- DOWNSTREAM_FRAME, R264. -/
  | downstreamFrame (n : Fin 16) (p : Fin 2) (b : List Byte) (bad : Bool) (flip t : Nat)
  /-- SLICE_CONFIG_ACTIVE, R276. -/
  | sliceConfigActive (n : Fin 16) (t : Nat)
  /-- UPSTREAM_FRAME_SEND, R262. -/
  | upstreamFrameSend (n : Fin 16) (p : Fin 2) (lws : Option (Int × Nat)) (t : Nat)
  /-- UPSTREAM_FRAME, R265. -/
  | upstreamFrame (n : Fin 16) (b : List Byte) (bad : Bool) (arr : Nat)
  /-- RECORD_RESEND, R270. -/
  | recordResend (n : Fin 16) (up : Bool) (p : Fin 2)
  /-- LINK_DROP, R272. -/
  | linkDrop (n : Fin 16)
  /-- TRAINING_ATTEMPT, R274. -/
  | trainingAttempt (n : Fin 16)
  /-- SYMBOL_LOCK, R273. -/
  | symbolLock (n : Fin 16) (p : Fin 2)
  /-- PROXY_WRITE, R277. -/
  | proxyWrite (n : Fin 16) (off : Nat) (v : BitVec 32)
  /-- SHADOW_REFRESH_READ, R277. -/
  | shadowRefreshRead (n : Fin 16) (off : Nat)
  /-- SLICE_TICK, R280. -/
  | sliceTick (n : Fin 16) (t : Nat)
  /-- EPOCH_WRITE_DONE, R280. -/
  | epochWriteDone (n : Fin 16) (t : Nat)
  /-- LEASE_EXPIRY, R279. -/
  | leaseExpiry (n : Fin 16) (t : Nat)
  /-- GUARD_ELAPSED, R279. -/
  | guardElapsed (n : Fin 16) (t : Nat)
  /-- LEASE_LAPSE, R282. -/
  | leaseLapse (n : Fin 16)
  /-- ORPHAN_LAMP_HOLD_END, R284. -/
  | orphanLampHoldEnd (n : Fin 16) (t : Nat)
  /-- ALIGNED_LOST, R284. -/
  | alignedLost (n : Fin 16) (t : Nat)
  /-- LINK_LOST, R288. -/
  | linkLost (n : Fin 16)
  /-- SYNC_DONE, R287. -/
  | syncDone (n : Fin 16)
  /-- INPUT_VALUE_CHANGE, R294. -/
  | inputValueChange (n : Fin 16) (i : Fin 34) (c first t : Nat)
  /-- INPUT_STUCK, R294. -/
  | inputStuck (n : Fin 16) (i : Fin 32) (t : Nat)
  /-- INPUT_CHATTER, R294. -/
  | inputChatter (n : Fin 16) (i : Fin 32) (c first t : Nat)
  /-- WIRE_BREAK, R294. -/
  | wireBreak (n : Fin 16) (i : Fin 32) (c first t : Nat)
  /-- WIRE_RESTORED, R295. -/
  | wireRestored (n : Fin 16) (i : Fin 32) (c first t : Nat)
  /-- EDGE_OVERFLOW, R298. -/
  | edgeOverflow (n : Fin 16) (t : Nat)
  /-- PULSE_END, R300. -/
  | pulseEnd (n : Fin 16) (i : Fin 16) (t : Nat)
  /-- OUTPUT_LATCH, R303. -/
  | outputLatch (n : Fin 16) (i : Fin 16) (thermal : Option Int) (since t : Nat)
  /-- OPEN_LOAD_DETECT, R307. -/
  | openLoadDetect (n : Fin 16) (i : Fin 16) (short : Bool) (x since t : Nat)
  /-- FAULT_HOLD_END, R307. -/
  | faultHoldEnd (n : Fin 16) (t : Nat)
  /-- VS_LOW, R303. -/
  | vsLow (n : Fin 16) (mv t : Nat)
  /-- VS_RESTORED, R303. -/
  | vsRestored (n : Fin 16) (mv t : Nat)
  /-- SAFE_STAGE_MISMATCH, R306. -/
  | safeStageMismatch (n : Fin 16) (d : Fin 2) (why : Fin 3) (since t : Nat)
  /-- PROBE_STEP_DONE, R308. -/
  | probeStepDone (n : Fin 16) (t : Nat)
  /-- FIO_PROBE_WRITE, R308. -/
  | fioProbeWrite (n : Fin 16) (v : BitVec 32)
  /-- DERATING_UPDATE, R315. -/
  | deratingUpdate (n : Fin 16) (ohmA ohmB : Nat) (die : Int) (t : Nat)
  /-- PAIR_UNTESTED, R316. -/
  | pairUntested (n : Fin 16) (k : Fin 7) (t : Nat)
  /-- STRING_OPEN, R317. -/
  | stringOpen (n : Fin 16) (k : Fin 8) (t : Nat)
  /-- LAMP_THERMAL, R317. -/
  | lampThermal (n : Fin 16) (x : Int) (t : Nat)
  /-- LAMP_THERMAL_CLEAR, R317. -/
  | lampThermalClear (n : Fin 16) (x : Int) (t : Nat)
  /-- HELEA_FRAME_START, R324. -/
  | heleaFrameStart (n : Fin 16) (p : Fin 2) (t : Nat)
  /-- HELEA_LATCH, R319. -/
  | heleaLatch (n : Fin 16) (p : Fin 2) (t : Nat)
  /-- CHAIN_CHECK, R327. -/
  | chainCheck (n : Fin 16) (p : Fin 2) (bits : Nat) (same : Nat) (t : Nat)
  /-- CAN_TX_SUCCESS, R340. -/
  | canTxSuccess (c : Fin 4) (sof : Nat) (busy : Bool)
  /-- WIRE_TIMEOUT, R341. -/
  | wireTimeout (c : Fin 4) (i : Fin 64)
  /-- CAN_FRAME_RECEIVED, R342. -/
  | canFrameReceived (c : Fin 4) (f : CanFrame) (esi rtr : Bool) (sof : Nat)
  /-- RX_POP, R342. -/
  | rxPop (c : Fin 4) (i : Fin 2)
  /-- BUS_ERROR, R347. -/
  | busError (c : Fin 4) (tec rec : Nat) (lec : Fin 7)
  /-- MIGRATION_QUEUE_DRAIN, R349. -/
  | migrationQueueDrain (c : Fin 4)
  /-- BUS_RECOVERY_DONE, R352. -/
  | busRecoveryDone (c : Fin 4)
  /-- ECC_CORRECTABLE, R354. -/
  | eccCorrectable (region : Option (Fin 6)) (unit : Fin 256) (page : Fin 1048576)
  /-- ENGINE_ISOLATION, R356. -/
  | engineIsolation (n : Fin 16) (cause : Fin 4)
  /-- SLICE_PORT_ISOLATION, R362. -/
  | slicePortIsolation (n : Fin 16) (ecc : Bool)
  /-- ETH_PORT_ISOLATION, R363. -/
  | ethPortIsolation (p : Fin 2) (ecc : Bool)
  /-- CHANNEL_ISOLATION, R364. -/
  | channelIsolation (c : Fin 4)
  /-- LARDER_UNCORRECTABLE, R365. -/
  | larderUncorrectable (region : Fin 6) (off : Nat) (page : Fin 1048576) (both : Bool)
  /-- CONTROLLER_FAULT, R366. -/
  | controllerFault (lp4x kept : Bool)
  /-- HEARTBEAT_RECEIVED, R373. -/
  | heartbeatReceived (b : List Byte) (bad : Bool) (arr : Nat)
  /-- CHUNK_RECEIVED, R390. -/
  | chunkReceived (b : List Byte) (bad : Bool) (arr : Nat)
  /-- ACK_RECEIVED, R391. -/
  | ackReceived (b : List Byte) (bad : Bool) (arr : Nat)
  /-- HEALTH_RECEIVED, R374. -/
  | healthReceived (b : List Byte) (bad : Bool) (arr : Nat)
  /-- IDENT_RECEIVED, R378. -/
  | identReceived (b : List Byte) (bad : Bool) (arr : Nat)
  /-- PEBEX_DROP, R375. -/
  | pebexDrop
  /-- LANE_LOSS, R370. -/
  | laneLoss (i : Fin 2)
  /-- PEBEX_LOCK, R376. -/
  | pebexLock
  /-- PEBEX_RETRY_EXPIRY, R379. -/
  | pebexRetryExpiry
  /-- PEER_CONFIRM, R377. -/
  | peerConfirm (v : BitVec 32)
  /-- BOOT_WAIT_ELAPSED, R380. -/
  | bootWaitElapsed
  /-- PARTNER_PRESUMED_DEAD, R381. -/
  | partnerPresumedDead
  /-- CHECKPOINT_SNAPSHOT, R387. -/
  | checkpointSnapshot
  /-- CHECKPOINT_STALL, R391. -/
  | checkpointStall
  /-- ENGINE_START_DONE, R445. -/
  | engineStartDone (n : Fin 16)
  /-- HEALTH_REPORT, R435. -/
  | healthReport
  /-- ROLLING_BIST_STEP, R434. -/
  | rollingBistStep
  /-- BIST_TEST_DONE, R432. -/
  | bistTestDone (e : TestEnd)
  /-- FREEZE_END, R412. -/
  | freezeEnd
  /-- LOG_DROP_REPORT, R411. -/
  | logDropReport
  /-- MIRROR_COPY, R408. -/
  | mirrorCopy
  /-- PFAIL, R415. -/
  | pfail
  /-- PFAIL_RETURN, R416. -/
  | pfailReturn
  /-- DOMAIN_IDLE, R444. -/
  | domainIdle (k : Fin 112)
  /-- DOMAIN_WAKE, R444. -/
  | domainWake (k : Fin 112)
  /-- PLL_UNLOCK, R449. -/
  | pllUnlock (p : Pll) (kept : Bool)
  /-- POWER_ON, R450. -/
  | powerOn
  /-- BROWNOUT, R450. -/
  | brownout
  /-- NRESET, R450. -/
  | nreset (kept : Bool)
  /-- SOFTWARE_RESET, R453. -/
  | softwareReset (v : BitVec 32) (kept : Bool)
  /-- SYSTEM_WATCHDOG, R454. -/
  | systemWatchdog (kept : Bool)
  /-- THERMAL_WARNING, R455. -/
  | thermalWarning (tj : Int)
  /-- THERMAL_SHUTDOWN, R455. -/
  | thermalShutdown (tj : Int) (kept : Bool)
  /-- START_UP, R456. -/
  | startUp (b : BootIn)
  /-- SLICE_POWER_UP, R461. -/
  | slicePowerUp (n : Fin 16) (board : Option Machine.Board) (cur : List Nat) (mv t : Nat)
  /-- SLICE_RESET, R461. -/
  | sliceReset (n : Fin 16)
  /-- LOCK_REQUEST, R469. -/
  | lockRequest (v : BitVec 32)
  /-- CAR_ENABLE_WRITE, R472. -/
  | carEnableWrite (v : BitVec 32) (tests : List (Fin 112 × TestEnd))
  /-- REGISTER_WRITE, R463. -/
  | registerWrite (w : HostWr)
  /-- LATCHED_READ, R463. -/
  | latchedRead (r : HostRd)
  /-- OTP_PROGRAM, R484. -/
  | otpProgram (v : BitVec 32)
  /-- OTP_PROGRAM_DONE, R484. -/
  | otpProgramDone (good : Bool)
  /-- PERST_DEASSERT, R95. -/
  | perstDeassert (speed : Fin 3) (x2 : Bool)
  /-- ETH_LINK_CHANGE, R145. -/
  | ethLinkChange (p : Fin 2) (up gig : Bool)
  /-- PCIE_REFCLK_RESTORED, R449. -/
  | pcieRefclkRestored (speed : Fin 3) (x2 : Bool)
  /-- LANE_RESTORED, R370. -/
  | laneRestored (i : Fin 2)
  /-- FIELD_SUPPLY_RANGE, R307. -/
  | fieldSupplyRange (n : Fin 16) (mv t : Nat)
  /-- OUTPUT_TEMP_WARNING, R307. -/
  | outputTempWarning (n : Fin 16) (x : Int) (t : Nat)
  /-- THERMAL_WARNING_CLEAR, R455. -/
  | thermalWarningClear (tj : Int)
  /-- DOOR_PWM_PERIOD, R217. -/
  | doorPwmPeriod (n : Fin 16) (d : Fin 2) (counts : Int) (angle : Option Nat) (t : Nat)
  /-- LAMP_PWM_PERIOD, R314. -/
  | lampPwmPeriod (n : Fin 16) (sinks : List (Fin 8 × Nat)) (fall t : Nat)
  /-- DOOR_ENC_LOST, R234. -/
  | doorEncLost (n : Fin 16) (d : Fin 2) (t : Nat)
  /-- DOOR_ENC_LOST_CLEAR, R234. -/
  | doorEncLostClear (n : Fin 16) (d : Fin 2) (t : Nat)
  /-- RING_WRITE, R408. -/
  | ringWrite
  /-- HANDOVER_WAIT_EXPIRY, R384. -/
  | handoverWaitExpiry (n : Fin 16)
  deriving DecidableEq, Repr

end Sys2Proof
end

