-- ==== Sys2Proof/WellFormed.lean ====
section
/-! DEFINITION. Well-formed commands: what every sender keeps to, because the registers, frames and messages that carry a
command have no room for anything else. -/

namespace Sys2Proof

/-- An instant fits the 64 bits of Group Time (R17). -/
def wfInstant (t : Nat) : Bool := decide (t < 2 ^ 64)

/-- A measured or received number fits 32 bits. -/
def wfWord (v : Nat) : Bool := decide (v < 2 ^ 32)

/-- An offset in a slice window names a 32-bit register (R67, R467). -/
def wfWindow (off : Nat) : Bool := decide (off < 0x4000) && off % 4 == 0

/-- A descriptor is one SQ entry of 64 bytes or more of them, at most 32 (R101, R104). -/
def wfWords (d : List Byte) : Bool := d.length % 64 == 0 && decide (64 ≤ d.length) && decide (d.length ≤ 2048)

/-- A descriptor of one opcode (R111). -/
def wfDesc (op : Nat) (d : List Byte) : Bool := wfWords d && (d.headD 0).toNat == op

/-- A frame of a link holds something, and its length fits 16 bits. -/
def wfFrame (b : List Byte) : Bool := !b.isEmpty && decide (b.length < 65536)

/-- An SQ entry as fetched is 64 bytes (R69). -/
def wfFetched (f : Fetched) : Bool := f.desc.length == 64

/-- At most ten samples of 10 µs in a tick, or two SSI frames of 24 to 32 bits (R156). -/
def wfCarIn (c : CarIn) : Bool :=
  match c.enc with
  | .abz l => decide (l.length ≤ 10)
  | .ssi l => decide (l.length ≤ 2) && l.all fun f => decide (f.data < 2 ^ 32)

/-- Payload lengths of CAN FD (R338). -/
def canLengths : List Nat := [0, 1, 2, 3, 4, 5, 6, 7, 8, 12, 16, 20, 24, 32, 48, 64]

/-- A CAN frame: identifier of 11 or 29 bits, a CAN length, and no more than 8 bytes nor a rate switch in a classical
frame. -/
def wfCan (f : CanFrame) : Bool :=
  decide (f.id < if f.ide then 2 ^ 29 else 2 ^ 11) && canLengths.contains f.data.length
    && (f.fdf || (decide (f.data.length ≤ 8) && !f.brs))

/-- Ethernet and IPv4 addresses. -/
def wfMac (a : Nat) : Bool := decide (a < 2 ^ 48)
def wfIp (a : Nat) : Bool := decide (a < 2 ^ 32)

/-- An ARP request, an ICMP echo request (R40). -/
def wfArp (q : ArpReq) : Bool := wfMac q.sha && wfIp q.spa && wfIp q.tpa
def wfEcho (q : EchoReq) : Bool :=
  wfIp q.src && wfIp q.dst && decide (q.id < 65536) && decide (q.seq < 65536) && decide (q.data.length < 65536)

/-- A PTP datagram fits a frame (R40). -/
def wfPtp (m : PtpRx) : Bool := wfInstant m.rx && decide (m.data.length < 1500) && decide (m.follow.length < 1500)

/-- A memory write has 1 to 8 bytes. -/
def wfHostWr (w : HostWr) : Bool :=
  match w with
  | .bar0 _ size _ => size.val != 0
  | .bar2 _ size _ => size.val != 0
  | .memSpace _ | .busMaster _ | .msixCtrl .. | .pmcsr .. | .aspm _ | .barReg .. | .devCtl .. | .timeout _ | .ecrc ..
  | .aer .. => true

/-- A memory read likewise. -/
def wfHostRd (r : HostRd) : Bool :=
  match r with
  | .bar0 _ size => size.val != 0
  | .bar2 _ size => size.val != 0
  | .conf _ => true

/-- Whether the operands of a command can stand in the messages, registers and signals that carry them. -/
def wellFormed (i : Instr) : Bool :=
  match i with
  | .tick cars _ _ _ => cars.all wfCarIn
  | .gtStep => true
  | .syncReceived m => wfPtp m
  | .announceReceived m => wfPtp m
  | .delayRespReceived m => wfPtp m
  | .delayReqSend stamp => wfInstant stamp
  | .announceTimeout => true
  | .syncTimeout => true
  | .ptpLinkLoss => true
  | .arpRequest _ q => wfArp q
  | .icmpEchoRequest _ q => wfEcho q
  | .igmpQuery _ _ group => wfWord group
  | .gtValidFreeRun => true
  | .slewDone => true
  | .holdoverLimit => true
  | .tcxoLost => true
  | .ppsOutPulse t => wfInstant t
  | .ppsInEdge stamp => wfInstant stamp
  | .gtBroadcast _ => true
  | .sqTailDoorbell _ _ => true
  | .cqHeadDoorbell _ _ => true
  | .eqHeadDoorbell _ _ => true
  | .ringEnable _ _ => true
  | .ringDisable _ _ => true
  | .sqFetch data => data.all wfFetched
  | .dmaReadError _ _ got _ => got.all wfFetched
  | .dmaWriteError _ => true
  | .unknownOpcode _ d => wfWords d
  | .backlogDrain _ => true
  | .eqOverflow _ => true
  | .moderationTimer => true
  | .fenceRelease => true
  | .hostIslandReset _ => true
  | .hwdKick => true
  | .hostWatchdogExpiry => true
  | .d3hotEntry => true
  | .d0Entry => true
  | .d0RecoveryEnd => true
  | .busMasterEnable => true
  | .aspmL1Entry => true
  | .nop _ d => wfDesc 0x00 d
  | .heldRead _ d => wfDesc 0x01 d
  | .heldDiscard _ d => wfDesc 0x02 d
  | .eqPing _ d => wfDesc 0x03 d
  | .authChallenge _ d => wfDesc 0x04 d
  | .challengeExpiry => true
  | .actionCancel _ d => wfDesc 0x10 d
  | .chord _ d => wfDesc 0x11 d
  | .cue _ d => wfDesc 0x12 d
  | .actionQuery _ d => wfDesc 0x13 d
  | .trip _ d => wfDesc 0x20 d
  | .callCancel _ d => wfDesc 0x21 d
  | .carMode _ d => wfDesc 0x22 d
  | .evrStart _ d => wfDesc 0x23 d
  | .evrAbort _ d => wfDesc 0x24 d
  | .learnTrip _ d => wfDesc 0x25 d
  | .learnTripEnd _ => true
  | .doorOpen _ d => wfDesc 0x30 d
  | .doorClose _ d => wfDesc 0x31 d
  | .doorHold _ d => wfDesc 0x32 d
  | .lampSet _ d => wfDesc 0x40 d
  | .heleaScene _ d => wfDesc 0x41 d
  | .heleaNode _ d => wfDesc 0x42 d
  | .calSwap _ d _ => wfDesc 0x43 d
  | .outSet _ d => wfDesc 0x50 d
  | .outPulse _ d => wfDesc 0x51 d
  | .ioProbe _ d => wfDesc 0x52 d
  | .safeOpen _ d => wfDesc 0x53 d
  | .safeRearm _ d => wfDesc 0x54 d
  | .busTx _ d => wfDesc 0x60 d
  | .busRecover _ d => wfDesc 0x61 d
  | .logRead _ d => wfDesc 0x70 d
  | .logFreeze _ d => wfDesc 0x71 d
  | .logThaw _ d => wfDesc 0x72 d
  | .logClear _ d => wfDesc 0x73 d
  | .bistRun _ d => wfDesc 0x80 d
  | .repairSoft _ d => wfDesc 0x81 d
  | .repairHard _ d _ => wfDesc 0x82 d
  | .leaseRelease _ d => wfDesc 0x90 d
  | .dutyHandover _ d => wfDesc 0x91 d
  | .checkpointNow _ d => wfDesc 0x92 d
  | .standbyMode _ d => wfDesc 0x93 d
  | .imageLoad _ d _ => wfDesc 0xA0 d
  | .imageCommit _ d => wfDesc 0xA1 d
  | .sliceConfirm _ d => wfDesc 0xA2 d
  | .actionHandOn => true
  | .controllerActionFire t => wfInstant t
  | .sliceActionFire _ t => wfInstant t
  | .cueFirstCopy t => wfInstant t
  | .cueSecondCopy t => wfInstant t
  | .cueKeyWrite _ _ => true
  | .cueKeyStored => true
  | .vaneEdge _ _ _ stamp => wfInstant stamp
  | .encLost _ => true
  | .encLostClear _ => true
  | .indexPulse _ _ _ stamp => wfInstant stamp
  | .zeroStale _ => true
  | .tripComplete _ => true
  | .trackingFault _ => true
  | .driveStatusChange _ _ => true
  | .doorEndReached _ _ t => wfInstant t
  | .stall _ _ t => wfInstant t
  | .forceExcess _ _ t => wfInstant t
  | .doorBrakeDone _ _ t => wfInstant t
  | .dwellExpiry _ _ t => wfInstant t
  | .holdExpiry _ _ t => wfInstant t
  | .lockTimerExpiry _ _ t => wfInstant t
  | .nudgeTimeout _ _ t => wfInstant t
  | .handPush _ _ t => wfInstant t
  | .doorEndNotFound _ _ t => wfInstant t
  | .doorFault _ _ _ _ _ t => wfInstant t
  | .doorFaultCleared _ _ _ _ t => wfInstant t
  | .orphanDoorHoldEnd _ _ t => wfInstant t
  | .evrTimeout _ => true
  | .safeOrphanDrop _ t => wfInstant t
  | .sfbMismatch _ t => wfInstant t
  | .downstreamFrame _ _ b _ flip t => wfFrame b && wfWord flip && wfInstant t
  | .sliceConfigActive _ t => wfInstant t
  | .upstreamFrameSend _ _ _ t => wfInstant t
  | .upstreamFrame _ b _ arr => wfFrame b && wfInstant arr
  | .recordResend _ _ _ => true
  | .linkDrop _ => true
  | .trainingAttempt _ => true
  | .symbolLock _ _ => true
  | .proxyWrite _ off _ => wfWindow off
  | .shadowRefreshRead _ off => wfWindow off
  | .sliceTick _ t => wfInstant t
  | .epochWriteDone _ t => wfInstant t
  | .leaseExpiry _ t => wfInstant t
  | .guardElapsed _ t => wfInstant t
  | .leaseLapse _ => true
  | .orphanLampHoldEnd _ t => wfInstant t
  | .alignedLost _ t => wfInstant t
  | .linkLost _ => true
  | .syncDone _ => true
  | .inputValueChange _ _ c first t => wfWord c && wfInstant first && wfInstant t
  | .inputStuck _ _ t => wfInstant t
  | .inputChatter _ _ c first t => wfWord c && wfInstant first && wfInstant t
  | .wireBreak _ _ c first t => wfWord c && wfInstant first && wfInstant t
  | .wireRestored _ _ c first t => wfWord c && wfInstant first && wfInstant t
  | .edgeOverflow _ t => wfInstant t
  | .pulseEnd _ _ t => wfInstant t
  | .outputLatch _ _ _ since t => wfInstant since && wfInstant t
  | .openLoadDetect _ _ _ x since t => wfWord x && wfInstant since && wfInstant t
  | .faultHoldEnd _ t => wfInstant t
  | .vsLow _ mv t => wfWord mv && wfInstant t
  | .vsRestored _ mv t => wfWord mv && wfInstant t
  | .safeStageMismatch _ _ _ since t => wfInstant since && wfInstant t
  | .probeStepDone _ t => wfInstant t
  | .fioProbeWrite _ _ => true
  | .deratingUpdate _ ohmA ohmB _ t => wfWord ohmA && wfWord ohmB && wfInstant t
  | .pairUntested _ _ t => wfInstant t
  | .stringOpen _ _ t => wfInstant t
  | .lampThermal _ _ t => wfInstant t
  | .lampThermalClear _ _ t => wfInstant t
  | .heleaFrameStart _ _ t => wfInstant t
  | .heleaLatch _ _ t => wfInstant t
  | .chainCheck _ _ bits word t => wfWord bits && wfWord word && wfInstant t
  | .canTxSuccess _ sof _ => wfInstant sof
  | .wireTimeout _ _ => true
  | .canFrameReceived _ f _ _ sof => wfCan f && wfInstant sof
  | .rxPop _ _ => true
  | .busError _ tec rec _ => wfWord tec && wfWord rec
  | .migrationQueueDrain _ => true
  | .busRecoveryDone _ => true
  | .eccCorrectable _ _ _ => true
  | .engineIsolation _ _ => true
  | .slicePortIsolation _ _ => true
  | .ethPortIsolation _ _ => true
  | .channelIsolation _ => true
  | .larderUncorrectable _ off _ _ => wfWord off
  | .controllerFault _ _ => true
  | .heartbeatReceived b _ arr => wfFrame b && wfInstant arr
  | .chunkReceived b _ arr => wfFrame b && wfInstant arr
  | .ackReceived b _ arr => wfFrame b && wfInstant arr
  | .healthReceived b _ arr => wfFrame b && wfInstant arr
  | .identReceived b _ arr => wfFrame b && wfInstant arr
  | .pebexDrop => true
  | .laneLoss _ => true
  | .pebexLock => true
  | .pebexRetryExpiry => true
  | .peerConfirm _ => true
  | .bootWaitElapsed => true
  | .partnerPresumedDead => true
  | .checkpointSnapshot => true
  | .checkpointStall => true
  | .engineStartDone _ => true
  | .healthReport => true
  | .rollingBistStep => true
  | .bistTestDone _ => true
  | .freezeEnd => true
  | .logDropReport => true
  | .mirrorCopy => true
  | .pfail => true
  | .pfailReturn => true
  | .domainIdle _ => true
  | .domainWake _ => true
  | .pllUnlock _ _ => true
  | .powerOn => true
  | .brownout => true
  | .nreset _ => true
  | .softwareReset _ _ => true
  | .systemWatchdog _ => true
  | .thermalWarning _ => true
  | .thermalShutdown _ _ => true
  | .startUp _ => true
  | .slicePowerUp _ _ cur mv t => cur.length = 34 && cur.all wfWord && wfWord mv && wfInstant t
  | .sliceReset _ => true
  | .lockRequest _ => true
  | .carEnableWrite _ _ => true
  | .registerWrite w => wfHostWr w
  | .latchedRead r => wfHostRd r
  | .otpProgram _ => true
  | .otpProgramDone _ => true
  | .perstDeassert _ _ => true
  | .ethLinkChange _ _ _ => true
  | .pcieRefclkRestored _ _ => true
  | .laneRestored _ => true
  | .fieldSupplyRange _ mv t => wfWord mv && wfInstant t
  | .outputTempWarning _ _ t => wfInstant t
  | .thermalWarningClear _ => true
  | .doorPwmPeriod _ _ _ _ t => wfInstant t
  | .lampPwmPeriod _ sinks fall t => (sinks.all fun p => wfWord p.2) && wfWord fall && wfInstant t
  | .doorEncLost _ _ t => wfInstant t
  | .doorEncLostClear _ _ t => wfInstant t
  | .ringWrite => true
  | .handoverWaitExpiry _ => true

/-- A well-formed command. -/
abbrev WellFormed (i : Instr) : Prop := wellFormed i = true

end Sys2Proof
end

