-- ==== Sys2Proof/Config.lean ====
section
/-! DEFINITION. What an implementation fixes and the spec leaves open: free values and the cryptographic primitives the
spec names but does not define. None of them has a body, so no proof can lean on a value of theirs. -/

namespace Sys2Proof

/-- The `i`-th free value: a value the spec leaves open, taken by the step that needs it (log entry 1). -/
opaque Config.freeNat : Nat → Nat

/-- SHA-256 of a byte string, 32 bytes (R476; FIPS 180, log entry 2). -/
opaque Config.sha256 : List Byte → List Byte

/-- HMAC-SHA-256 of a message under a key, 32 bytes (R143, R419, R439; log entry 2). -/
opaque Config.hmacSha256 : List Byte → List Byte → List Byte

/-- Whether an ECDSA P-256 signature verifies over a digest with a public key (R476, R478; log entry 2). -/
opaque Config.ecdsaVerify : List Byte → List Byte → List Byte → Bool

/-- AES key wrap of a key under the storage key, and its inverse where the wrap checks (R152; RFC 3394, log entry 2). -/
opaque Config.aesWrap : List Byte → List Byte → List Byte
opaque Config.aesUnwrap : List Byte → List Byte → Option (List Byte)

/-- Memory macros of a controller domain (WHK_DINFO.MACROS), its type and the length of its longest chain: fixed by the
chip and not listed in the spec (R427, R438; log entry 1). Read modulo the width of their fields. -/
opaque Config.whkMacros : Nat → Nat
opaque Config.whkType : Nat → Nat
opaque Config.whkChainLen : Nat → Nat

/-- The `i`-th free value of slice `n` (log entry 1). -/
opaque Config.sliceNat : Nat → Nat → Nat

end Sys2Proof
end

