-- ==== Sys2Proof/Machine/CarData.lean ====
section
/-! DEFINITION. Records of one car engine: Tracker (spec/06), Motion (spec/07), the Door domain's model (spec/08) and the
Interlock (spec/09). What a register of the map shows has its home there. -/

namespace Sys2Proof.Machine

/-- Firing room one action has taken: the tick it fires in, the car or 16 for the group pool, and the slot that holds it until
its report where it fired at a slice (R135). -/
structure RoomUse where
  tick : Nat
  pool : Nat
  slot : Option Nat
  deriving DecidableEq, Repr

/-- Encoder counts over one tick: lowest, highest and last (R157). -/
structure TickSmp where
  lo   : Int
  hi   : Int
  last : Int
  deriving DecidableEq, Repr

/-- A learned landing table of the persistent tier (R159, R162): words 0 to 3, key landing × 8 + word. -/
structure LearnedTab where
  count   : Nat
  words   : List (Nat × Nat)
  ssiZero : Nat
  deriving DecidableEq, Repr

/-- An edge recorded by a learn trip: kind (0 LU, 1 UU, 2 UD, 3 LD) and position. -/
structure LearnEdge where
  kind : Nat
  pos  : Int
  deriving DecidableEq, Repr

/-- A learn trip in progress (R160): its descriptor, its step, the vanes counted and what it recorded. -/
structure Learn where
  sq    : Nat
  dn    : Nat
  phase : Nat
  up    : Nat
  dn'   : Nat
  tab   : List (Nat × Nat)
  edgeA : List LearnEdge
  edgeB : List LearnEdge
  aborted : Bool
  deriving DecidableEq, Repr

/-- State of a Tracker that no register of the map holds (R154 to R180). -/
structure Trk where
  /-- Count C of R157, before the cut to 32 bits. -/
  cnt    : Int
  /-- Last accepted raw SSI value, and frames discarded in a row (R156, R170). -/
  ssi    : Option Nat
  ssiBad : Nat
  /-- Encoder history: GT and count, newest first, at most 256 (R156). -/
  hist   : List (Nat × Int)
  /-- Counts of the last ticks, newest first, at most 5,000 (R157). -/
  rest   : List TickSmp
  /-- Position published at the previous tick. -/
  pos0   : Int
  /-- A step decided and not yet applied (R165); the step flag given to Motion for this tick. -/
  step   : Option Int
  stepFlag : Bool
  /-- Z_REF has been taken since the start-up or the last clearing of ENC_LOST (R171). -/
  zValid : Bool
  /-- First deviation of a re-reference pair (R167). -/
  pair   : Option Int
  /-- Landing of the last vane edge used or missed in this direction of travel; misses in a row (R166). -/
  lastVane : Option Nat
  missRun : Nat
  /-- The landing table in force: key landing × 8 + word, 0 where not listed (R158). -/
  ltab   : List (Nat × Nat)
  learn  : Option Learn
  /-- Load samples of the running window, newest first, at most 2,000 (R176). -/
  lwin   : List Int
  /-- A capture has been attempted in this rest period (R176). -/
  captured : Bool
  /-- GT of the last zero capture (R177, R180). -/
  zeroGt : Option Nat
  /-- Samples in a row at the limit codes, and valid ones in a row while FAULT (R179). -/
  limRun : Nat
  okLoad : Nat
  /-- Stamp of the newest edge on IN28 to IN31 (R174). -/
  lastEdge : Nat
  /-- The state R173 gives at a start is still to be judged: the first position and snapshot have not come. -/
  judge : Bool
  /-- Edges of DZ_A or DZ_B (DZ_B, polarity, stamp) received and not yet handled, oldest first (R163, R172). -/
  edges : List (Bool × Bool × Nat)
  /-- GT of the last sign that the encoder is lost (R170). -/
  lostGt : Nat
  deriving DecidableEq, Repr

/-- One segment of a profile: its number in R188, jerk in µm/s³ along the direction of travel, duration in ns. -/
structure Seg where
  num  : Nat
  jerk : Int
  dur  : Nat
  deriving DecidableEq, Repr

/-- A planned run (R188 to R190): references at its first tick along the direction of travel (10⁻⁶ µm/s and 10⁻⁶ µm/s²),
its segments, the cap it was planned under, whether it runs on at the speed of its last segment (`free`), its stop
position, and ticks since it was planned. -/
structure Plan where
  up   : Bool
  v    : Int
  a    : Int
  segs : List Seg
  cap  : Nat
  free : Bool
  tgt  : Option Int
  age  : Nat
  deriving DecidableEq, Repr

/-- What a trip is for (R185, R191, R193, R194, R251, R160). -/
inductive TripKind where
  /-- To a landing, for calls or for a mode's target. -/
  | stop
  /-- Relevelling to the floor level. -/
  | relevel
  /-- Relevelling started by the levelling sensors. -/
  | sensor
  /-- The reference run, and the ramp that ends it. -/
  | refrun
  /-- A creep to the next door zone while UNVERIFIED with the car at rest. -/
  | creep
  | insp
  | learn
  deriving DecidableEq, Repr

/-- How a trip stands: following its plan; at the end of its plan, its completion still to be handled; ramping to rest and
then waiting for the permit; RUN = 0 after a tracking fault until the car rests; completed, until AT_REST = 1 (R191, R195,
R239). -/
inductive TripPhase where
  | running | arrived | ramp | waiting | track | ended
  deriving DecidableEq, Repr

/-- The trip of a car. -/
structure Trip where
  kind  : TripKind
  land  : Option Nat
  up    : Bool
  plan  : Option Plan
  phase : TripPhase
  /-- The ramp to rest under way, or just ended, goes on to a new plan from rest (R190). -/
  next  : Bool
  /-- That ramp is one of R190 toward a target behind the car: PRESTOP. -/
  pre   : Bool
  /-- That ramp follows a position step that put the stop out of reach: the car relevels once at rest (R192). -/
  miss  : Bool
  /-- COMMITTED (R186): the target is fixed. -/
  com   : Bool
  /-- The trip started under SUSPECT, which then does not cut it (R193). -/
  sus   : Bool
  /-- The ramp to rest under way, or the stop of a tracking fault that took its place, ends the trip (R195, R251). -/
  fin   : Bool
  deriving DecidableEq, Repr

/-- A registered call (R182): type 0 car call, 1 hall up, 2 hall down. -/
structure Call where
  land  : Nat
  kind  : Nat
  doors : Nat
  tag   : Nat
  deriving DecidableEq, Repr

/-- State of Motion that no register of the map holds (R182 to R205). -/
structure Mot where
  calls  : List Call
  /-- Calls at landings not served, to be dropped in the next tick (R183). -/
  unserved : List Call
  /-- Direction the scheduler prefers; up at start-up. -/
  up     : Bool
  trip   : Option Trip
  /-- Ticks in a row outside the tracking window (R195). -/
  trackRun : Nat
  /-- SEQ of the next frame; none while not sending (R197). -/
  seq    : Option Nat
  /-- The next frame carries REL = 1 (R197, R283). -/
  rel    : Bool
  /-- Openings the engine orders in its next downstream frame: door mask, profile, dwell ms (R187, R228, R251, R255). -/
  openReq : List (Nat × Nat × Nat)
  /-- Stored scenes it orders on the slice's chains (R30). -/
  sceneReq : List Nat
  /-- The relevel after a reference run is still to end (R193). -/
  afterRef : Bool
  /-- The stop of OUT_OF_SERVICE has opened its doors, or there was none to open (R251). -/
  oosStop : Bool
  /-- The trip is the one of a partner's image: it waits for the lease (R190, R389). -/
  again  : Bool
  deriving DecidableEq, Repr

/-- An interlock result (R237): permits granted, HOLD in force, and whether rule 8 withdraws SAFE (R264). -/
structure IlkRes where
  run  : Bool
  da   : Bool
  db   : Bool
  hold : Bool
  safe : Bool
  ucm  : Bool
  deriving DecidableEq, Repr

/-- A CAR_MODE admitted and not yet applied (R253). -/
structure ModeReq where
  mode  : Nat
  from' : Nat
  land  : Nat
  doors : Nat
  sq    : Nat
  dn    : Nat
  deriving DecidableEq, Repr

/-- The EVR record of a car (R255): step, discharge landing, host tag, start GT. -/
structure Evr where
  step  : Nat
  land  : Nat
  tag   : Nat
  start : Nat
  deriving DecidableEq, Repr

/-- A snapshot of an upstream frame: its SEQ, INPUTS and DOORS (R265), and the door states of its DRT (DA, and DB times
16). -/
structure Snap where
  seq    : Nat
  inputs : Nat
  doors  : Nat
  states : Nat
  deriving DecidableEq, Repr

/-- State of the Interlock that no register of the map holds (R236 to R259). -/
structure Ilk where
  oosPend : Bool
  /-- A rule with a mode effect came into force since the last mode evaluation (R252). -/
  modeEff : Bool
  /-- CAR_MODE requests admitted since the last mode evaluation, oldest first. -/
  req    : List ModeReq
  /-- Recall landing and doors in force (R251). -/
  rclLand  : Nat
  rclDoors : Nat
  /-- Home landing of EVACUATION after an EVR (R255). -/
  home   : Option Nat
  /-- The latest R_e, and the latest R_s reported (R242). -/
  re     : IlkRes
  /-- E of the evaluation that made it. -/
  ev     : Nat
  rs     : IlkRes
  /-- SEQ of the snapshot the latest R_e rests on, and the newest snapshot received. -/
  snapUsed : Nat
  snap   : Option Snap
  /-- Comparable results by SNAP, newest first, at most 8 (R243). -/
  rcHist : List (Nat × IlkRes)
  /-- Comparable result reported in this tick: RS_SNAP and RSC. -/
  rcGot  : Option (Nat × IlkRes)
  disRun : Nat
  /-- Reference position of rule 8, the rule in force, the reference still to be taken at rest, and the one of the start-up
  or takeover still to be taken with the first position (R245). -/
  pRest  : Int
  ucmOn  : Bool
  ucmWait : Bool
  restDue : Bool
  /-- R_e would grant RUN but for rule 5: what a reference run starts under (R168, R238). -/
  run5   : Bool
  /-- R_e would grant RUN with RELEV = 1: what a relevelling trip starts under (R194, R238). -/
  runRel : Bool
  /-- GT of the tracking faults within the window; rule 10 in force (R238). -/
  trackGt : List Nat
  trackOn : Bool
  /-- Consecutive true evaluations of the configurable rules (R241). -/
  ruleRun : Vector Nat 16
  evr    : Option Evr
  /-- This controller has held the car since its engine started: what R284 needs to call it ORPHAN. -/
  had    : Bool
  deriving DecidableEq, Repr

/-- An EVR under way or ending (R255, R256): its tag, the cars still in it, the cars that left as parked. -/
structure EvrGroup where
  tag    : Nat
  cars   : List Nat
  parked : List Nat
  deriving DecidableEq, Repr

/-- One car of the EVR_INTERRUPTED marker (R258). -/
structure MarkCar where
  car   : Nat
  step  : Nat
  land  : Nat
  tag   : Nat
  start : Nat
  deriving DecidableEq, Repr

/-- The force model of one door (R221): 32 friction values in 0.1 N and the cycles that updated it; `preset` where the
host wrote them. -/
structure DoorM where
  fric  : List Nat
  cycles : Nat
  preset : Bool
  /-- The closing under way started from OPEN or HELD and nothing has reversed it or made it nudge. -/
  clean  : Bool
  deriving DecidableEq, Repr

/-- Everything of one car engine outside the registers. -/
structure Car where
  trk : Trk
  mot : Mot
  ilk : Ilk
  fm  : Vector DoorM 2
  deriving DecidableEq, Repr

/-- A result that grants nothing. -/
def IlkRes.none : IlkRes := { run := false, da := false, db := false, hold := false, safe := false, ucm := false }

/-- A force model without updates. -/
def DoorM.start : DoorM := { fric := List.replicate 32 0, cycles := 0, preset := false, clean := false }

/-- A Tracker at the start of its engine, with a landing table. -/
def Trk.start (ltab : List (Nat × Nat)) : Trk :=
  { cnt := 0, ssi := none, ssiBad := 0, hist := [], rest := [], pos0 := 0, step := none, stepFlag := false,
    zValid := false, pair := none, lastVane := none, missRun := 0, ltab := ltab, learn := none, lwin := [],
    captured := false, zeroGt := none, limRun := 0, okLoad := 0, lastEdge := 0, judge := false, edges := [], lostGt := 0 }

/-- Motion at the start of its engine. -/
def Mot.start : Mot :=
  { calls := [], unserved := [], up := true, trip := none, trackRun := 0, seq := none, rel := false, openReq := [], sceneReq := [],
    afterRef := false, oosStop := false, again := false }

/-- An Interlock at the start of its engine. -/
def Ilk.start : Ilk :=
  { oosPend := false, modeEff := false, req := [], rclLand := 0, rclDoors := 0, home := none, re := IlkRes.none, ev := 0,
    rs := IlkRes.none, snapUsed := 0, snap := none, rcHist := [], rcGot := none, disRun := 0, pRest := 0,
    ucmOn := false, ucmWait := false, restDue := true, run5 := false, runRel := false, trackGt := [], trackOn := false, ruleRun := Vector.replicate 16 0, evr := none,
    had := false }

/-- A car engine at its start. -/
def Car.start (ltab : List (Nat × Nat)) (fm : Vector DoorM 2) : Car :=
  { trk := Trk.start ltab, mot := Mot.start, ilk := Ilk.start, fm := fm }

end Sys2Proof.Machine
end

