-- ==== Sys2Proof/Machine/Data.lean ====
section
/-! DEFINITION. Records the controller and its slices exchange with the host and with each other: completions, events,
logbook records, actions. Plain data; the layouts in bytes stand in Machine/Codec.lean. -/

namespace Sys2Proof.Machine

/-- A completion as built, before its ring gives it a phase bit (R115). -/
structure Cqe where
  cmd    : Nat
  status : Nat
  final  : Bool
  dur    : Bool
  sq     : Nat
  op     : Nat
  dseq   : Nat
  gt     : Nat
  info0  : Nat
  info1  : Nat
  gen    : Nat
  deriving DecidableEq, Repr

/-- An event as raised, before its ring gives it a phase bit (R117); `pay` holds bytes 16 to 29. -/
structure Evt where
  code   : Nat
  sev    : Nat
  wake   : Bool
  src    : Nat
  tclass : Nat
  tindex : Nat
  eseq   : Nat
  gt     : Nat
  pay    : List Byte
  deriving DecidableEq, Repr

/-- A logbook record (R404); `pay` holds bytes 28 to 55. -/
structure Rec where
  seq      : Nat
  gt       : Nat
  code     : Nat
  sev      : Nat
  bypass   : Bool
  pinned   : Bool
  mirrored : Bool
  flushed  : Bool
  /-- Its CRC fails where it is stored (R418). -/
  torn     : Bool
  src      : Nat
  tclass   : Nat
  tindex   : Nat
  ctrl     : Nat
  role     : Nat
  eseq     : Nat
  part     : Nat
  parts    : Nat
  pay      : List Byte
  deriving DecidableEq, Repr

/-- Kinds of action (R105): controller-side, slice-side, cue. -/
inductive AKind where
  | c | s | n
  deriving DecidableEq, Repr

/-- Where an admitted action stands (R128, R130): in the action store or the Near Queue that shows its earliest actions,
in its island's queue, at the slice. A sent cue is kept apart (`SecondCopy`). -/
inductive Place where
  | stored | island | delivered
  deriving DecidableEq, Repr

/-- An admitted action (R128): the action record with the bookkeeping Ladle keeps beside it. `gt` is the fire time, for a
cue the presentation GT; `ord` the admission order; `late` holds once a firing place has found it late; `waited` once a
cue has waited for link (R145); `revoked` once a cancel has reached it at its slice (R138); `extra` holds a BUS_TX
payload, or bytes 30 to 53 of a CAL_SWAP. -/
structure Act where
  op       : Nat
  kind     : AKind
  tclass   : Nat
  tindex   : Nat
  cmd      : Nat
  sq       : Nat
  member   : Nat
  chord    : Option Nat
  gt       : Nat
  tol      : Nat
  param    : List Byte
  extra    : List Byte
  gen      : Nat
  dn       : Nat
  epoch    : Nat
  slot     : Nat
  slot2    : Option Nat
  place    : Place
  ord      : Nat
  late     : Bool
  waited   : Bool
  revoked  : Bool
  restored : Bool
  cueSeq   : Nat
  origin   : Nat
  deriving DecidableEq, Repr

/-- How one member of a chord ended (R113). -/
structure MemberEnd where
  member : Nat
  status : Nat
  deriving DecidableEq, Repr

/-- An entry of the chord table (R127). -/
structure Chord where
  ent      : Nat
  /-- The entry it had on the controller that admitted it (R396). -/
  orig     : Nat
  cmd      : Nat
  sq       : Nat
  gt       : Nat
  gen      : Nat
  dn       : Nat
  count    : Nat
  ends     : List MemberEnd
  restored : Bool
  /-- The longest cancel window among its members, ns (R114). -/
  win      : Nat
  deriving DecidableEq, Repr

/-- A second cue copy that is still to leave (R145): the datagram's fields and its scheduled time. -/
structure SecondCopy where
  act : Act
  sgt : Nat
  deriving DecidableEq, Repr

/-- An SQ's descriptor by its number and the era of its SQ, as one number. -/
def descNum (era n : Nat) : Nat := era * 2 ^ 32 + n

/-- The result of an admission, once it is known: status, INFO0, INFO1, and whether the descriptor changed no state
(R90). -/
structure AdmRes where
  status : Nat
  info0  : Nat
  info1  : Nat
  inert  : Bool
  deriving DecidableEq, Repr

/-- A descriptor admitted on an SQ whose admission completion has not been posted: it holds a reserved slot of its CQ
(R76, R83); `dn` is its `descNum`. `final` is a final completion that must wait for it (R81). -/
structure AdmSlot where
  sq    : Nat
  cq    : Nat
  cmd   : Nat
  op    : Nat
  dn    : Nat
  gen   : Nat
  gt    : Nat
  fence : Bool
  res   : Option AdmRes
  final : Option Cqe
  deriving DecidableEq, Repr

/-- An entry of the completion backlog (R83, R84): `gen` is the generation of admission, 0xFFFF for a restored action
(R398). -/
structure BackEnt where
  cq  : Nat
  cqe : Cqe
  deriving DecidableEq, Repr

/-- Interrupt moderation of one CQ or EQ (R89). -/
structure Moder where
  armed   : Bool
  pending : Nat
  first   : Nat
  deriving DecidableEq, Repr

/-- One entry of the MSI-X table, as PCI Express defines it (R88). -/
structure MsixEnt where
  addr : Nat
  data : Nat
  mask : Bool
  deriving DecidableEq, Repr

/-- A challenge awaiting its one response (R122). -/
structure Challenge where
  nonce   : Nat
  purpose : Nat
  gt      : Nat
  deriving DecidableEq, Repr

/-- What configuration space holds beside the bits that other fields keep (R64, R66, R98). -/
structure ConfSt where
  memEn   : Bool
  /-- BAR0 to BAR3 as written, without their type bits. -/
  bar     : Vector Nat 4
  /-- Max payload 128 or 256 B, max read request 128, 256 or 512 B, completion timeout, as PCI Express codes them. -/
  payload : Nat
  request : Nat
  cto     : Nat
  ecrcGen : Bool
  ecrcChk : Bool
  uncStat : Nat
  uncMask : Nat
  uncSev  : Nat
  corStat : Nat
  corMask : Nat
  /-- Rate (1 to 3) and width (1 or 2) of the trained link, 0 while it is not trained. -/
  speed   : Nat
  width   : Nat
  deriving DecidableEq, Repr

/-- State of the host island that no register of the map holds (R69 to R100). -/
structure HostSt where
  conf     : ConfSt
  /-- Entries of a multi-entry descriptor fetched so far, per SQ (R79). -/
  partials : Vector (List Byte) 32
  /-- A CQ slot reserved for each descriptor fetched and not yet passed on: its SQ and CQ (R76, R83). -/
  resv     : List (Nat × Nat)
  /-- How often each SQ has been enabled: it tells its descriptors apart from those of earlier enables. -/
  era      : Vector Nat 32
  /-- Per SQ, the highest descriptor number in an acknowledged checkpoint, with its era (R90). -/
  durTo    : Vector Nat 32
  /-- Descriptors, by SQ and number, that had not ended when the checkpoint acknowledged last was taken (R90). -/
  durOpen  : List (Nat × Nat)
  /-- SQ served last at each priority level (R76). -/
  rr       : Vector Nat 4
  /-- Credits left in the round at each level; index 0 is unused (R76). -/
  credit   : Vector Nat 4
  /-- Descriptors admitted whose admission completion is not yet posted, oldest first. -/
  adm      : List AdmSlot
  /-- Completion backlog, in posting order (R83). -/
  backlog  : List BackEnt
  /-- Events held for want of bus mastering in D3hot and until Bus Master Enable, oldest first (R97). -/
  evHold   : List (Nat × Evt)
  /-- Moderation of CQ0–CQ31 (0–31) and EQ0–EQ7 (32–39). -/
  moder    : Vector Moder 40
  /-- Numbers of descriptors that changed no state and lie above the durable sequence of their SQ (R90). -/
  inert    : List (Nat × Nat)
  msix     : Vector MsixEnt 64
  /-- Pending-bit array of the 64 vectors. -/
  pba      : Nat
  msixEn   : Bool
  funcMask : Bool
  pmeEn    : Bool
  pmeStat  : Bool
  /-- The PM_PME of this D3hot stay is still to leave, or has left (R99, R100). -/
  pmeQueued : Bool
  pmeSent  : Bool
  /-- The 10 ms D3hot-to-D0 recovery time runs, and since when (R100). -/
  recov    : Bool
  recovGt  : Nat
  /-- GT of the last transfer on the link (R98). -/
  busyGt   : Nat
  aspmL1   : Bool
  inL1     : Bool
  /-- The host island is held in reset for want of PCIE_REFCLK (R449). -/
  refHeld  : Bool
  /-- PERST# stands asserted (R94, R95). -/
  perst    : Bool
  /-- Events raised, wrapping at 2^16 (R117). -/
  eseq     : Nat
  /-- CONTROLLER_START has not been raised since the start (R458). -/
  startDue : Bool
  /-- The start found an EVR_INTERRUPTED marker (R258, R458). -/
  startMark : Bool
  /-- GT of the last write to HST_HWD_KICK or HST_HWD (R96). -/
  kickGt   : Nat
  chal     : Option Challenge
  /-- A checkpoint of this controller stands acknowledged by a Standby that is in touch (R90 to R92). -/
  durOn    : Bool
  /-- The completion written last to each CQ: a refused write takes it back (R93). -/
  lastCq   : List BackEnt
  deriving DecidableEq, Repr

/-- State of Ladle that no register of the map holds (R124 to R153). -/
structure LadleSt where
  /-- Admitted actions, in admission order. -/
  acts   : List Act
  ord    : Nat
  chords : List Chord
  /-- Room taken in the tick in progress and in those to come (R135). -/
  room   : List RoomUse
  /-- Cues whose second copy is still to leave (R145). -/
  second : List SecondCopy
  /-- MAC addresses that ARP has resolved: port, next hop, MAC (R145). -/
  arp    : List (Nat × Nat × Nat)
  /-- Words of LDL_CUE_KEYk written since the last completed key (R152). -/
  keyW   : List (Nat × Nat)
  /-- Key in use for AUTH, 32 bytes. -/
  key    : Option (List Byte)
  /-- The wrapped key is still to be stored (R152). -/
  keyDue : Bool
  deriving DecidableEq, Repr

/-- What the persistent tier holds beside the Logbook's stores: the system records. -/
structure Nv where
  /-- The cue SEQ reserve and the wrapped cue key (R144, R152). -/
  cueReserve : Nat
  cueKey     : Option (List Byte)
  /-- Learned landing tables (R162), and the zero of each load cell with its GT (R180). -/
  learned    : Vector (Option LearnedTab) 16
  zero       : Vector (Option (Int × Nat)) 16
  /-- The EVR_INTERRUPTED marker; `markOld` while it was found at start-up and neither EVR_START nor EVR_ABORT has been
  admitted since (R258). -/
  marker     : List MarkCar
  markOld    : Bool
  /-- Identity on record and SEED of each car's slice (R275, R281): serial and hash. -/
  idRec      : Vector (Option (Nat × List Byte)) 16
  seed       : Vector Nat 16
  /-- Force models, index 2n + d (R221). -/
  force      : Vector (Option DoorM) 32
  /-- Serial of the partner on record (R377), and power-ups counted (R374). -/
  peer       : Option Nat
  boots      : Nat
  /-- The two image slots and the commit markers A and B: commit count and slot (R474, R479). -/
  images     : Vector (Option (List Byte)) 2
  commit     : Vector (Option (Nat × Nat)) 2
  deriving DecidableEq, Repr

/-- A hard repair entry (R437, R439): a row or a column of a macro; a void entry is used up and drives nothing. -/
structure HardEnt where
  domain : Nat
  mac    : Nat
  col    : Bool
  value  : Nat
  void   : Bool
  deriving DecidableEq, Repr

/-- Logic BIST of a domain type in OTP (R427 to R429): the seed of the PRPG, the golden signatures at the four pattern counts, those
of the 64 chains over set 0. -/
structure BistSig where
  seed   : BitVec 32
  sets   : Vector (BitVec 64) 4
  chains : Vector (BitVec 64) 64
  deriving DecidableEq, Repr

def BistSig.blank : BistSig := { seed := 0, sets := Vector.replicate 4 0, chains := Vector.replicate 64 0 }

/-- One-time programmable memory of the controller (R483, R484). Keys are 32 bytes. -/
structure Otp where
  serial    : Nat
  vid       : Nat
  ssvid     : Nat
  ssid      : Nat
  logKey    : List Byte
  repairKey : List Byte
  storeKey  : List Byte
  /-- The four key slots: SHA-256 of a public key. -/
  slot      : Vector (Option (List Byte)) 4
  /-- Revocation bits of the slots. -/
  revoked   : Nat
  imgReq    : Bool
  /-- Items a failed programming left unusable, by their number in SEC_PROG_SEL. -/
  spoiled   : Nat
  hard      : List HardEnt
  /-- By domain type, named by its lowest domain index: what logic BIST is run with and compared to. -/
  bist      : List (Nat × BistSig)
  deriving DecidableEq, Repr

/-- A clear marker (R420). -/
inductive MarkState where
  | prepared | committed | done
  deriving DecidableEq, Repr

/-- A clear-marker slot of the mirror region (R420, R422). -/
structure ClearMark where
  state : MarkState
  num   : Nat
  floor : Nat
  auth  : Nat
  gt    : Nat
  deriving DecidableEq, Repr

/-- The flush marker of the mirror region (R415). -/
inductive FlushMark where
  | none
  | started (planned written : Nat)
  | done (planned written : Nat)
  deriving DecidableEq, Repr

/-- Records planned and written by the last flush (LOG_PF_PLANNED, LOG_PF_WRITTEN). -/
def FlushMark.planned : FlushMark → Nat
  | .none => 0
  | .started p _ => p
  | .done p _ => p

def FlushMark.written : FlushMark → Nat
  | .none => 0
  | .started _ w => w
  | .done _ w => w

/-- A running freeze (R412). -/
structure Freeze where
  start : Nat
  stop  : Nat
  /-- The requested end lay beyond 10 s and was cut. -/
  capped : Bool
  deriving DecidableEq, Repr

/-- A clear under way (R420): SQ and number of its LOG_CLEAR, the marker fields, the next write. -/
structure ClearRun where
  sq    : Nat
  dn    : Nat
  num   : Nat
  floor : Nat
  auth  : Nat
  gt    : Nat
  step  : Nat
  deriving DecidableEq, Repr

/-- State of the Logbook outside the persistent tier (R407 to R417). The ring is LP4X content. -/
structure LogSt where
  staging : List Rec
  ring    : List Rec
  holding : List Rec
  freeze  : Option Freeze
  /-- SEQ of the next record the mirror pointer examines (R408). -/
  mirPtr  : Nat
  /-- Next SEQ to give (R405). -/
  seq     : Nat
  /-- Drops per severity since the last LOG_DROP of that severity, and GT of that report (R411). -/
  drops   : Vector Nat 8
  dropGt  : Vector (Option Nat) 8
  /-- A power-fail flush is under way (R415). -/
  flushing : Bool
  /-- SEQ of the records the flush has yet to write, in its order. -/
  todo    : List Nat
  clear   : Option ClearRun
  /-- Trace sequence number (R475) and the trace ring. -/
  tseq    : Nat
  trace   : List (Nat × Cqe × Nat)
  /-- Geometry in force: LOG2SZ, BASE_MIB, SIZE_MIB (R424). -/
  geom    : Nat × Nat × Nat
  deriving DecidableEq, Repr

/-- Logbook content of the persistent tier (R407, R415, R420, R424). -/
structure LogPersist where
  mirror  : List Rec
  reserve : Nat
  slotA   : Option ClearMark
  slotB   : Option ClearMark
  flush   : FlushMark
  /-- Floor and authoriser of the last clear. -/
  clrFloor : Nat
  clrAuth  : Nat
  clears  : Nat
  /-- Stored geometry: LOG2SZ, BASE_MIB, SIZE_MIB. -/
  geom    : Option (Nat × Nat × Nat)
  /-- The region of the persistent device that holds all this: BASE_MIB, SIZE_MIB (R424). -/
  region  : Nat × Nat
  /-- S7 records pinned since the last clear (R410). -/
  pins    : Nat
  deriving DecidableEq, Repr

/-- What the Announce of one master said, and when its last two were received (R45). -/
structure Master where
  /-- sourcePortIdentity of the Announce. -/
  srcId  : Nat
  gmId   : Nat
  prio1  : Nat
  clockCl  : Nat
  accur  : Nat
  varnc  : Nat
  prio2  : Nat
  steps  : Nat
  logAnn : Int
  last   : Nat
  prev   : Option Nat
  deriving DecidableEq, Repr

/-- State of the Time Spine and of the PTP servo that no register of the map holds (R34 to R63). -/
structure TimeSt where
  /-- Group Time, ns. -/
  gt       : Nat
  /-- Remaining correction, ns; positive moves GT ahead (R46, R48). -/
  corr     : Int
  /-- Whole ticks of a forward step decided in the tick in progress (R47). -/
  step     : Option Nat
  /-- A lock has occurred since the cold start (R44). -/
  locked1  : Bool
  /-- Consecutive Syncs outside the threshold while LOCKED (R44). -/
  outRun   : Nat
  /-- f at the last Syncs spent in LOCKED, newest first, at most 64 (R44). -/
  fHist    : List Int
  /-- Time spent in the current HOLDOVER, ns (R49). -/
  holdNs   : Nat
  /-- Masters heard on the active port (R45). -/
  masters  : List Master
  /-- sourcePortIdentity of the selected master. -/
  sel      : Option Nat
  /-- GT of the last Announce in the domain on each port, and its log interval (R43). -/
  annGt    : Vector (Option (Nat × Int)) 2
  /-- The last usable Sync: master time of origin and corrected receive stamp (R41). -/
  lastSync : Option (Nat × Nat)
  /-- The last Delay_Req sent: sequence number and corrected transmit stamp (R41). -/
  dreq     : Option (Nat × Nat)
  dreqSeq  : Nat
  /-- GT at which the last Delay_Req left (R41). -/
  dreqGt   : Option Nat
  /-- GT of the last usable Sync (R44). -/
  syncGt   : Nat
  /-- GT at which PTP came into use: the timeouts count from there (R44). -/
  ptpSince : Nat
  /-- GT at which SRC = FREE_RUN took effect (R38). -/
  freeGt   : Option Nat
  /-- A replica reload is due at the next broadcast, one bit per island (R54). -/
  reload   : Nat
  /-- |TSP_PEER_DIFF| stands above its limit (R61). -/
  peerOver : Bool
  /-- Tenths of a nanosecond of slew not yet given to GT (R46, R48). -/
  frac     : Nat
  /-- GT stands at the start of a tick that has still to run: a step has just been applied (R47). -/
  due      : Bool
  /-- The announce timeout of the active port stands (R43). -/
  annOut   : Bool
  /-- Stamp of the last PPS_IN edge (R52). -/
  ppsIn    : Nat
  deriving DecidableEq, Repr

/-- A reset that sends REL for one tick first (R453, R366): its cause, whether that tick has run, whether the entry to
self-refresh will succeed. -/
structure Ending where
  cause : Nat
  sent  : Bool
  kept  : Bool
  /-- Cars whose leases it has released. -/
  cars  : Nat
  deriving DecidableEq, Repr

/-- What the system island keeps beside its registers: resets, register read latches, images and OTP programming (R451,
R458, R463, R478, R484). -/
structure SysSt where
  ending   : Option Ending
  /-- Step the start-up before the last reset had reached, 0xFF where it had reached step 8; actions and completions found
  and discarded. -/
  prevStep : Nat
  lostActs : Nat
  lostCmps : Nat
  /-- Offset of a HI register, and the value a read of its LO register latched. -/
  latch    : List (Nat × Nat)
  /-- Slot of the staged image. -/
  staged   : Option Nat
  /-- OTP item under programming with its data words. -/
  prog     : Option (Nat × List Byte)
  /-- Engines whose PLL has lost lock (R449). -/
  unlocked : Nat
  /-- GT of the release of the last reset (RST_BOOT_MS). -/
  release  : Int
  /-- GT of the last record of a thermal warning (R455). -/
  warnGt   : Nat
  /-- Levels of the pins DPn_STS (R196, R205). -/
  dpSts    : Nat
  deriving DecidableEq, Repr

end Sys2Proof.Machine
end

