-- ==== Sys2Proof/Machine/Regs.lean ====
section
/-! DEFINITION. The register fields of BAR0, one constant (or one function of its indices) per field of the
register tables of spec/02 to spec/19, with the block's offset, bits, access code, reset value and admitted values.
The names are the spec's register and field names; generated from those tables. -/

namespace Sys2Proof.Machine

/-- Access codes of the register tables (R463). `w1cf` is a W1C field that a 1 in any of its bits clears whole
(HST_VIOL). -/
inductive Acc where
  | ro | rw | w1c | w1cf | w1s | wo | rwl | rwt
  deriving DecidableEq, Repr

/-- One field of a register: `key` is its BAR0 byte offset times 32 plus its lowest bit, `w` its width, `acc` its
access code, `rst` its reset value and `rng` the intervals of values a write may give it (none listed: all). -/
structure RF where
  key : Nat
  w   : Nat
  acc : Acc
  rst : Nat
  rng : List (Nat × Nat)
  deriving DecidableEq, Repr

/-- The field at bits `[lsb + w - 1 : lsb]` of the register at BAR0 offset `off`. -/
def RF.mk' (off lsb w : Nat) (acc : Acc) (rst : Nat) (rng : List (Nat × Nat)) : RF :=
  { key := off * 32 + lsb, w := w, acc := acc, rst := rst, rng := rng }

/-- BAR0 offset of a field's register. -/
def RF.off (f : RF) : Nat := f.key / 32

/-- Lowest bit of a field in its register. -/
def RF.lsb (f : RF) : Nat := f.key % 32

/-- A value a write may give the field (R462 and the range each table states). -/
def RF.admits (f : RF) (v : Nat) : Bool :=
  f.rng.isEmpty || f.rng.any fun r => r.1 ≤ v && v ≤ r.2

/-- A row of the register map: registers of one kind repeat at up to three strides. -/
structure RegRow where
  base : Nat
  s1 : Nat
  n1 : Nat
  s2 : Nat
  n2 : Nat
  s3 : Nat
  n3 : Nat
  field : Nat → Nat → Nat → RF

/-- Quotient by a stride, a stride of 0 taken as no repetition. -/
def strideQ (r s n : Nat) : Nat := if s = 0 then 0 else min (r / s) (n - 1)

/-- The field of a row that lies at offset `off`, if one does. -/
def RegRow.at? (e : RegRow) (off : Nat) : Option RF :=
  if off < e.base then none
  else
    let r := off - e.base
    let i := strideQ r e.s1 e.n1
    let r := r - i * e.s1
    let j := strideQ r e.s2 e.n2
    let r := r - j * e.s2
    let k := strideQ r e.s3 e.n3
    if r - k * e.s3 = 0 then some (e.field i j k) else none

namespace Reg

/-! 02_time_spine.md: TSP_CTRL (0x0_4000) -/
def TSP_CTRL_PPS_OUT_EN : RF := RF.mk' (0x4000) (3) 1 .rwl 0 []
def TSP_CTRL_STEP_FWD_EN : RF := RF.mk' (0x4000) (2) 1 .rwl 0 []
def TSP_CTRL_SRC : RF := RF.mk' (0x4000) (0) 2 .rwl 0 [(0, 1)]
/-! 02_time_spine.md: TSP_STAT (0x0_4004) -/
def TSP_STAT_TCXO_FB : RF := RF.mk' (0x4004) (5) 1 .ro 0 []
def TSP_STAT_HOLD_EXP : RF := RF.mk' (0x4004) (4) 1 .ro 0 []
def TSP_STAT_MASTER_BEHIND : RF := RF.mk' (0x4004) (3) 1 .ro 0 []
def TSP_STAT_SLEWING : RF := RF.mk' (0x4004) (2) 1 .ro 0 []
def TSP_STAT_STEPPED : RF := RF.mk' (0x4004) (1) 1 .w1c 0 []
def TSP_STAT_GT_VALID : RF := RF.mk' (0x4004) (0) 1 .ro 0 []
/-! 02_time_spine.md: TSP_GT_LO (0x0_4008), TSP_GT_HI (0x0_400C) -/
def TSP_GT_LO : RF := RF.mk' (0x4008) (0) 32 .ro 0 []
def TSP_GT_HI : RF := RF.mk' (0x400C) (0) 32 .ro 0 []
/-! 02_time_spine.md: TSP_SLEW (0x0_4010) -/
def TSP_SLEW_MAX_PPM : RF := RF.mk' (0x4010) (0) 9 .rwl 500 [(1, 500)]
/-! 02_time_spine.md: TSP_CORR_LO (0x0_4014), TSP_CORR_HI (0x0_4018) -/
def TSP_CORR_LO : RF := RF.mk' (0x4014) (0) 32 .ro 0 []
def TSP_CORR_HI : RF := RF.mk' (0x4018) (0) 32 .ro 0 []
/-! 02_time_spine.md: TSP_FREQ (0x0_401C) -/
def TSP_FREQ : RF := RF.mk' (0x401C) (0) 32 .ro 0 []
/-! 02_time_spine.md: TSP_HOLD_MAX (0x0_4020) -/
def TSP_HOLD_MAX_SECONDS : RF := RF.mk' (0x4020) (0) 17 .rwl 3600 [(0, 86400)]
/-! 02_time_spine.md: TSP_PPS_CFG (0x0_4024) -/
def TSP_PPS_CFG_WIDTH : RF := RF.mk' (0x4024) (8) 16 .rwl 10000 [(1, 50000)]
def TSP_PPS_CFG_POL : RF := RF.mk' (0x4024) (0) 1 .rwl 0 []
/-! 02_time_spine.md: TSP_PPS_OFS (0x0_4028) -/
def TSP_PPS_OFS : RF := RF.mk' (0x4028) (0) 32 .rwl 0 [(0, 499999999), (3794967297, 4294967295)]
/-! 02_time_spine.md: TSP_PPSIN_LO (0x0_402C), TSP_PPSIN_HI (0x0_4030), TSP_PPSIN_CNT (0x0_4034) -/
def TSP_PPSIN_LO_STAMP_LO : RF := RF.mk' (0x402C) (0) 32 .ro 0 []
def TSP_PPSIN_HI_STAMP_HI : RF := RF.mk' (0x4030) (0) 32 .ro 0 []
def TSP_PPSIN_CNT : RF := RF.mk' (0x4034) (0) 32 .ro 0 []
/-! 02_time_spine.md: TSP_REPL_ERR (0x0_4038) -/
def TSP_REPL_ERR_ISLAND : RF := RF.mk' (0x4038) (0) 23 .w1c 0 []
/-! 02_time_spine.md: TSP_PEER_DIFF (0x0_403C), TSP_PEER_LIM (0x0_4040), TSP_STEP_CNT (0x0_4044) -/
def TSP_PEER_DIFF : RF := RF.mk' (0x403C) (0) 32 .ro 0 []
def TSP_PEER_LIM : RF := RF.mk' (0x4040) (0) 32 .rwl 5000 [(100, 1000000)]
def TSP_STEP_CNT : RF := RF.mk' (0x4044) (0) 32 .ro 0 []
/-! 02_time_spine.md: TSP_SLDLY_n (0x0_4100 + 4 × n, n = 0…15) -/
def TSP_SLDLY_VALID (n : Nat) : RF := RF.mk' (0x4100 + 0x4 * n) (31) 1 .ro 0 []
def TSP_SLDLY_ALIGNED (n : Nat) : RF := RF.mk' (0x4100 + 0x4 * n) (30) 1 .ro 0 []
def TSP_SLDLY_DELAY_NS (n : Nat) : RF := RF.mk' (0x4100 + 0x4 * n) (0) 16 .ro 0 []
/-! 02_time_spine.md: PTP_CTRL (0x0_4800) -/
def PTP_CTRL_ANN_TMO : RF := RF.mk' (0x4800) (16) 4 .rwl 3 [(2, 10)]
def PTP_CTRL_DOMAIN : RF := RF.mk' (0x4800) (8) 7 .rwl 0 []
def PTP_CTRL_FAILOVER_EN : RF := RF.mk' (0x4800) (3) 1 .rwl 0 []
def PTP_CTRL_PRI_PORT : RF := RF.mk' (0x4800) (2) 1 .rwl 0 []
def PTP_CTRL_PROFILE : RF := RF.mk' (0x4800) (1) 1 .rwl 0 []
def PTP_CTRL_EN : RF := RF.mk' (0x4800) (0) 1 .rwl 0 []
/-! 02_time_spine.md: PTP_STAT (0x0_4804) -/
def PTP_STAT_SYNC_RUN : RF := RF.mk' (0x4804) (8) 5 .ro 0 []
def PTP_STAT_STBY_ANN : RF := RF.mk' (0x4804) (6) 1 .ro 0 []
def PTP_STAT_MASTER_OK : RF := RF.mk' (0x4804) (5) 1 .ro 0 []
def PTP_STAT_ACT_PORT : RF := RF.mk' (0x4804) (4) 1 .ro 0 []
def PTP_STAT_STATE : RF := RF.mk' (0x4804) (0) 3 .ro 0 []
/-! 02_time_spine.md: PTP_OFS (0x0_4808), PTP_MPD (0x0_480C), PTP_GMID_LO (0x0_4810), PTP_GMID_HI (0x0_4814) -/
def PTP_OFS : RF := RF.mk' (0x4808) (0) 32 .ro 0 []
def PTP_MPD : RF := RF.mk' (0x480C) (0) 32 .ro 0 []
def PTP_GMID_LO : RF := RF.mk' (0x4810) (0) 32 .ro 0 []
def PTP_GMID_HI : RF := RF.mk' (0x4814) (0) 32 .ro 0 []
/-! 02_time_spine.md: PTP_GMINFO (0x0_4818) -/
def PTP_GMINFO_PRIO1 : RF := RF.mk' (0x4818) (24) 8 .ro 0 []
def PTP_GMINFO_CLASS : RF := RF.mk' (0x4818) (16) 8 .ro 0 []
def PTP_GMINFO_STEPS_REMOVED : RF := RF.mk' (0x4818) (0) 16 .ro 0 []
/-! 02_time_spine.md: PTP_RATES (0x0_481C) -/
def PTP_RATES_LOG_DREQ : RF := RF.mk' (0x481C) (16) 8 .ro 0 []
def PTP_RATES_LOG_ANN : RF := RF.mk' (0x481C) (8) 8 .ro 0 []
def PTP_RATES_LOG_SYNC : RF := RF.mk' (0x481C) (0) 8 .ro 0 []
/-! 02_time_spine.md: PTP_DSCP (0x0_4820) -/
def PTP_DSCP : RF := RF.mk' (0x4820) (0) 6 .rwl 46 []
/-! 02_time_spine.md: PTP_CNT_SYNC (0x0_4824), PTP_CNT_DRESP (0x0_4828), PTP_CNT_DROP (0x0_482C), PTP_GM_CHG (0x0_4830) -/
def PTP_CNT_SYNC : RF := RF.mk' (0x4824) (0) 32 .ro 0 []
def PTP_CNT_DRESP : RF := RF.mk' (0x4828) (0) 32 .ro 0 []
def PTP_CNT_DROP : RF := RF.mk' (0x482C) (0) 32 .ro 0 []
def PTP_GM_CHG : RF := RF.mk' (0x4830) (0) 32 .ro 0 []
/-! 03_host_link.md: HST_CTRL (0x0_1000) -/
def HST_CTRL_FETCH_EN : RF := RF.mk' (0x1000) (0) 1 .rw 1 []
/-! 03_host_link.md: HST_STAT (0x0_1004) -/
def HST_STAT_GEN : RF := RF.mk' (0x1004) (16) 16 .ro 0 []
def HST_STAT_SILENT : RF := RF.mk' (0x1004) (5) 1 .ro 0 []
def HST_STAT_D3 : RF := RF.mk' (0x1004) (4) 1 .ro 0 []
def HST_STAT_BME : RF := RF.mk' (0x1004) (3) 1 .ro 0 []
def HST_STAT_LAST_RST : RF := RF.mk' (0x1004) (0) 2 .ro 0 []
/-! 03_host_link.md: HST_WRR (0x0_1008) -/
def HST_WRR_W3 : RF := RF.mk' (0x1008) (16) 8 .rw 1 [(1, 255)]
def HST_WRR_W2 : RF := RF.mk' (0x1008) (8) 8 .rw 2 [(1, 255)]
def HST_WRR_W1 : RF := RF.mk' (0x1008) (0) 8 .rw 4 [(1, 255)]
/-! 03_host_link.md: HST_HELD (0x0_100C), HST_HELD_DISC (0x0_1010), HST_HELD_LOST (0x0_1014), HST_EVT_LOST (0x0_1018) -/
def HST_HELD : RF := RF.mk' (0x100C) (0) 32 .ro 0 []
def HST_HELD_DISC : RF := RF.mk' (0x1010) (0) 32 .ro 0 []
def HST_HELD_LOST : RF := RF.mk' (0x1014) (0) 32 .ro 0 []
def HST_EVT_LOST : RF := RF.mk' (0x1018) (0) 32 .ro 0 []
/-! 03_host_link.md: HST_WAKE_EN (0x0_101C) -/
def HST_WAKE_EN_EQ : RF := RF.mk' (0x101C) (0) 8 .rw 0 []
/-! 03_host_link.md: HST_WAKE_RSN (0x0_1020) -/
def HST_WAKE_RSN_VALID : RF := RF.mk' (0x1020) (31) 1 .w1c 0 []
def HST_WAKE_RSN_EQ : RF := RF.mk' (0x1020) (16) 3 .ro 0 []
def HST_WAKE_RSN_HELD : RF := RF.mk' (0x1020) (0) 10 .ro 0 []
/-! 03_host_link.md: HST_HWD (0x0_1024), HST_HWD_KICK (0x0_1028) -/
def HST_HWD_TMO_MS : RF := RF.mk' (0x1024) (0) 16 .rw 0 [(0, 60000)]
def HST_HWD_KICK : RF := RF.mk' (0x1028) (0) 32 .wo 0 []
/-! 03_host_link.md: HST_VIOL (0x0_102C) -/
def HST_VIOL_BIND : RF := RF.mk' (0x102C) (24) 8 .w1cf 0 []
def HST_VIOL_DB_OFF : RF := RF.mk' (0x102C) (16) 8 .w1cf 0 []
def HST_VIOL_DB_FORM : RF := RF.mk' (0x102C) (8) 8 .w1cf 0 []
def HST_VIOL_BAR_SIZE : RF := RF.mk' (0x102C) (0) 8 .w1cf 0 []
/-! 05_ladle_actions.md: LDL_CTRL (0x0_6000) -/
def LDL_CTRL_CUE_AUTH : RF := RF.mk' (0x6000) (2) 1 .rwl 0 []
def LDL_CTRL_CUE_EN : RF := RF.mk' (0x6000) (0) 1 .rwl 0 []
/-! 05_ladle_actions.md: LDL_STAT (0x0_6004) -/
def LDL_STAT_KEY_VALID : RF := RF.mk' (0x6004) (1) 1 .ro 0 []
def LDL_STAT_READY : RF := RF.mk' (0x6004) (0) 1 .ro 0 []
/-! 05_ladle_actions.md: LDL_RSV (0x0_6008) -/
def LDL_RSV_GROUP : RF := RF.mk' (0x6008) (16) 11 .rwl 256 [(0, 1024)]
def LDL_RSV_ENGINE : RF := RF.mk' (0x6008) (0) 10 .rwl 128 [(0, 960)]
/-! 05_ladle_actions.md: LDL_OCC_n (0x0_6100 + 4 × n, n = 0…15) -/
def LDL_OCC_NEAR (n : Nat) : RF := RF.mk' (0x6100 + 0x4 * n) (24) 8 .ro 0 []
def LDL_OCC_SLOTS (n : Nat) : RF := RF.mk' (0x6100 + 0x4 * n) (0) 11 .ro 0 []
/-! 05_ladle_actions.md: LDL_OCC_G (0x0_6140) -/
def LDL_OCC_G_NEAR : RF := RF.mk' (0x6140) (24) 8 .ro 0 []
def LDL_OCC_G_SLOTS : RF := RF.mk' (0x6140) (0) 12 .ro 0 []
/-! 05_ladle_actions.md: LDL_CHORDS (0x0_6144) -/
def LDL_CHORDS_IN_FLIGHT : RF := RF.mk' (0x6144) (0) 11 .ro 0 []
/-! 05_ladle_actions.md: LDL_CNT_FIRED (0x0_6180), LDL_CNT_LATE (0x0_6184), LDL_CNT_EXP (0x0_6188), LDL_CNT_CANC (0x0_618C), LDL_CNT_RES (0x0_6190), LDL_CNT_TOOLATE (0x0_6194) -/
def LDL_CNT_FIRED : RF := RF.mk' (0x6180) (0) 32 .ro 0 []
def LDL_CNT_LATE : RF := RF.mk' (0x6184) (0) 32 .ro 0 []
def LDL_CNT_EXP : RF := RF.mk' (0x6188) (0) 32 .ro 0 []
def LDL_CNT_CANC : RF := RF.mk' (0x618C) (0) 32 .ro 0 []
def LDL_CNT_RES : RF := RF.mk' (0x6190) (0) 32 .ro 0 []
def LDL_CNT_TOOLATE : RF := RF.mk' (0x6194) (0) 32 .ro 0 []
/-! 05_ladle_actions.md: LDL_CUE_CFG (0x0_6200) -/
def LDL_CUE_CFG_TTL : RF := RF.mk' (0x6200) (24) 8 .rwl 16 [(1, 255)]
def LDL_CUE_CFG_LEAD_MS : RF := RF.mk' (0x6200) (16) 8 .rwl 20 [(5, 200)]
def LDL_CUE_CFG_DSCP : RF := RF.mk' (0x6200) (10) 6 .rwl 46 []
def LDL_CUE_CFG_PORT : RF := RF.mk' (0x6200) (0) 2 .rwl 0 []
/-! 05_ladle_actions.md: LDL_CUE_DST (0x0_6204), LDL_CUE_PORT (0x0_6208), LDL_CUE_ID (0x0_620C) -/
def LDL_CUE_DST : RF := RF.mk' (0x6204) (0) 32 .rwl 0 []
def LDL_CUE_PORT_SRC : RF := RF.mk' (0x6208) (16) 16 .rwl 47811 []
def LDL_CUE_PORT_DST : RF := RF.mk' (0x6208) (0) 16 .rwl 47811 []
def LDL_CUE_ID_KEY_ID : RF := RF.mk' (0x620C) (16) 8 .rwl 0 []
def LDL_CUE_ID_GROUP : RF := RF.mk' (0x620C) (0) 16 .rwl 0 []
/-! 05_ladle_actions.md: LDL_CUE_KEYk (0x0_6210 + 4 × k, k = 0…7) -/
def LDL_CUE_KEY (k : Nat) : RF := RF.mk' (0x6210 + 0x4 * k) (0) 32 .wo 0 []
/-! 05_ladle_actions.md: LDL_CUE_SEQ (0x0_6230), LDL_CUE_SENT (0x0_6234), LDL_CUE_NOLINK (0x0_6238) -/
def LDL_CUE_SEQ : RF := RF.mk' (0x6230) (0) 32 .ro 0 []
def LDL_CUE_SENT : RF := RF.mk' (0x6234) (0) 32 .ro 0 []
def LDL_CUE_NOLINK : RF := RF.mk' (0x6238) (0) 32 .ro 0 []
/-! 06_car_position.md: CEn:TRK_CTRL (+0x000) -/
def TRK_CTRL_BOT_IN (n : Nat) : RF := RF.mk' (0x20000 + 0x1000 * n) (8) 8 .rwl 255 [(0, 27), (255, 255)]
def TRK_CTRL_LW_EN (n : Nat) : RF := RF.mk' (0x20000 + 0x1000 * n) (1) 1 .rwl 0 []
def TRK_CTRL_TAB_PRESET (n : Nat) : RF := RF.mk' (0x20000 + 0x1000 * n) (0) 1 .rwl 0 []
/-! 06_car_position.md: CEn:TRK_STAT (+0x004) -/
def TRK_STAT_LEARNING (n : Nat) : RF := RF.mk' (0x20004 + 0x1000 * n) (11) 1 .ro 0 []
def TRK_STAT_TABLE (n : Nat) : RF := RF.mk' (0x20004 + 0x1000 * n) (9) 2 .ro 0 []
def TRK_STAT_DZ_NONE (n : Nat) : RF := RF.mk' (0x20004 + 0x1000 * n) (8) 1 .ro 0 []
def TRK_STAT_DZ_SRC (n : Nat) : RF := RF.mk' (0x20004 + 0x1000 * n) (7) 1 .ro 0 []
def TRK_STAT_SUSPECT (n : Nat) : RF := RF.mk' (0x20004 + 0x1000 * n) (6) 1 .ro 0 []
def TRK_STAT_ENC_LOST (n : Nat) : RF := RF.mk' (0x20004 + 0x1000 * n) (5) 1 .ro 0 []
def TRK_STAT_DIR (n : Nat) : RF := RF.mk' (0x20004 + 0x1000 * n) (4) 1 .ro 0 []
def TRK_STAT_AT_REST (n : Nat) : RF := RF.mk' (0x20004 + 0x1000 * n) (3) 1 .ro 0 []
def TRK_STAT_SLEWING (n : Nat) : RF := RF.mk' (0x20004 + 0x1000 * n) (2) 1 .ro 0 []
def TRK_STAT_PSTATE (n : Nat) : RF := RF.mk' (0x20004 + 0x1000 * n) (0) 2 .ro 3 []
/-! 06_car_position.md: CEn:TRK_POS (+0x008), TRK_SPD (+0x00C), TRK_OFS (+0x010), TRK_SLEW_REM (+0x014) -/
def TRK_POS (n : Nat) : RF := RF.mk' (0x20008 + 0x1000 * n) (0) 32 .ro 0 []
def TRK_SPD (n : Nat) : RF := RF.mk' (0x2000C + 0x1000 * n) (0) 32 .ro 0 []
def TRK_OFS (n : Nat) : RF := RF.mk' (0x20010 + 0x1000 * n) (0) 32 .ro 0 []
def TRK_SLEW_REM (n : Nat) : RF := RF.mk' (0x20014 + 0x1000 * n) (0) 32 .ro 0 []
/-! 06_car_position.md: CEn:TRK_ENC_CFG (+0x018) -/
def TRK_ENC_CFG_Z_EN (n : Nat) : RF := RF.mk' (0x20018 + 0x1000 * n) (24) 1 .rwl 0 []
def TRK_ENC_CFG_MONO (n : Nat) : RF := RF.mk' (0x20018 + 0x1000 * n) (16) 6 .rwl 20 [(15, 40)]
def TRK_ENC_CFG_SSI_BITS (n : Nat) : RF := RF.mk' (0x20018 + 0x1000 * n) (8) 6 .rwl 24 [(24, 32)]
def TRK_ENC_CFG_PAR (n : Nat) : RF := RF.mk' (0x20018 + 0x1000 * n) (3) 2 .rwl 0 [(0, 2)]
def TRK_ENC_CFG_GRAY (n : Nat) : RF := RF.mk' (0x20018 + 0x1000 * n) (2) 1 .rwl 0 []
def TRK_ENC_CFG_DIR (n : Nat) : RF := RF.mk' (0x20018 + 0x1000 * n) (1) 1 .rwl 0 []
def TRK_ENC_CFG_TYPE (n : Nat) : RF := RF.mk' (0x20018 + 0x1000 * n) (0) 1 .rwl 0 []
/-! 06_car_position.md: CEn:TRK_ENC_SCALE (+0x01C), TRK_ENC_CPR (+0x020), TRK_ENC_CNT (+0x024), TRK_SSI_ZERO (+0x028) -/
def TRK_ENC_SCALE (n : Nat) : RF := RF.mk' (0x2001C + 0x1000 * n) (0) 32 .rwl 0 []
def TRK_ENC_CPR_Z_REF (n : Nat) : RF := RF.mk' (0x20020 + 0x1000 * n) (16) 16 .ro 0 []
def TRK_ENC_CPR (n : Nat) : RF := RF.mk' (0x20020 + 0x1000 * n) (0) 16 .rwl 0 [(0, 0), (4, 65535)]
def TRK_ENC_CNT (n : Nat) : RF := RF.mk' (0x20024 + 0x1000 * n) (0) 32 .ro 0 []
def TRK_SSI_ZERO (n : Nat) : RF := RF.mk' (0x20028 + 0x1000 * n) (0) 32 .rwl 0 []
/-! 06_car_position.md: CEn:TRK_WIN (+0x02C), TRK_REREF (+0x030), TRK_FLOOR_OFS (+0x034), TRK_DZB_OFS (+0x038), TRK_LAND (+0x03C) -/
def TRK_WIN_W2_MM (n : Nat) : RF := RF.mk' (0x2002C + 0x1000 * n) (16) 8 .rwl 30 [(2, 100)]
def TRK_WIN_W1_MM (n : Nat) : RF := RF.mk' (0x2002C + 0x1000 * n) (0) 8 .rwl 5 [(1, 20)]
def TRK_REREF_MM (n : Nat) : RF := RF.mk' (0x20030 + 0x1000 * n) (0) 16 .rwl 500 [(50, 2000)]
def TRK_FLOOR_OFS (n : Nat) : RF := RF.mk' (0x20034 + 0x1000 * n) (0) 32 .rwl 0 []
def TRK_DZB_OFS (n : Nat) : RF := RF.mk' (0x20038 + 0x1000 * n) (0) 32 .ro 0 []
def TRK_LAND (n : Nat) : RF := RF.mk' (0x2003C + 0x1000 * n) (0) 8 .rwl 2 [(2, 128)]
/-! 06_car_position.md: CEn:TRK_LTAB_IDX (+0x040), TRK_LTAB_DATA (+0x044) -/
def TRK_LTAB_IDX_WORD (n : Nat) : RF := RF.mk' (0x20040 + 0x1000 * n) (8) 3 .rw 0 [(0, 5)]
def TRK_LTAB_IDX_LANDING (n : Nat) : RF := RF.mk' (0x20040 + 0x1000 * n) (0) 7 .rw 0 []
def TRK_LTAB_DATA (n : Nat) : RF := RF.mk' (0x20044 + 0x1000 * n) (0) 32 .rwl 0 []
/-! 06_car_position.md: CEn:TRK_LEARN (+0x048), TRK_LEARN_STAT (+0x04C) -/
def TRK_LEARN_SPEED_MM (n : Nat) : RF := RF.mk' (0x20048 + 0x1000 * n) (0) 16 .rwl 250 [(50, 500)]
def TRK_LEARN_STAT_VANES_DN (n : Nat) : RF := RF.mk' (0x2004C + 0x1000 * n) (16) 8 .ro 0 []
def TRK_LEARN_STAT_VANES_UP (n : Nat) : RF := RF.mk' (0x2004C + 0x1000 * n) (8) 8 .ro 0 []
def TRK_LEARN_STAT_RESULT (n : Nat) : RF := RF.mk' (0x2004C + 0x1000 * n) (0) 3 .ro 0 []
/-! 06_car_position.md: CEn:TRK_IDX_STAT (+0x050) -/
def TRK_IDX_STAT_GOOD_RUN (n : Nat) : RF := RF.mk' (0x20050 + 0x1000 * n) (4) 4 .ro 0 []
def TRK_IDX_STAT_CONSEC (n : Nat) : RF := RF.mk' (0x20050 + 0x1000 * n) (0) 2 .ro 0 []
/-! 06_car_position.md: CEn:TRK_LW_CFG (+0x080), TRK_LW_GAIN (+0x084), TRK_LW_AUX (+0x088), TRK_LW_ZINIT (+0x08C) -/
def TRK_LW_CFG_FAULT_OVL (n : Nat) : RF := RF.mk' (0x20080 + 0x1000 * n) (31) 1 .rwl 1 []
def TRK_LW_CFG_MARGIN_PCT (n : Nat) : RF := RF.mk' (0x20080 + 0x1000 * n) (24) 5 .rwl 5 [(0, 20)]
def TRK_LW_CFG_OVL_PCT (n : Nat) : RF := RF.mk' (0x20080 + 0x1000 * n) (16) 8 .rwl 110 [(100, 150)]
def TRK_LW_CFG_RATED_KG (n : Nat) : RF := RF.mk' (0x20080 + 0x1000 * n) (0) 16 .rwl 0 [(100, 65535)]
def TRK_LW_GAIN (n : Nat) : RF := RF.mk' (0x20084 + 0x1000 * n) (0) 32 .rwl 0 []
def TRK_LW_AUX_ZLIM_KG (n : Nat) : RF := RF.mk' (0x20088 + 0x1000 * n) (16) 16 .rwl 40 [(0, 1000)]
def TRK_LW_AUX_STALE_H (n : Nat) : RF := RF.mk' (0x20088 + 0x1000 * n) (0) 8 .rwl 24 [(1, 168)]
def TRK_LW_ZINIT (n : Nat) : RF := RF.mk' (0x2008C + 0x1000 * n) (0) 32 .rwl 0 []
/-! 06_car_position.md: CEn:TRK_LW_RAW (+0x090), TRK_LW_ZERO (+0x094), TRK_LOAD (+0x098), TRK_LOAD_STAT (+0x09C), TRK_LW_ZREJ (+0x0A0) -/
def TRK_LW_RAW (n : Nat) : RF := RF.mk' (0x20090 + 0x1000 * n) (0) 32 .ro 0 []
def TRK_LW_ZERO (n : Nat) : RF := RF.mk' (0x20094 + 0x1000 * n) (0) 32 .ro 0 []
def TRK_LOAD (n : Nat) : RF := RF.mk' (0x20098 + 0x1000 * n) (0) 32 .ro 0 []
def TRK_LOAD_STAT_ZERO_AGE_H (n : Nat) : RF := RF.mk' (0x2009C + 0x1000 * n) (16) 16 .ro 0 []
def TRK_LOAD_STAT_STEADY (n : Nat) : RF := RF.mk' (0x2009C + 0x1000 * n) (3) 1 .ro 0 []
def TRK_LOAD_STAT_FAULT (n : Nat) : RF := RF.mk' (0x2009C + 0x1000 * n) (2) 1 .ro 0 []
def TRK_LOAD_STAT_STALE_ZERO (n : Nat) : RF := RF.mk' (0x2009C + 0x1000 * n) (1) 1 .ro 0 []
def TRK_LOAD_STAT_OVERLOAD (n : Nat) : RF := RF.mk' (0x2009C + 0x1000 * n) (0) 1 .ro 0 []
def TRK_LW_ZREJ (n : Nat) : RF := RF.mk' (0x200A0 + 0x1000 * n) (0) 32 .ro 0 []
/-! 07_stops_motion_drive.md: CEn:MOT_CTRL (+0x100) -/
def MOT_CTRL_AUTO_DWELL_MS (n : Nat) : RF := RF.mk' (0x20100 + 0x1000 * n) (16) 16 .rwl 3000 []
def MOT_CTRL_AUTO_PROF (n : Nat) : RF := RF.mk' (0x20100 + 0x1000 * n) (2) 2 .rwl 0 []
def MOT_CTRL_LEV_EN (n : Nat) : RF := RF.mk' (0x20100 + 0x1000 * n) (1) 1 .rwl 0 []
def MOT_CTRL_AUTO_OPEN (n : Nat) : RF := RF.mk' (0x20100 + 0x1000 * n) (0) 1 .rwl 0 []
/-! 07_stops_motion_drive.md: CEn:MOT_VMAX (+0x104), MOT_AJ (+0x108) -/
def MOT_VMAX (n : Nat) : RF := RF.mk' (0x20104 + 0x1000 * n) (0) 24 .rwl 1000000 [(100000, 10000000)]
def MOT_AJ_J_MAX (n : Nat) : RF := RF.mk' (0x20108 + 0x1000 * n) (16) 16 .rwl 1000 [(100, 4000)]
def MOT_AJ_A_MAX (n : Nat) : RF := RF.mk' (0x20108 + 0x1000 * n) (0) 16 .rwl 500 [(100, 2000)]
/-! 07_stops_motion_drive.md: CEn:MOT_SLOW (+0x10C) -/
def MOT_SLOW_V_INSP (n : Nat) : RF := RF.mk' (0x2010C + 0x1000 * n) (20) 10 .rwl 300 [(50, 630)]
def MOT_SLOW_V_REF (n : Nat) : RF := RF.mk' (0x2010C + 0x1000 * n) (10) 10 .rwl 250 [(50, 1000)]
def MOT_SLOW_V_LEV (n : Nat) : RF := RF.mk' (0x2010C + 0x1000 * n) (0) 10 .rwl 300 [(50, 500)]
/-! 07_stops_motion_drive.md: CEn:MOT_THR (+0x110), MOT_LEV (+0x114) -/
def MOT_THR_TRACK_ERR (n : Nat) : RF := RF.mk' (0x20110 + 0x1000 * n) (16) 16 .rwl 300 [(50, 2000)]
def MOT_THR_TRACK_TICKS (n : Nat) : RF := RF.mk' (0x20110 + 0x1000 * n) (8) 8 .rwl 20 [(1, 255)]
def MOT_THR_CATCH (n : Nat) : RF := RF.mk' (0x20110 + 0x1000 * n) (0) 8 .rwl 10 [(1, 100)]
def MOT_LEV_RELEV_UM (n : Nat) : RF := RF.mk' (0x20114 + 0x1000 * n) (0) 16 .rwl 15000 [(5000, 20000)]
/-! 07_stops_motion_drive.md: CEn:MOT_SERVEk (+0x118 + 4 × k, k = 0…3) -/
def MOT_SERVE (n k : Nat) : RF := RF.mk' (0x20118 + 0x1000 * n + 0x4 * k) (0) 32 .rwl 4294967295 []
/-! 07_stops_motion_drive.md: CEn:MOT_STAT (+0x130) -/
def MOT_STAT_TARGET (n : Nat) : RF := RF.mk' (0x20130 + 0x1000 * n) (24) 8 .ro 255 []
def MOT_STAT_HORIZON (n : Nat) : RF := RF.mk' (0x20130 + 0x1000 * n) (16) 8 .ro 255 []
def MOT_STAT_TRACK (n : Nat) : RF := RF.mk' (0x20130 + 0x1000 * n) (12) 1 .ro 0 []
def MOT_STAT_REFRUN (n : Nat) : RF := RF.mk' (0x20130 + 0x1000 * n) (11) 1 .ro 0 []
def MOT_STAT_RELEV (n : Nat) : RF := RF.mk' (0x20130 + 0x1000 * n) (10) 1 .ro 0 []
def MOT_STAT_PRESTOP (n : Nat) : RF := RF.mk' (0x20130 + 0x1000 * n) (9) 1 .ro 0 []
def MOT_STAT_LIMITED (n : Nat) : RF := RF.mk' (0x20130 + 0x1000 * n) (8) 1 .ro 0 []
def MOT_STAT_COMMITTED (n : Nat) : RF := RF.mk' (0x20130 + 0x1000 * n) (7) 1 .ro 0 []
def MOT_STAT_TRIP (n : Nat) : RF := RF.mk' (0x20130 + 0x1000 * n) (6) 1 .ro 0 []
def MOT_STAT_DIR (n : Nat) : RF := RF.mk' (0x20130 + 0x1000 * n) (4) 2 .ro 0 []
def MOT_STAT_SEG (n : Nat) : RF := RF.mk' (0x20130 + 0x1000 * n) (0) 4 .ro 0 []
/-! 07_stops_motion_drive.md: CEn:MOT_TGT_POS (+0x134), MOT_HZN_POS (+0x138), MOT_VREF (+0x13C), MOT_AREF (+0x140) -/
def MOT_TGT_POS_TGT (n : Nat) : RF := RF.mk' (0x20134 + 0x1000 * n) (0) 32 .ro 0 []
def MOT_HZN_POS_HZN (n : Nat) : RF := RF.mk' (0x20138 + 0x1000 * n) (0) 32 .ro 0 []
def MOT_VREF (n : Nat) : RF := RF.mk' (0x2013C + 0x1000 * n) (0) 32 .ro 0 []
def MOT_AREF (n : Nat) : RF := RF.mk' (0x20140 + 0x1000 * n) (0) 32 .ro 0 []
/-! 07_stops_motion_drive.md: CEn:MOT_ETA_LO (+0x144), MOT_ETA_HI (+0x148) -/
def MOT_ETA_LO (n : Nat) : RF := RF.mk' (0x20144 + 0x1000 * n) (0) 32 .ro 0 []
def MOT_ETA_HI (n : Nat) : RF := RF.mk' (0x20148 + 0x1000 * n) (0) 32 .ro 0 []
/-! 07_stops_motion_drive.md: CEn:MOT_CALL_CARk (+0x150 + 4 × k), MOT_CALL_UPk (+0x160 + 4 × k), MOT_CALL_DNk (+0x170 + 4 × k), k = 0…3 -/
def MOT_CALL_CAR (n k : Nat) : RF := RF.mk' (0x20150 + 0x1000 * n + 0x4 * k) (0) 32 .ro 0 []
def MOT_CALL_UP (n k : Nat) : RF := RF.mk' (0x20160 + 0x1000 * n + 0x4 * k) (0) 32 .ro 0 []
def MOT_CALL_DN (n k : Nat) : RF := RF.mk' (0x20170 + 0x1000 * n + 0x4 * k) (0) 32 .ro 0 []
/-! 07_stops_motion_drive.md: CEn:DRP_CTRL (+0x200), DRP_HOLD (+0x204) -/
def DRP_CTRL_STS_POL (n : Nat) : RF := RF.mk' (0x20200 + 0x1000 * n) (2) 1 .rwl 0 []
def DRP_CTRL_STS_EN (n : Nat) : RF := RF.mk' (0x20200 + 0x1000 * n) (1) 1 .rwl 0 []
def DRP_CTRL_EN (n : Nat) : RF := RF.mk' (0x20200 + 0x1000 * n) (0) 1 .rwl 0 []
def DRP_HOLD_DEC (n : Nat) : RF := RF.mk' (0x20204 + 0x1000 * n) (16) 16 .rwl 800 [(100, 2000)]
def DRP_HOLD_MAX (n : Nat) : RF := RF.mk' (0x20204 + 0x1000 * n) (0) 8 .rwl 40 []
/-! 07_stops_motion_drive.md: CEn:DRP_STAT (+0x208) -/
def DRP_STAT_READY (n : Nat) : RF := RF.mk' (0x20208 + 0x1000 * n) (25) 1 .ro 0 []
def DRP_STAT_SENDING (n : Nat) : RF := RF.mk' (0x20208 + 0x1000 * n) (24) 1 .ro 0 []
def DRP_STAT_HOLD (n : Nat) : RF := RF.mk' (0x20208 + 0x1000 * n) (16) 8 .ro 0 []
def DRP_STAT_SEQ (n : Nat) : RF := RF.mk' (0x20208 + 0x1000 * n) (0) 16 .ro 0 []
/-! 07_stops_motion_drive.md: CEn:DRP_FRAMEk (+0x20C + 4 × k, k = 0…3), DRP_CNT_SENT (+0x21C), DRP_CNT_NRDY (+0x220) -/
def DRP_FRAME (n k : Nat) : RF := RF.mk' (0x2020C + 0x1000 * n + 0x4 * k) (0) 32 .ro 0 []
def DRP_CNT_SENT (n : Nat) : RF := RF.mk' (0x2021C + 0x1000 * n) (0) 32 .ro 0 []
def DRP_CNT_NRDY (n : Nat) : RF := RF.mk' (0x20220 + 0x1000 * n) (0) 32 .ro 0 []
/-! 08_doors.md: CEn:DOR_CTRL (+0x300) -/
def DOR_CTRL_FM_EN (n : Nat) : RF := RF.mk' (0x20300 + 0x1000 * n) (12) 1 .rwl 1 []
def DOR_CTRL_FF_LC_IGN (n : Nat) : RF := RF.mk' (0x20300 + 0x1000 * n) (11) 1 .rwl 0 []
def DOR_CTRL_FF_CP (n : Nat) : RF := RF.mk' (0x20300 + 0x1000 * n) (10) 1 .rwl 0 []
def DOR_CTRL_RC_NUDGE (n : Nat) : RF := RF.mk' (0x20300 + 0x1000 * n) (9) 1 .rwl 1 []
def DOR_CTRL_EXCL (n : Nat) : RF := RF.mk' (0x20300 + 0x1000 * n) (8) 1 .rwl 0 []
def DOR_CTRL_FIT_DB (n : Nat) : RF := RF.mk' (0x20300 + 0x1000 * n) (1) 1 .rwl 0 []
def DOR_CTRL_FIT_DA (n : Nat) : RF := RF.mk' (0x20300 + 0x1000 * n) (0) 1 .rwl 0 []
/-! 08_doors.md: CEn:DOR_MODE (+0x304) -/
def DOR_MODE_NUDGE_EVAC_S (n : Nat) : RF := RF.mk' (0x20304 + 0x1000 * n) (0) 8 .rwl 0 []
/-! 08_doors.md: CEn:DOR_FM_IDX (+0x308), DOR_FM_DATA (+0x30C) -/
def DOR_FM_IDX_DOOR (n : Nat) : RF := RF.mk' (0x20308 + 0x1000 * n) (8) 1 .rw 0 []
def DOR_FM_IDX_BIN (n : Nat) : RF := RF.mk' (0x20308 + 0x1000 * n) (0) 5 .rw 0 []
def DOR_FM_DATA_F_FRIC (n : Nat) : RF := RF.mk' (0x2030C + 0x1000 * n) (0) 16 .rwl 0 []
/-! 09_interlocks_modes.md: CEn:ILK_CTRL (+0x500) -/
def ILK_CTRL_DIS_TICKS (n : Nat) : RF := RF.mk' (0x20500 + 0x1000 * n) (8) 8 .rwl 3 [(1, 16)]
def ILK_CTRL_AUTO_ORPHAN (n : Nat) : RF := RF.mk' (0x20500 + 0x1000 * n) (4) 1 .rwl 1 []
def ILK_CTRL_RELEV_OPEN (n : Nat) : RF := RF.mk' (0x20500 + 0x1000 * n) (3) 1 .rwl 0 []
def ILK_CTRL_AUTO_RECALL (n : Nat) : RF := RF.mk' (0x20500 + 0x1000 * n) (2) 1 .rwl 0 []
def ILK_CTRL_EVAC_LIFT (n : Nat) : RF := RF.mk' (0x20500 + 0x1000 * n) (1) 1 .rwl 0 []
def ILK_CTRL_FF_LIFT (n : Nat) : RF := RF.mk' (0x20500 + 0x1000 * n) (0) 1 .rwl 0 []
/-! 09_interlocks_modes.md: CEn:ILK_RECALL (+0x504) -/
def ILK_RECALL_DOORS (n : Nat) : RF := RF.mk' (0x20504 + 0x1000 * n) (8) 2 .rwl 0 []
def ILK_RECALL_LANDING (n : Nat) : RF := RF.mk' (0x20504 + 0x1000 * n) (0) 7 .rwl 0 []
/-! 09_interlocks_modes.md: CEn:ILK_ROLE0 (+0x508), ILK_ROLE1 (+0x50C) -/
def ILK_ROLE0_INSP_DN (n : Nat) : RF := RF.mk' (0x20508 + 0x1000 * n) (24) 8 .rwl 255 [(0, 27), (255, 255)]
def ILK_ROLE0_INSP_UP (n : Nat) : RF := RF.mk' (0x20508 + 0x1000 * n) (16) 8 .rwl 255 [(0, 27), (255, 255)]
def ILK_ROLE0_INSP_IN (n : Nat) : RF := RF.mk' (0x20508 + 0x1000 * n) (8) 8 .rwl 255 [(0, 27), (255, 255)]
def ILK_ROLE0_SC_IN (n : Nat) : RF := RF.mk' (0x20508 + 0x1000 * n) (0) 8 .rwl 255 [(0, 27), (255, 255)]
def ILK_ROLE1_UCM_RST (n : Nat) : RF := RF.mk' (0x2050C + 0x1000 * n) (24) 8 .rwl 255 [(0, 27), (255, 255)]
def ILK_ROLE1_FF_IN (n : Nat) : RF := RF.mk' (0x2050C + 0x1000 * n) (16) 8 .rwl 255 [(0, 27), (255, 255)]
def ILK_ROLE1_RCL_IN (n : Nat) : RF := RF.mk' (0x2050C + 0x1000 * n) (8) 8 .rwl 255 [(0, 27), (255, 255)]
def ILK_ROLE1_OVL_OUT (n : Nat) : RF := RF.mk' (0x2050C + 0x1000 * n) (0) 8 .rwl 255 [(0, 15), (255, 255)]
/-! 09_interlocks_modes.md: CEn:ILK_UCM (+0x510), ILK_SAFE (+0x514), ILK_OOS (+0x518), ILK_EVR (+0x51C) -/
def ILK_UCM_V_MM (n : Nat) : RF := RF.mk' (0x20510 + 0x1000 * n) (16) 16 .rwl 50 [(10, 500)]
def ILK_UCM_DIST_MM (n : Nat) : RF := RF.mk' (0x20510 + 0x1000 * n) (0) 16 .rwl 100 [(10, 1000)]
def ILK_SAFE_T_ORPHAN_MS (n : Nat) : RF := RF.mk' (0x20514 + 0x1000 * n) (16) 16 .rwl 300 [(100, 5000)]
def ILK_SAFE_SFB_DLY_MS (n : Nat) : RF := RF.mk' (0x20514 + 0x1000 * n) (8) 8 .rwl 20 [(5, 200)]
def ILK_OOS_TRACK_WIN_S (n : Nat) : RF := RF.mk' (0x20518 + 0x1000 * n) (8) 8 .rwl 60 [(1, 255)]
def ILK_OOS_TRACK_MAX (n : Nat) : RF := RF.mk' (0x20518 + 0x1000 * n) (0) 8 .rwl 3 [(1, 15)]
def ILK_EVR_TMO_S (n : Nat) : RF := RF.mk' (0x2051C + 0x1000 * n) (8) 8 .rwl 180 [(30, 180)]
def ILK_EVR_EXIT_MASK (n : Nat) : RF := RF.mk' (0x2051C + 0x1000 * n) (0) 2 .rwl 1 []
/-! 09_interlocks_modes.md: CEn:ILK_STAT (+0x520) -/
def ILK_STAT_MODE (n : Nat) : RF := RF.mk' (0x20520 + 0x1000 * n) (28) 4 .ro 5 []
def ILK_STAT_EVR_STEP (n : Nat) : RF := RF.mk' (0x20520 + 0x1000 * n) (24) 4 .ro 0 []
def ILK_STAT_EVR (n : Nat) : RF := RF.mk' (0x20520 + 0x1000 * n) (23) 1 .ro 0 []
def ILK_STAT_FIRE (n : Nat) : RF := RF.mk' (0x20520 + 0x1000 * n) (22) 1 .ro 0 []
def ILK_STAT_SAFE_ON (n : Nat) : RF := RF.mk' (0x20520 + 0x1000 * n) (21) 1 .ro 0 []
def ILK_STAT_SAFE_LATCH (n : Nat) : RF := RF.mk' (0x20520 + 0x1000 * n) (20) 1 .ro 0 []
def ILK_STAT_SAFE_CAUSE (n : Nat) : RF := RF.mk' (0x20520 + 0x1000 * n) (17) 3 .ro 0 []
def ILK_STAT_MIRROR_FAULT (n : Nat) : RF := RF.mk' (0x20520 + 0x1000 * n) (16) 1 .ro 0 []
def ILK_STAT_MIRROR_OK (n : Nat) : RF := RF.mk' (0x20520 + 0x1000 * n) (15) 1 .ro 0 []
def ILK_STAT_HOLD (n : Nat) : RF := RF.mk' (0x20520 + 0x1000 * n) (11) 1 .ro 0 []
def ILK_STAT_DB (n : Nat) : RF := RF.mk' (0x20520 + 0x1000 * n) (10) 1 .ro 0 []
def ILK_STAT_DA (n : Nat) : RF := RF.mk' (0x20520 + 0x1000 * n) (9) 1 .ro 0 []
def ILK_STAT_RUN (n : Nat) : RF := RF.mk' (0x20520 + 0x1000 * n) (8) 1 .ro 0 []
def ILK_STAT_PREV_MODE (n : Nat) : RF := RF.mk' (0x20520 + 0x1000 * n) (4) 4 .ro 5 []
/-! 09_interlocks_modes.md: CEn:ILK_ACTIVE_F (+0x524), ILK_ACTIVE_C (+0x528) -/
def ILK_ACTIVE_F (n : Nat) : RF := RF.mk' (0x20524 + 0x1000 * n) (1) 13 .ro 0 []
def ILK_ACTIVE_C (n : Nat) : RF := RF.mk' (0x20528 + 0x1000 * n) (0) 16 .ro 0 []
/-! 09_interlocks_modes.md: CEn:ILK_RULEr (+0x540 + 8 × r), ILK_SCOPEr (+0x544 + 8 × r), r = 0…15 -/
def ILK_RULE_EN (n r : Nat) : RF := RF.mk' (0x20540 + 0x1000 * n + 0x8 * r) (31) 1 .rwl 0 []
def ILK_RULE_POL_B (n r : Nat) : RF := RF.mk' (0x20540 + 0x1000 * n + 0x8 * r) (30) 1 .rwl 0 []
def ILK_RULE_POL_A (n r : Nat) : RF := RF.mk' (0x20540 + 0x1000 * n + 0x8 * r) (29) 1 .rwl 0 []
def ILK_RULE_OP (n r : Nat) : RF := RF.mk' (0x20540 + 0x1000 * n + 0x8 * r) (28) 1 .rwl 0 []
def ILK_RULE_SIG_B (n r : Nat) : RF := RF.mk' (0x20540 + 0x1000 * n + 0x8 * r) (20) 8 .rwl 255 []
def ILK_RULE_SIG_A (n r : Nat) : RF := RF.mk' (0x20540 + 0x1000 * n + 0x8 * r) (12) 8 .rwl 0 []
def ILK_RULE_EFFECT (n r : Nat) : RF := RF.mk' (0x20540 + 0x1000 * n + 0x8 * r) (7) 5 .rwl 0 []
def ILK_SCOPE_MODES (n r : Nat) : RF := RF.mk' (0x20544 + 0x1000 * n + 0x8 * r) (16) 7 .rwl 0 []
def ILK_SCOPE_TICKS (n r : Nat) : RF := RF.mk' (0x20544 + 0x1000 * n + 0x8 * r) (8) 8 .rwl 1 [(1, 255)]
/-! 09_interlocks_modes.md: CEn:ILK_CNT_SAFE (+0x5C0), ILK_CNT_UCM (+0x5C4), ILK_CNT_REFUSE (+0x5C8) -/
def ILK_CNT_SAFE (n : Nat) : RF := RF.mk' (0x205C0 + 0x1000 * n) (0) 32 .ro 0 []
def ILK_CNT_UCM (n : Nat) : RF := RF.mk' (0x205C4 + 0x1000 * n) (0) 32 .ro 0 []
def ILK_CNT_REFUSE (n : Nat) : RF := RF.mk' (0x205C8 + 0x1000 * n) (0) 32 .ro 0 []
/-! 10_car_slice_link.md: SLn:SLP_CHIPID (+0x000), SLP_SER_LO (+0x004), SLP_SER_HI (+0x008), SLP_HASH_LO (+0x00C), SLP_HASH_HI (+0x010) -/
def SLP_CHIPID_PART (n : Nat) : RF := RF.mk' (0x40000 + 0x4000 * n) (16) 16 .ro 0 []
def SLP_CHIPID_STEP (n : Nat) : RF := RF.mk' (0x40000 + 0x4000 * n) (8) 8 .ro 0 []
def SLP_SER_LO (n : Nat) : RF := RF.mk' (0x40004 + 0x4000 * n) (0) 32 .ro 0 []
def SLP_SER_HI (n : Nat) : RF := RF.mk' (0x40008 + 0x4000 * n) (0) 32 .ro 0 []
def SLP_HASH_LO (n : Nat) : RF := RF.mk' (0x4000C + 0x4000 * n) (0) 32 .ro 0 []
def SLP_HASH_HI (n : Nat) : RF := RF.mk' (0x40010 + 0x4000 * n) (0) 32 .ro 0 []
/-! 10_car_slice_link.md: SLn:SLP_REC_SER_LO (+0x014), SLP_REC_SER_HI (+0x018), SLP_REC_HASH_LO (+0x01C), SLP_REC_HASH_HI (+0x020) -/
def SLP_REC_SER_LO (n : Nat) : RF := RF.mk' (0x40014 + 0x4000 * n) (0) 32 .ro 0 []
def SLP_REC_SER_HI (n : Nat) : RF := RF.mk' (0x40018 + 0x4000 * n) (0) 32 .ro 0 []
def SLP_REC_HASH_LO (n : Nat) : RF := RF.mk' (0x4001C + 0x4000 * n) (0) 32 .ro 0 []
def SLP_REC_HASH_HI (n : Nat) : RF := RF.mk' (0x40020 + 0x4000 * n) (0) 32 .ro 0 []
/-! 10_car_slice_link.md: SLn:SLP_CTRL (+0x024), SLP_LEASE (+0x028), SLP_RETRY (+0x02C) -/
def SLP_CTRL_EN (n : Nat) : RF := RF.mk' (0x40024 + 0x4000 * n) (0) 1 .rwl 1 []
def SLP_LEASE_G_MS (n : Nat) : RF := RF.mk' (0x40028 + 0x4000 * n) (16) 8 .rwl 2 [(1, 20)]
def SLP_LEASE_L_MS (n : Nat) : RF := RF.mk' (0x40028 + 0x4000 * n) (0) 8 .rwl 20 [(5, 200)]
def SLP_RETRY_T_MS (n : Nat) : RF := RF.mk' (0x4002C + 0x4000 * n) (0) 16 .rwl 500 [(100, 10000)]
/-! 10_car_slice_link.md: SLn:SLP_STAT (+0x030) -/
def SLP_STAT_EPOCH (n : Nat) : RF := RF.mk' (0x40030 + 0x4000 * n) (16) 16 .ro 0 []
def SLP_STAT_DLY_FAIL (n : Nat) : RF := RF.mk' (0x40030 + 0x4000 * n) (15) 1 .ro 0 []
def SLP_STAT_CFG_PEND (n : Nat) : RF := RF.mk' (0x40030 + 0x4000 * n) (14) 1 .ro 0 []
def SLP_STAT_PUSH (n : Nat) : RF := RF.mk' (0x40030 + 0x4000 * n) (13) 1 .ro 0 []
def SLP_STAT_OWN (n : Nat) : RF := RF.mk' (0x40030 + 0x4000 * n) (12) 1 .ro 0 []
def SLP_STAT_LSTATE (n : Nat) : RF := RF.mk' (0x40030 + 0x4000 * n) (10) 2 .ro 1 []
def SLP_STAT_HOLDER (n : Nat) : RF := RF.mk' (0x40030 + 0x4000 * n) (8) 2 .ro 3 []
def SLP_STAT_STALE (n : Nat) : RF := RF.mk' (0x40030 + 0x4000 * n) (7) 1 .ro 1 []
def SLP_STAT_ID_PEND (n : Nat) : RF := RF.mk' (0x40030 + 0x4000 * n) (6) 1 .ro 0 []
def SLP_STAT_LINK (n : Nat) : RF := RF.mk' (0x40030 + 0x4000 * n) (0) 4 .ro 0 []
/-! 10_car_slice_link.md: SLn:SLP_LEASE_STAT (+0x034), SLP_SEED (+0x038), SLP_RETRY_STAT (+0x03C), SLP_BOOT (+0x040), SLP_TURN (+0x044) -/
def SLP_LEASE_STAT_ORPH_MS (n : Nat) : RF := RF.mk' (0x40034 + 0x4000 * n) (16) 16 .ro 0 []
def SLP_LEASE_STAT_REM_MS (n : Nat) : RF := RF.mk' (0x40034 + 0x4000 * n) (0) 8 .ro 0 []
def SLP_SEED (n : Nat) : RF := RF.mk' (0x40038 + 0x4000 * n) (0) 16 .ro 0 []
def SLP_RETRY_STAT_REM_MS (n : Nat) : RF := RF.mk' (0x4003C + 0x4000 * n) (16) 16 .ro 0 []
def SLP_RETRY_STAT_ATTEMPTS (n : Nat) : RF := RF.mk' (0x4003C + 0x4000 * n) (8) 8 .ro 0 []
def SLP_BOOT (n : Nat) : RF := RF.mk' (0x40040 + 0x4000 * n) (0) 16 .ro 0 []
def SLP_TURN (n : Nat) : RF := RF.mk' (0x40044 + 0x4000 * n) (0) 12 .ro 0 []
/-! 11_field_io.md: SLn:FIO_CTRL (+0x400), FIO_STAT (+0x404) -/
def FIO_CTRL_SCAN (n : Nat) : RF := RF.mk' (0x40400 + 0x4000 * n) (0) 3 .rwl 1 [(0, 6)]
def FIO_STAT_EDGE_PEND (n : Nat) : RF := RF.mk' (0x40404 + 0x4000 * n) (16) 9 .ro 0 []
def FIO_STAT_PROBE (n : Nat) : RF := RF.mk' (0x40404 + 0x4000 * n) (2) 1 .ro 0 []
def FIO_STAT_VS_OK (n : Nat) : RF := RF.mk' (0x40404 + 0x4000 * n) (1) 1 .ro 0 []
def FIO_STAT_FAULT (n : Nat) : RF := RF.mk' (0x40404 + 0x4000 * n) (0) 1 .ro 0 []
/-! 11_field_io.md: SLn:FIO_RAW (+0x408), FIO_VAL (+0x40C), FIO_STUCK (+0x410), FIO_CHAT (+0x414), FIO_WBRK (+0x418) -/
def FIO_RAW (n : Nat) : RF := RF.mk' (0x40408 + 0x4000 * n) (0) 32 .ro 0 []
def FIO_VAL (n : Nat) : RF := RF.mk' (0x4040C + 0x4000 * n) (0) 32 .ro 0 []
def FIO_STUCK (n : Nat) : RF := RF.mk' (0x40410 + 0x4000 * n) (0) 32 .ro 0 []
def FIO_CHAT (n : Nat) : RF := RF.mk' (0x40414 + 0x4000 * n) (0) 32 .ro 0 []
def FIO_WBRK (n : Nat) : RF := RF.mk' (0x40418 + 0x4000 * n) (0) 32 .ro 0 []
/-! 11_field_io.md: SLn:FIO_PROFp_A (+0x430 + 8 × p), FIO_PROFp_B (+0x434 + 8 × p), p = 0…3 -/
def FIO_PROF_A_STUCK_S (n p : Nat) : RF := RF.mk' (0x40430 + 0x4000 * n + 0x8 * p) (0) 12 .rwl 0 [(0, 3600)]
def FIO_PROF_B_CHAT_N (n p : Nat) : RF := RF.mk' (0x40434 + 0x4000 * n + 0x8 * p) (24) 8 .rwl 20 [(1, 255)]
def FIO_PROF_B_WB_MS (n p : Nat) : RF := RF.mk' (0x40434 + 0x4000 * n + 0x8 * p) (16) 8 .rwl 20 [(1, 255)]
def FIO_PROF_B_CHAT_MS (n p : Nat) : RF := RF.mk' (0x40434 + 0x4000 * n + 0x8 * p) (0) 14 .rwl 1000 [(0, 0), (1, 10000)]
/-! 11_field_io.md: SLn:FIO_IN_i (+0x450 + 4 × i, i = 0…31) -/
def FIO_IN_PROF (n i : Nat) : RF := RF.mk' (0x40450 + 0x4000 * n + 0x4 * i) (12) 2 .rwl 0 []
def FIO_IN_STAMP (n i : Nat) : RF := RF.mk' (0x40450 + 0x4000 * n + 0x4 * i) (11) 1 .rwl (if i < 28 then 0 else 1) (if i < 28 then [] else [(1, 1)])
def FIO_IN_WB_EN (n i : Nat) : RF := RF.mk' (0x40450 + 0x4000 * n + 0x4 * i) (10) 1 .rwl 0 []
def FIO_IN_SAFE (n i : Nat) : RF := RF.mk' (0x40450 + 0x4000 * n + 0x4 * i) (9) 1 .rwl 0 []
def FIO_IN_POL (n i : Nat) : RF := RF.mk' (0x40450 + 0x4000 * n + 0x4 * i) (8) 1 .rwl 0 []
def FIO_IN_FILT (n i : Nat) : RF := RF.mk' (0x40450 + 0x4000 * n + 0x4 * i) (0) 8 .rwl (if i < 28 then 4 else 20) []
/-! 11_field_io.md: SLn:FIO_OUT_PAR (+0x4D0), FIO_OUT_INIT (+0x4D4), FIO_OUT_DIAG (+0x4D8), FIO_OUT_CMD (+0x4DC) -/
def FIO_OUT_PAR (n : Nat) : RF := RF.mk' (0x404D0 + 0x4000 * n) (0) 8 .rwl 0 []
def FIO_OUT_INIT (n : Nat) : RF := RF.mk' (0x404D4 + 0x4000 * n) (0) 16 .rwl 0 []
def FIO_OUT_DIAG_SB_EN (n : Nat) : RF := RF.mk' (0x404D8 + 0x4000 * n) (16) 16 .rwl 0 []
def FIO_OUT_DIAG_OL_EN (n : Nat) : RF := RF.mk' (0x404D8 + 0x4000 * n) (0) 16 .rwl 0 []
def FIO_OUT_CMD_ROLE (n : Nat) : RF := RF.mk' (0x404DC + 0x4000 * n) (16) 16 .ro 0 []
def FIO_OUT_CMD_ACTION (n : Nat) : RF := RF.mk' (0x404DC + 0x4000 * n) (0) 16 .ro 0 []
/-! 11_field_io.md: SLn:FIO_SAFE_CFG (+0x4E0), FIO_SAFE_STAT (+0x4E4) -/
def FIO_SAFE_CFG_SFB_INV_B (n : Nat) : RF := RF.mk' (0x404E0 + 0x4000 * n) (1) 1 .rwl 0 []
def FIO_SAFE_CFG_SFB_INV_A (n : Nat) : RF := RF.mk' (0x404E0 + 0x4000 * n) (0) 1 .rwl 0 []
def FIO_SAFE_STAT_MISM_B (n : Nat) : RF := RF.mk' (0x404E4 + 0x4000 * n) (5) 1 .ro 0 []
def FIO_SAFE_STAT_MISM_A (n : Nat) : RF := RF.mk' (0x404E4 + 0x4000 * n) (4) 1 .ro 0 []
def FIO_SAFE_STAT_SFB_B (n : Nat) : RF := RF.mk' (0x404E4 + 0x4000 * n) (3) 1 .ro 0 []
def FIO_SAFE_STAT_SFB_A (n : Nat) : RF := RF.mk' (0x404E4 + 0x4000 * n) (2) 1 .ro 0 []
def FIO_SAFE_STAT_TRAIN_B (n : Nat) : RF := RF.mk' (0x404E4 + 0x4000 * n) (1) 1 .ro 0 []
def FIO_SAFE_STAT_TRAIN_A (n : Nat) : RF := RF.mk' (0x404E4 + 0x4000 * n) (0) 1 .ro 0 []
/-! 11_field_io.md: SLn:FIO_PROBE (+0x4E8) -/
def FIO_PROBE_DONE (n : Nat) : RF := RF.mk' (0x404E8 + 0x4000 * n) (31) 1 .ro 0 []
def FIO_PROBE_RESULT (n : Nat) : RF := RF.mk' (0x404E8 + 0x4000 * n) (24) 1 .ro 0 []
def FIO_PROBE_CHANNEL (n : Nat) : RF := RF.mk' (0x404E8 + 0x4000 * n) (8) 5 .rw 0 [(0, 19)]
def FIO_PROBE_STEP (n : Nat) : RF := RF.mk' (0x404E8 + 0x4000 * n) (0) 2 .rw 0 [(0, 2)]
/-! 12_lamps_helea.md: SLn:LMP_S_CFG (+0x900), LMP_S_NTC (+0x904), LMP_S_DERATE (+0x908) -/
def LMP_S_CFG_VB_MAX (n : Nat) : RF := RF.mk' (0x40900 + 0x4000 * n) (20) 6 .rwl 40 [(10, 60)]
def LMP_S_CFG_SRC_B (n : Nat) : RF := RF.mk' (0x40900 + 0x4000 * n) (17) 1 .rwl 0 []
def LMP_S_CFG_SRC_A (n : Nat) : RF := RF.mk' (0x40900 + 0x4000 * n) (16) 1 .rwl 0 []
def LMP_S_CFG_TEST_EN (n : Nat) : RF := RF.mk' (0x40900 + 0x4000 * n) (8) 7 .rwl 127 []
def LMP_S_CFG_STR_EN (n : Nat) : RF := RF.mk' (0x40900 + 0x4000 * n) (0) 8 .rwl 0 []
def LMP_S_NTC_B (n : Nat) : RF := RF.mk' (0x40904 + 0x4000 * n) (16) 16 .rwl 3435 [(2000, 5000)]
def LMP_S_NTC_R25 (n : Nat) : RF := RF.mk' (0x40904 + 0x4000 * n) (0) 16 .rwl 1000 [(100, 10000)]
def LMP_S_DERATE_KNEE (n : Nat) : RF := RF.mk' (0x40908 + 0x4000 * n) (24) 8 .rwl 60 [(0, 120)]
def LMP_S_DERATE_SLOPE (n : Nat) : RF := RF.mk' (0x40908 + 0x4000 * n) (16) 8 .rwl 20 [(1, 100)]
def LMP_S_DERATE_FLOOR (n : Nat) : RF := RF.mk' (0x40908 + 0x4000 * n) (8) 8 .rwl 40 [(10, 100)]
/-! 12_lamps_helea.md: SLn:LMP_S_STAT (+0x920), LMP_S_VB (+0x924), LMP_S_TEMP (+0x928), LMP_S_FACT (+0x92C) -/
def LMP_S_STAT_LATCH (n : Nat) : RF := RF.mk' (0x40920 + 0x4000 * n) (24) 8 .ro 0 []
def LMP_S_STAT_UNTESTED (n : Nat) : RF := RF.mk' (0x40920 + 0x4000 * n) (16) 8 .ro 0 []
def LMP_S_STAT_ON (n : Nat) : RF := RF.mk' (0x40920 + 0x4000 * n) (8) 8 .ro 0 []
def LMP_S_STAT_FLAGS (n : Nat) : RF := RF.mk' (0x40920 + 0x4000 * n) (0) 8 .ro 0 []
def LMP_S_VB_HEAD (n : Nat) : RF := RF.mk' (0x40924 + 0x4000 * n) (16) 16 .ro 0 []
def LMP_S_VB (n : Nat) : RF := RF.mk' (0x40924 + 0x4000 * n) (0) 16 .ro 0 []
def LMP_S_TEMP_DIE (n : Nat) : RF := RF.mk' (0x40928 + 0x4000 * n) (16) 8 .ro 0 []
def LMP_S_TEMP_TB (n : Nat) : RF := RF.mk' (0x40928 + 0x4000 * n) (8) 8 .ro 0 []
def LMP_S_TEMP_TA (n : Nat) : RF := RF.mk' (0x40928 + 0x4000 * n) (0) 8 .ro 0 []
def LMP_S_FACT_FB (n : Nat) : RF := RF.mk' (0x4092C + 0x4000 * n) (8) 8 .ro 0 []
def LMP_S_FACT_FA (n : Nat) : RF := RF.mk' (0x4092C + 0x4000 * n) (0) 8 .ro 0 []
/-! 12_lamps_helea.md: SLn:HLC_CTRL (+0xA00), HLC_PORTp (+0xA04 + 4 × p) -/
def HLC_CTRL_EN1 (n : Nat) : RF := RF.mk' (0x40A00 + 0x4000 * n) (25) 1 .rwl 0 []
def HLC_CTRL_EN0 (n : Nat) : RF := RF.mk' (0x40A00 + 0x4000 * n) (24) 1 .rwl 0 []
def HLC_CTRL_PERIOD_US (n : Nat) : RF := RF.mk' (0x40A00 + 0x4000 * n) (0) 17 .rwl 20000 [(16500, 100000)]
def HLC_PORT_ORPH_SCENE (n p : Nat) : RF := RF.mk' (0x40A04 + 0x4000 * n + 0x4 * p) (24) 8 .rwl 0 []
def HLC_PORT_RETEST_FR (n p : Nat) : RF := RF.mk' (0x40A04 + 0x4000 * n + 0x4 * p) (16) 8 .rwl 50 [(1, 255)]
def HLC_PORT_NODES (n p : Nat) : RF := RF.mk' (0x40A04 + 0x4000 * n + 0x4 * p) (0) 8 .rwl 0 [(0, 128)]
/-! 12_lamps_helea.md: SLn:HLC_STATp (+0xA10 + 4 × p), HLC_SHDp (+0xA18 + 4 × p) -/
def HLC_STAT_STATE (n p : Nat) : RF := RF.mk' (0x40A10 + 0x4000 * n + 0x4 * p) (24) 2 .ro 0 []
def HLC_STAT_REACH (n p : Nat) : RF := RF.mk' (0x40A10 + 0x4000 * n + 0x4 * p) (16) 8 .ro 0 []
def HLC_STAT_SH_TAG (n p : Nat) : RF := RF.mk' (0x40A10 + 0x4000 * n + 0x4 * p) (0) 16 .ro 0 []
def HLC_SHD_SH_LIB (n p : Nat) : RF := RF.mk' (0x40A18 + 0x4000 * n + 0x4 * p) (8) 8 .ro 0 []
def HLC_SHD_SH_NODE (n p : Nat) : RF := RF.mk' (0x40A18 + 0x4000 * n + 0x4 * p) (0) 8 .ro 0 []
/-! 12_lamps_helea.md: SLn:HLC_SCN_IDX (+0xA40), HLC_SCN_DATA0 (+0xA44), DATA1 (+0xA48), DATA2 (+0xA4C) -/
def HLC_SCN_IDX_SEL (n : Nat) : RF := RF.mk' (0x40A40 + 0x4000 * n) (24) 1 .rw 0 []
def HLC_SCN_IDX_INDEX (n : Nat) : RF := RF.mk' (0x40A40 + 0x4000 * n) (0) 9 .rw 0 [(0, 383)]
def HLC_SCN_DATA0 (n : Nat) : RF := RF.mk' (0x40A44 + 0x4000 * n) (0) 32 .rwl 0 []
def HLC_SCN_DATA1 (n : Nat) : RF := RF.mk' (0x40A48 + 0x4000 * n) (0) 32 .rwl 0 []
def HLC_SCN_DATA2 (n : Nat) : RF := RF.mk' (0x40A4C + 0x4000 * n) (0) 32 .rwl 0 []
/-! 13_shaft_bus.md: SBC_CTRL (0x0_A000) -/
def SBC_CTRL_DEF_CLASS : RF := RF.mk' (0xA000) (16) 3 .rwl 4 [(0, 4)]
def SBC_CTRL_PAIR_B : RF := RF.mk' (0xA000) (9) 1 .rwl 0 []
def SBC_CTRL_PAIR_A : RF := RF.mk' (0xA000) (8) 1 .rwl 0 []
def SBC_CTRL_EN : RF := RF.mk' (0xA000) (0) 4 .rwl 0 []
/-! 13_shaft_bus.md: SBC_PAIRp (0x0_A060 + 4 × p, p = 0 for pair A, 1 for pair B) -/
def SBC_PAIR_SEQ_CLS (p : Nat) : RF := RF.mk' (0xA060 + 0x4 * p) (24) 5 .rwl 3 []
def SBC_PAIR_DUP_MS (p : Nat) : RF := RF.mk' (0xA060 + 0x4 * p) (16) 8 .rwl 50 [(1, 255)]
def SBC_PAIR_SEQ_OFS (p : Nat) : RF := RF.mk' (0xA060 + 0x4 * p) (8) 6 .rwl 0 []
def SBC_PAIR_SEQ_LEN (p : Nat) : RF := RF.mk' (0xA060 + 0x4 * p) (0) 1 .rwl 0 []
/-! 13_shaft_bus.md: SBc_CFG (+0x000), SBc_TDC (+0x00C), SBc_RXSEL (+0x010) -/
def SBC_CH_CFG_PBO (c : Nat) : RF := RF.mk' (0xA400 + 0x400 * c) (24) 8 .rwl 224 [(97, 255)]
def SBC_CH_CFG_AUTO_REC (c : Nat) : RF := RF.mk' (0xA400 + 0x400 * c) (16) 1 .rwl 0 []
def SBC_CH_CFG_TDC_EN (c : Nat) : RF := RF.mk' (0xA400 + 0x400 * c) (2) 1 .rwl 1 []
def SBC_CH_CFG_FD_EN (c : Nat) : RF := RF.mk' (0xA400 + 0x400 * c) (0) 1 .rwl 1 []
def SBC_CH_TDC_TDCO (c : Nat) : RF := RF.mk' (0xA40C + 0x400 * c) (8) 7 .rwl 12 []
def SBC_CH_TDC_TDCF (c : Nat) : RF := RF.mk' (0xA40C + 0x400 * c) (0) 7 .rwl 0 []
def SBC_CH_RXSEL_FIFO1 (c : Nat) : RF := RF.mk' (0xA410 + 0x400 * c) (0) 5 .rwl 24 []
/-! 13_shaft_bus.md: SBc_NBT (+0x004), SBc_DBT (+0x008) -/
def SBC_CH_NBT_BRP (c : Nat) : RF := RF.mk' (0xA404 + 0x400 * c) (24) 8 .rwl 2 [(1, 32)]
def SBC_CH_NBT_TSEG1 (c : Nat) : RF := RF.mk' (0xA404 + 0x400 * c) (16) 8 .rwl 63 [(2, 255)]
def SBC_CH_NBT_TSEG2 (c : Nat) : RF := RF.mk' (0xA404 + 0x400 * c) (8) 8 .rwl 16 [(1, 128)]
def SBC_CH_NBT_SJW (c : Nat) : RF := RF.mk' (0xA404 + 0x400 * c) (0) 7 .rwl 16 [(1, 127)]
def SBC_CH_DBT_BRP (c : Nat) : RF := RF.mk' (0xA408 + 0x400 * c) (24) 8 .rwl 2 [(1, 32)]
def SBC_CH_DBT_TSEG1 (c : Nat) : RF := RF.mk' (0xA408 + 0x400 * c) (16) 5 .rwl 11 [(1, 31)]
def SBC_CH_DBT_TSEG2 (c : Nat) : RF := RF.mk' (0xA408 + 0x400 * c) (8) 5 .rwl 4 [(1, 16)]
def SBC_CH_DBT_SJW (c : Nat) : RF := RF.mk' (0xA408 + 0x400 * c) (0) 4 .rwl 4 [(1, 15)]
/-! 13_shaft_bus.md: SBc_TMOA (+0x014), SBc_TMOB (+0x018), SBc_TMOC (+0x01C) -/
def SBC_CH_TMOA_HI (c : Nat) : RF := RF.mk' (0xA414 + 0x400 * c) (16) 16 .rwl 0 []
def SBC_CH_TMOA_LO (c : Nat) : RF := RF.mk' (0xA414 + 0x400 * c) (0) 16 .rwl 0 []
def SBC_CH_TMOB_HI (c : Nat) : RF := RF.mk' (0xA418 + 0x400 * c) (16) 16 .rwl 0 []
def SBC_CH_TMOB_LO (c : Nat) : RF := RF.mk' (0xA418 + 0x400 * c) (0) 16 .rwl 0 []
def SBC_CH_TMOC_HI (c : Nat) : RF := RF.mk' (0xA41C + 0x400 * c) (16) 16 .ro 0 []
def SBC_CH_TMOC_LO (c : Nat) : RF := RF.mk' (0xA41C + 0x400 * c) (0) 16 .rwl 0 []
/-! 13_shaft_bus.md: SBc_STAT (+0x080), SBc_ERR (+0x084) -/
def SBC_CH_STAT_MIGQ (c : Nat) : RF := RF.mk' (0xA480 + 0x400 * c) (16) 6 .ro 0 []
def SBC_CH_STAT_MBX_USED (c : Nat) : RF := RF.mk' (0xA480 + 0x400 * c) (8) 7 .ro 0 []
def SBC_CH_STAT_RECOVERING (c : Nat) : RF := RF.mk' (0xA480 + 0x400 * c) (4) 1 .ro 0 []
def SBC_CH_STAT_PASSIVE (c : Nat) : RF := RF.mk' (0xA480 + 0x400 * c) (3) 1 .ro 0 []
def SBC_CH_STAT_STATE (c : Nat) : RF := RF.mk' (0xA480 + 0x400 * c) (0) 3 .ro 0 []
def SBC_CH_ERR_LEC (c : Nat) : RF := RF.mk' (0xA484 + 0x400 * c) (16) 3 .ro 0 []
def SBC_CH_ERR_REC (c : Nat) : RF := RF.mk' (0xA484 + 0x400 * c) (8) 8 .ro 0 []
def SBC_CH_ERR_TEC (c : Nat) : RF := RF.mk' (0xA484 + 0x400 * c) (0) 8 .ro 0 []
/-! 14_fault_containment.md: CTN_CTRL (0x0_7800) -/
def CTN_CTRL_CORR_LIM : RF := RF.mk' (0x7800) (8) 8 .rwl 16 [(1, 255)]
def CTN_CTRL_WDT_TICKS : RF := RF.mk' (0x7800) (0) 4 .rwl 2 [(1, 8)]
/-! 14_fault_containment.md: CTN_ISO (0x0_7804), CTN_ISO_IO (0x0_7808) -/
def CTN_ISO_SP : RF := RF.mk' (0x7804) (16) 16 .ro 0 []
def CTN_ISO_CE : RF := RF.mk' (0x7804) (0) 16 .ro 0 []
def CTN_ISO_IO_SB : RF := RF.mk' (0x7808) (2) 4 .ro 0 []
def CTN_ISO_IO_ETH1 : RF := RF.mk' (0x7808) (1) 1 .ro 0 []
def CTN_ISO_IO_ETH0 : RF := RF.mk' (0x7808) (0) 1 .ro 0 []
/-! 14_fault_containment.md: CTN_CE_n (0x0_7810 + 4 × n, n = 0…15) -/
def CTN_CE_LOST (n : Nat) : RF := RF.mk' (0x7810 + 0x4 * n) (16) 16 .ro 0 []
def CTN_CE_VALID (n : Nat) : RF := RF.mk' (0x7810 + 0x4 * n) (3) 1 .ro 0 []
def CTN_CE_CAUSE (n : Nat) : RF := RF.mk' (0x7810 + 0x4 * n) (0) 3 .ro 0 []
/-! 14_fault_containment.md: CTN_LAR (0x0_7850), CTN_LAR_LAST (0x0_7854) -/
def CTN_LAR_SINGLE : RF := RF.mk' (0x7850) (31) 1 .ro 0 []
def CTN_LAR_SPARES : RF := RF.mk' (0x7850) (0) 11 .ro 0 []
def CTN_LAR_LAST_REGION : RF := RF.mk' (0x7854) (28) 4 .ro 0 []
def CTN_LAR_LAST_PAGE : RF := RF.mk' (0x7854) (0) 20 .ro 0 []
/-! 15_duplex_pair.md: PBX_CTRL (0x0_C000), PBX_CFG (0x0_C004), PBX_RETRY (0x0_C008) -/
def PBX_CTRL_TESTED : RF := RF.mk' (0xC000) (2) 1 .rwl 1 []
def PBX_CTRL_EN : RF := RF.mk' (0xC000) (0) 1 .rwl 0 []
def PBX_CFG_BOOT_WAIT_MS : RF := RF.mk' (0xC004) (16) 16 .rwl 3000 [(0, 60000)]
def PBX_CFG_HB_MISS : RF := RF.mk' (0xC004) (0) 8 .rwl 3 [(2, 20)]
def PBX_RETRY_T_MS : RF := RF.mk' (0xC008) (0) 16 .rwl 500 [(100, 10000)]
/-! 15_duplex_pair.md: PBX_STAT (0x0_C00C), PBX_HELD (0x0_C010) -/
def PBX_STAT_PRESUMED_DEAD : RF := RF.mk' (0xC00C) (16) 1 .ro 0 []
def PBX_STAT_IMG_MISMATCH : RF := RF.mk' (0xC00C) (15) 1 .ro 0 []
def PBX_STAT_ID_PEND : RF := RF.mk' (0xC00C) (14) 1 .ro 0 []
def PBX_STAT_LANES : RF := RF.mk' (0xC00C) (12) 2 .ro 0 []
def PBX_STAT_PEER_READY : RF := RF.mk' (0xC00C) (11) 1 .ro 0 []
def PBX_STAT_PEER_ROLE : RF := RF.mk' (0xC00C) (8) 2 .ro 3 []
def PBX_STAT_TESTED : RF := RF.mk' (0xC00C) (7) 1 .ro 1 []
def PBX_STAT_ROLE : RF := RF.mk' (0xC00C) (4) 2 .ro 3 []
def PBX_STAT_LINK : RF := RF.mk' (0xC00C) (0) 4 .ro 0 []
def PBX_HELD_PEER : RF := RF.mk' (0xC010) (16) 16 .ro 0 []
def PBX_HELD_OWN : RF := RF.mk' (0xC010) (0) 16 .ro 0 []
/-! 15_duplex_pair.md: TVT_CTRL (0x0_D000), TVT_STALL (0x0_D004), TVT_STAT (0x0_D008) -/
def TVT_CTRL_FULL_EVERY : RF := RF.mk' (0xD000) (16) 8 .rwl 0 [(0, 0), (1, 255)]
def TVT_CTRL_PERIOD_MS : RF := RF.mk' (0xD000) (0) 8 .rwl 10 [(5, 100)]
def TVT_STALL_STALL_MS : RF := RF.mk' (0xD004) (0) 16 .rwl 100 [(20, 10000)]
def TVT_STAT_DAMAGED : RF := RF.mk' (0xD008) (3) 1 .ro 0 []
def TVT_STAT_READY : RF := RF.mk' (0xD008) (2) 1 .ro 0 []
def TVT_STAT_FULL_PEND : RF := RF.mk' (0xD008) (1) 1 .ro 0 []
def TVT_STAT_INFLIGHT : RF := RF.mk' (0xD008) (0) 1 .ro 0 []
/-! 16_logbook.md: LOG_CTRL (0x0_E000), LOG_RING (0x0_E004), LOG_PREG (0x0_E008) -/
def LOG_CTRL_PF_EN : RF := RF.mk' (0xE000) (8) 1 .rwl 1 []
def LOG_CTRL_MIN_SEV : RF := RF.mk' (0xE000) (0) 3 .rwl 1 [(0, 3)]
def LOG_RING_LOG2SZ : RF := RF.mk' (0xE004) (0) 5 .rwl 22 [(12, 24)]
def LOG_PREG_BASE_MIB : RF := RF.mk' (0xE008) (16) 8 .rwl 8 []
def LOG_PREG_SIZE_MIB : RF := RF.mk' (0xE008) (0) 8 .rwl 8 [(1, 128)]
/-! 16_logbook.md: LOG_STAT (0x0_E00C) -/
def LOG_STAT_PF_INCOMPLETE : RF := RF.mk' (0xE00C) (8) 1 .w1c 0 []
def LOG_STAT_CLR_RECOVERED : RF := RF.mk' (0xE00C) (7) 1 .w1c 0 []
def LOG_STAT_PFAIL : RF := RF.mk' (0xE00C) (6) 1 .ro 0 []
def LOG_STAT_CLEARING : RF := RF.mk' (0xE00C) (5) 1 .ro 0 []
def LOG_STAT_FROZEN : RF := RF.mk' (0xE00C) (4) 1 .ro 0 []
def LOG_STAT_MIR_BEHIND : RF := RF.mk' (0xE00C) (2) 1 .ro 0 []
def LOG_STAT_P_READY : RF := RF.mk' (0xE00C) (1) 1 .ro 0 []
def LOG_STAT_READY : RF := RF.mk' (0xE00C) (0) 1 .ro 0 []
/-! 17_whisk_self_test.md: WHK_CTRL (0x0_F000), WHK_STAT (0x0_F004) -/
def WHK_CTRL_GAP_MS : RF := RF.mk' (0xF000) (8) 8 .rwl 10 []
def WHK_CTRL_ROLL_PSET : RF := RF.mk' (0xF000) (1) 1 .rwl 1 []
def WHK_CTRL_DIAG_EN : RF := RF.mk' (0xF000) (0) 1 .rwl 1 []
def WHK_STAT_QUEUE : RF := RF.mk' (0xF004) (16) 5 .ro 0 []
def WHK_STAT_BUSY : RF := RF.mk' (0xF004) (15) 1 .ro 0 []
def WHK_STAT_KIND : RF := RF.mk' (0xF004) (14) 1 .ro 0 []
def WHK_STAT_ROLL : RF := RF.mk' (0xF004) (13) 1 .ro 0 []
def WHK_STAT_BOOT_FAIL : RF := RF.mk' (0xF004) (12) 1 .ro 0 []
def WHK_STAT_BOOT_DONE : RF := RF.mk' (0xF004) (11) 1 .ro 0 []
def WHK_STAT_DOMAIN : RF := RF.mk' (0xF004) (0) 7 .ro 0 []
/-! 17_whisk_self_test.md: WHK_LFAILk (0x0_F010 + 4 × k), WHK_MFAILk (0x0_F020 + 4 × k), k = 0…3 -/
def WHK_LFAIL (k : Nat) : RF := RF.mk' (0xF010 + 0x4 * k) (0) 32 .ro 0 []
def WHK_MFAIL (k : Nat) : RF := RF.mk' (0xF020 + 0x4 * k) (0) 32 .ro 0 []
/-! 17_whisk_self_test.md: WHK_DSEL (0x0_F040), WHK_DINFO (0x0_F044) -/
def WHK_DSEL_MACRO : RF := RF.mk' (0xF040) (8) 6 .rw 0 []
def WHK_DSEL_DOMAIN : RF := RF.mk' (0xF040) (0) 7 .rw 0 []
def WHK_DINFO_TYPE : RF := RF.mk' (0xF044) (24) 8 .ro 0 []
def WHK_DINFO_CHAIN_LEN : RF := RF.mk' (0xF044) (16) 8 .ro 0 []
def WHK_DINFO_MACROS : RF := RF.mk' (0xF044) (0) 6 .ro 0 []
/-! 17_whisk_self_test.md: WHK_MRES (0x0_F058), WHK_MFAILADDRj (0x0_F05C + 4 × j, j = 0…3) -/
def WHK_MRES_FAIL_CNT : RF := RF.mk' (0xF058) (8) 24 .ro 0 []
def WHK_MRES_NPAIRS : RF := RF.mk' (0xF058) (5) 3 .ro 0 []
def WHK_MRES_OVF : RF := RF.mk' (0xF058) (4) 1 .ro 0 []
def WHK_MRES_RESULT : RF := RF.mk' (0xF058) (0) 2 .ro 0 []
def WHK_MFAILADDR_BIT (j : Nat) : RF := RF.mk' (0xF05C + 0x4 * j) (24) 8 .ro 0 []
def WHK_MFAILADDR_ADDR (j : Nat) : RF := RF.mk' (0xF05C + 0x4 * j) (0) 17 .ro 0 []
/-! 17_whisk_self_test.md: WHK_REPAIR (0x0_F06C), WHK_RROWr (0x0_F070 + 4 × r, r = 0…1), WHK_RCOL (0x0_F078), WHK_OTP_LEFT (0x0_F07C) -/
def WHK_REPAIR_COL_HARD : RF := RF.mk' (0xF06C) (5) 1 .ro 0 []
def WHK_REPAIR_ROW_HARD : RF := RF.mk' (0xF06C) (3) 2 .ro 0 []
def WHK_REPAIR_COL_FREE : RF := RF.mk' (0xF06C) (2) 1 .ro 1 []
def WHK_REPAIR_ROWS_FREE : RF := RF.mk' (0xF06C) (0) 2 .ro 2 []
def WHK_RROW_USED (r : Nat) : RF := RF.mk' (0xF070 + 0x4 * r) (31) 1 .ro 0 []
def WHK_RROW_ADDR (r : Nat) : RF := RF.mk' (0xF070 + 0x4 * r) (0) 17 .ro 0 []
def WHK_RCOL_USED : RF := RF.mk' (0xF078) (31) 1 .ro 0 []
def WHK_RCOL_BIT : RF := RF.mk' (0xF078) (0) 8 .ro 0 []
def WHK_OTP_LEFT_ENTRIES : RF := RF.mk' (0xF07C) (0) 10 .ro 512 []
/-! 17_whisk_self_test.md: WHK_DIAG_CELL (0x0_F090) -/
def WHK_DIAG_CELL : RF := RF.mk' (0xF090) (0) 32 .ro 4294967295 []
/-! 18_power_clocks_reset.md: PWR_CTRL (0x1_0000), PWR_MON (0x1_0004), PWR_TJ_MAX (0x1_0008) -/
def PWR_CTRL_AUTO_IDLE : RF := RF.mk' (0x10000) (0) 1 .rwl 1 []
def PWR_MON_TJ : RF := RF.mk' (0x10004) (16) 16 .ro 0 []
def PWR_MON_TWARN : RF := RF.mk' (0x10004) (8) 1 .ro 0 []
def PWR_MON_AON_OK : RF := RF.mk' (0x10004) (7) 1 .ro 1 []
def PWR_MON_SGMII_OK : RF := RF.mk' (0x10004) (6) 1 .ro 0 []
def PWR_MON_PCIE_OK : RF := RF.mk' (0x10004) (5) 1 .ro 0 []
def PWR_MON_VDDQ_OK : RF := RF.mk' (0x10004) (4) 1 .ro 0 []
def PWR_MON_VDD2_OK : RF := RF.mk' (0x10004) (3) 1 .ro 0 []
def PWR_MON_IO33_OK : RF := RF.mk' (0x10004) (2) 1 .ro 0 []
def PWR_MON_IO18_OK : RF := RF.mk' (0x10004) (1) 1 .ro 0 []
def PWR_MON_CORE_OK : RF := RF.mk' (0x10004) (0) 1 .ro 0 []
def PWR_TJ_MAX : RF := RF.mk' (0x10008) (0) 16 .ro 32768 []
/-! 18_power_clocks_reset.md: PWR_STATk (0x1_0010 + 4 × k, k = 0…13) -/
def PWR_STAT_STATE (k j : Nat) : RF := RF.mk' (0x10010 + 0x4 * k) (4 * j) 4 .ro 6 []
/-! 18_power_clocks_reset.md: CLK_STAT (0x1_0400), CLK_CE (0x1_0404), CLK_TCXO_ERR (0x1_0408), CLK_CNT_UNLOCK (0x1_040C) -/
def CLK_STAT_SPINE_LOCK : RF := RF.mk' (0x10400) (15) 1 .ro 0 []
def CLK_STAT_SP_LOCK : RF := RF.mk' (0x10400) (14) 1 .ro 0 []
def CLK_STAT_PEER_LOCK : RF := RF.mk' (0x10400) (13) 1 .ro 0 []
def CLK_STAT_BUS_LOCK : RF := RF.mk' (0x10400) (12) 1 .ro 0 []
def CLK_STAT_NET_LOCK : RF := RF.mk' (0x10400) (11) 1 .ro 0 []
def CLK_STAT_HOST_LOCK : RF := RF.mk' (0x10400) (10) 1 .ro 0 []
def CLK_STAT_MEM_LOCK : RF := RF.mk' (0x10400) (9) 1 .ro 0 []
def CLK_STAT_SYS_LOCK : RF := RF.mk' (0x10400) (8) 1 .ro 0 []
def CLK_STAT_PCIE_REF_OK : RF := RF.mk' (0x10400) (3) 1 .ro 0 []
def CLK_STAT_REF_SYNTH : RF := RF.mk' (0x10400) (2) 1 .ro 0 []
def CLK_STAT_XTAL_OK : RF := RF.mk' (0x10400) (1) 1 .ro 0 []
def CLK_STAT_TCXO_OK : RF := RF.mk' (0x10400) (0) 1 .ro 0 []
def CLK_CE_RUN : RF := RF.mk' (0x10404) (16) 16 .ro 0 []
def CLK_CE_LOCK : RF := RF.mk' (0x10404) (0) 16 .ro 0 []
def CLK_TCXO_ERR : RF := RF.mk' (0x10408) (0) 32 .ro 0 []
def CLK_CNT_UNLOCK : RF := RF.mk' (0x1040C) (0) 32 .ro 0 []
/-! 18_power_clocks_reset.md: RST_STAT (0x1_0800), RST_CTRL (0x1_0804), RST_CFG (0x1_0808) -/
def RST_STAT_BOOT_DONE : RF := RF.mk' (0x10800) (12) 1 .ro 0 []
def RST_STAT_STEP : RF := RF.mk' (0x10800) (8) 4 .ro 0 []
def RST_STAT_IMAGE : RF := RF.mk' (0x10800) (6) 1 .ro 0 []
def RST_STAT_COLD : RF := RF.mk' (0x10800) (5) 1 .ro 1 []
def RST_STAT_LP4X_KEPT : RF := RF.mk' (0x10800) (4) 1 .ro 0 []
def RST_STAT_CAUSE : RF := RF.mk' (0x10800) (0) 3 .ro 0 []
def RST_CTRL_KEY : RF := RF.mk' (0x10804) (16) 16 .wo 0 []
def RST_CTRL_GO : RF := RF.mk' (0x10804) (0) 1 .wo 0 []
def RST_CFG_WDT_MS : RF := RF.mk' (0x10808) (8) 8 .rwl 10 [(5, 100)]
def RST_CFG_SW_EN : RF := RF.mk' (0x10808) (0) 1 .rwl 0 []
/-! 18_power_clocks_reset.md: RST_CNT (0x1_080C), RST_GT_LO (0x1_0810), RST_GT_HI (0x1_0814), RST_SIG (0x1_0818), RST_BOOT_MS (0x1_081C) -/
def RST_CNT : RF := RF.mk' (0x1080C) (0) 32 .ro 0 []
def RST_GT_LO : RF := RF.mk' (0x10810) (0) 32 .ro 0 []
def RST_GT_HI : RF := RF.mk' (0x10814) (0) 32 .ro 0 []
def RST_SIG_PEBEX : RF := RF.mk' (0x10818) (16) 1 .ro 0 []
def RST_SIG_SP : RF := RF.mk' (0x10818) (0) 16 .ro 0 []
def RST_BOOT_MS : RF := RF.mk' (0x1081C) (0) 16 .ro 0 []
/-! 18_power_clocks_reset.md: RST_CNT_REFUSED (0x1_0820) -/
def RST_CNT_REFUSED : RF := RF.mk' (0x10820) (0) 32 .ro 0 []
/-! 19_setup_registers.md: EVT_STEERs (0x0_2000 + 4 × s, s = 0…127; LDL_CORE) -/
def EVT_STEER_EN (s : Nat) : RF := RF.mk' (0x2000 + 0x4 * s) (31) 1 .rwt (if s < 84 then 1 else 0) []
def EVT_STEER_EQ (s : Nat) : RF := RF.mk' (0x2000 + 0x4 * s) (8) 3 .rwt 0 []
def EVT_STEER_VEC (s : Nat) : RF := RF.mk' (0x2000 + 0x4 * s) (0) 6 .rwt (if s < 40 then s else 0) []
/-! 08_doors.md: SLn:DRV_CFG (+0x0800), DRV_VM (+0x0804), DRV_DA_STAT (+0x0808), DRV_DB_STAT (+0x080C) -/
def DRV_CFG_DEAD (n : Nat) : RF := RF.mk' (0x40800 + 0x4000 * n) (24) 8 .rwl 20 [(5, 100)]
def DRV_CFG_RSH (n : Nat) : RF := RF.mk' (0x40800 + 0x4000 * n) (16) 8 .rwl 20 [(5, 100)]
def DRV_CFG_OCP (n : Nat) : RF := RF.mk' (0x40800 + 0x4000 * n) (8) 8 .rwl 80 [(10, 200)]
def DRV_CFG_VM_UV (n : Nat) : RF := RF.mk' (0x40800 + 0x4000 * n) (0) 8 .rwl 36 [(18, 55)]
def DRV_VM (n : Nat) : RF := RF.mk' (0x40804 + 0x4000 * n) (0) 16 .ro 0 []
def DRV_STAT_OC (n d : Nat) : RF := RF.mk' (0x40808 + 0x4000 * n + 0x4 * d) (7) 1 .ro 0 []
def DRV_STAT_OPEN_A (n d : Nat) : RF := RF.mk' (0x40808 + 0x4000 * n + 0x4 * d) (6) 1 .ro 0 []
def DRV_STAT_OPEN_B (n d : Nat) : RF := RF.mk' (0x40808 + 0x4000 * n + 0x4 * d) (5) 1 .ro 0 []
def DRV_STAT_GATE (n d : Nat) : RF := RF.mk' (0x40808 + 0x4000 * n + 0x4 * d) (4) 1 .ro 0 []
def DRV_STAT_THERM (n d : Nat) : RF := RF.mk' (0x40808 + 0x4000 * n + 0x4 * d) (3) 1 .ro 0 []
def DRV_STAT_VM_RANGE (n d : Nat) : RF := RF.mk' (0x40808 + 0x4000 * n + 0x4 * d) (2) 1 .ro 0 []
def DRV_STAT_EN (n d : Nat) : RF := RF.mk' (0x40808 + 0x4000 * n + 0x4 * d) (1) 1 .ro 0 []
/-! 12_lamps_helea.md: CEn:LMP_STAT (+0x600), LMP_TAG (+0x604), LMP_TID0 (+0x608), LMP_TID1 (+0x60C), LMP_CNT_SWAP (+0x610), LMP_CNT_RESTART (+0x614) -/
def LMP_STAT_PEND1 (n : Nat) : RF := RF.mk' (0x20600 + 0x1000 * n) (9) 1 .ro 0 []
def LMP_STAT_PEND0 (n : Nat) : RF := RF.mk' (0x20600 + 0x1000 * n) (8) 1 .ro 0 []
def LMP_TAG_TAG1 (n : Nat) : RF := RF.mk' (0x20604 + 0x1000 * n) (16) 16 .ro 0 []
def LMP_TAG_TAG0 (n : Nat) : RF := RF.mk' (0x20604 + 0x1000 * n) (0) 16 .ro 0 []
def LMP_TID (n p : Nat) : RF := RF.mk' (0x20608 + 0x1000 * n + 0x4 * p) (0) 32 .ro 0 []
def LMP_CNT_SWAP (n : Nat) : RF := RF.mk' (0x20610 + 0x1000 * n) (0) 32 .ro 0 []
def LMP_CNT_RESTART (n : Nat) : RF := RF.mk' (0x20614 + 0x1000 * n) (0) 32 .ro 0 []
/-! 12_lamps_helea.md: SLn:LMP_S_TRIM0 (+0x90C), LMP_S_TRIM1 (+0x910), LMP_S_ORPH (+0x914) -/
def LMP_S_TRIM (n t j : Nat) : RF := RF.mk' (0x4090C + 0x4000 * n + 0x4 * t) (8 * j) 8 .rwl 255 []
def LMP_S_ORPH_DAC (n : Nat) : RF := RF.mk' (0x40914 + 0x4000 * n) (20) 10 .rwl 0 []
def LMP_S_ORPH_PWM (n : Nat) : RF := RF.mk' (0x40914 + 0x4000 * n) (8) 12 .rwl 0 []
def LMP_S_ORPH_MASK (n : Nat) : RF := RF.mk' (0x40914 + 0x4000 * n) (0) 8 .rwl 0 []
/-! 17_whisk_self_test.md: WHK_HEALTH (0x0_F030), WHK_HEALTH_LAST (0x0_F034), WHK_PEER_HEALTH (0x0_F038), WHK_PEER_LAST (0x0_F03C) -/
def WHK_HEALTH_FAILED : RF := RF.mk' (0xF030) (16) 16 .ro 0 []
def WHK_HEALTH_PASSED : RF := RF.mk' (0xF030) (0) 16 .ro 0 []
def WHK_PEER_HEALTH_FAILED : RF := RF.mk' (0xF038) (16) 16 .ro 0 []
def WHK_PEER_HEALTH_PASSED : RF := RF.mk' (0xF038) (0) 16 .ro 0 []
def WHK_HEALTH_LAST : RF := RF.mk' (0xF034) (0) 7 .ro 0 []
def WHK_PEER_LAST : RF := RF.mk' (0xF03C) (0) 7 .ro 0 []
/-! 17_whisk_self_test.md: WHK_LRES (0x0_F048), WHK_DIAG (0x0_F04C), WHK_DIAG_CHAINS_LO (0x0_F050), WHK_DIAG_CHAINS_HI (0x0_F054) -/
def WHK_LRES_MULTI : RF := RF.mk' (0xF048) (7) 1 .ro 0 []
def WHK_LRES_FIRST_BAD : RF := RF.mk' (0xF048) (5) 2 .ro 0 []
def WHK_LRES_PSET : RF := RF.mk' (0xF048) (3) 2 .ro 0 []
def WHK_LRES_DIAG : RF := RF.mk' (0xF048) (2) 1 .ro 0 []
def WHK_LRES_RESULT : RF := RF.mk' (0xF048) (0) 2 .ro 0 []
def WHK_DIAG_PATTERN : RF := RF.mk' (0xF04C) (16) 16 .ro 65535 []
def WHK_DIAG_CHAIN : RF := RF.mk' (0xF04C) (0) 16 .ro 65535 []
def WHK_DIAG_CHAINS (h : Nat) : RF := RF.mk' (0xF050 + 0x4 * h) (0) 32 .ro 0 []
/-! 02_time_spine.md: PTP_ETHp_* (0x0_4900 + 0x40 × p, p = 0 for ETH0, 1 for ETH1) -/
def PTP_ETH_MACL (p : Nat) : RF := RF.mk' (0x4900 + 0x40 * p) (0) 32 .rwl 0 []
def PTP_ETH_MACH (p : Nat) : RF := RF.mk' (0x4904 + 0x40 * p) (0) 16 .rwl 0 []
def PTP_ETH_IP (p : Nat) : RF := RF.mk' (0x4908 + 0x40 * p) (0) 32 .rwl 0 []
def PTP_ETH_MASK (p : Nat) : RF := RF.mk' (0x490C + 0x40 * p) (0) 32 .rwl 0 []
def PTP_ETH_GW (p : Nat) : RF := RF.mk' (0x4910 + 0x40 * p) (0) 32 .rwl 0 []
def PTP_ETH_VLAN_TAG_EN (p : Nat) : RF := RF.mk' (0x4914 + 0x40 * p) (15) 1 .rwl 0 []
def PTP_ETH_VLAN_PCP (p : Nat) : RF := RF.mk' (0x4914 + 0x40 * p) (12) 3 .rwl 0 []
def PTP_ETH_VLAN_VID (p : Nat) : RF := RF.mk' (0x4914 + 0x40 * p) (0) 12 .rwl 0 []
def PTP_ETH_LAT_RX_LAT (p : Nat) : RF := RF.mk' (0x4918 + 0x40 * p) (16) 16 .rwl 0 []
def PTP_ETH_LAT_TX_LAT (p : Nat) : RF := RF.mk' (0x4918 + 0x40 * p) (0) 16 .rwl 0 []
def PTP_ETH_STAT_RX_ERR (p : Nat) : RF := RF.mk' (0x491C + 0x40 * p) (16) 16 .ro 0 []
def PTP_ETH_STAT_SPEED (p : Nat) : RF := RF.mk' (0x491C + 0x40 * p) (1) 1 .ro 0 []
def PTP_ETH_STAT_LINK (p : Nat) : RF := RF.mk' (0x491C + 0x40 * p) (0) 1 .ro 0 []
/-! 03_host_link.md: RNG_SQq (0x0_1400 + 0x20 × q, q = 0…31) -/
def RNG_SQ_BASE_LO (q : Nat) : RF := RF.mk' (0x1400 + 0x20 * q) (12) 20 .rw 0 []
def RNG_SQ_BASE_HI (q : Nat) : RF := RF.mk' (0x1404 + 0x20 * q) (0) 32 .rw 0 []
def RNG_SQ_CFG_EN (q : Nat) : RF := RF.mk' (0x1408 + 0x20 * q) (31) 1 .rw 0 []
def RNG_SQ_CFG_CQ (q : Nat) : RF := RF.mk' (0x1408 + 0x20 * q) (16) 5 .rw 0 []
def RNG_SQ_CFG_PRIO (q : Nat) : RF := RF.mk' (0x1408 + 0x20 * q) (8) 2 .rw 3 []
def RNG_SQ_CFG_LOG2SZ (q : Nat) : RF := RF.mk' (0x1408 + 0x20 * q) (0) 4 .rw 4 [(4, 16)]
def RNG_SQ_STAT_STALLED (q : Nat) : RF := RF.mk' (0x140C + 0x20 * q) (20) 1 .ro 0 []
def RNG_SQ_STAT_CAUSE (q : Nat) : RF := RF.mk' (0x140C + 0x20 * q) (17) 3 .ro 0 []
def RNG_SQ_STAT_FAULT (q : Nat) : RF := RF.mk' (0x140C + 0x20 * q) (16) 1 .ro 0 []
def RNG_SQ_STAT_HEAD (q : Nat) : RF := RF.mk' (0x140C + 0x20 * q) (0) 16 .ro 0 []
def RNG_SQ_TAIL (q : Nat) : RF := RF.mk' (0x1410 + 0x20 * q) (0) 16 .ro 0 []
def RNG_SQ_SEQ (q : Nat) : RF := RF.mk' (0x1414 + 0x20 * q) (0) 32 .ro 0 []
def RNG_SQ_DSEQ (q : Nat) : RF := RF.mk' (0x1418 + 0x20 * q) (0) 32 .ro 0 []
/-! 03_host_link.md: RNG_CQq (0x0_1800 + 0x20 × q) and RNG_EQe (0x0_1C00 + 0x20 × e) -/
def RNG_CQ_BASE_LO (q : Nat) : RF := RF.mk' (0x1800 + 0x20 * q) (12) 20 .rw 0 []
def RNG_CQ_BASE_HI (q : Nat) : RF := RF.mk' (0x1804 + 0x20 * q) (0) 32 .rw 0 []
def RNG_CQ_CFG_EN (q : Nat) : RF := RF.mk' (0x1808 + 0x20 * q) (31) 1 .rw 0 []
def RNG_CQ_CFG_IEN (q : Nat) : RF := RF.mk' (0x1808 + 0x20 * q) (8) 1 .rw 0 []
def RNG_CQ_CFG_LOG2SZ (q : Nat) : RF := RF.mk' (0x1808 + 0x20 * q) (0) 4 .rw 4 [(4, 16)]
def RNG_CQ_STAT_FULL (q : Nat) : RF := RF.mk' (0x180C + 0x20 * q) (20) 1 .ro 0 []
def RNG_CQ_STAT_CAUSE (q : Nat) : RF := RF.mk' (0x180C + 0x20 * q) (17) 3 .ro 0 []
def RNG_CQ_STAT_FAULT (q : Nat) : RF := RF.mk' (0x180C + 0x20 * q) (16) 1 .ro 0 []
def RNG_CQ_STAT_TAIL (q : Nat) : RF := RF.mk' (0x180C + 0x20 * q) (0) 16 .ro 0 []
def RNG_CQ_HEAD_PHASE (q : Nat) : RF := RF.mk' (0x1810 + 0x20 * q) (16) 1 .ro 1 []
def RNG_CQ_HEAD (q : Nat) : RF := RF.mk' (0x1810 + 0x20 * q) (0) 16 .ro 0 []
def RNG_CQ_MOD_TIME (q : Nat) : RF := RF.mk' (0x1814 + 0x20 * q) (16) 16 .rw 0 []
def RNG_CQ_MOD_CNT (q : Nat) : RF := RF.mk' (0x1814 + 0x20 * q) (0) 8 .rw 1 [(1, 255)]
def RNG_CQ_BACKLOG (q : Nat) : RF := RF.mk' (0x1818 + 0x20 * q) (0) 32 .ro 0 []
def RNG_EQ_BASE_LO (e : Nat) : RF := RF.mk' (0x1C00 + 0x20 * e) (12) 20 .rw 0 []
def RNG_EQ_BASE_HI (e : Nat) : RF := RF.mk' (0x1C04 + 0x20 * e) (0) 32 .rw 0 []
def RNG_EQ_CFG_EN (e : Nat) : RF := RF.mk' (0x1C08 + 0x20 * e) (31) 1 .rw 0 []
def RNG_EQ_CFG_IEN (e : Nat) : RF := RF.mk' (0x1C08 + 0x20 * e) (8) 1 .rw 0 []
def RNG_EQ_CFG_LOG2SZ (e : Nat) : RF := RF.mk' (0x1C08 + 0x20 * e) (0) 4 .rw 4 [(4, 16)]
def RNG_EQ_STAT_FULL (e : Nat) : RF := RF.mk' (0x1C0C + 0x20 * e) (20) 1 .ro 0 []
def RNG_EQ_STAT_CAUSE (e : Nat) : RF := RF.mk' (0x1C0C + 0x20 * e) (17) 3 .ro 0 []
def RNG_EQ_STAT_FAULT (e : Nat) : RF := RF.mk' (0x1C0C + 0x20 * e) (16) 1 .ro 0 []
def RNG_EQ_STAT_TAIL (e : Nat) : RF := RF.mk' (0x1C0C + 0x20 * e) (0) 16 .ro 0 []
def RNG_EQ_HEAD_PHASE (e : Nat) : RF := RF.mk' (0x1C10 + 0x20 * e) (16) 1 .ro 1 []
def RNG_EQ_HEAD (e : Nat) : RF := RF.mk' (0x1C10 + 0x20 * e) (0) 16 .ro 0 []
def RNG_EQ_MOD_TIME (e : Nat) : RF := RF.mk' (0x1C14 + 0x20 * e) (16) 16 .rw 0 []
def RNG_EQ_MOD_CNT (e : Nat) : RF := RF.mk' (0x1C14 + 0x20 * e) (0) 8 .rw 1 [(1, 255)]
def RNG_EQ_LOST (e : Nat) : RF := RF.mk' (0x1C18 + 0x20 * e) (0) 32 .ro 0 []
/-! 06_car_position.md: CEn:TRK counters (+0x060 to +0x07C) -/
def TRK_CNT_IDXCOR (n : Nat) : RF := RF.mk' (0x20060 + 0x1000 * n) (0) 32 .ro 0 []
def TRK_CNT_IDXFLT (n : Nat) : RF := RF.mk' (0x20064 + 0x1000 * n) (0) 32 .ro 0 []
def TRK_CNT_SLEW (n : Nat) : RF := RF.mk' (0x20068 + 0x1000 * n) (0) 32 .ro 0 []
def TRK_CNT_STEP (n : Nat) : RF := RF.mk' (0x2006C + 0x1000 * n) (0) 32 .ro 0 []
def TRK_CNT_MISS (n : Nat) : RF := RF.mk' (0x20070 + 0x1000 * n) (0) 32 .ro 0 []
def TRK_CNT_LATEEDGE (n : Nat) : RF := RF.mk' (0x20074 + 0x1000 * n) (0) 32 .ro 0 []
def TRK_CNT_REREF (n : Nat) : RF := RF.mk' (0x20078 + 0x1000 * n) (0) 32 .ro 0 []
def TRK_CNT_SSIERR (n : Nat) : RF := RF.mk' (0x2007C + 0x1000 * n) (0) 32 .ro 0 []
/-! 07_stops_motion_drive.md: CEn:MOT counters (+0x180 to +0x194) -/
def MOT_CNT_TRIP (n : Nat) : RF := RF.mk' (0x20180 + 0x1000 * n) (0) 32 .ro 0 []
def MOT_CNT_RETGT (n : Nat) : RF := RF.mk' (0x20184 + 0x1000 * n) (0) 32 .ro 0 []
def MOT_CNT_FLY (n : Nat) : RF := RF.mk' (0x20188 + 0x1000 * n) (0) 32 .ro 0 []
def MOT_CNT_PRESTOP (n : Nat) : RF := RF.mk' (0x2018C + 0x1000 * n) (0) 32 .ro 0 []
def MOT_CNT_RELEV (n : Nat) : RF := RF.mk' (0x20190 + 0x1000 * n) (0) 32 .ro 0 []
def MOT_CNT_TRACK (n : Nat) : RF := RF.mk' (0x20194 + 0x1000 * n) (0) 32 .ro 0 []
/-! 08_doors.md: CEn:DOR_d configuration (DA at +0x340, DB at +0x3C0) -/
def DOR_ROLE_LOCK_IN (n d : Nat) : RF := RF.mk' (0x20340 + 0x1000 * n + 0x80 * d) (24) 8 .rwl 255 [(0, 27), (255, 255)]
def DOR_ROLE_BUZ_OUT (n d : Nat) : RF := RF.mk' (0x20340 + 0x1000 * n + 0x80 * d) (16) 8 .rwl 255 [(0, 15), (255, 255)]
def DOR_ROLE_ENC_EN (n d : Nat) : RF := RF.mk' (0x20340 + 0x1000 * n + 0x80 * d) (3) 1 .rwl 0 []
def DOR_ROLE_ENC_DIR (n d : Nat) : RF := RF.mk' (0x20340 + 0x1000 * n + 0x80 * d) (2) 1 .rwl 0 []
def DOR_ROLE_MOT_DIR (n d : Nat) : RF := RF.mk' (0x20340 + 0x1000 * n + 0x80 * d) (1) 1 .rwl 0 []
def DOR_ROLE_STALL (n d : Nat) : RF := RF.mk' (0x20340 + 0x1000 * n + 0x80 * d) (0) 1 .rwl 1 []
def DOR_PROT_DCB (n d : Nat) : RF := RF.mk' (0x20344 + 0x1000 * n + 0x80 * d) (24) 8 .rwl 255 [(0, 27), (255, 255)]
def DOR_PROT_DOB (n d : Nat) : RF := RF.mk' (0x20344 + 0x1000 * n + 0x80 * d) (16) 8 .rwl 255 [(0, 27), (255, 255)]
def DOR_PROT_SE (n d : Nat) : RF := RF.mk' (0x20344 + 0x1000 * n + 0x80 * d) (8) 8 .rwl 255 [(0, 27), (255, 255)]
def DOR_PROT_LC (n d : Nat) : RF := RF.mk' (0x20344 + 0x1000 * n + 0x80 * d) (0) 8 .rwl 255 [(0, 27), (255, 255)]
def DOR_GEOM_UM_FS (n d : Nat) : RF := RF.mk' (0x20348 + 0x1000 * n + 0x80 * d) (16) 16 .rwl 3500 [(100, 20000)]
def DOR_GEOM_WIDTH_MM (n d : Nat) : RF := RF.mk' (0x20348 + 0x1000 * n + 0x80 * d) (0) 16 .rwl 800 [(200, 3000)]
def DOR_ENC_UM_CNT (n d : Nat) : RF := RF.mk' (0x2034C + 0x1000 * n + 0x80 * d) (16) 16 .rwl 0 [(1, 65535)]
def DOR_ENC_CPR (n d : Nat) : RF := RF.mk' (0x2034C + 0x1000 * n + 0x80 * d) (0) 16 .rwl 0 []
def DOR_OPEN_A_OPEN (n d p : Nat) : RF := RF.mk' (0x20350 + 0x1000 * n + 0x80 * d + 0x4 * p) (16) 16 .rwl 800 [(100, 3000)]
def DOR_OPEN_V_OPEN (n d p : Nat) : RF := RF.mk' (0x20350 + 0x1000 * n + 0x80 * d + 0x4 * p) (0) 16 .rwl 300 [(50, 1000)]
def DOR_CLOSE_A_CLOSE (n d : Nat) : RF := RF.mk' (0x20360 + 0x1000 * n + 0x80 * d) (16) 16 .rwl 600 [(100, 3000)]
def DOR_CLOSE_V_CLOSE (n d : Nat) : RF := RF.mk' (0x20360 + 0x1000 * n + 0x80 * d) (0) 16 .rwl 250 [(50, 1000)]
def DOR_SPD_V_NUDGE (n d : Nat) : RF := RF.mk' (0x20364 + 0x1000 * n + 0x80 * d) (16) 16 .rwl 100 [(20, 500)]
def DOR_SPD_V_CREEP (n d : Nat) : RF := RF.mk' (0x20364 + 0x1000 * n + 0x80 * d) (8) 8 .rwl 30 [(5, 100)]
def DOR_SPD_X_APP (n d : Nat) : RF := RF.mk' (0x20364 + 0x1000 * n + 0x80 * d) (0) 8 .rwl 20 [(5, 200)]
def DOR_CUR_I_RUN_MAX (n d : Nat) : RF := RF.mk' (0x20368 + 0x1000 * n + 0x80 * d) (24) 8 .rwl 80 [(1, 255)]
def DOR_CUR_I_RUN_MIN (n d : Nat) : RF := RF.mk' (0x20368 + 0x1000 * n + 0x80 * d) (16) 8 .rwl 40 [(1, 255)]
def DOR_CUR_I_HOLD (n d : Nat) : RF := RF.mk' (0x20368 + 0x1000 * n + 0x80 * d) (8) 8 .rwl 20 []
def DOR_STALLW_DEV_WIN (n d : Nat) : RF := RF.mk' (0x2036C + 0x1000 * n + 0x80 * d) (16) 16 .rwl 128 [(16, 1024)]
def DOR_STALLW_T_E (n d : Nat) : RF := RF.mk' (0x2036C + 0x1000 * n + 0x80 * d) (8) 8 .rwl 10 [(1, 255)]
def DOR_STALLW_T_OBS (n d : Nat) : RF := RF.mk' (0x2036C + 0x1000 * n + 0x80 * d) (0) 8 .rwl 20 [(1, 255)]
def DOR_FORCE_F_LIM (n d : Nat) : RF := RF.mk' (0x20370 + 0x1000 * n + 0x80 * d) (24) 8 .rwl 150 [(50, 150)]
def DOR_FORCE_F_OBS (n d : Nat) : RF := RF.mk' (0x20370 + 0x1000 * n + 0x80 * d) (16) 8 .rwl 60 [(10, 150)]
def DOR_FORCE_K_F (n d : Nat) : RF := RF.mk' (0x20370 + 0x1000 * n + 0x80 * d) (0) 16 .rwl 0 []
def DOR_ENERGY_MASS_KG (n d : Nat) : RF := RF.mk' (0x20374 + 0x1000 * n + 0x80 * d) (16) 16 .rwl 100 [(10, 1000)]
def DOR_ENERGY_KE_NUDGE (n d : Nat) : RF := RF.mk' (0x20374 + 0x1000 * n + 0x80 * d) (8) 8 .rwl 40 [(10, 40)]
def DOR_ENERGY_KE_MAX (n d : Nat) : RF := RF.mk' (0x20374 + 0x1000 * n + 0x80 * d) (0) 8 .rwl 100 [(10, 100)]
def DOR_TIME_NUDGE_S (n d : Nat) : RF := RF.mk' (0x20378 + 0x1000 * n + 0x80 * d) (24) 8 .rwl 20 [(0, 0), (1, 255)]
def DOR_TIME_T_LOCK (n d : Nat) : RF := RF.mk' (0x20378 + 0x1000 * n + 0x80 * d) (16) 8 .rwl 20 [(1, 50)]
def DOR_TIME_REV_MAX (n d : Nat) : RF := RF.mk' (0x20378 + 0x1000 * n + 0x80 * d) (8) 8 .rwl 5 [(1, 15)]
def DOR_TIME_DWELL_AFTER (n d : Nat) : RF := RF.mk' (0x20378 + 0x1000 * n + 0x80 * d) (0) 8 .rwl 10 [(1, 255)]
def DOR_LAD_UODD (n d k : Nat) : RF := RF.mk' (0x2037C + 0x1000 * n + 0x80 * d + 0x4 * k) (16) 16 .rwl (240 * 4 ^ k) []
def DOR_LAD_UEVEN (n d k : Nat) : RF := RF.mk' (0x2037C + 0x1000 * n + 0x80 * d + 0x4 * k) (0) 16 .rwl (120 * 4 ^ k) []
def DOR_CATCHR_CATCH (n d : Nat) : RF := RF.mk' (0x2038C + 0x1000 * n + 0x80 * d) (0) 16 .rwl 20 [(1, 100)]
/-! 08_doors.md: CEn:DOR_d status and counters -/
def DOR_STAT_STATE (n d : Nat) : RF := RF.mk' (0x20390 + 0x1000 * n + 0x80 * d) (28) 4 .ro 0 []
def DOR_STAT_RES (n d : Nat) : RF := RF.mk' (0x20390 + 0x1000 * n + 0x80 * d) (24) 4 .ro 0 []
def DOR_STAT_REFD (n d : Nat) : RF := RF.mk' (0x20390 + 0x1000 * n + 0x80 * d) (23) 1 .ro 0 []
def DOR_STAT_PARTIAL (n d : Nat) : RF := RF.mk' (0x20390 + 0x1000 * n + 0x80 * d) (22) 1 .ro 0 []
def DOR_STAT_NUDGE (n d : Nat) : RF := RF.mk' (0x20390 + 0x1000 * n + 0x80 * d) (21) 1 .ro 0 []
def DOR_STAT_SUSPECT (n d : Nat) : RF := RF.mk' (0x20390 + 0x1000 * n + 0x80 * d) (20) 1 .ro 0 []
def DOR_STAT_ENC_LOST (n d : Nat) : RF := RF.mk' (0x20390 + 0x1000 * n + 0x80 * d) (19) 1 .ro 0 []
def DOR_STAT_LOCK (n d : Nat) : RF := RF.mk' (0x20390 + 0x1000 * n + 0x80 * d) (18) 1 .ro 0 []
def DOR_STAT_LC (n d : Nat) : RF := RF.mk' (0x20390 + 0x1000 * n + 0x80 * d) (17) 1 .ro 0 []
def DOR_STAT_SE (n d : Nat) : RF := RF.mk' (0x20390 + 0x1000 * n + 0x80 * d) (16) 1 .ro 0 []
def DOR_STAT_BOOST (n d : Nat) : RF := RF.mk' (0x20390 + 0x1000 * n + 0x80 * d) (15) 1 .ro 0 []
def DOR_STAT_FM_VALID (n d : Nat) : RF := RF.mk' (0x20390 + 0x1000 * n + 0x80 * d) (14) 1 .ro 0 []
def DOR_STAT_REV (n d : Nat) : RF := RF.mk' (0x20390 + 0x1000 * n + 0x80 * d) (10) 4 .ro 0 []
def DOR_STAT_FAULT (n d : Nat) : RF := RF.mk' (0x20390 + 0x1000 * n + 0x80 * d) (0) 8 .ro 255 []
def DOR_POS (n d : Nat) : RF := RF.mk' (0x20394 + 0x1000 * n + 0x80 * d) (0) 32 .ro 0 []
def DOR_VEL (n d : Nat) : RF := RF.mk' (0x20398 + 0x1000 * n + 0x80 * d) (0) 32 .ro 0 []
def DOR_EST_F_EST (n d : Nat) : RF := RF.mk' (0x2039C + 0x1000 * n + 0x80 * d) (16) 16 .ro 0 []
def DOR_EST_IRUN (n d : Nat) : RF := RF.mk' (0x2039C + 0x1000 * n + 0x80 * d) (0) 16 .ro 0 []
def DOR_CNT_CYC (n d : Nat) : RF := RF.mk' (0x203A0 + 0x1000 * n + 0x80 * d) (0) 32 .ro 0 []
def DOR_CNT_REV (n d : Nat) : RF := RF.mk' (0x203A4 + 0x1000 * n + 0x80 * d) (0) 32 .ro 0 []
def DOR_CNT_OBS (n d : Nat) : RF := RF.mk' (0x203A8 + 0x1000 * n + 0x80 * d) (0) 32 .ro 0 []
def DOR_CNT_NUDGE (n d : Nat) : RF := RF.mk' (0x203AC + 0x1000 * n + 0x80 * d) (0) 32 .ro 0 []
def DOR_CNT_FAULT (n d : Nat) : RF := RF.mk' (0x203B0 + 0x1000 * n + 0x80 * d) (0) 32 .ro 0 []
/-! 09_interlocks_modes.md: CEn:ILK counters and EVR record (+0x52C to +0x53C) -/
def ILK_DIS_CNT (n : Nat) : RF := RF.mk' (0x2052C + 0x1000 * n) (0) 32 .ro 0 []
def ILK_MISS_CNT (n : Nat) : RF := RF.mk' (0x20530 + 0x1000 * n) (0) 32 .ro 0 []
def ILK_TRACK_RUN (n : Nat) : RF := RF.mk' (0x20534 + 0x1000 * n) (0) 8 .ro 0 []
def ILK_EVR_TAG (n : Nat) : RF := RF.mk' (0x20538 + 0x1000 * n) (0) 32 .ro 0 []
def ILK_EVR_LANDING (n : Nat) : RF := RF.mk' (0x2053C + 0x1000 * n) (0) 7 .ro 0 []
/-! 10_car_slice_link.md: SLn:SLP counters (+0x048 to +0x060) -/
def SLP_CNT_DROP (n : Nat) : RF := RF.mk' (0x40048 + 0x4000 * n) (0) 32 .ro 0 []
def SLP_CNT_UP_ERR (n : Nat) : RF := RF.mk' (0x4004C + 0x4000 * n) (0) 32 .ro 0 []
def SLP_CNT_DN_ERR (n : Nat) : RF := RF.mk' (0x40050 + 0x4000 * n) (0) 32 .ro 0 []
def SLP_CNT_RESEND (n : Nat) : RF := RF.mk' (0x40054 + 0x4000 * n) (0) 32 .ro 0 []
def SLP_CNT_FOREIGN (n : Nat) : RF := RF.mk' (0x40058 + 0x4000 * n) (0) 32 .ro 0 []
def SLP_CNT_GRANT (n : Nat) : RF := RF.mk' (0x4005C + 0x4000 * n) (0) 32 .ro 0 []
def SLP_CNT_QFULL (n : Nat) : RF := RF.mk' (0x40060 + 0x4000 * n) (0) 32 .ro 0 []
/-! 11_field_io.md: SLn:FIO_VS (+0x41C) and counters (+0x420 to +0x42C) -/
def FIO_VS (n : Nat) : RF := RF.mk' (0x4041C + 0x4000 * n) (0) 16 .ro 0 []
def FIO_CNT_EDGE (n : Nat) : RF := RF.mk' (0x40420 + 0x4000 * n) (0) 32 .ro 0 []
def FIO_CNT_EDGELOST (n : Nat) : RF := RF.mk' (0x40424 + 0x4000 * n) (0) 32 .ro 0 []
def FIO_CNT_FAULT (n : Nat) : RF := RF.mk' (0x40428 + 0x4000 * n) (0) 32 .ro 0 []
def FIO_CNT_LATCH (n : Nat) : RF := RF.mk' (0x4042C + 0x4000 * n) (0) 32 .ro 0 []
/-! 12_lamps_helea.md: SLn:LMP_S_SETk (+0x930 + 4 × k, k = 0…7), counters (+0x950 to +0x958) -/
def LMP_S_SET_DAC (n k : Nat) : RF := RF.mk' (0x40930 + 0x4000 * n + 0x4 * k) (16) 10 .ro 0 []
def LMP_S_SET_PWM (n k : Nat) : RF := RF.mk' (0x40930 + 0x4000 * n + 0x4 * k) (0) 12 .ro 0 []
def LMP_S_CNT_SHORT (n : Nat) : RF := RF.mk' (0x40950 + 0x4000 * n) (0) 32 .ro 0 []
def LMP_S_CNT_OPEN (n : Nat) : RF := RF.mk' (0x40954 + 0x4000 * n) (0) 32 .ro 0 []
def LMP_S_CNT_TEST (n : Nat) : RF := RF.mk' (0x40958 + 0x4000 * n) (0) 32 .ro 0 []
/-! 12_lamps_helea.md: SLn:HLC counters (+0xA20 + 0x10 × p) -/
def HLC_CNT_FRAME (n p : Nat) : RF := RF.mk' (0x40A20 + 0x4000 * n + 0x10 * p) (0) 32 .ro 0 []
def HLC_CNT_BADRET (n p : Nat) : RF := RF.mk' (0x40A24 + 0x4000 * n + 0x10 * p) (0) 32 .ro 0 []
def HLC_CNT_LATE (n p : Nat) : RF := RF.mk' (0x40A28 + 0x4000 * n + 0x10 * p) (0) 32 .ro 0 []
def HLC_CNT_LOCATE (n p : Nat) : RF := RF.mk' (0x40A2C + 0x4000 * n + 0x10 * p) (0) 32 .ro 0 []
/-! 13_shaft_bus.md: SBC_CLSc_r (0x0_A010 + 0x10 × c + 8 × r, c = 0…4, r = 0…1) -/
def SBC_CLS_LO_EN (c r : Nat) : RF := RF.mk' (0xA010 + 0x10 * c + 0x8 * r) (31) 1 .rwl 0 []
def SBC_CLS_LO_IDE (c r : Nat) : RF := RF.mk' (0xA010 + 0x10 * c + 0x8 * r) (30) 1 .rwl 0 []
def SBC_CLS_LO_ID_LO (c r : Nat) : RF := RF.mk' (0xA010 + 0x10 * c + 0x8 * r) (0) 29 .rwl 0 []
def SBC_CLS_HI_ID_HI (c r : Nat) : RF := RF.mk' (0xA014 + 0x10 * c + 0x8 * r) (0) 29 .rwl 0 []
/-! 13_shaft_bus.md: SBc counters (+0x090 to +0x0B4) -/
def SBC_CNT_TX (c : Nat) : RF := RF.mk' (0xA490 + 0x400 * c) (0) 32 .ro 0 []
def SBC_CNT_RX (c : Nat) : RF := RF.mk' (0xA494 + 0x400 * c) (0) 32 .ro 0 []
def SBC_CNT_DUP (c : Nat) : RF := RF.mk' (0xA498 + 0x400 * c) (0) 32 .ro 0 []
def SBC_CNT_MIG (c : Nat) : RF := RF.mk' (0xA49C + 0x400 * c) (0) 32 .ro 0 []
def SBC_CNT_SUPP (c : Nat) : RF := RF.mk' (0xA4A0 + 0x400 * c) (0) 32 .ro 0 []
def SBC_CNT_BUSOFF (c : Nat) : RF := RF.mk' (0xA4A4 + 0x400 * c) (0) 32 .ro 0 []
def SBC_CNT_EXP (c : Nat) : RF := RF.mk' (0xA4A8 + 0x400 * c) (0) 32 .ro 0 []
def SBC_CNT_RXOVF0 (c : Nat) : RF := RF.mk' (0xA4AC + 0x400 * c) (0) 32 .ro 0 []
def SBC_CNT_RXOVF1 (c : Nat) : RF := RF.mk' (0xA4B0 + 0x400 * c) (0) 32 .ro 0 []
def SBC_CNT_RTR (c : Nat) : RF := RF.mk' (0xA4B4 + 0x400 * c) (0) 32 .ro 0 []
/-! 13_shaft_bus.md: SBc_RXf window (+0x100 + 0x80 × f, f = 0…1) -/
def SBC_RX_STAT_LEVEL (c f : Nat) : RF := RF.mk' (0xA500 + 0x400 * c + 0x80 * f) (0) 9 .ro 0 []
def SBC_RX_POP (c f : Nat) : RF := RF.mk' (0xA504 + 0x400 * c + 0x80 * f) (0) 32 .wo 0 []
def SBC_RX_GT_LO (c f : Nat) : RF := RF.mk' (0xA508 + 0x400 * c + 0x80 * f) (0) 32 .ro 0 []
def SBC_RX_GT_HI (c f : Nat) : RF := RF.mk' (0xA50C + 0x400 * c + 0x80 * f) (0) 32 .ro 0 []
def SBC_RX_IDR_FLAGS (c f : Nat) : RF := RF.mk' (0xA510 + 0x400 * c + 0x80 * f) (29) 3 .ro 0 []
def SBC_RX_IDR_ID (c f : Nat) : RF := RF.mk' (0xA510 + 0x400 * c + 0x80 * f) (0) 29 .ro 0 []
def SBC_RX_INFO_ESI (c f : Nat) : RF := RF.mk' (0xA514 + 0x400 * c + 0x80 * f) (11) 1 .ro 0 []
def SBC_RX_INFO_CLASS (c f : Nat) : RF := RF.mk' (0xA514 + 0x400 * c + 0x80 * f) (8) 3 .ro 0 []
def SBC_RX_INFO_LEN (c f : Nat) : RF := RF.mk' (0xA514 + 0x400 * c + 0x80 * f) (0) 8 .ro 0 []
def SBC_RX_DATA (c f j : Nat) : RF := RF.mk' (0xA540 + 0x400 * c + 0x80 * f + 0x4 * j) (0) 32 .ro 0 []
/-! 14_fault_containment.md: CTN counters (0x0_7858 to 0x0_7868) -/
def CTN_CNT_CORR : RF := RF.mk' (0x7858) (0) 32 .ro 0 []
def CTN_CNT_UNCORR : RF := RF.mk' (0x785C) (0) 32 .ro 0 []
def CTN_CNT_RETIRE : RF := RF.mk' (0x7860) (0) 32 .ro 0 []
def CTN_CNT_DOUBLE : RF := RF.mk' (0x7864) (0) 32 .ro 0 []
def CTN_CNT_LOSTCMP : RF := RF.mk' (0x7868) (0) 32 .ro 0 []
/-! 15_duplex_pair.md: Partner identity (0x0_C014 to 0x0_C02C) -/
def PBX_PEER_SER_LO : RF := RF.mk' (0xC014) (0) 32 .ro 0 []
def PBX_PEER_SER_HI : RF := RF.mk' (0xC018) (0) 32 .ro 0 []
def PBX_REC_SER_LO : RF := RF.mk' (0xC01C) (0) 32 .ro 0 []
def PBX_REC_SER_HI : RF := RF.mk' (0xC020) (0) 32 .ro 0 []
def PBX_PEER_HASH : RF := RF.mk' (0xC024) (0) 32 .ro 0 []
def PBX_CONFIRM_LO : RF := RF.mk' (0xC028) (0) 32 .rw 0 []
def PBX_CONFIRM_HI : RF := RF.mk' (0xC02C) (0) 32 .wo 0 []
/-! 15_duplex_pair.md: PBX_DELAY (0x0_C030), PBX_RETRY_STAT (0x0_C034), PBX counters (0x0_C040 to 0x0_C054) -/
def PBX_DELAY_VALID : RF := RF.mk' (0xC030) (31) 1 .ro 0 []
def PBX_DELAY_DELAY_NS : RF := RF.mk' (0xC030) (0) 16 .ro 0 []
def PBX_RETRY_STAT_REM_MS : RF := RF.mk' (0xC034) (16) 16 .ro 0 []
def PBX_RETRY_STAT_ATTEMPTS : RF := RF.mk' (0xC034) (8) 8 .ro 0 []
def PBX_CNT_DROP : RF := RF.mk' (0xC040) (0) 32 .ro 0 []
def PBX_CNT_ERR : RF := RF.mk' (0xC044) (0) 32 .ro 0 []
def PBX_CNT_TAKE : RF := RF.mk' (0xC048) (0) 32 .ro 0 []
def PBX_CNT_HANDOVER : RF := RF.mk' (0xC04C) (0) 32 .ro 0 []
def PBX_CNT_UNCERT : RF := RF.mk' (0xC050) (0) 32 .ro 0 []
def PBX_CNT_DEGR : RF := RF.mk' (0xC054) (0) 32 .ro 0 []
/-! 15_duplex_pair.md: TVT sequence and size registers (0x0_D00C to 0x0_D038) -/
def TVT_TX_SEQ : RF := RF.mk' (0xD00C) (0) 32 .ro 0 []
def TVT_TX_ACK : RF := RF.mk' (0xD010) (0) 32 .ro 0 []
def TVT_RX_SEQ : RF := RF.mk' (0xD014) (0) 32 .ro 0 []
def TVT_RX_GT_LO : RF := RF.mk' (0xD018) (0) 32 .ro 0 []
def TVT_RX_GT_HI : RF := RF.mk' (0xD01C) (0) 32 .ro 0 []
def TVT_LAST_SIZE : RF := RF.mk' (0xD020) (0) 32 .ro 0 []
def TVT_LAST_LAT : RF := RF.mk' (0xD024) (0) 32 .ro 0 []
def TVT_CNT_FULL : RF := RF.mk' (0xD030) (0) 32 .ro 0 []
def TVT_CNT_DELTA : RF := RF.mk' (0xD034) (0) 32 .ro 0 []
def TVT_CNT_REFUSED : RF := RF.mk' (0xD038) (0) 32 .ro 0 []
/-! 16_logbook.md: Sequence and fill registers (0x0_E010 to 0x0_E034) -/
def LOG_SEQ_LO : RF := RF.mk' (0xE010) (0) 32 .ro 0 []
def LOG_SEQ_HI : RF := RF.mk' (0xE014) (0) 32 .ro 0 []
def LOG_OLD_LO : RF := RF.mk' (0xE018) (0) 32 .ro 0 []
def LOG_OLD_HI : RF := RF.mk' (0xE01C) (0) 32 .ro 0 []
def LOG_FILL : RF := RF.mk' (0xE020) (0) 25 .ro 0 []
def LOG_PFILL : RF := RF.mk' (0xE024) (0) 22 .ro 0 []
def LOG_STAGE_HOLD : RF := RF.mk' (0xE028) (16) 14 .ro 0 []
def LOG_STAGE : RF := RF.mk' (0xE028) (0) 13 .ro 0 []
def LOG_FRZ : RF := RF.mk' (0xE02C) (0) 16 .ro 0 []
def LOG_PINNED : RF := RF.mk' (0xE030) (0) 11 .ro 0 []
def LOG_UNMIR : RF := RF.mk' (0xE034) (0) 32 .ro 0 []
/-! 16_logbook.md: Last clear (0x0_E038 to 0x0_E044) -/
def LOG_CLR_LO : RF := RF.mk' (0xE038) (0) 32 .ro 0 []
def LOG_CLR_HI : RF := RF.mk' (0xE03C) (0) 32 .ro 0 []
def LOG_CLR_AUTH : RF := RF.mk' (0xE040) (0) 32 .ro 0 []
def LOG_CLR_CNT : RF := RF.mk' (0xE044) (0) 32 .ro 0 []
/-! 16_logbook.md: Drop and other counters (0x0_E060 to 0x0_E090) -/
def LOG_DROP (s : Nat) : RF := RF.mk' (0xE060 + 0x4 * s) (0) 32 .ro 0 []
def LOG_CNT_BYPASS : RF := RF.mk' (0xE080) (0) 32 .ro 0 []
def LOG_CNT_MIRLOST : RF := RF.mk' (0xE084) (0) 32 .ro 0 []
def LOG_CNT_CRC : RF := RF.mk' (0xE088) (0) 32 .ro 0 []
def LOG_PF_PLANNED : RF := RF.mk' (0xE08C) (0) 32 .ro 0 []
def LOG_PF_WRITTEN : RF := RF.mk' (0xE090) (0) 32 .ro 0 []
/-! 17_whisk_self_test.md: WHK counters (0x0_F080 to 0x0_F08C) -/
def WHK_CNT_PASS : RF := RF.mk' (0xF080) (0) 32 .ro 0 []
def WHK_CNT_FAIL : RF := RF.mk' (0xF084) (0) 32 .ro 0 []
def WHK_CNT_ABANDON : RF := RF.mk' (0xF088) (0) 32 .ro 0 []
def WHK_CNT_ROLL : RF := RF.mk' (0xF08C) (0) 32 .ro 0 []
/-! 19_setup_registers.md: GLB registers (LDL_CORE) -/
def GLB_CHIPID_PART : RF := RF.mk' (0x0) (16) 16 .ro 5696 []
def GLB_CHIPID_STEP : RF := RF.mk' (0x0) (8) 8 .ro 177 []
def GLB_ID_XY : RF := RF.mk' (0x4) (0) 1 .ro 0 []
def GLB_SER_LO : RF := RF.mk' (0x8) (0) 32 .ro 0 []
def GLB_SER_HI : RF := RF.mk' (0xC) (0) 32 .ro 0 []
def GLB_CAR_EN_MASK : RF := RF.mk' (0x10) (0) 16 .rwl 0 []
def GLB_LOCK_KEY : RF := RF.mk' (0x14) (16) 16 .wo 0 []
def GLB_LOCK_SRC : RF := RF.mk' (0x14) (1) 1 .ro 0 []
def GLB_LOCK : RF := RF.mk' (0x14) (0) 1 .w1s 0 []
def GLB_LOCK_ERR_VALID : RF := RF.mk' (0x18) (31) 1 .ro 0 []
def GLB_LOCK_ERR_BLOCK : RF := RF.mk' (0x18) (16) 8 .ro 0 []
def GLB_LOCK_ERR_UNIT : RF := RF.mk' (0x18) (8) 8 .ro 0 []
def GLB_LOCK_ERR_CHECK : RF := RF.mk' (0x18) (0) 8 .ro 0 []
def GLB_CNT_LOCKWR : RF := RF.mk' (0x1C) (0) 32 .ro 0 []
def GLB_SCRATCH : RF := RF.mk' (0x20) (0) 32 .rw 0 []
/-! 19_setup_registers.md: LAR registers (LAR_C) -/
def LAR_STAT_SIZE_MIB : RF := RF.mk' (0x8000) (16) 16 .ro 0 []
def LAR_STAT_SCRUB : RF := RF.mk' (0x8000) (1) 1 .ro 0 []
def LAR_STAT_READY : RF := RF.mk' (0x8000) (0) 1 .ro 0 []
def LAR_TRACE_MIB : RF := RF.mk' (0x8004) (0) 16 .rwl 0 [(0, 1024)]
def LAR_SCRUB_HOURS : RF := RF.mk' (0x8008) (0) 8 .rwl 24 [(1, 72)]
def LAR_FREE_FREE_MIB : RF := RF.mk' (0x800C) (0) 16 .ro 0 []
def LAR_LOG_BASE_MIB : RF := RF.mk' (0x8010) (0) 16 .ro 0 []
def LAR_TRACE_BASE_MIB : RF := RF.mk' (0x8014) (0) 16 .ro 0 []
/-! 19_setup_registers.md: XSP registers (XSP) -/
def XSP_STAT_SIZE_MIB : RF := RF.mk' (0x9000) (16) 16 .ro 0 []
def XSP_STAT_TYPE : RF := RF.mk' (0x9000) (8) 1 .ro 0 []
def XSP_STAT_SYS_OK : RF := RF.mk' (0x9000) (1) 1 .ro 0 []
def XSP_STAT_READY : RF := RF.mk' (0x9000) (0) 1 .ro 0 []
def XSP_CFG_DTR : RF := RF.mk' (0x9004) (8) 1 .rwl 1 []
def XSP_CFG_CLK_MHZ : RF := RF.mk' (0x9004) (0) 8 .rwl 100 [(25, 200)]
def XSP_CNT_ERR : RF := RF.mk' (0x9008) (0) 32 .ro 0 []
/-! 19_setup_registers.md: OTP registers (AON; all loaded from OTP) -/
def OTP_STAT_STORE_KEY : RF := RF.mk' (0x11000) (12) 1 .ro 0 []
def OTP_STAT_PK_REV : RF := RF.mk' (0x11000) (8) 4 .ro 0 []
def OTP_STAT_PK_PROG : RF := RF.mk' (0x11000) (4) 4 .ro 0 []
def OTP_STAT_IMG_REQ : RF := RF.mk' (0x11000) (3) 1 .ro 0 []
def OTP_STAT_REPAIR_KEY : RF := RF.mk' (0x11000) (2) 1 .ro 0 []
def OTP_STAT_LOG_KEY : RF := RF.mk' (0x11000) (1) 1 .ro 0 []
def OTP_STAT_READY : RF := RF.mk' (0x11000) (0) 1 .ro 0 []
def OTP_VID : RF := RF.mk' (0x11004) (0) 16 .ro 0 []
def OTP_SS_SSID : RF := RF.mk' (0x11008) (16) 16 .ro 0 []
def OTP_SS_SSVID : RF := RF.mk' (0x11008) (0) 16 .ro 0 []
def OTP_KEYHASH_HASH (k w : Nat) : RF := RF.mk' (0x11040 + 0x20 * k + 0x4 * w) (0) 32 .ro 0 []
/-! 19_setup_registers.md: SEC registers (LDL_CORE) -/
def SEC_IMG_STAT_KEY : RF := RF.mk' (0x11800) (8) 2 .ro 0 []
def SEC_IMG_STAT_STG_SLOT : RF := RF.mk' (0x11800) (4) 1 .ro 0 []
def SEC_IMG_STAT_STAGED : RF := RF.mk' (0x11800) (3) 1 .ro 0 []
def SEC_IMG_STAT_COM_SLOT : RF := RF.mk' (0x11800) (2) 1 .ro 0 []
def SEC_IMG_STAT_COMMITTED : RF := RF.mk' (0x11800) (1) 1 .ro 0 []
def SEC_IMG_STAT_ACTIVE : RF := RF.mk' (0x11800) (0) 1 .ro 0 []
def SEC_IMG_ID_IMAGE_ID : RF := RF.mk' (0x11804) (0) 32 .ro 0 []
def SEC_IMG_HASH (w : Nat) : RF := RF.mk' (0x11810 + 0x4 * w) (0) 32 .ro 0 []
def SEC_PROG_SEL_ITEM : RF := RF.mk' (0x11840) (0) 4 .rw 0 [(0, 9)]
def SEC_PROG_DATA (w : Nat) : RF := RF.mk' (0x11844 + 0x4 * w) (0) 32 .rw 0 []
def SEC_PROG_GO_KEY : RF := RF.mk' (0x11864) (16) 16 .wo 0 []
def SEC_PROG_GO : RF := RF.mk' (0x11864) (0) 1 .wo 0 []
def SEC_PROG_STAT_DONE : RF := RF.mk' (0x11868) (31) 1 .ro 0 []
def SEC_PROG_STAT_RESULT : RF := RF.mk' (0x11868) (0) 2 .ro 0 []
def SEC_CNT_AUTH : RF := RF.mk' (0x1186C) (0) 32 .ro 0 []
/-! 19_setup_registers.md: SLn:LWT registers (slice configuration and shadows) -/
def LWT_CFG_EXC_EN (n : Nat) : RF := RF.mk' (0x40B00 + 0x4000 * n) (0) 1 .rwl 1 []
def LWT_STAT_RAW (n : Nat) : RF := RF.mk' (0x40B04 + 0x4000 * n) (8) 24 .ro 0 []
def LWT_STAT_EXC_OK (n : Nat) : RF := RF.mk' (0x40B04 + 0x4000 * n) (1) 1 .ro 0 []
def LWT_STAT_LIMIT (n : Nat) : RF := RF.mk' (0x40B04 + 0x4000 * n) (0) 1 .ro 0 []
def LWT_EXC_EXC_MV (n : Nat) : RF := RF.mk' (0x40B08 + 0x4000 * n) (0) 16 .ro 0 []

end Reg

def Reg.rowsTime0 : List RegRow := [
  ⟨0x4000, 0x0, 1, 0x0, 1, 0x0, 1, fun _ _ _ => Reg.TSP_CTRL_PPS_OUT_EN⟩,
  ⟨0x4000, 0x0, 1, 0x0, 1, 0x0, 1, fun _ _ _ => Reg.TSP_CTRL_STEP_FWD_EN⟩,
  ⟨0x4000, 0x0, 1, 0x0, 1, 0x0, 1, fun _ _ _ => Reg.TSP_CTRL_SRC⟩,
  ⟨0x4004, 0x0, 1, 0x0, 1, 0x0, 1, fun _ _ _ => Reg.TSP_STAT_TCXO_FB⟩,
  ⟨0x4004, 0x0, 1, 0x0, 1, 0x0, 1, fun _ _ _ => Reg.TSP_STAT_HOLD_EXP⟩,
  ⟨0x4004, 0x0, 1, 0x0, 1, 0x0, 1, fun _ _ _ => Reg.TSP_STAT_MASTER_BEHIND⟩,
  ⟨0x4004, 0x0, 1, 0x0, 1, 0x0, 1, fun _ _ _ => Reg.TSP_STAT_SLEWING⟩,
  ⟨0x4004, 0x0, 1, 0x0, 1, 0x0, 1, fun _ _ _ => Reg.TSP_STAT_STEPPED⟩,
  ⟨0x4004, 0x0, 1, 0x0, 1, 0x0, 1, fun _ _ _ => Reg.TSP_STAT_GT_VALID⟩,
  ⟨0x4008, 0x0, 1, 0x0, 1, 0x0, 1, fun _ _ _ => Reg.TSP_GT_LO⟩,
  ⟨0x400C, 0x0, 1, 0x0, 1, 0x0, 1, fun _ _ _ => Reg.TSP_GT_HI⟩,
  ⟨0x4010, 0x0, 1, 0x0, 1, 0x0, 1, fun _ _ _ => Reg.TSP_SLEW_MAX_PPM⟩,
  ⟨0x4014, 0x0, 1, 0x0, 1, 0x0, 1, fun _ _ _ => Reg.TSP_CORR_LO⟩,
  ⟨0x4018, 0x0, 1, 0x0, 1, 0x0, 1, fun _ _ _ => Reg.TSP_CORR_HI⟩,
  ⟨0x401C, 0x0, 1, 0x0, 1, 0x0, 1, fun _ _ _ => Reg.TSP_FREQ⟩,
  ⟨0x4020, 0x0, 1, 0x0, 1, 0x0, 1, fun _ _ _ => Reg.TSP_HOLD_MAX_SECONDS⟩,
  ⟨0x4024, 0x0, 1, 0x0, 1, 0x0, 1, fun _ _ _ => Reg.TSP_PPS_CFG_WIDTH⟩,
  ⟨0x4024, 0x0, 1, 0x0, 1, 0x0, 1, fun _ _ _ => Reg.TSP_PPS_CFG_POL⟩,
  ⟨0x4028, 0x0, 1, 0x0, 1, 0x0, 1, fun _ _ _ => Reg.TSP_PPS_OFS⟩,
  ⟨0x402C, 0x0, 1, 0x0, 1, 0x0, 1, fun _ _ _ => Reg.TSP_PPSIN_LO_STAMP_LO⟩,
  ⟨0x4030, 0x0, 1, 0x0, 1, 0x0, 1, fun _ _ _ => Reg.TSP_PPSIN_HI_STAMP_HI⟩,
  ⟨0x4034, 0x0, 1, 0x0, 1, 0x0, 1, fun _ _ _ => Reg.TSP_PPSIN_CNT⟩,
  ⟨0x4038, 0x0, 1, 0x0, 1, 0x0, 1, fun _ _ _ => Reg.TSP_REPL_ERR_ISLAND⟩,
  ⟨0x403C, 0x0, 1, 0x0, 1, 0x0, 1, fun _ _ _ => Reg.TSP_PEER_DIFF⟩,
  ⟨0x4040, 0x0, 1, 0x0, 1, 0x0, 1, fun _ _ _ => Reg.TSP_PEER_LIM⟩,
  ⟨0x4044, 0x0, 1, 0x0, 1, 0x0, 1, fun _ _ _ => Reg.TSP_STEP_CNT⟩,
  ⟨0x4100, 0x4, 16, 0x0, 1, 0x0, 1, fun a _ _ => Reg.TSP_SLDLY_VALID a⟩,
  ⟨0x4100, 0x4, 16, 0x0, 1, 0x0, 1, fun a _ _ => Reg.TSP_SLDLY_ALIGNED a⟩,
  ⟨0x4100, 0x4, 16, 0x0, 1, 0x0, 1, fun a _ _ => Reg.TSP_SLDLY_DELAY_NS a⟩,
  ⟨0x4800, 0x0, 1, 0x0, 1, 0x0, 1, fun _ _ _ => Reg.PTP_CTRL_ANN_TMO⟩,
  ⟨0x4800, 0x0, 1, 0x0, 1, 0x0, 1, fun _ _ _ => Reg.PTP_CTRL_DOMAIN⟩,
  ⟨0x4800, 0x0, 1, 0x0, 1, 0x0, 1, fun _ _ _ => Reg.PTP_CTRL_FAILOVER_EN⟩,
  ⟨0x4800, 0x0, 1, 0x0, 1, 0x0, 1, fun _ _ _ => Reg.PTP_CTRL_PRI_PORT⟩,
  ⟨0x4800, 0x0, 1, 0x0, 1, 0x0, 1, fun _ _ _ => Reg.PTP_CTRL_PROFILE⟩,
  ⟨0x4800, 0x0, 1, 0x0, 1, 0x0, 1, fun _ _ _ => Reg.PTP_CTRL_EN⟩,
  ⟨0x4804, 0x0, 1, 0x0, 1, 0x0, 1, fun _ _ _ => Reg.PTP_STAT_SYNC_RUN⟩,
  ⟨0x4804, 0x0, 1, 0x0, 1, 0x0, 1, fun _ _ _ => Reg.PTP_STAT_STBY_ANN⟩,
  ⟨0x4804, 0x0, 1, 0x0, 1, 0x0, 1, fun _ _ _ => Reg.PTP_STAT_MASTER_OK⟩,
  ⟨0x4804, 0x0, 1, 0x0, 1, 0x0, 1, fun _ _ _ => Reg.PTP_STAT_ACT_PORT⟩,
  ⟨0x4804, 0x0, 1, 0x0, 1, 0x0, 1, fun _ _ _ => Reg.PTP_STAT_STATE⟩]

def Reg.rowsTime1 : List RegRow := [
  ⟨0x4808, 0x0, 1, 0x0, 1, 0x0, 1, fun _ _ _ => Reg.PTP_OFS⟩,
  ⟨0x480C, 0x0, 1, 0x0, 1, 0x0, 1, fun _ _ _ => Reg.PTP_MPD⟩,
  ⟨0x4810, 0x0, 1, 0x0, 1, 0x0, 1, fun _ _ _ => Reg.PTP_GMID_LO⟩,
  ⟨0x4814, 0x0, 1, 0x0, 1, 0x0, 1, fun _ _ _ => Reg.PTP_GMID_HI⟩,
  ⟨0x4818, 0x0, 1, 0x0, 1, 0x0, 1, fun _ _ _ => Reg.PTP_GMINFO_PRIO1⟩,
  ⟨0x4818, 0x0, 1, 0x0, 1, 0x0, 1, fun _ _ _ => Reg.PTP_GMINFO_CLASS⟩,
  ⟨0x4818, 0x0, 1, 0x0, 1, 0x0, 1, fun _ _ _ => Reg.PTP_GMINFO_STEPS_REMOVED⟩,
  ⟨0x481C, 0x0, 1, 0x0, 1, 0x0, 1, fun _ _ _ => Reg.PTP_RATES_LOG_DREQ⟩,
  ⟨0x481C, 0x0, 1, 0x0, 1, 0x0, 1, fun _ _ _ => Reg.PTP_RATES_LOG_ANN⟩,
  ⟨0x481C, 0x0, 1, 0x0, 1, 0x0, 1, fun _ _ _ => Reg.PTP_RATES_LOG_SYNC⟩,
  ⟨0x4820, 0x0, 1, 0x0, 1, 0x0, 1, fun _ _ _ => Reg.PTP_DSCP⟩,
  ⟨0x4824, 0x0, 1, 0x0, 1, 0x0, 1, fun _ _ _ => Reg.PTP_CNT_SYNC⟩,
  ⟨0x4828, 0x0, 1, 0x0, 1, 0x0, 1, fun _ _ _ => Reg.PTP_CNT_DRESP⟩,
  ⟨0x482C, 0x0, 1, 0x0, 1, 0x0, 1, fun _ _ _ => Reg.PTP_CNT_DROP⟩,
  ⟨0x4830, 0x0, 1, 0x0, 1, 0x0, 1, fun _ _ _ => Reg.PTP_GM_CHG⟩,
  ⟨0x4900, 0x40, 2, 0x0, 1, 0x0, 1, fun a _ _ => Reg.PTP_ETH_MACL a⟩,
  ⟨0x4904, 0x40, 2, 0x0, 1, 0x0, 1, fun a _ _ => Reg.PTP_ETH_MACH a⟩,
  ⟨0x4908, 0x40, 2, 0x0, 1, 0x0, 1, fun a _ _ => Reg.PTP_ETH_IP a⟩,
  ⟨0x490C, 0x40, 2, 0x0, 1, 0x0, 1, fun a _ _ => Reg.PTP_ETH_MASK a⟩,
  ⟨0x4910, 0x40, 2, 0x0, 1, 0x0, 1, fun a _ _ => Reg.PTP_ETH_GW a⟩,
  ⟨0x4914, 0x40, 2, 0x0, 1, 0x0, 1, fun a _ _ => Reg.PTP_ETH_VLAN_TAG_EN a⟩,
  ⟨0x4914, 0x40, 2, 0x0, 1, 0x0, 1, fun a _ _ => Reg.PTP_ETH_VLAN_PCP a⟩,
  ⟨0x4914, 0x40, 2, 0x0, 1, 0x0, 1, fun a _ _ => Reg.PTP_ETH_VLAN_VID a⟩,
  ⟨0x4918, 0x40, 2, 0x0, 1, 0x0, 1, fun a _ _ => Reg.PTP_ETH_LAT_RX_LAT a⟩,
  ⟨0x4918, 0x40, 2, 0x0, 1, 0x0, 1, fun a _ _ => Reg.PTP_ETH_LAT_TX_LAT a⟩,
  ⟨0x491C, 0x40, 2, 0x0, 1, 0x0, 1, fun a _ _ => Reg.PTP_ETH_STAT_RX_ERR a⟩,
  ⟨0x491C, 0x40, 2, 0x0, 1, 0x0, 1, fun a _ _ => Reg.PTP_ETH_STAT_SPEED a⟩,
  ⟨0x491C, 0x40, 2, 0x0, 1, 0x0, 1, fun a _ _ => Reg.PTP_ETH_STAT_LINK a⟩]

/-- Rows of the block at 0x4000. -/
def Reg.rowsTime : List RegRow :=
  Reg.rowsTime0 ++ Reg.rowsTime1

def Reg.rowsHost0 : List RegRow := [
  ⟨0x1000, 0x0, 1, 0x0, 1, 0x0, 1, fun _ _ _ => Reg.HST_CTRL_FETCH_EN⟩,
  ⟨0x1004, 0x0, 1, 0x0, 1, 0x0, 1, fun _ _ _ => Reg.HST_STAT_GEN⟩,
  ⟨0x1004, 0x0, 1, 0x0, 1, 0x0, 1, fun _ _ _ => Reg.HST_STAT_SILENT⟩,
  ⟨0x1004, 0x0, 1, 0x0, 1, 0x0, 1, fun _ _ _ => Reg.HST_STAT_D3⟩,
  ⟨0x1004, 0x0, 1, 0x0, 1, 0x0, 1, fun _ _ _ => Reg.HST_STAT_BME⟩,
  ⟨0x1004, 0x0, 1, 0x0, 1, 0x0, 1, fun _ _ _ => Reg.HST_STAT_LAST_RST⟩,
  ⟨0x1008, 0x0, 1, 0x0, 1, 0x0, 1, fun _ _ _ => Reg.HST_WRR_W3⟩,
  ⟨0x1008, 0x0, 1, 0x0, 1, 0x0, 1, fun _ _ _ => Reg.HST_WRR_W2⟩,
  ⟨0x1008, 0x0, 1, 0x0, 1, 0x0, 1, fun _ _ _ => Reg.HST_WRR_W1⟩,
  ⟨0x100C, 0x0, 1, 0x0, 1, 0x0, 1, fun _ _ _ => Reg.HST_HELD⟩,
  ⟨0x1010, 0x0, 1, 0x0, 1, 0x0, 1, fun _ _ _ => Reg.HST_HELD_DISC⟩,
  ⟨0x1014, 0x0, 1, 0x0, 1, 0x0, 1, fun _ _ _ => Reg.HST_HELD_LOST⟩,
  ⟨0x1018, 0x0, 1, 0x0, 1, 0x0, 1, fun _ _ _ => Reg.HST_EVT_LOST⟩,
  ⟨0x101C, 0x0, 1, 0x0, 1, 0x0, 1, fun _ _ _ => Reg.HST_WAKE_EN_EQ⟩,
  ⟨0x1020, 0x0, 1, 0x0, 1, 0x0, 1, fun _ _ _ => Reg.HST_WAKE_RSN_VALID⟩,
  ⟨0x1020, 0x0, 1, 0x0, 1, 0x0, 1, fun _ _ _ => Reg.HST_WAKE_RSN_EQ⟩,
  ⟨0x1020, 0x0, 1, 0x0, 1, 0x0, 1, fun _ _ _ => Reg.HST_WAKE_RSN_HELD⟩,
  ⟨0x1024, 0x0, 1, 0x0, 1, 0x0, 1, fun _ _ _ => Reg.HST_HWD_TMO_MS⟩,
  ⟨0x1028, 0x0, 1, 0x0, 1, 0x0, 1, fun _ _ _ => Reg.HST_HWD_KICK⟩,
  ⟨0x102C, 0x0, 1, 0x0, 1, 0x0, 1, fun _ _ _ => Reg.HST_VIOL_BIND⟩,
  ⟨0x102C, 0x0, 1, 0x0, 1, 0x0, 1, fun _ _ _ => Reg.HST_VIOL_DB_OFF⟩,
  ⟨0x102C, 0x0, 1, 0x0, 1, 0x0, 1, fun _ _ _ => Reg.HST_VIOL_DB_FORM⟩,
  ⟨0x102C, 0x0, 1, 0x0, 1, 0x0, 1, fun _ _ _ => Reg.HST_VIOL_BAR_SIZE⟩,
  ⟨0x1400, 0x20, 32, 0x0, 1, 0x0, 1, fun a _ _ => Reg.RNG_SQ_BASE_LO a⟩,
  ⟨0x1404, 0x20, 32, 0x0, 1, 0x0, 1, fun a _ _ => Reg.RNG_SQ_BASE_HI a⟩,
  ⟨0x1408, 0x20, 32, 0x0, 1, 0x0, 1, fun a _ _ => Reg.RNG_SQ_CFG_EN a⟩,
  ⟨0x1408, 0x20, 32, 0x0, 1, 0x0, 1, fun a _ _ => Reg.RNG_SQ_CFG_CQ a⟩,
  ⟨0x1408, 0x20, 32, 0x0, 1, 0x0, 1, fun a _ _ => Reg.RNG_SQ_CFG_PRIO a⟩,
  ⟨0x1408, 0x20, 32, 0x0, 1, 0x0, 1, fun a _ _ => Reg.RNG_SQ_CFG_LOG2SZ a⟩,
  ⟨0x140C, 0x20, 32, 0x0, 1, 0x0, 1, fun a _ _ => Reg.RNG_SQ_STAT_STALLED a⟩,
  ⟨0x140C, 0x20, 32, 0x0, 1, 0x0, 1, fun a _ _ => Reg.RNG_SQ_STAT_CAUSE a⟩,
  ⟨0x140C, 0x20, 32, 0x0, 1, 0x0, 1, fun a _ _ => Reg.RNG_SQ_STAT_FAULT a⟩,
  ⟨0x140C, 0x20, 32, 0x0, 1, 0x0, 1, fun a _ _ => Reg.RNG_SQ_STAT_HEAD a⟩,
  ⟨0x1410, 0x20, 32, 0x0, 1, 0x0, 1, fun a _ _ => Reg.RNG_SQ_TAIL a⟩,
  ⟨0x1414, 0x20, 32, 0x0, 1, 0x0, 1, fun a _ _ => Reg.RNG_SQ_SEQ a⟩,
  ⟨0x1418, 0x20, 32, 0x0, 1, 0x0, 1, fun a _ _ => Reg.RNG_SQ_DSEQ a⟩,
  ⟨0x1800, 0x20, 32, 0x0, 1, 0x0, 1, fun a _ _ => Reg.RNG_CQ_BASE_LO a⟩,
  ⟨0x1804, 0x20, 32, 0x0, 1, 0x0, 1, fun a _ _ => Reg.RNG_CQ_BASE_HI a⟩,
  ⟨0x1808, 0x20, 32, 0x0, 1, 0x0, 1, fun a _ _ => Reg.RNG_CQ_CFG_EN a⟩,
  ⟨0x1808, 0x20, 32, 0x0, 1, 0x0, 1, fun a _ _ => Reg.RNG_CQ_CFG_IEN a⟩]

def Reg.rowsHost1 : List RegRow := [
  ⟨0x1808, 0x20, 32, 0x0, 1, 0x0, 1, fun a _ _ => Reg.RNG_CQ_CFG_LOG2SZ a⟩,
  ⟨0x180C, 0x20, 32, 0x0, 1, 0x0, 1, fun a _ _ => Reg.RNG_CQ_STAT_FULL a⟩,
  ⟨0x180C, 0x20, 32, 0x0, 1, 0x0, 1, fun a _ _ => Reg.RNG_CQ_STAT_CAUSE a⟩,
  ⟨0x180C, 0x20, 32, 0x0, 1, 0x0, 1, fun a _ _ => Reg.RNG_CQ_STAT_FAULT a⟩,
  ⟨0x180C, 0x20, 32, 0x0, 1, 0x0, 1, fun a _ _ => Reg.RNG_CQ_STAT_TAIL a⟩,
  ⟨0x1810, 0x20, 32, 0x0, 1, 0x0, 1, fun a _ _ => Reg.RNG_CQ_HEAD_PHASE a⟩,
  ⟨0x1810, 0x20, 32, 0x0, 1, 0x0, 1, fun a _ _ => Reg.RNG_CQ_HEAD a⟩,
  ⟨0x1814, 0x20, 32, 0x0, 1, 0x0, 1, fun a _ _ => Reg.RNG_CQ_MOD_TIME a⟩,
  ⟨0x1814, 0x20, 32, 0x0, 1, 0x0, 1, fun a _ _ => Reg.RNG_CQ_MOD_CNT a⟩,
  ⟨0x1818, 0x20, 32, 0x0, 1, 0x0, 1, fun a _ _ => Reg.RNG_CQ_BACKLOG a⟩,
  ⟨0x1C00, 0x20, 8, 0x0, 1, 0x0, 1, fun a _ _ => Reg.RNG_EQ_BASE_LO a⟩,
  ⟨0x1C04, 0x20, 8, 0x0, 1, 0x0, 1, fun a _ _ => Reg.RNG_EQ_BASE_HI a⟩,
  ⟨0x1C08, 0x20, 8, 0x0, 1, 0x0, 1, fun a _ _ => Reg.RNG_EQ_CFG_EN a⟩,
  ⟨0x1C08, 0x20, 8, 0x0, 1, 0x0, 1, fun a _ _ => Reg.RNG_EQ_CFG_IEN a⟩,
  ⟨0x1C08, 0x20, 8, 0x0, 1, 0x0, 1, fun a _ _ => Reg.RNG_EQ_CFG_LOG2SZ a⟩,
  ⟨0x1C0C, 0x20, 8, 0x0, 1, 0x0, 1, fun a _ _ => Reg.RNG_EQ_STAT_FULL a⟩,
  ⟨0x1C0C, 0x20, 8, 0x0, 1, 0x0, 1, fun a _ _ => Reg.RNG_EQ_STAT_CAUSE a⟩,
  ⟨0x1C0C, 0x20, 8, 0x0, 1, 0x0, 1, fun a _ _ => Reg.RNG_EQ_STAT_FAULT a⟩,
  ⟨0x1C0C, 0x20, 8, 0x0, 1, 0x0, 1, fun a _ _ => Reg.RNG_EQ_STAT_TAIL a⟩,
  ⟨0x1C10, 0x20, 8, 0x0, 1, 0x0, 1, fun a _ _ => Reg.RNG_EQ_HEAD_PHASE a⟩,
  ⟨0x1C10, 0x20, 8, 0x0, 1, 0x0, 1, fun a _ _ => Reg.RNG_EQ_HEAD a⟩,
  ⟨0x1C14, 0x20, 8, 0x0, 1, 0x0, 1, fun a _ _ => Reg.RNG_EQ_MOD_TIME a⟩,
  ⟨0x1C14, 0x20, 8, 0x0, 1, 0x0, 1, fun a _ _ => Reg.RNG_EQ_MOD_CNT a⟩,
  ⟨0x1C18, 0x20, 8, 0x0, 1, 0x0, 1, fun a _ _ => Reg.RNG_EQ_LOST a⟩]

/-- Rows of the block at 0x1000. -/
def Reg.rowsHost : List RegRow :=
  Reg.rowsHost0 ++ Reg.rowsHost1

def Reg.rowsLdl : List RegRow := [
  ⟨0x6000, 0x0, 1, 0x0, 1, 0x0, 1, fun _ _ _ => Reg.LDL_CTRL_CUE_AUTH⟩,
  ⟨0x6000, 0x0, 1, 0x0, 1, 0x0, 1, fun _ _ _ => Reg.LDL_CTRL_CUE_EN⟩,
  ⟨0x6004, 0x0, 1, 0x0, 1, 0x0, 1, fun _ _ _ => Reg.LDL_STAT_KEY_VALID⟩,
  ⟨0x6004, 0x0, 1, 0x0, 1, 0x0, 1, fun _ _ _ => Reg.LDL_STAT_READY⟩,
  ⟨0x6008, 0x0, 1, 0x0, 1, 0x0, 1, fun _ _ _ => Reg.LDL_RSV_GROUP⟩,
  ⟨0x6008, 0x0, 1, 0x0, 1, 0x0, 1, fun _ _ _ => Reg.LDL_RSV_ENGINE⟩,
  ⟨0x6100, 0x4, 16, 0x0, 1, 0x0, 1, fun a _ _ => Reg.LDL_OCC_NEAR a⟩,
  ⟨0x6100, 0x4, 16, 0x0, 1, 0x0, 1, fun a _ _ => Reg.LDL_OCC_SLOTS a⟩,
  ⟨0x6140, 0x0, 1, 0x0, 1, 0x0, 1, fun _ _ _ => Reg.LDL_OCC_G_NEAR⟩,
  ⟨0x6140, 0x0, 1, 0x0, 1, 0x0, 1, fun _ _ _ => Reg.LDL_OCC_G_SLOTS⟩,
  ⟨0x6144, 0x0, 1, 0x0, 1, 0x0, 1, fun _ _ _ => Reg.LDL_CHORDS_IN_FLIGHT⟩,
  ⟨0x6180, 0x0, 1, 0x0, 1, 0x0, 1, fun _ _ _ => Reg.LDL_CNT_FIRED⟩,
  ⟨0x6184, 0x0, 1, 0x0, 1, 0x0, 1, fun _ _ _ => Reg.LDL_CNT_LATE⟩,
  ⟨0x6188, 0x0, 1, 0x0, 1, 0x0, 1, fun _ _ _ => Reg.LDL_CNT_EXP⟩,
  ⟨0x618C, 0x0, 1, 0x0, 1, 0x0, 1, fun _ _ _ => Reg.LDL_CNT_CANC⟩,
  ⟨0x6190, 0x0, 1, 0x0, 1, 0x0, 1, fun _ _ _ => Reg.LDL_CNT_RES⟩,
  ⟨0x6194, 0x0, 1, 0x0, 1, 0x0, 1, fun _ _ _ => Reg.LDL_CNT_TOOLATE⟩,
  ⟨0x6200, 0x0, 1, 0x0, 1, 0x0, 1, fun _ _ _ => Reg.LDL_CUE_CFG_TTL⟩,
  ⟨0x6200, 0x0, 1, 0x0, 1, 0x0, 1, fun _ _ _ => Reg.LDL_CUE_CFG_LEAD_MS⟩,
  ⟨0x6200, 0x0, 1, 0x0, 1, 0x0, 1, fun _ _ _ => Reg.LDL_CUE_CFG_DSCP⟩,
  ⟨0x6200, 0x0, 1, 0x0, 1, 0x0, 1, fun _ _ _ => Reg.LDL_CUE_CFG_PORT⟩,
  ⟨0x6204, 0x0, 1, 0x0, 1, 0x0, 1, fun _ _ _ => Reg.LDL_CUE_DST⟩,
  ⟨0x6208, 0x0, 1, 0x0, 1, 0x0, 1, fun _ _ _ => Reg.LDL_CUE_PORT_SRC⟩,
  ⟨0x6208, 0x0, 1, 0x0, 1, 0x0, 1, fun _ _ _ => Reg.LDL_CUE_PORT_DST⟩,
  ⟨0x620C, 0x0, 1, 0x0, 1, 0x0, 1, fun _ _ _ => Reg.LDL_CUE_ID_KEY_ID⟩,
  ⟨0x620C, 0x0, 1, 0x0, 1, 0x0, 1, fun _ _ _ => Reg.LDL_CUE_ID_GROUP⟩,
  ⟨0x6210, 0x4, 8, 0x0, 1, 0x0, 1, fun a _ _ => Reg.LDL_CUE_KEY a⟩,
  ⟨0x6230, 0x0, 1, 0x0, 1, 0x0, 1, fun _ _ _ => Reg.LDL_CUE_SEQ⟩,
  ⟨0x6234, 0x0, 1, 0x0, 1, 0x0, 1, fun _ _ _ => Reg.LDL_CUE_SENT⟩,
  ⟨0x6238, 0x0, 1, 0x0, 1, 0x0, 1, fun _ _ _ => Reg.LDL_CUE_NOLINK⟩]

def Reg.rowsSbc0 : List RegRow := [
  ⟨0xA000, 0x0, 1, 0x0, 1, 0x0, 1, fun _ _ _ => Reg.SBC_CTRL_DEF_CLASS⟩,
  ⟨0xA000, 0x0, 1, 0x0, 1, 0x0, 1, fun _ _ _ => Reg.SBC_CTRL_PAIR_B⟩,
  ⟨0xA000, 0x0, 1, 0x0, 1, 0x0, 1, fun _ _ _ => Reg.SBC_CTRL_PAIR_A⟩,
  ⟨0xA000, 0x0, 1, 0x0, 1, 0x0, 1, fun _ _ _ => Reg.SBC_CTRL_EN⟩,
  ⟨0xA060, 0x4, 2, 0x0, 1, 0x0, 1, fun a _ _ => Reg.SBC_PAIR_SEQ_CLS a⟩,
  ⟨0xA060, 0x4, 2, 0x0, 1, 0x0, 1, fun a _ _ => Reg.SBC_PAIR_DUP_MS a⟩,
  ⟨0xA060, 0x4, 2, 0x0, 1, 0x0, 1, fun a _ _ => Reg.SBC_PAIR_SEQ_OFS a⟩,
  ⟨0xA060, 0x4, 2, 0x0, 1, 0x0, 1, fun a _ _ => Reg.SBC_PAIR_SEQ_LEN a⟩,
  ⟨0xA400, 0x400, 4, 0x0, 1, 0x0, 1, fun a _ _ => Reg.SBC_CH_CFG_PBO a⟩,
  ⟨0xA400, 0x400, 4, 0x0, 1, 0x0, 1, fun a _ _ => Reg.SBC_CH_CFG_AUTO_REC a⟩,
  ⟨0xA400, 0x400, 4, 0x0, 1, 0x0, 1, fun a _ _ => Reg.SBC_CH_CFG_TDC_EN a⟩,
  ⟨0xA400, 0x400, 4, 0x0, 1, 0x0, 1, fun a _ _ => Reg.SBC_CH_CFG_FD_EN a⟩,
  ⟨0xA40C, 0x400, 4, 0x0, 1, 0x0, 1, fun a _ _ => Reg.SBC_CH_TDC_TDCO a⟩,
  ⟨0xA40C, 0x400, 4, 0x0, 1, 0x0, 1, fun a _ _ => Reg.SBC_CH_TDC_TDCF a⟩,
  ⟨0xA410, 0x400, 4, 0x0, 1, 0x0, 1, fun a _ _ => Reg.SBC_CH_RXSEL_FIFO1 a⟩,
  ⟨0xA404, 0x400, 4, 0x0, 1, 0x0, 1, fun a _ _ => Reg.SBC_CH_NBT_BRP a⟩,
  ⟨0xA404, 0x400, 4, 0x0, 1, 0x0, 1, fun a _ _ => Reg.SBC_CH_NBT_TSEG1 a⟩,
  ⟨0xA404, 0x400, 4, 0x0, 1, 0x0, 1, fun a _ _ => Reg.SBC_CH_NBT_TSEG2 a⟩,
  ⟨0xA404, 0x400, 4, 0x0, 1, 0x0, 1, fun a _ _ => Reg.SBC_CH_NBT_SJW a⟩,
  ⟨0xA408, 0x400, 4, 0x0, 1, 0x0, 1, fun a _ _ => Reg.SBC_CH_DBT_BRP a⟩,
  ⟨0xA408, 0x400, 4, 0x0, 1, 0x0, 1, fun a _ _ => Reg.SBC_CH_DBT_TSEG1 a⟩,
  ⟨0xA408, 0x400, 4, 0x0, 1, 0x0, 1, fun a _ _ => Reg.SBC_CH_DBT_TSEG2 a⟩,
  ⟨0xA408, 0x400, 4, 0x0, 1, 0x0, 1, fun a _ _ => Reg.SBC_CH_DBT_SJW a⟩,
  ⟨0xA414, 0x400, 4, 0x0, 1, 0x0, 1, fun a _ _ => Reg.SBC_CH_TMOA_HI a⟩,
  ⟨0xA414, 0x400, 4, 0x0, 1, 0x0, 1, fun a _ _ => Reg.SBC_CH_TMOA_LO a⟩,
  ⟨0xA418, 0x400, 4, 0x0, 1, 0x0, 1, fun a _ _ => Reg.SBC_CH_TMOB_HI a⟩,
  ⟨0xA418, 0x400, 4, 0x0, 1, 0x0, 1, fun a _ _ => Reg.SBC_CH_TMOB_LO a⟩,
  ⟨0xA41C, 0x400, 4, 0x0, 1, 0x0, 1, fun a _ _ => Reg.SBC_CH_TMOC_HI a⟩,
  ⟨0xA41C, 0x400, 4, 0x0, 1, 0x0, 1, fun a _ _ => Reg.SBC_CH_TMOC_LO a⟩,
  ⟨0xA480, 0x400, 4, 0x0, 1, 0x0, 1, fun a _ _ => Reg.SBC_CH_STAT_MIGQ a⟩,
  ⟨0xA480, 0x400, 4, 0x0, 1, 0x0, 1, fun a _ _ => Reg.SBC_CH_STAT_MBX_USED a⟩,
  ⟨0xA480, 0x400, 4, 0x0, 1, 0x0, 1, fun a _ _ => Reg.SBC_CH_STAT_RECOVERING a⟩,
  ⟨0xA480, 0x400, 4, 0x0, 1, 0x0, 1, fun a _ _ => Reg.SBC_CH_STAT_PASSIVE a⟩,
  ⟨0xA480, 0x400, 4, 0x0, 1, 0x0, 1, fun a _ _ => Reg.SBC_CH_STAT_STATE a⟩,
  ⟨0xA484, 0x400, 4, 0x0, 1, 0x0, 1, fun a _ _ => Reg.SBC_CH_ERR_LEC a⟩,
  ⟨0xA484, 0x400, 4, 0x0, 1, 0x0, 1, fun a _ _ => Reg.SBC_CH_ERR_REC a⟩,
  ⟨0xA484, 0x400, 4, 0x0, 1, 0x0, 1, fun a _ _ => Reg.SBC_CH_ERR_TEC a⟩,
  ⟨0xA010, 0x10, 5, 0x8, 2, 0x0, 1, fun a b _ => Reg.SBC_CLS_LO_EN a b⟩,
  ⟨0xA010, 0x10, 5, 0x8, 2, 0x0, 1, fun a b _ => Reg.SBC_CLS_LO_IDE a b⟩,
  ⟨0xA010, 0x10, 5, 0x8, 2, 0x0, 1, fun a b _ => Reg.SBC_CLS_LO_ID_LO a b⟩]

def Reg.rowsSbc1 : List RegRow := [
  ⟨0xA014, 0x10, 5, 0x8, 2, 0x0, 1, fun a b _ => Reg.SBC_CLS_HI_ID_HI a b⟩,
  ⟨0xA490, 0x400, 4, 0x0, 1, 0x0, 1, fun a _ _ => Reg.SBC_CNT_TX a⟩,
  ⟨0xA494, 0x400, 4, 0x0, 1, 0x0, 1, fun a _ _ => Reg.SBC_CNT_RX a⟩,
  ⟨0xA498, 0x400, 4, 0x0, 1, 0x0, 1, fun a _ _ => Reg.SBC_CNT_DUP a⟩,
  ⟨0xA49C, 0x400, 4, 0x0, 1, 0x0, 1, fun a _ _ => Reg.SBC_CNT_MIG a⟩,
  ⟨0xA4A0, 0x400, 4, 0x0, 1, 0x0, 1, fun a _ _ => Reg.SBC_CNT_SUPP a⟩,
  ⟨0xA4A4, 0x400, 4, 0x0, 1, 0x0, 1, fun a _ _ => Reg.SBC_CNT_BUSOFF a⟩,
  ⟨0xA4A8, 0x400, 4, 0x0, 1, 0x0, 1, fun a _ _ => Reg.SBC_CNT_EXP a⟩,
  ⟨0xA4AC, 0x400, 4, 0x0, 1, 0x0, 1, fun a _ _ => Reg.SBC_CNT_RXOVF0 a⟩,
  ⟨0xA4B0, 0x400, 4, 0x0, 1, 0x0, 1, fun a _ _ => Reg.SBC_CNT_RXOVF1 a⟩,
  ⟨0xA4B4, 0x400, 4, 0x0, 1, 0x0, 1, fun a _ _ => Reg.SBC_CNT_RTR a⟩,
  ⟨0xA500, 0x400, 4, 0x80, 2, 0x0, 1, fun a b _ => Reg.SBC_RX_STAT_LEVEL a b⟩,
  ⟨0xA504, 0x400, 4, 0x80, 2, 0x0, 1, fun a b _ => Reg.SBC_RX_POP a b⟩,
  ⟨0xA508, 0x400, 4, 0x80, 2, 0x0, 1, fun a b _ => Reg.SBC_RX_GT_LO a b⟩,
  ⟨0xA50C, 0x400, 4, 0x80, 2, 0x0, 1, fun a b _ => Reg.SBC_RX_GT_HI a b⟩,
  ⟨0xA510, 0x400, 4, 0x80, 2, 0x0, 1, fun a b _ => Reg.SBC_RX_IDR_FLAGS a b⟩,
  ⟨0xA510, 0x400, 4, 0x80, 2, 0x0, 1, fun a b _ => Reg.SBC_RX_IDR_ID a b⟩,
  ⟨0xA514, 0x400, 4, 0x80, 2, 0x0, 1, fun a b _ => Reg.SBC_RX_INFO_ESI a b⟩,
  ⟨0xA514, 0x400, 4, 0x80, 2, 0x0, 1, fun a b _ => Reg.SBC_RX_INFO_CLASS a b⟩,
  ⟨0xA514, 0x400, 4, 0x80, 2, 0x0, 1, fun a b _ => Reg.SBC_RX_INFO_LEN a b⟩,
  ⟨0xA540, 0x400, 4, 0x80, 2, 0x4, 16, fun a b c => Reg.SBC_RX_DATA a b c⟩]

/-- Rows of the block at 0xA000. -/
def Reg.rowsSbc : List RegRow :=
  Reg.rowsSbc0 ++ Reg.rowsSbc1

def Reg.rowsPbx0 : List RegRow := [
  ⟨0xC000, 0x0, 1, 0x0, 1, 0x0, 1, fun _ _ _ => Reg.PBX_CTRL_TESTED⟩,
  ⟨0xC000, 0x0, 1, 0x0, 1, 0x0, 1, fun _ _ _ => Reg.PBX_CTRL_EN⟩,
  ⟨0xC004, 0x0, 1, 0x0, 1, 0x0, 1, fun _ _ _ => Reg.PBX_CFG_BOOT_WAIT_MS⟩,
  ⟨0xC004, 0x0, 1, 0x0, 1, 0x0, 1, fun _ _ _ => Reg.PBX_CFG_HB_MISS⟩,
  ⟨0xC008, 0x0, 1, 0x0, 1, 0x0, 1, fun _ _ _ => Reg.PBX_RETRY_T_MS⟩,
  ⟨0xC00C, 0x0, 1, 0x0, 1, 0x0, 1, fun _ _ _ => Reg.PBX_STAT_PRESUMED_DEAD⟩,
  ⟨0xC00C, 0x0, 1, 0x0, 1, 0x0, 1, fun _ _ _ => Reg.PBX_STAT_IMG_MISMATCH⟩,
  ⟨0xC00C, 0x0, 1, 0x0, 1, 0x0, 1, fun _ _ _ => Reg.PBX_STAT_ID_PEND⟩,
  ⟨0xC00C, 0x0, 1, 0x0, 1, 0x0, 1, fun _ _ _ => Reg.PBX_STAT_LANES⟩,
  ⟨0xC00C, 0x0, 1, 0x0, 1, 0x0, 1, fun _ _ _ => Reg.PBX_STAT_PEER_READY⟩,
  ⟨0xC00C, 0x0, 1, 0x0, 1, 0x0, 1, fun _ _ _ => Reg.PBX_STAT_PEER_ROLE⟩,
  ⟨0xC00C, 0x0, 1, 0x0, 1, 0x0, 1, fun _ _ _ => Reg.PBX_STAT_TESTED⟩,
  ⟨0xC00C, 0x0, 1, 0x0, 1, 0x0, 1, fun _ _ _ => Reg.PBX_STAT_ROLE⟩,
  ⟨0xC00C, 0x0, 1, 0x0, 1, 0x0, 1, fun _ _ _ => Reg.PBX_STAT_LINK⟩,
  ⟨0xC010, 0x0, 1, 0x0, 1, 0x0, 1, fun _ _ _ => Reg.PBX_HELD_PEER⟩,
  ⟨0xC010, 0x0, 1, 0x0, 1, 0x0, 1, fun _ _ _ => Reg.PBX_HELD_OWN⟩,
  ⟨0xD000, 0x0, 1, 0x0, 1, 0x0, 1, fun _ _ _ => Reg.TVT_CTRL_FULL_EVERY⟩,
  ⟨0xD000, 0x0, 1, 0x0, 1, 0x0, 1, fun _ _ _ => Reg.TVT_CTRL_PERIOD_MS⟩,
  ⟨0xD004, 0x0, 1, 0x0, 1, 0x0, 1, fun _ _ _ => Reg.TVT_STALL_STALL_MS⟩,
  ⟨0xD008, 0x0, 1, 0x0, 1, 0x0, 1, fun _ _ _ => Reg.TVT_STAT_DAMAGED⟩,
  ⟨0xD008, 0x0, 1, 0x0, 1, 0x0, 1, fun _ _ _ => Reg.TVT_STAT_READY⟩,
  ⟨0xD008, 0x0, 1, 0x0, 1, 0x0, 1, fun _ _ _ => Reg.TVT_STAT_FULL_PEND⟩,
  ⟨0xD008, 0x0, 1, 0x0, 1, 0x0, 1, fun _ _ _ => Reg.TVT_STAT_INFLIGHT⟩,
  ⟨0xC014, 0x0, 1, 0x0, 1, 0x0, 1, fun _ _ _ => Reg.PBX_PEER_SER_LO⟩,
  ⟨0xC018, 0x0, 1, 0x0, 1, 0x0, 1, fun _ _ _ => Reg.PBX_PEER_SER_HI⟩,
  ⟨0xC01C, 0x0, 1, 0x0, 1, 0x0, 1, fun _ _ _ => Reg.PBX_REC_SER_LO⟩,
  ⟨0xC020, 0x0, 1, 0x0, 1, 0x0, 1, fun _ _ _ => Reg.PBX_REC_SER_HI⟩,
  ⟨0xC024, 0x0, 1, 0x0, 1, 0x0, 1, fun _ _ _ => Reg.PBX_PEER_HASH⟩,
  ⟨0xC028, 0x0, 1, 0x0, 1, 0x0, 1, fun _ _ _ => Reg.PBX_CONFIRM_LO⟩,
  ⟨0xC02C, 0x0, 1, 0x0, 1, 0x0, 1, fun _ _ _ => Reg.PBX_CONFIRM_HI⟩,
  ⟨0xC030, 0x0, 1, 0x0, 1, 0x0, 1, fun _ _ _ => Reg.PBX_DELAY_VALID⟩,
  ⟨0xC030, 0x0, 1, 0x0, 1, 0x0, 1, fun _ _ _ => Reg.PBX_DELAY_DELAY_NS⟩,
  ⟨0xC034, 0x0, 1, 0x0, 1, 0x0, 1, fun _ _ _ => Reg.PBX_RETRY_STAT_REM_MS⟩,
  ⟨0xC034, 0x0, 1, 0x0, 1, 0x0, 1, fun _ _ _ => Reg.PBX_RETRY_STAT_ATTEMPTS⟩,
  ⟨0xC040, 0x0, 1, 0x0, 1, 0x0, 1, fun _ _ _ => Reg.PBX_CNT_DROP⟩,
  ⟨0xC044, 0x0, 1, 0x0, 1, 0x0, 1, fun _ _ _ => Reg.PBX_CNT_ERR⟩,
  ⟨0xC048, 0x0, 1, 0x0, 1, 0x0, 1, fun _ _ _ => Reg.PBX_CNT_TAKE⟩,
  ⟨0xC04C, 0x0, 1, 0x0, 1, 0x0, 1, fun _ _ _ => Reg.PBX_CNT_HANDOVER⟩,
  ⟨0xC050, 0x0, 1, 0x0, 1, 0x0, 1, fun _ _ _ => Reg.PBX_CNT_UNCERT⟩,
  ⟨0xC054, 0x0, 1, 0x0, 1, 0x0, 1, fun _ _ _ => Reg.PBX_CNT_DEGR⟩]

def Reg.rowsPbx1 : List RegRow := [
  ⟨0xD00C, 0x0, 1, 0x0, 1, 0x0, 1, fun _ _ _ => Reg.TVT_TX_SEQ⟩,
  ⟨0xD010, 0x0, 1, 0x0, 1, 0x0, 1, fun _ _ _ => Reg.TVT_TX_ACK⟩,
  ⟨0xD014, 0x0, 1, 0x0, 1, 0x0, 1, fun _ _ _ => Reg.TVT_RX_SEQ⟩,
  ⟨0xD018, 0x0, 1, 0x0, 1, 0x0, 1, fun _ _ _ => Reg.TVT_RX_GT_LO⟩,
  ⟨0xD01C, 0x0, 1, 0x0, 1, 0x0, 1, fun _ _ _ => Reg.TVT_RX_GT_HI⟩,
  ⟨0xD020, 0x0, 1, 0x0, 1, 0x0, 1, fun _ _ _ => Reg.TVT_LAST_SIZE⟩,
  ⟨0xD024, 0x0, 1, 0x0, 1, 0x0, 1, fun _ _ _ => Reg.TVT_LAST_LAT⟩,
  ⟨0xD030, 0x0, 1, 0x0, 1, 0x0, 1, fun _ _ _ => Reg.TVT_CNT_FULL⟩,
  ⟨0xD034, 0x0, 1, 0x0, 1, 0x0, 1, fun _ _ _ => Reg.TVT_CNT_DELTA⟩,
  ⟨0xD038, 0x0, 1, 0x0, 1, 0x0, 1, fun _ _ _ => Reg.TVT_CNT_REFUSED⟩]

/-- Rows of the block at 0xC000. -/
def Reg.rowsPbx : List RegRow :=
  Reg.rowsPbx0 ++ Reg.rowsPbx1

def Reg.rowsLog : List RegRow := [
  ⟨0xE000, 0x0, 1, 0x0, 1, 0x0, 1, fun _ _ _ => Reg.LOG_CTRL_PF_EN⟩,
  ⟨0xE000, 0x0, 1, 0x0, 1, 0x0, 1, fun _ _ _ => Reg.LOG_CTRL_MIN_SEV⟩,
  ⟨0xE004, 0x0, 1, 0x0, 1, 0x0, 1, fun _ _ _ => Reg.LOG_RING_LOG2SZ⟩,
  ⟨0xE008, 0x0, 1, 0x0, 1, 0x0, 1, fun _ _ _ => Reg.LOG_PREG_BASE_MIB⟩,
  ⟨0xE008, 0x0, 1, 0x0, 1, 0x0, 1, fun _ _ _ => Reg.LOG_PREG_SIZE_MIB⟩,
  ⟨0xE00C, 0x0, 1, 0x0, 1, 0x0, 1, fun _ _ _ => Reg.LOG_STAT_PF_INCOMPLETE⟩,
  ⟨0xE00C, 0x0, 1, 0x0, 1, 0x0, 1, fun _ _ _ => Reg.LOG_STAT_CLR_RECOVERED⟩,
  ⟨0xE00C, 0x0, 1, 0x0, 1, 0x0, 1, fun _ _ _ => Reg.LOG_STAT_PFAIL⟩,
  ⟨0xE00C, 0x0, 1, 0x0, 1, 0x0, 1, fun _ _ _ => Reg.LOG_STAT_CLEARING⟩,
  ⟨0xE00C, 0x0, 1, 0x0, 1, 0x0, 1, fun _ _ _ => Reg.LOG_STAT_FROZEN⟩,
  ⟨0xE00C, 0x0, 1, 0x0, 1, 0x0, 1, fun _ _ _ => Reg.LOG_STAT_MIR_BEHIND⟩,
  ⟨0xE00C, 0x0, 1, 0x0, 1, 0x0, 1, fun _ _ _ => Reg.LOG_STAT_P_READY⟩,
  ⟨0xE00C, 0x0, 1, 0x0, 1, 0x0, 1, fun _ _ _ => Reg.LOG_STAT_READY⟩,
  ⟨0xE010, 0x0, 1, 0x0, 1, 0x0, 1, fun _ _ _ => Reg.LOG_SEQ_LO⟩,
  ⟨0xE014, 0x0, 1, 0x0, 1, 0x0, 1, fun _ _ _ => Reg.LOG_SEQ_HI⟩,
  ⟨0xE018, 0x0, 1, 0x0, 1, 0x0, 1, fun _ _ _ => Reg.LOG_OLD_LO⟩,
  ⟨0xE01C, 0x0, 1, 0x0, 1, 0x0, 1, fun _ _ _ => Reg.LOG_OLD_HI⟩,
  ⟨0xE020, 0x0, 1, 0x0, 1, 0x0, 1, fun _ _ _ => Reg.LOG_FILL⟩,
  ⟨0xE024, 0x0, 1, 0x0, 1, 0x0, 1, fun _ _ _ => Reg.LOG_PFILL⟩,
  ⟨0xE028, 0x0, 1, 0x0, 1, 0x0, 1, fun _ _ _ => Reg.LOG_STAGE_HOLD⟩,
  ⟨0xE028, 0x0, 1, 0x0, 1, 0x0, 1, fun _ _ _ => Reg.LOG_STAGE⟩,
  ⟨0xE02C, 0x0, 1, 0x0, 1, 0x0, 1, fun _ _ _ => Reg.LOG_FRZ⟩,
  ⟨0xE030, 0x0, 1, 0x0, 1, 0x0, 1, fun _ _ _ => Reg.LOG_PINNED⟩,
  ⟨0xE034, 0x0, 1, 0x0, 1, 0x0, 1, fun _ _ _ => Reg.LOG_UNMIR⟩,
  ⟨0xE038, 0x0, 1, 0x0, 1, 0x0, 1, fun _ _ _ => Reg.LOG_CLR_LO⟩,
  ⟨0xE03C, 0x0, 1, 0x0, 1, 0x0, 1, fun _ _ _ => Reg.LOG_CLR_HI⟩,
  ⟨0xE040, 0x0, 1, 0x0, 1, 0x0, 1, fun _ _ _ => Reg.LOG_CLR_AUTH⟩,
  ⟨0xE044, 0x0, 1, 0x0, 1, 0x0, 1, fun _ _ _ => Reg.LOG_CLR_CNT⟩,
  ⟨0xE060, 0x4, 8, 0x0, 1, 0x0, 1, fun a _ _ => Reg.LOG_DROP a⟩,
  ⟨0xE080, 0x0, 1, 0x0, 1, 0x0, 1, fun _ _ _ => Reg.LOG_CNT_BYPASS⟩,
  ⟨0xE084, 0x0, 1, 0x0, 1, 0x0, 1, fun _ _ _ => Reg.LOG_CNT_MIRLOST⟩,
  ⟨0xE088, 0x0, 1, 0x0, 1, 0x0, 1, fun _ _ _ => Reg.LOG_CNT_CRC⟩,
  ⟨0xE08C, 0x0, 1, 0x0, 1, 0x0, 1, fun _ _ _ => Reg.LOG_PF_PLANNED⟩,
  ⟨0xE090, 0x0, 1, 0x0, 1, 0x0, 1, fun _ _ _ => Reg.LOG_PF_WRITTEN⟩]

def Reg.rowsWhk0 : List RegRow := [
  ⟨0xF000, 0x0, 1, 0x0, 1, 0x0, 1, fun _ _ _ => Reg.WHK_CTRL_GAP_MS⟩,
  ⟨0xF000, 0x0, 1, 0x0, 1, 0x0, 1, fun _ _ _ => Reg.WHK_CTRL_ROLL_PSET⟩,
  ⟨0xF000, 0x0, 1, 0x0, 1, 0x0, 1, fun _ _ _ => Reg.WHK_CTRL_DIAG_EN⟩,
  ⟨0xF004, 0x0, 1, 0x0, 1, 0x0, 1, fun _ _ _ => Reg.WHK_STAT_QUEUE⟩,
  ⟨0xF004, 0x0, 1, 0x0, 1, 0x0, 1, fun _ _ _ => Reg.WHK_STAT_BUSY⟩,
  ⟨0xF004, 0x0, 1, 0x0, 1, 0x0, 1, fun _ _ _ => Reg.WHK_STAT_KIND⟩,
  ⟨0xF004, 0x0, 1, 0x0, 1, 0x0, 1, fun _ _ _ => Reg.WHK_STAT_ROLL⟩,
  ⟨0xF004, 0x0, 1, 0x0, 1, 0x0, 1, fun _ _ _ => Reg.WHK_STAT_BOOT_FAIL⟩,
  ⟨0xF004, 0x0, 1, 0x0, 1, 0x0, 1, fun _ _ _ => Reg.WHK_STAT_BOOT_DONE⟩,
  ⟨0xF004, 0x0, 1, 0x0, 1, 0x0, 1, fun _ _ _ => Reg.WHK_STAT_DOMAIN⟩,
  ⟨0xF010, 0x4, 4, 0x0, 1, 0x0, 1, fun a _ _ => Reg.WHK_LFAIL a⟩,
  ⟨0xF020, 0x4, 4, 0x0, 1, 0x0, 1, fun a _ _ => Reg.WHK_MFAIL a⟩,
  ⟨0xF040, 0x0, 1, 0x0, 1, 0x0, 1, fun _ _ _ => Reg.WHK_DSEL_MACRO⟩,
  ⟨0xF040, 0x0, 1, 0x0, 1, 0x0, 1, fun _ _ _ => Reg.WHK_DSEL_DOMAIN⟩,
  ⟨0xF044, 0x0, 1, 0x0, 1, 0x0, 1, fun _ _ _ => Reg.WHK_DINFO_TYPE⟩,
  ⟨0xF044, 0x0, 1, 0x0, 1, 0x0, 1, fun _ _ _ => Reg.WHK_DINFO_CHAIN_LEN⟩,
  ⟨0xF044, 0x0, 1, 0x0, 1, 0x0, 1, fun _ _ _ => Reg.WHK_DINFO_MACROS⟩,
  ⟨0xF058, 0x0, 1, 0x0, 1, 0x0, 1, fun _ _ _ => Reg.WHK_MRES_FAIL_CNT⟩,
  ⟨0xF058, 0x0, 1, 0x0, 1, 0x0, 1, fun _ _ _ => Reg.WHK_MRES_NPAIRS⟩,
  ⟨0xF058, 0x0, 1, 0x0, 1, 0x0, 1, fun _ _ _ => Reg.WHK_MRES_OVF⟩,
  ⟨0xF058, 0x0, 1, 0x0, 1, 0x0, 1, fun _ _ _ => Reg.WHK_MRES_RESULT⟩,
  ⟨0xF05C, 0x4, 4, 0x0, 1, 0x0, 1, fun a _ _ => Reg.WHK_MFAILADDR_BIT a⟩,
  ⟨0xF05C, 0x4, 4, 0x0, 1, 0x0, 1, fun a _ _ => Reg.WHK_MFAILADDR_ADDR a⟩,
  ⟨0xF06C, 0x0, 1, 0x0, 1, 0x0, 1, fun _ _ _ => Reg.WHK_REPAIR_COL_HARD⟩,
  ⟨0xF06C, 0x0, 1, 0x0, 1, 0x0, 1, fun _ _ _ => Reg.WHK_REPAIR_ROW_HARD⟩,
  ⟨0xF06C, 0x0, 1, 0x0, 1, 0x0, 1, fun _ _ _ => Reg.WHK_REPAIR_COL_FREE⟩,
  ⟨0xF06C, 0x0, 1, 0x0, 1, 0x0, 1, fun _ _ _ => Reg.WHK_REPAIR_ROWS_FREE⟩,
  ⟨0xF070, 0x4, 2, 0x0, 1, 0x0, 1, fun a _ _ => Reg.WHK_RROW_USED a⟩,
  ⟨0xF070, 0x4, 2, 0x0, 1, 0x0, 1, fun a _ _ => Reg.WHK_RROW_ADDR a⟩,
  ⟨0xF078, 0x0, 1, 0x0, 1, 0x0, 1, fun _ _ _ => Reg.WHK_RCOL_USED⟩,
  ⟨0xF078, 0x0, 1, 0x0, 1, 0x0, 1, fun _ _ _ => Reg.WHK_RCOL_BIT⟩,
  ⟨0xF07C, 0x0, 1, 0x0, 1, 0x0, 1, fun _ _ _ => Reg.WHK_OTP_LEFT_ENTRIES⟩,
  ⟨0xF090, 0x0, 1, 0x0, 1, 0x0, 1, fun _ _ _ => Reg.WHK_DIAG_CELL⟩,
  ⟨0xF030, 0x0, 1, 0x0, 1, 0x0, 1, fun _ _ _ => Reg.WHK_HEALTH_FAILED⟩,
  ⟨0xF030, 0x0, 1, 0x0, 1, 0x0, 1, fun _ _ _ => Reg.WHK_HEALTH_PASSED⟩,
  ⟨0xF038, 0x0, 1, 0x0, 1, 0x0, 1, fun _ _ _ => Reg.WHK_PEER_HEALTH_FAILED⟩,
  ⟨0xF038, 0x0, 1, 0x0, 1, 0x0, 1, fun _ _ _ => Reg.WHK_PEER_HEALTH_PASSED⟩,
  ⟨0xF034, 0x0, 1, 0x0, 1, 0x0, 1, fun _ _ _ => Reg.WHK_HEALTH_LAST⟩,
  ⟨0xF03C, 0x0, 1, 0x0, 1, 0x0, 1, fun _ _ _ => Reg.WHK_PEER_LAST⟩,
  ⟨0xF048, 0x0, 1, 0x0, 1, 0x0, 1, fun _ _ _ => Reg.WHK_LRES_MULTI⟩]

def Reg.rowsWhk1 : List RegRow := [
  ⟨0xF048, 0x0, 1, 0x0, 1, 0x0, 1, fun _ _ _ => Reg.WHK_LRES_FIRST_BAD⟩,
  ⟨0xF048, 0x0, 1, 0x0, 1, 0x0, 1, fun _ _ _ => Reg.WHK_LRES_PSET⟩,
  ⟨0xF048, 0x0, 1, 0x0, 1, 0x0, 1, fun _ _ _ => Reg.WHK_LRES_DIAG⟩,
  ⟨0xF048, 0x0, 1, 0x0, 1, 0x0, 1, fun _ _ _ => Reg.WHK_LRES_RESULT⟩,
  ⟨0xF04C, 0x0, 1, 0x0, 1, 0x0, 1, fun _ _ _ => Reg.WHK_DIAG_PATTERN⟩,
  ⟨0xF04C, 0x0, 1, 0x0, 1, 0x0, 1, fun _ _ _ => Reg.WHK_DIAG_CHAIN⟩,
  ⟨0xF050, 0x4, 2, 0x0, 1, 0x0, 1, fun a _ _ => Reg.WHK_DIAG_CHAINS a⟩,
  ⟨0xF080, 0x0, 1, 0x0, 1, 0x0, 1, fun _ _ _ => Reg.WHK_CNT_PASS⟩,
  ⟨0xF084, 0x0, 1, 0x0, 1, 0x0, 1, fun _ _ _ => Reg.WHK_CNT_FAIL⟩,
  ⟨0xF088, 0x0, 1, 0x0, 1, 0x0, 1, fun _ _ _ => Reg.WHK_CNT_ABANDON⟩,
  ⟨0xF08C, 0x0, 1, 0x0, 1, 0x0, 1, fun _ _ _ => Reg.WHK_CNT_ROLL⟩]

/-- Rows of the block at 0xF000. -/
def Reg.rowsWhk : List RegRow :=
  Reg.rowsWhk0 ++ Reg.rowsWhk1

def Reg.rowsMisc0 : List RegRow := [
  ⟨0x7800, 0x0, 1, 0x0, 1, 0x0, 1, fun _ _ _ => Reg.CTN_CTRL_CORR_LIM⟩,
  ⟨0x7800, 0x0, 1, 0x0, 1, 0x0, 1, fun _ _ _ => Reg.CTN_CTRL_WDT_TICKS⟩,
  ⟨0x7804, 0x0, 1, 0x0, 1, 0x0, 1, fun _ _ _ => Reg.CTN_ISO_SP⟩,
  ⟨0x7804, 0x0, 1, 0x0, 1, 0x0, 1, fun _ _ _ => Reg.CTN_ISO_CE⟩,
  ⟨0x7808, 0x0, 1, 0x0, 1, 0x0, 1, fun _ _ _ => Reg.CTN_ISO_IO_SB⟩,
  ⟨0x7808, 0x0, 1, 0x0, 1, 0x0, 1, fun _ _ _ => Reg.CTN_ISO_IO_ETH1⟩,
  ⟨0x7808, 0x0, 1, 0x0, 1, 0x0, 1, fun _ _ _ => Reg.CTN_ISO_IO_ETH0⟩,
  ⟨0x7810, 0x4, 16, 0x0, 1, 0x0, 1, fun a _ _ => Reg.CTN_CE_LOST a⟩,
  ⟨0x7810, 0x4, 16, 0x0, 1, 0x0, 1, fun a _ _ => Reg.CTN_CE_VALID a⟩,
  ⟨0x7810, 0x4, 16, 0x0, 1, 0x0, 1, fun a _ _ => Reg.CTN_CE_CAUSE a⟩,
  ⟨0x7850, 0x0, 1, 0x0, 1, 0x0, 1, fun _ _ _ => Reg.CTN_LAR_SINGLE⟩,
  ⟨0x7850, 0x0, 1, 0x0, 1, 0x0, 1, fun _ _ _ => Reg.CTN_LAR_SPARES⟩,
  ⟨0x7854, 0x0, 1, 0x0, 1, 0x0, 1, fun _ _ _ => Reg.CTN_LAR_LAST_REGION⟩,
  ⟨0x7854, 0x0, 1, 0x0, 1, 0x0, 1, fun _ _ _ => Reg.CTN_LAR_LAST_PAGE⟩,
  ⟨0x10000, 0x0, 1, 0x0, 1, 0x0, 1, fun _ _ _ => Reg.PWR_CTRL_AUTO_IDLE⟩,
  ⟨0x10004, 0x0, 1, 0x0, 1, 0x0, 1, fun _ _ _ => Reg.PWR_MON_TJ⟩,
  ⟨0x10004, 0x0, 1, 0x0, 1, 0x0, 1, fun _ _ _ => Reg.PWR_MON_TWARN⟩,
  ⟨0x10004, 0x0, 1, 0x0, 1, 0x0, 1, fun _ _ _ => Reg.PWR_MON_AON_OK⟩,
  ⟨0x10004, 0x0, 1, 0x0, 1, 0x0, 1, fun _ _ _ => Reg.PWR_MON_SGMII_OK⟩,
  ⟨0x10004, 0x0, 1, 0x0, 1, 0x0, 1, fun _ _ _ => Reg.PWR_MON_PCIE_OK⟩,
  ⟨0x10004, 0x0, 1, 0x0, 1, 0x0, 1, fun _ _ _ => Reg.PWR_MON_VDDQ_OK⟩,
  ⟨0x10004, 0x0, 1, 0x0, 1, 0x0, 1, fun _ _ _ => Reg.PWR_MON_VDD2_OK⟩,
  ⟨0x10004, 0x0, 1, 0x0, 1, 0x0, 1, fun _ _ _ => Reg.PWR_MON_IO33_OK⟩,
  ⟨0x10004, 0x0, 1, 0x0, 1, 0x0, 1, fun _ _ _ => Reg.PWR_MON_IO18_OK⟩,
  ⟨0x10004, 0x0, 1, 0x0, 1, 0x0, 1, fun _ _ _ => Reg.PWR_MON_CORE_OK⟩,
  ⟨0x10008, 0x0, 1, 0x0, 1, 0x0, 1, fun _ _ _ => Reg.PWR_TJ_MAX⟩,
  ⟨0x10010, 0x4, 14, 0x0, 1, 0x0, 1, fun a _ _ => Reg.PWR_STAT_STATE a 0⟩,
  ⟨0x10010, 0x4, 14, 0x0, 1, 0x0, 1, fun a _ _ => Reg.PWR_STAT_STATE a 1⟩,
  ⟨0x10010, 0x4, 14, 0x0, 1, 0x0, 1, fun a _ _ => Reg.PWR_STAT_STATE a 2⟩,
  ⟨0x10010, 0x4, 14, 0x0, 1, 0x0, 1, fun a _ _ => Reg.PWR_STAT_STATE a 3⟩,
  ⟨0x10010, 0x4, 14, 0x0, 1, 0x0, 1, fun a _ _ => Reg.PWR_STAT_STATE a 4⟩,
  ⟨0x10010, 0x4, 14, 0x0, 1, 0x0, 1, fun a _ _ => Reg.PWR_STAT_STATE a 5⟩,
  ⟨0x10010, 0x4, 14, 0x0, 1, 0x0, 1, fun a _ _ => Reg.PWR_STAT_STATE a 6⟩,
  ⟨0x10010, 0x4, 14, 0x0, 1, 0x0, 1, fun a _ _ => Reg.PWR_STAT_STATE a 7⟩,
  ⟨0x10400, 0x0, 1, 0x0, 1, 0x0, 1, fun _ _ _ => Reg.CLK_STAT_SPINE_LOCK⟩,
  ⟨0x10400, 0x0, 1, 0x0, 1, 0x0, 1, fun _ _ _ => Reg.CLK_STAT_SP_LOCK⟩,
  ⟨0x10400, 0x0, 1, 0x0, 1, 0x0, 1, fun _ _ _ => Reg.CLK_STAT_PEER_LOCK⟩,
  ⟨0x10400, 0x0, 1, 0x0, 1, 0x0, 1, fun _ _ _ => Reg.CLK_STAT_BUS_LOCK⟩,
  ⟨0x10400, 0x0, 1, 0x0, 1, 0x0, 1, fun _ _ _ => Reg.CLK_STAT_NET_LOCK⟩,
  ⟨0x10400, 0x0, 1, 0x0, 1, 0x0, 1, fun _ _ _ => Reg.CLK_STAT_HOST_LOCK⟩]

def Reg.rowsMisc1 : List RegRow := [
  ⟨0x10400, 0x0, 1, 0x0, 1, 0x0, 1, fun _ _ _ => Reg.CLK_STAT_MEM_LOCK⟩,
  ⟨0x10400, 0x0, 1, 0x0, 1, 0x0, 1, fun _ _ _ => Reg.CLK_STAT_SYS_LOCK⟩,
  ⟨0x10400, 0x0, 1, 0x0, 1, 0x0, 1, fun _ _ _ => Reg.CLK_STAT_PCIE_REF_OK⟩,
  ⟨0x10400, 0x0, 1, 0x0, 1, 0x0, 1, fun _ _ _ => Reg.CLK_STAT_REF_SYNTH⟩,
  ⟨0x10400, 0x0, 1, 0x0, 1, 0x0, 1, fun _ _ _ => Reg.CLK_STAT_XTAL_OK⟩,
  ⟨0x10400, 0x0, 1, 0x0, 1, 0x0, 1, fun _ _ _ => Reg.CLK_STAT_TCXO_OK⟩,
  ⟨0x10404, 0x0, 1, 0x0, 1, 0x0, 1, fun _ _ _ => Reg.CLK_CE_RUN⟩,
  ⟨0x10404, 0x0, 1, 0x0, 1, 0x0, 1, fun _ _ _ => Reg.CLK_CE_LOCK⟩,
  ⟨0x10408, 0x0, 1, 0x0, 1, 0x0, 1, fun _ _ _ => Reg.CLK_TCXO_ERR⟩,
  ⟨0x1040C, 0x0, 1, 0x0, 1, 0x0, 1, fun _ _ _ => Reg.CLK_CNT_UNLOCK⟩,
  ⟨0x10800, 0x0, 1, 0x0, 1, 0x0, 1, fun _ _ _ => Reg.RST_STAT_BOOT_DONE⟩,
  ⟨0x10800, 0x0, 1, 0x0, 1, 0x0, 1, fun _ _ _ => Reg.RST_STAT_STEP⟩,
  ⟨0x10800, 0x0, 1, 0x0, 1, 0x0, 1, fun _ _ _ => Reg.RST_STAT_IMAGE⟩,
  ⟨0x10800, 0x0, 1, 0x0, 1, 0x0, 1, fun _ _ _ => Reg.RST_STAT_COLD⟩,
  ⟨0x10800, 0x0, 1, 0x0, 1, 0x0, 1, fun _ _ _ => Reg.RST_STAT_LP4X_KEPT⟩,
  ⟨0x10800, 0x0, 1, 0x0, 1, 0x0, 1, fun _ _ _ => Reg.RST_STAT_CAUSE⟩,
  ⟨0x10804, 0x0, 1, 0x0, 1, 0x0, 1, fun _ _ _ => Reg.RST_CTRL_KEY⟩,
  ⟨0x10804, 0x0, 1, 0x0, 1, 0x0, 1, fun _ _ _ => Reg.RST_CTRL_GO⟩,
  ⟨0x10808, 0x0, 1, 0x0, 1, 0x0, 1, fun _ _ _ => Reg.RST_CFG_WDT_MS⟩,
  ⟨0x10808, 0x0, 1, 0x0, 1, 0x0, 1, fun _ _ _ => Reg.RST_CFG_SW_EN⟩,
  ⟨0x1080C, 0x0, 1, 0x0, 1, 0x0, 1, fun _ _ _ => Reg.RST_CNT⟩,
  ⟨0x10810, 0x0, 1, 0x0, 1, 0x0, 1, fun _ _ _ => Reg.RST_GT_LO⟩,
  ⟨0x10814, 0x0, 1, 0x0, 1, 0x0, 1, fun _ _ _ => Reg.RST_GT_HI⟩,
  ⟨0x10818, 0x0, 1, 0x0, 1, 0x0, 1, fun _ _ _ => Reg.RST_SIG_PEBEX⟩,
  ⟨0x10818, 0x0, 1, 0x0, 1, 0x0, 1, fun _ _ _ => Reg.RST_SIG_SP⟩,
  ⟨0x1081C, 0x0, 1, 0x0, 1, 0x0, 1, fun _ _ _ => Reg.RST_BOOT_MS⟩,
  ⟨0x10820, 0x0, 1, 0x0, 1, 0x0, 1, fun _ _ _ => Reg.RST_CNT_REFUSED⟩,
  ⟨0x2000, 0x4, 128, 0x0, 1, 0x0, 1, fun a _ _ => Reg.EVT_STEER_EN a⟩,
  ⟨0x2000, 0x4, 128, 0x0, 1, 0x0, 1, fun a _ _ => Reg.EVT_STEER_EQ a⟩,
  ⟨0x2000, 0x4, 128, 0x0, 1, 0x0, 1, fun a _ _ => Reg.EVT_STEER_VEC a⟩,
  ⟨0x7858, 0x0, 1, 0x0, 1, 0x0, 1, fun _ _ _ => Reg.CTN_CNT_CORR⟩,
  ⟨0x785C, 0x0, 1, 0x0, 1, 0x0, 1, fun _ _ _ => Reg.CTN_CNT_UNCORR⟩,
  ⟨0x7860, 0x0, 1, 0x0, 1, 0x0, 1, fun _ _ _ => Reg.CTN_CNT_RETIRE⟩,
  ⟨0x7864, 0x0, 1, 0x0, 1, 0x0, 1, fun _ _ _ => Reg.CTN_CNT_DOUBLE⟩,
  ⟨0x7868, 0x0, 1, 0x0, 1, 0x0, 1, fun _ _ _ => Reg.CTN_CNT_LOSTCMP⟩,
  ⟨0x0, 0x0, 1, 0x0, 1, 0x0, 1, fun _ _ _ => Reg.GLB_CHIPID_PART⟩,
  ⟨0x0, 0x0, 1, 0x0, 1, 0x0, 1, fun _ _ _ => Reg.GLB_CHIPID_STEP⟩,
  ⟨0x4, 0x0, 1, 0x0, 1, 0x0, 1, fun _ _ _ => Reg.GLB_ID_XY⟩,
  ⟨0x8, 0x0, 1, 0x0, 1, 0x0, 1, fun _ _ _ => Reg.GLB_SER_LO⟩,
  ⟨0xC, 0x0, 1, 0x0, 1, 0x0, 1, fun _ _ _ => Reg.GLB_SER_HI⟩]

def Reg.rowsMisc2 : List RegRow := [
  ⟨0x10, 0x0, 1, 0x0, 1, 0x0, 1, fun _ _ _ => Reg.GLB_CAR_EN_MASK⟩,
  ⟨0x14, 0x0, 1, 0x0, 1, 0x0, 1, fun _ _ _ => Reg.GLB_LOCK_KEY⟩,
  ⟨0x14, 0x0, 1, 0x0, 1, 0x0, 1, fun _ _ _ => Reg.GLB_LOCK_SRC⟩,
  ⟨0x14, 0x0, 1, 0x0, 1, 0x0, 1, fun _ _ _ => Reg.GLB_LOCK⟩,
  ⟨0x18, 0x0, 1, 0x0, 1, 0x0, 1, fun _ _ _ => Reg.GLB_LOCK_ERR_VALID⟩,
  ⟨0x18, 0x0, 1, 0x0, 1, 0x0, 1, fun _ _ _ => Reg.GLB_LOCK_ERR_BLOCK⟩,
  ⟨0x18, 0x0, 1, 0x0, 1, 0x0, 1, fun _ _ _ => Reg.GLB_LOCK_ERR_UNIT⟩,
  ⟨0x18, 0x0, 1, 0x0, 1, 0x0, 1, fun _ _ _ => Reg.GLB_LOCK_ERR_CHECK⟩,
  ⟨0x1C, 0x0, 1, 0x0, 1, 0x0, 1, fun _ _ _ => Reg.GLB_CNT_LOCKWR⟩,
  ⟨0x20, 0x0, 1, 0x0, 1, 0x0, 1, fun _ _ _ => Reg.GLB_SCRATCH⟩,
  ⟨0x8000, 0x0, 1, 0x0, 1, 0x0, 1, fun _ _ _ => Reg.LAR_STAT_SIZE_MIB⟩,
  ⟨0x8000, 0x0, 1, 0x0, 1, 0x0, 1, fun _ _ _ => Reg.LAR_STAT_SCRUB⟩,
  ⟨0x8000, 0x0, 1, 0x0, 1, 0x0, 1, fun _ _ _ => Reg.LAR_STAT_READY⟩,
  ⟨0x8004, 0x0, 1, 0x0, 1, 0x0, 1, fun _ _ _ => Reg.LAR_TRACE_MIB⟩,
  ⟨0x8008, 0x0, 1, 0x0, 1, 0x0, 1, fun _ _ _ => Reg.LAR_SCRUB_HOURS⟩,
  ⟨0x800C, 0x0, 1, 0x0, 1, 0x0, 1, fun _ _ _ => Reg.LAR_FREE_FREE_MIB⟩,
  ⟨0x8010, 0x0, 1, 0x0, 1, 0x0, 1, fun _ _ _ => Reg.LAR_LOG_BASE_MIB⟩,
  ⟨0x8014, 0x0, 1, 0x0, 1, 0x0, 1, fun _ _ _ => Reg.LAR_TRACE_BASE_MIB⟩,
  ⟨0x9000, 0x0, 1, 0x0, 1, 0x0, 1, fun _ _ _ => Reg.XSP_STAT_SIZE_MIB⟩,
  ⟨0x9000, 0x0, 1, 0x0, 1, 0x0, 1, fun _ _ _ => Reg.XSP_STAT_TYPE⟩,
  ⟨0x9000, 0x0, 1, 0x0, 1, 0x0, 1, fun _ _ _ => Reg.XSP_STAT_SYS_OK⟩,
  ⟨0x9000, 0x0, 1, 0x0, 1, 0x0, 1, fun _ _ _ => Reg.XSP_STAT_READY⟩,
  ⟨0x9004, 0x0, 1, 0x0, 1, 0x0, 1, fun _ _ _ => Reg.XSP_CFG_DTR⟩,
  ⟨0x9004, 0x0, 1, 0x0, 1, 0x0, 1, fun _ _ _ => Reg.XSP_CFG_CLK_MHZ⟩,
  ⟨0x9008, 0x0, 1, 0x0, 1, 0x0, 1, fun _ _ _ => Reg.XSP_CNT_ERR⟩,
  ⟨0x11000, 0x0, 1, 0x0, 1, 0x0, 1, fun _ _ _ => Reg.OTP_STAT_STORE_KEY⟩,
  ⟨0x11000, 0x0, 1, 0x0, 1, 0x0, 1, fun _ _ _ => Reg.OTP_STAT_PK_REV⟩,
  ⟨0x11000, 0x0, 1, 0x0, 1, 0x0, 1, fun _ _ _ => Reg.OTP_STAT_PK_PROG⟩,
  ⟨0x11000, 0x0, 1, 0x0, 1, 0x0, 1, fun _ _ _ => Reg.OTP_STAT_IMG_REQ⟩,
  ⟨0x11000, 0x0, 1, 0x0, 1, 0x0, 1, fun _ _ _ => Reg.OTP_STAT_REPAIR_KEY⟩,
  ⟨0x11000, 0x0, 1, 0x0, 1, 0x0, 1, fun _ _ _ => Reg.OTP_STAT_LOG_KEY⟩,
  ⟨0x11000, 0x0, 1, 0x0, 1, 0x0, 1, fun _ _ _ => Reg.OTP_STAT_READY⟩,
  ⟨0x11004, 0x0, 1, 0x0, 1, 0x0, 1, fun _ _ _ => Reg.OTP_VID⟩,
  ⟨0x11008, 0x0, 1, 0x0, 1, 0x0, 1, fun _ _ _ => Reg.OTP_SS_SSID⟩,
  ⟨0x11008, 0x0, 1, 0x0, 1, 0x0, 1, fun _ _ _ => Reg.OTP_SS_SSVID⟩,
  ⟨0x11040, 0x20, 4, 0x4, 8, 0x0, 1, fun a b _ => Reg.OTP_KEYHASH_HASH a b⟩,
  ⟨0x11800, 0x0, 1, 0x0, 1, 0x0, 1, fun _ _ _ => Reg.SEC_IMG_STAT_KEY⟩,
  ⟨0x11800, 0x0, 1, 0x0, 1, 0x0, 1, fun _ _ _ => Reg.SEC_IMG_STAT_STG_SLOT⟩,
  ⟨0x11800, 0x0, 1, 0x0, 1, 0x0, 1, fun _ _ _ => Reg.SEC_IMG_STAT_STAGED⟩,
  ⟨0x11800, 0x0, 1, 0x0, 1, 0x0, 1, fun _ _ _ => Reg.SEC_IMG_STAT_COM_SLOT⟩]

def Reg.rowsMisc3 : List RegRow := [
  ⟨0x11800, 0x0, 1, 0x0, 1, 0x0, 1, fun _ _ _ => Reg.SEC_IMG_STAT_COMMITTED⟩,
  ⟨0x11800, 0x0, 1, 0x0, 1, 0x0, 1, fun _ _ _ => Reg.SEC_IMG_STAT_ACTIVE⟩,
  ⟨0x11804, 0x0, 1, 0x0, 1, 0x0, 1, fun _ _ _ => Reg.SEC_IMG_ID_IMAGE_ID⟩,
  ⟨0x11810, 0x4, 8, 0x0, 1, 0x0, 1, fun a _ _ => Reg.SEC_IMG_HASH a⟩,
  ⟨0x11840, 0x0, 1, 0x0, 1, 0x0, 1, fun _ _ _ => Reg.SEC_PROG_SEL_ITEM⟩,
  ⟨0x11844, 0x4, 8, 0x0, 1, 0x0, 1, fun a _ _ => Reg.SEC_PROG_DATA a⟩,
  ⟨0x11864, 0x0, 1, 0x0, 1, 0x0, 1, fun _ _ _ => Reg.SEC_PROG_GO_KEY⟩,
  ⟨0x11864, 0x0, 1, 0x0, 1, 0x0, 1, fun _ _ _ => Reg.SEC_PROG_GO⟩,
  ⟨0x11868, 0x0, 1, 0x0, 1, 0x0, 1, fun _ _ _ => Reg.SEC_PROG_STAT_DONE⟩,
  ⟨0x11868, 0x0, 1, 0x0, 1, 0x0, 1, fun _ _ _ => Reg.SEC_PROG_STAT_RESULT⟩,
  ⟨0x1186C, 0x0, 1, 0x0, 1, 0x0, 1, fun _ _ _ => Reg.SEC_CNT_AUTH⟩]

/-- Rows of the GLB, EVT, CTN, LAR, XSP, PWR, CLK, RST, OTP and SEC blocks. -/
def Reg.rowsMisc : List RegRow :=
  Reg.rowsMisc0 ++ Reg.rowsMisc1 ++ Reg.rowsMisc2 ++ Reg.rowsMisc3

def Reg.rowsCe0 : List RegRow := [
  ⟨0x20000, 0x1000, 16, 0x0, 1, 0x0, 1, fun a _ _ => Reg.TRK_CTRL_BOT_IN a⟩,
  ⟨0x20000, 0x1000, 16, 0x0, 1, 0x0, 1, fun a _ _ => Reg.TRK_CTRL_LW_EN a⟩,
  ⟨0x20000, 0x1000, 16, 0x0, 1, 0x0, 1, fun a _ _ => Reg.TRK_CTRL_TAB_PRESET a⟩,
  ⟨0x20004, 0x1000, 16, 0x0, 1, 0x0, 1, fun a _ _ => Reg.TRK_STAT_LEARNING a⟩,
  ⟨0x20004, 0x1000, 16, 0x0, 1, 0x0, 1, fun a _ _ => Reg.TRK_STAT_TABLE a⟩,
  ⟨0x20004, 0x1000, 16, 0x0, 1, 0x0, 1, fun a _ _ => Reg.TRK_STAT_DZ_NONE a⟩,
  ⟨0x20004, 0x1000, 16, 0x0, 1, 0x0, 1, fun a _ _ => Reg.TRK_STAT_DZ_SRC a⟩,
  ⟨0x20004, 0x1000, 16, 0x0, 1, 0x0, 1, fun a _ _ => Reg.TRK_STAT_SUSPECT a⟩,
  ⟨0x20004, 0x1000, 16, 0x0, 1, 0x0, 1, fun a _ _ => Reg.TRK_STAT_ENC_LOST a⟩,
  ⟨0x20004, 0x1000, 16, 0x0, 1, 0x0, 1, fun a _ _ => Reg.TRK_STAT_DIR a⟩,
  ⟨0x20004, 0x1000, 16, 0x0, 1, 0x0, 1, fun a _ _ => Reg.TRK_STAT_AT_REST a⟩,
  ⟨0x20004, 0x1000, 16, 0x0, 1, 0x0, 1, fun a _ _ => Reg.TRK_STAT_SLEWING a⟩,
  ⟨0x20004, 0x1000, 16, 0x0, 1, 0x0, 1, fun a _ _ => Reg.TRK_STAT_PSTATE a⟩,
  ⟨0x20008, 0x1000, 16, 0x0, 1, 0x0, 1, fun a _ _ => Reg.TRK_POS a⟩,
  ⟨0x2000C, 0x1000, 16, 0x0, 1, 0x0, 1, fun a _ _ => Reg.TRK_SPD a⟩,
  ⟨0x20010, 0x1000, 16, 0x0, 1, 0x0, 1, fun a _ _ => Reg.TRK_OFS a⟩,
  ⟨0x20014, 0x1000, 16, 0x0, 1, 0x0, 1, fun a _ _ => Reg.TRK_SLEW_REM a⟩,
  ⟨0x20018, 0x1000, 16, 0x0, 1, 0x0, 1, fun a _ _ => Reg.TRK_ENC_CFG_Z_EN a⟩,
  ⟨0x20018, 0x1000, 16, 0x0, 1, 0x0, 1, fun a _ _ => Reg.TRK_ENC_CFG_MONO a⟩,
  ⟨0x20018, 0x1000, 16, 0x0, 1, 0x0, 1, fun a _ _ => Reg.TRK_ENC_CFG_SSI_BITS a⟩,
  ⟨0x20018, 0x1000, 16, 0x0, 1, 0x0, 1, fun a _ _ => Reg.TRK_ENC_CFG_PAR a⟩,
  ⟨0x20018, 0x1000, 16, 0x0, 1, 0x0, 1, fun a _ _ => Reg.TRK_ENC_CFG_GRAY a⟩,
  ⟨0x20018, 0x1000, 16, 0x0, 1, 0x0, 1, fun a _ _ => Reg.TRK_ENC_CFG_DIR a⟩,
  ⟨0x20018, 0x1000, 16, 0x0, 1, 0x0, 1, fun a _ _ => Reg.TRK_ENC_CFG_TYPE a⟩,
  ⟨0x2001C, 0x1000, 16, 0x0, 1, 0x0, 1, fun a _ _ => Reg.TRK_ENC_SCALE a⟩,
  ⟨0x20020, 0x1000, 16, 0x0, 1, 0x0, 1, fun a _ _ => Reg.TRK_ENC_CPR_Z_REF a⟩,
  ⟨0x20020, 0x1000, 16, 0x0, 1, 0x0, 1, fun a _ _ => Reg.TRK_ENC_CPR a⟩,
  ⟨0x20024, 0x1000, 16, 0x0, 1, 0x0, 1, fun a _ _ => Reg.TRK_ENC_CNT a⟩,
  ⟨0x20028, 0x1000, 16, 0x0, 1, 0x0, 1, fun a _ _ => Reg.TRK_SSI_ZERO a⟩,
  ⟨0x2002C, 0x1000, 16, 0x0, 1, 0x0, 1, fun a _ _ => Reg.TRK_WIN_W2_MM a⟩,
  ⟨0x2002C, 0x1000, 16, 0x0, 1, 0x0, 1, fun a _ _ => Reg.TRK_WIN_W1_MM a⟩,
  ⟨0x20030, 0x1000, 16, 0x0, 1, 0x0, 1, fun a _ _ => Reg.TRK_REREF_MM a⟩,
  ⟨0x20034, 0x1000, 16, 0x0, 1, 0x0, 1, fun a _ _ => Reg.TRK_FLOOR_OFS a⟩,
  ⟨0x20038, 0x1000, 16, 0x0, 1, 0x0, 1, fun a _ _ => Reg.TRK_DZB_OFS a⟩,
  ⟨0x2003C, 0x1000, 16, 0x0, 1, 0x0, 1, fun a _ _ => Reg.TRK_LAND a⟩,
  ⟨0x20040, 0x1000, 16, 0x0, 1, 0x0, 1, fun a _ _ => Reg.TRK_LTAB_IDX_WORD a⟩,
  ⟨0x20040, 0x1000, 16, 0x0, 1, 0x0, 1, fun a _ _ => Reg.TRK_LTAB_IDX_LANDING a⟩,
  ⟨0x20044, 0x1000, 16, 0x0, 1, 0x0, 1, fun a _ _ => Reg.TRK_LTAB_DATA a⟩,
  ⟨0x20048, 0x1000, 16, 0x0, 1, 0x0, 1, fun a _ _ => Reg.TRK_LEARN_SPEED_MM a⟩,
  ⟨0x2004C, 0x1000, 16, 0x0, 1, 0x0, 1, fun a _ _ => Reg.TRK_LEARN_STAT_VANES_DN a⟩]

def Reg.rowsCe1 : List RegRow := [
  ⟨0x2004C, 0x1000, 16, 0x0, 1, 0x0, 1, fun a _ _ => Reg.TRK_LEARN_STAT_VANES_UP a⟩,
  ⟨0x2004C, 0x1000, 16, 0x0, 1, 0x0, 1, fun a _ _ => Reg.TRK_LEARN_STAT_RESULT a⟩,
  ⟨0x20050, 0x1000, 16, 0x0, 1, 0x0, 1, fun a _ _ => Reg.TRK_IDX_STAT_GOOD_RUN a⟩,
  ⟨0x20050, 0x1000, 16, 0x0, 1, 0x0, 1, fun a _ _ => Reg.TRK_IDX_STAT_CONSEC a⟩,
  ⟨0x20080, 0x1000, 16, 0x0, 1, 0x0, 1, fun a _ _ => Reg.TRK_LW_CFG_FAULT_OVL a⟩,
  ⟨0x20080, 0x1000, 16, 0x0, 1, 0x0, 1, fun a _ _ => Reg.TRK_LW_CFG_MARGIN_PCT a⟩,
  ⟨0x20080, 0x1000, 16, 0x0, 1, 0x0, 1, fun a _ _ => Reg.TRK_LW_CFG_OVL_PCT a⟩,
  ⟨0x20080, 0x1000, 16, 0x0, 1, 0x0, 1, fun a _ _ => Reg.TRK_LW_CFG_RATED_KG a⟩,
  ⟨0x20084, 0x1000, 16, 0x0, 1, 0x0, 1, fun a _ _ => Reg.TRK_LW_GAIN a⟩,
  ⟨0x20088, 0x1000, 16, 0x0, 1, 0x0, 1, fun a _ _ => Reg.TRK_LW_AUX_ZLIM_KG a⟩,
  ⟨0x20088, 0x1000, 16, 0x0, 1, 0x0, 1, fun a _ _ => Reg.TRK_LW_AUX_STALE_H a⟩,
  ⟨0x2008C, 0x1000, 16, 0x0, 1, 0x0, 1, fun a _ _ => Reg.TRK_LW_ZINIT a⟩,
  ⟨0x20090, 0x1000, 16, 0x0, 1, 0x0, 1, fun a _ _ => Reg.TRK_LW_RAW a⟩,
  ⟨0x20094, 0x1000, 16, 0x0, 1, 0x0, 1, fun a _ _ => Reg.TRK_LW_ZERO a⟩,
  ⟨0x20098, 0x1000, 16, 0x0, 1, 0x0, 1, fun a _ _ => Reg.TRK_LOAD a⟩,
  ⟨0x2009C, 0x1000, 16, 0x0, 1, 0x0, 1, fun a _ _ => Reg.TRK_LOAD_STAT_ZERO_AGE_H a⟩,
  ⟨0x2009C, 0x1000, 16, 0x0, 1, 0x0, 1, fun a _ _ => Reg.TRK_LOAD_STAT_STEADY a⟩,
  ⟨0x2009C, 0x1000, 16, 0x0, 1, 0x0, 1, fun a _ _ => Reg.TRK_LOAD_STAT_FAULT a⟩,
  ⟨0x2009C, 0x1000, 16, 0x0, 1, 0x0, 1, fun a _ _ => Reg.TRK_LOAD_STAT_STALE_ZERO a⟩,
  ⟨0x2009C, 0x1000, 16, 0x0, 1, 0x0, 1, fun a _ _ => Reg.TRK_LOAD_STAT_OVERLOAD a⟩,
  ⟨0x200A0, 0x1000, 16, 0x0, 1, 0x0, 1, fun a _ _ => Reg.TRK_LW_ZREJ a⟩,
  ⟨0x20100, 0x1000, 16, 0x0, 1, 0x0, 1, fun a _ _ => Reg.MOT_CTRL_AUTO_DWELL_MS a⟩,
  ⟨0x20100, 0x1000, 16, 0x0, 1, 0x0, 1, fun a _ _ => Reg.MOT_CTRL_AUTO_PROF a⟩,
  ⟨0x20100, 0x1000, 16, 0x0, 1, 0x0, 1, fun a _ _ => Reg.MOT_CTRL_LEV_EN a⟩,
  ⟨0x20100, 0x1000, 16, 0x0, 1, 0x0, 1, fun a _ _ => Reg.MOT_CTRL_AUTO_OPEN a⟩,
  ⟨0x20104, 0x1000, 16, 0x0, 1, 0x0, 1, fun a _ _ => Reg.MOT_VMAX a⟩,
  ⟨0x20108, 0x1000, 16, 0x0, 1, 0x0, 1, fun a _ _ => Reg.MOT_AJ_J_MAX a⟩,
  ⟨0x20108, 0x1000, 16, 0x0, 1, 0x0, 1, fun a _ _ => Reg.MOT_AJ_A_MAX a⟩,
  ⟨0x2010C, 0x1000, 16, 0x0, 1, 0x0, 1, fun a _ _ => Reg.MOT_SLOW_V_INSP a⟩,
  ⟨0x2010C, 0x1000, 16, 0x0, 1, 0x0, 1, fun a _ _ => Reg.MOT_SLOW_V_REF a⟩,
  ⟨0x2010C, 0x1000, 16, 0x0, 1, 0x0, 1, fun a _ _ => Reg.MOT_SLOW_V_LEV a⟩,
  ⟨0x20110, 0x1000, 16, 0x0, 1, 0x0, 1, fun a _ _ => Reg.MOT_THR_TRACK_ERR a⟩,
  ⟨0x20110, 0x1000, 16, 0x0, 1, 0x0, 1, fun a _ _ => Reg.MOT_THR_TRACK_TICKS a⟩,
  ⟨0x20110, 0x1000, 16, 0x0, 1, 0x0, 1, fun a _ _ => Reg.MOT_THR_CATCH a⟩,
  ⟨0x20114, 0x1000, 16, 0x0, 1, 0x0, 1, fun a _ _ => Reg.MOT_LEV_RELEV_UM a⟩,
  ⟨0x20118, 0x1000, 16, 0x4, 4, 0x0, 1, fun a b _ => Reg.MOT_SERVE a b⟩,
  ⟨0x20130, 0x1000, 16, 0x0, 1, 0x0, 1, fun a _ _ => Reg.MOT_STAT_TARGET a⟩,
  ⟨0x20130, 0x1000, 16, 0x0, 1, 0x0, 1, fun a _ _ => Reg.MOT_STAT_HORIZON a⟩,
  ⟨0x20130, 0x1000, 16, 0x0, 1, 0x0, 1, fun a _ _ => Reg.MOT_STAT_TRACK a⟩,
  ⟨0x20130, 0x1000, 16, 0x0, 1, 0x0, 1, fun a _ _ => Reg.MOT_STAT_REFRUN a⟩]

def Reg.rowsCe2 : List RegRow := [
  ⟨0x20130, 0x1000, 16, 0x0, 1, 0x0, 1, fun a _ _ => Reg.MOT_STAT_RELEV a⟩,
  ⟨0x20130, 0x1000, 16, 0x0, 1, 0x0, 1, fun a _ _ => Reg.MOT_STAT_PRESTOP a⟩,
  ⟨0x20130, 0x1000, 16, 0x0, 1, 0x0, 1, fun a _ _ => Reg.MOT_STAT_LIMITED a⟩,
  ⟨0x20130, 0x1000, 16, 0x0, 1, 0x0, 1, fun a _ _ => Reg.MOT_STAT_COMMITTED a⟩,
  ⟨0x20130, 0x1000, 16, 0x0, 1, 0x0, 1, fun a _ _ => Reg.MOT_STAT_TRIP a⟩,
  ⟨0x20130, 0x1000, 16, 0x0, 1, 0x0, 1, fun a _ _ => Reg.MOT_STAT_DIR a⟩,
  ⟨0x20130, 0x1000, 16, 0x0, 1, 0x0, 1, fun a _ _ => Reg.MOT_STAT_SEG a⟩,
  ⟨0x20134, 0x1000, 16, 0x0, 1, 0x0, 1, fun a _ _ => Reg.MOT_TGT_POS_TGT a⟩,
  ⟨0x20138, 0x1000, 16, 0x0, 1, 0x0, 1, fun a _ _ => Reg.MOT_HZN_POS_HZN a⟩,
  ⟨0x2013C, 0x1000, 16, 0x0, 1, 0x0, 1, fun a _ _ => Reg.MOT_VREF a⟩,
  ⟨0x20140, 0x1000, 16, 0x0, 1, 0x0, 1, fun a _ _ => Reg.MOT_AREF a⟩,
  ⟨0x20144, 0x1000, 16, 0x0, 1, 0x0, 1, fun a _ _ => Reg.MOT_ETA_LO a⟩,
  ⟨0x20148, 0x1000, 16, 0x0, 1, 0x0, 1, fun a _ _ => Reg.MOT_ETA_HI a⟩,
  ⟨0x20150, 0x1000, 16, 0x4, 4, 0x0, 1, fun a b _ => Reg.MOT_CALL_CAR a b⟩,
  ⟨0x20160, 0x1000, 16, 0x4, 4, 0x0, 1, fun a b _ => Reg.MOT_CALL_UP a b⟩,
  ⟨0x20170, 0x1000, 16, 0x4, 4, 0x0, 1, fun a b _ => Reg.MOT_CALL_DN a b⟩,
  ⟨0x20200, 0x1000, 16, 0x0, 1, 0x0, 1, fun a _ _ => Reg.DRP_CTRL_STS_POL a⟩,
  ⟨0x20200, 0x1000, 16, 0x0, 1, 0x0, 1, fun a _ _ => Reg.DRP_CTRL_STS_EN a⟩,
  ⟨0x20200, 0x1000, 16, 0x0, 1, 0x0, 1, fun a _ _ => Reg.DRP_CTRL_EN a⟩,
  ⟨0x20204, 0x1000, 16, 0x0, 1, 0x0, 1, fun a _ _ => Reg.DRP_HOLD_DEC a⟩,
  ⟨0x20204, 0x1000, 16, 0x0, 1, 0x0, 1, fun a _ _ => Reg.DRP_HOLD_MAX a⟩,
  ⟨0x20208, 0x1000, 16, 0x0, 1, 0x0, 1, fun a _ _ => Reg.DRP_STAT_READY a⟩,
  ⟨0x20208, 0x1000, 16, 0x0, 1, 0x0, 1, fun a _ _ => Reg.DRP_STAT_SENDING a⟩,
  ⟨0x20208, 0x1000, 16, 0x0, 1, 0x0, 1, fun a _ _ => Reg.DRP_STAT_HOLD a⟩,
  ⟨0x20208, 0x1000, 16, 0x0, 1, 0x0, 1, fun a _ _ => Reg.DRP_STAT_SEQ a⟩,
  ⟨0x2020C, 0x1000, 16, 0x4, 4, 0x0, 1, fun a b _ => Reg.DRP_FRAME a b⟩,
  ⟨0x2021C, 0x1000, 16, 0x0, 1, 0x0, 1, fun a _ _ => Reg.DRP_CNT_SENT a⟩,
  ⟨0x20220, 0x1000, 16, 0x0, 1, 0x0, 1, fun a _ _ => Reg.DRP_CNT_NRDY a⟩,
  ⟨0x20300, 0x1000, 16, 0x0, 1, 0x0, 1, fun a _ _ => Reg.DOR_CTRL_FM_EN a⟩,
  ⟨0x20300, 0x1000, 16, 0x0, 1, 0x0, 1, fun a _ _ => Reg.DOR_CTRL_FF_LC_IGN a⟩,
  ⟨0x20300, 0x1000, 16, 0x0, 1, 0x0, 1, fun a _ _ => Reg.DOR_CTRL_FF_CP a⟩,
  ⟨0x20300, 0x1000, 16, 0x0, 1, 0x0, 1, fun a _ _ => Reg.DOR_CTRL_RC_NUDGE a⟩,
  ⟨0x20300, 0x1000, 16, 0x0, 1, 0x0, 1, fun a _ _ => Reg.DOR_CTRL_EXCL a⟩,
  ⟨0x20300, 0x1000, 16, 0x0, 1, 0x0, 1, fun a _ _ => Reg.DOR_CTRL_FIT_DB a⟩,
  ⟨0x20300, 0x1000, 16, 0x0, 1, 0x0, 1, fun a _ _ => Reg.DOR_CTRL_FIT_DA a⟩,
  ⟨0x20304, 0x1000, 16, 0x0, 1, 0x0, 1, fun a _ _ => Reg.DOR_MODE_NUDGE_EVAC_S a⟩,
  ⟨0x20308, 0x1000, 16, 0x0, 1, 0x0, 1, fun a _ _ => Reg.DOR_FM_IDX_DOOR a⟩,
  ⟨0x20308, 0x1000, 16, 0x0, 1, 0x0, 1, fun a _ _ => Reg.DOR_FM_IDX_BIN a⟩,
  ⟨0x2030C, 0x1000, 16, 0x0, 1, 0x0, 1, fun a _ _ => Reg.DOR_FM_DATA_F_FRIC a⟩,
  ⟨0x20500, 0x1000, 16, 0x0, 1, 0x0, 1, fun a _ _ => Reg.ILK_CTRL_DIS_TICKS a⟩]

def Reg.rowsCe3 : List RegRow := [
  ⟨0x20500, 0x1000, 16, 0x0, 1, 0x0, 1, fun a _ _ => Reg.ILK_CTRL_AUTO_ORPHAN a⟩,
  ⟨0x20500, 0x1000, 16, 0x0, 1, 0x0, 1, fun a _ _ => Reg.ILK_CTRL_RELEV_OPEN a⟩,
  ⟨0x20500, 0x1000, 16, 0x0, 1, 0x0, 1, fun a _ _ => Reg.ILK_CTRL_AUTO_RECALL a⟩,
  ⟨0x20500, 0x1000, 16, 0x0, 1, 0x0, 1, fun a _ _ => Reg.ILK_CTRL_EVAC_LIFT a⟩,
  ⟨0x20500, 0x1000, 16, 0x0, 1, 0x0, 1, fun a _ _ => Reg.ILK_CTRL_FF_LIFT a⟩,
  ⟨0x20504, 0x1000, 16, 0x0, 1, 0x0, 1, fun a _ _ => Reg.ILK_RECALL_DOORS a⟩,
  ⟨0x20504, 0x1000, 16, 0x0, 1, 0x0, 1, fun a _ _ => Reg.ILK_RECALL_LANDING a⟩,
  ⟨0x20508, 0x1000, 16, 0x0, 1, 0x0, 1, fun a _ _ => Reg.ILK_ROLE0_INSP_DN a⟩,
  ⟨0x20508, 0x1000, 16, 0x0, 1, 0x0, 1, fun a _ _ => Reg.ILK_ROLE0_INSP_UP a⟩,
  ⟨0x20508, 0x1000, 16, 0x0, 1, 0x0, 1, fun a _ _ => Reg.ILK_ROLE0_INSP_IN a⟩,
  ⟨0x20508, 0x1000, 16, 0x0, 1, 0x0, 1, fun a _ _ => Reg.ILK_ROLE0_SC_IN a⟩,
  ⟨0x2050C, 0x1000, 16, 0x0, 1, 0x0, 1, fun a _ _ => Reg.ILK_ROLE1_UCM_RST a⟩,
  ⟨0x2050C, 0x1000, 16, 0x0, 1, 0x0, 1, fun a _ _ => Reg.ILK_ROLE1_FF_IN a⟩,
  ⟨0x2050C, 0x1000, 16, 0x0, 1, 0x0, 1, fun a _ _ => Reg.ILK_ROLE1_RCL_IN a⟩,
  ⟨0x2050C, 0x1000, 16, 0x0, 1, 0x0, 1, fun a _ _ => Reg.ILK_ROLE1_OVL_OUT a⟩,
  ⟨0x20510, 0x1000, 16, 0x0, 1, 0x0, 1, fun a _ _ => Reg.ILK_UCM_V_MM a⟩,
  ⟨0x20510, 0x1000, 16, 0x0, 1, 0x0, 1, fun a _ _ => Reg.ILK_UCM_DIST_MM a⟩,
  ⟨0x20514, 0x1000, 16, 0x0, 1, 0x0, 1, fun a _ _ => Reg.ILK_SAFE_T_ORPHAN_MS a⟩,
  ⟨0x20514, 0x1000, 16, 0x0, 1, 0x0, 1, fun a _ _ => Reg.ILK_SAFE_SFB_DLY_MS a⟩,
  ⟨0x20518, 0x1000, 16, 0x0, 1, 0x0, 1, fun a _ _ => Reg.ILK_OOS_TRACK_WIN_S a⟩,
  ⟨0x20518, 0x1000, 16, 0x0, 1, 0x0, 1, fun a _ _ => Reg.ILK_OOS_TRACK_MAX a⟩,
  ⟨0x2051C, 0x1000, 16, 0x0, 1, 0x0, 1, fun a _ _ => Reg.ILK_EVR_TMO_S a⟩,
  ⟨0x2051C, 0x1000, 16, 0x0, 1, 0x0, 1, fun a _ _ => Reg.ILK_EVR_EXIT_MASK a⟩,
  ⟨0x20520, 0x1000, 16, 0x0, 1, 0x0, 1, fun a _ _ => Reg.ILK_STAT_MODE a⟩,
  ⟨0x20520, 0x1000, 16, 0x0, 1, 0x0, 1, fun a _ _ => Reg.ILK_STAT_EVR_STEP a⟩,
  ⟨0x20520, 0x1000, 16, 0x0, 1, 0x0, 1, fun a _ _ => Reg.ILK_STAT_EVR a⟩,
  ⟨0x20520, 0x1000, 16, 0x0, 1, 0x0, 1, fun a _ _ => Reg.ILK_STAT_FIRE a⟩,
  ⟨0x20520, 0x1000, 16, 0x0, 1, 0x0, 1, fun a _ _ => Reg.ILK_STAT_SAFE_ON a⟩,
  ⟨0x20520, 0x1000, 16, 0x0, 1, 0x0, 1, fun a _ _ => Reg.ILK_STAT_SAFE_LATCH a⟩,
  ⟨0x20520, 0x1000, 16, 0x0, 1, 0x0, 1, fun a _ _ => Reg.ILK_STAT_SAFE_CAUSE a⟩,
  ⟨0x20520, 0x1000, 16, 0x0, 1, 0x0, 1, fun a _ _ => Reg.ILK_STAT_MIRROR_FAULT a⟩,
  ⟨0x20520, 0x1000, 16, 0x0, 1, 0x0, 1, fun a _ _ => Reg.ILK_STAT_MIRROR_OK a⟩,
  ⟨0x20520, 0x1000, 16, 0x0, 1, 0x0, 1, fun a _ _ => Reg.ILK_STAT_HOLD a⟩,
  ⟨0x20520, 0x1000, 16, 0x0, 1, 0x0, 1, fun a _ _ => Reg.ILK_STAT_DB a⟩,
  ⟨0x20520, 0x1000, 16, 0x0, 1, 0x0, 1, fun a _ _ => Reg.ILK_STAT_DA a⟩,
  ⟨0x20520, 0x1000, 16, 0x0, 1, 0x0, 1, fun a _ _ => Reg.ILK_STAT_RUN a⟩,
  ⟨0x20520, 0x1000, 16, 0x0, 1, 0x0, 1, fun a _ _ => Reg.ILK_STAT_PREV_MODE a⟩,
  ⟨0x20524, 0x1000, 16, 0x0, 1, 0x0, 1, fun a _ _ => Reg.ILK_ACTIVE_F a⟩,
  ⟨0x20528, 0x1000, 16, 0x0, 1, 0x0, 1, fun a _ _ => Reg.ILK_ACTIVE_C a⟩,
  ⟨0x20540, 0x1000, 16, 0x8, 16, 0x0, 1, fun a b _ => Reg.ILK_RULE_EN a b⟩]

def Reg.rowsCe4 : List RegRow := [
  ⟨0x20540, 0x1000, 16, 0x8, 16, 0x0, 1, fun a b _ => Reg.ILK_RULE_POL_B a b⟩,
  ⟨0x20540, 0x1000, 16, 0x8, 16, 0x0, 1, fun a b _ => Reg.ILK_RULE_POL_A a b⟩,
  ⟨0x20540, 0x1000, 16, 0x8, 16, 0x0, 1, fun a b _ => Reg.ILK_RULE_OP a b⟩,
  ⟨0x20540, 0x1000, 16, 0x8, 16, 0x0, 1, fun a b _ => Reg.ILK_RULE_SIG_B a b⟩,
  ⟨0x20540, 0x1000, 16, 0x8, 16, 0x0, 1, fun a b _ => Reg.ILK_RULE_SIG_A a b⟩,
  ⟨0x20540, 0x1000, 16, 0x8, 16, 0x0, 1, fun a b _ => Reg.ILK_RULE_EFFECT a b⟩,
  ⟨0x20544, 0x1000, 16, 0x8, 16, 0x0, 1, fun a b _ => Reg.ILK_SCOPE_MODES a b⟩,
  ⟨0x20544, 0x1000, 16, 0x8, 16, 0x0, 1, fun a b _ => Reg.ILK_SCOPE_TICKS a b⟩,
  ⟨0x205C0, 0x1000, 16, 0x0, 1, 0x0, 1, fun a _ _ => Reg.ILK_CNT_SAFE a⟩,
  ⟨0x205C4, 0x1000, 16, 0x0, 1, 0x0, 1, fun a _ _ => Reg.ILK_CNT_UCM a⟩,
  ⟨0x205C8, 0x1000, 16, 0x0, 1, 0x0, 1, fun a _ _ => Reg.ILK_CNT_REFUSE a⟩,
  ⟨0x20600, 0x1000, 16, 0x0, 1, 0x0, 1, fun a _ _ => Reg.LMP_STAT_PEND1 a⟩,
  ⟨0x20600, 0x1000, 16, 0x0, 1, 0x0, 1, fun a _ _ => Reg.LMP_STAT_PEND0 a⟩,
  ⟨0x20604, 0x1000, 16, 0x0, 1, 0x0, 1, fun a _ _ => Reg.LMP_TAG_TAG1 a⟩,
  ⟨0x20604, 0x1000, 16, 0x0, 1, 0x0, 1, fun a _ _ => Reg.LMP_TAG_TAG0 a⟩,
  ⟨0x20608, 0x1000, 16, 0x4, 2, 0x0, 1, fun a b _ => Reg.LMP_TID a b⟩,
  ⟨0x20610, 0x1000, 16, 0x0, 1, 0x0, 1, fun a _ _ => Reg.LMP_CNT_SWAP a⟩,
  ⟨0x20614, 0x1000, 16, 0x0, 1, 0x0, 1, fun a _ _ => Reg.LMP_CNT_RESTART a⟩,
  ⟨0x20060, 0x1000, 16, 0x0, 1, 0x0, 1, fun a _ _ => Reg.TRK_CNT_IDXCOR a⟩,
  ⟨0x20064, 0x1000, 16, 0x0, 1, 0x0, 1, fun a _ _ => Reg.TRK_CNT_IDXFLT a⟩,
  ⟨0x20068, 0x1000, 16, 0x0, 1, 0x0, 1, fun a _ _ => Reg.TRK_CNT_SLEW a⟩,
  ⟨0x2006C, 0x1000, 16, 0x0, 1, 0x0, 1, fun a _ _ => Reg.TRK_CNT_STEP a⟩,
  ⟨0x20070, 0x1000, 16, 0x0, 1, 0x0, 1, fun a _ _ => Reg.TRK_CNT_MISS a⟩,
  ⟨0x20074, 0x1000, 16, 0x0, 1, 0x0, 1, fun a _ _ => Reg.TRK_CNT_LATEEDGE a⟩,
  ⟨0x20078, 0x1000, 16, 0x0, 1, 0x0, 1, fun a _ _ => Reg.TRK_CNT_REREF a⟩,
  ⟨0x2007C, 0x1000, 16, 0x0, 1, 0x0, 1, fun a _ _ => Reg.TRK_CNT_SSIERR a⟩,
  ⟨0x20180, 0x1000, 16, 0x0, 1, 0x0, 1, fun a _ _ => Reg.MOT_CNT_TRIP a⟩,
  ⟨0x20184, 0x1000, 16, 0x0, 1, 0x0, 1, fun a _ _ => Reg.MOT_CNT_RETGT a⟩,
  ⟨0x20188, 0x1000, 16, 0x0, 1, 0x0, 1, fun a _ _ => Reg.MOT_CNT_FLY a⟩,
  ⟨0x2018C, 0x1000, 16, 0x0, 1, 0x0, 1, fun a _ _ => Reg.MOT_CNT_PRESTOP a⟩,
  ⟨0x20190, 0x1000, 16, 0x0, 1, 0x0, 1, fun a _ _ => Reg.MOT_CNT_RELEV a⟩,
  ⟨0x20194, 0x1000, 16, 0x0, 1, 0x0, 1, fun a _ _ => Reg.MOT_CNT_TRACK a⟩,
  ⟨0x20340, 0x1000, 16, 0x80, 2, 0x0, 1, fun a b _ => Reg.DOR_ROLE_LOCK_IN a b⟩,
  ⟨0x20340, 0x1000, 16, 0x80, 2, 0x0, 1, fun a b _ => Reg.DOR_ROLE_BUZ_OUT a b⟩,
  ⟨0x20340, 0x1000, 16, 0x80, 2, 0x0, 1, fun a b _ => Reg.DOR_ROLE_ENC_EN a b⟩,
  ⟨0x20340, 0x1000, 16, 0x80, 2, 0x0, 1, fun a b _ => Reg.DOR_ROLE_ENC_DIR a b⟩,
  ⟨0x20340, 0x1000, 16, 0x80, 2, 0x0, 1, fun a b _ => Reg.DOR_ROLE_MOT_DIR a b⟩,
  ⟨0x20340, 0x1000, 16, 0x80, 2, 0x0, 1, fun a b _ => Reg.DOR_ROLE_STALL a b⟩,
  ⟨0x20344, 0x1000, 16, 0x80, 2, 0x0, 1, fun a b _ => Reg.DOR_PROT_DCB a b⟩,
  ⟨0x20344, 0x1000, 16, 0x80, 2, 0x0, 1, fun a b _ => Reg.DOR_PROT_DOB a b⟩]

def Reg.rowsCe5 : List RegRow := [
  ⟨0x20344, 0x1000, 16, 0x80, 2, 0x0, 1, fun a b _ => Reg.DOR_PROT_SE a b⟩,
  ⟨0x20344, 0x1000, 16, 0x80, 2, 0x0, 1, fun a b _ => Reg.DOR_PROT_LC a b⟩,
  ⟨0x20348, 0x1000, 16, 0x80, 2, 0x0, 1, fun a b _ => Reg.DOR_GEOM_UM_FS a b⟩,
  ⟨0x20348, 0x1000, 16, 0x80, 2, 0x0, 1, fun a b _ => Reg.DOR_GEOM_WIDTH_MM a b⟩,
  ⟨0x2034C, 0x1000, 16, 0x80, 2, 0x0, 1, fun a b _ => Reg.DOR_ENC_UM_CNT a b⟩,
  ⟨0x2034C, 0x1000, 16, 0x80, 2, 0x0, 1, fun a b _ => Reg.DOR_ENC_CPR a b⟩,
  ⟨0x20350, 0x1000, 16, 0x80, 2, 0x4, 4, fun a b c => Reg.DOR_OPEN_A_OPEN a b c⟩,
  ⟨0x20350, 0x1000, 16, 0x80, 2, 0x4, 4, fun a b c => Reg.DOR_OPEN_V_OPEN a b c⟩,
  ⟨0x20360, 0x1000, 16, 0x80, 2, 0x0, 1, fun a b _ => Reg.DOR_CLOSE_A_CLOSE a b⟩,
  ⟨0x20360, 0x1000, 16, 0x80, 2, 0x0, 1, fun a b _ => Reg.DOR_CLOSE_V_CLOSE a b⟩,
  ⟨0x20364, 0x1000, 16, 0x80, 2, 0x0, 1, fun a b _ => Reg.DOR_SPD_V_NUDGE a b⟩,
  ⟨0x20364, 0x1000, 16, 0x80, 2, 0x0, 1, fun a b _ => Reg.DOR_SPD_V_CREEP a b⟩,
  ⟨0x20364, 0x1000, 16, 0x80, 2, 0x0, 1, fun a b _ => Reg.DOR_SPD_X_APP a b⟩,
  ⟨0x20368, 0x1000, 16, 0x80, 2, 0x0, 1, fun a b _ => Reg.DOR_CUR_I_RUN_MAX a b⟩,
  ⟨0x20368, 0x1000, 16, 0x80, 2, 0x0, 1, fun a b _ => Reg.DOR_CUR_I_RUN_MIN a b⟩,
  ⟨0x20368, 0x1000, 16, 0x80, 2, 0x0, 1, fun a b _ => Reg.DOR_CUR_I_HOLD a b⟩,
  ⟨0x2036C, 0x1000, 16, 0x80, 2, 0x0, 1, fun a b _ => Reg.DOR_STALLW_DEV_WIN a b⟩,
  ⟨0x2036C, 0x1000, 16, 0x80, 2, 0x0, 1, fun a b _ => Reg.DOR_STALLW_T_E a b⟩,
  ⟨0x2036C, 0x1000, 16, 0x80, 2, 0x0, 1, fun a b _ => Reg.DOR_STALLW_T_OBS a b⟩,
  ⟨0x20370, 0x1000, 16, 0x80, 2, 0x0, 1, fun a b _ => Reg.DOR_FORCE_F_LIM a b⟩,
  ⟨0x20370, 0x1000, 16, 0x80, 2, 0x0, 1, fun a b _ => Reg.DOR_FORCE_F_OBS a b⟩,
  ⟨0x20370, 0x1000, 16, 0x80, 2, 0x0, 1, fun a b _ => Reg.DOR_FORCE_K_F a b⟩,
  ⟨0x20374, 0x1000, 16, 0x80, 2, 0x0, 1, fun a b _ => Reg.DOR_ENERGY_MASS_KG a b⟩,
  ⟨0x20374, 0x1000, 16, 0x80, 2, 0x0, 1, fun a b _ => Reg.DOR_ENERGY_KE_NUDGE a b⟩,
  ⟨0x20374, 0x1000, 16, 0x80, 2, 0x0, 1, fun a b _ => Reg.DOR_ENERGY_KE_MAX a b⟩,
  ⟨0x20378, 0x1000, 16, 0x80, 2, 0x0, 1, fun a b _ => Reg.DOR_TIME_NUDGE_S a b⟩,
  ⟨0x20378, 0x1000, 16, 0x80, 2, 0x0, 1, fun a b _ => Reg.DOR_TIME_T_LOCK a b⟩,
  ⟨0x20378, 0x1000, 16, 0x80, 2, 0x0, 1, fun a b _ => Reg.DOR_TIME_REV_MAX a b⟩,
  ⟨0x20378, 0x1000, 16, 0x80, 2, 0x0, 1, fun a b _ => Reg.DOR_TIME_DWELL_AFTER a b⟩,
  ⟨0x2037C, 0x1000, 16, 0x80, 2, 0x4, 4, fun a b c => Reg.DOR_LAD_UODD a b c⟩,
  ⟨0x2037C, 0x1000, 16, 0x80, 2, 0x4, 4, fun a b c => Reg.DOR_LAD_UEVEN a b c⟩,
  ⟨0x2038C, 0x1000, 16, 0x80, 2, 0x0, 1, fun a b _ => Reg.DOR_CATCHR_CATCH a b⟩,
  ⟨0x20390, 0x1000, 16, 0x80, 2, 0x0, 1, fun a b _ => Reg.DOR_STAT_STATE a b⟩,
  ⟨0x20390, 0x1000, 16, 0x80, 2, 0x0, 1, fun a b _ => Reg.DOR_STAT_RES a b⟩,
  ⟨0x20390, 0x1000, 16, 0x80, 2, 0x0, 1, fun a b _ => Reg.DOR_STAT_REFD a b⟩,
  ⟨0x20390, 0x1000, 16, 0x80, 2, 0x0, 1, fun a b _ => Reg.DOR_STAT_PARTIAL a b⟩,
  ⟨0x20390, 0x1000, 16, 0x80, 2, 0x0, 1, fun a b _ => Reg.DOR_STAT_NUDGE a b⟩,
  ⟨0x20390, 0x1000, 16, 0x80, 2, 0x0, 1, fun a b _ => Reg.DOR_STAT_SUSPECT a b⟩,
  ⟨0x20390, 0x1000, 16, 0x80, 2, 0x0, 1, fun a b _ => Reg.DOR_STAT_ENC_LOST a b⟩,
  ⟨0x20390, 0x1000, 16, 0x80, 2, 0x0, 1, fun a b _ => Reg.DOR_STAT_LOCK a b⟩]

def Reg.rowsCe6 : List RegRow := [
  ⟨0x20390, 0x1000, 16, 0x80, 2, 0x0, 1, fun a b _ => Reg.DOR_STAT_LC a b⟩,
  ⟨0x20390, 0x1000, 16, 0x80, 2, 0x0, 1, fun a b _ => Reg.DOR_STAT_SE a b⟩,
  ⟨0x20390, 0x1000, 16, 0x80, 2, 0x0, 1, fun a b _ => Reg.DOR_STAT_BOOST a b⟩,
  ⟨0x20390, 0x1000, 16, 0x80, 2, 0x0, 1, fun a b _ => Reg.DOR_STAT_FM_VALID a b⟩,
  ⟨0x20390, 0x1000, 16, 0x80, 2, 0x0, 1, fun a b _ => Reg.DOR_STAT_REV a b⟩,
  ⟨0x20390, 0x1000, 16, 0x80, 2, 0x0, 1, fun a b _ => Reg.DOR_STAT_FAULT a b⟩,
  ⟨0x20394, 0x1000, 16, 0x80, 2, 0x0, 1, fun a b _ => Reg.DOR_POS a b⟩,
  ⟨0x20398, 0x1000, 16, 0x80, 2, 0x0, 1, fun a b _ => Reg.DOR_VEL a b⟩,
  ⟨0x2039C, 0x1000, 16, 0x80, 2, 0x0, 1, fun a b _ => Reg.DOR_EST_F_EST a b⟩,
  ⟨0x2039C, 0x1000, 16, 0x80, 2, 0x0, 1, fun a b _ => Reg.DOR_EST_IRUN a b⟩,
  ⟨0x203A0, 0x1000, 16, 0x80, 2, 0x0, 1, fun a b _ => Reg.DOR_CNT_CYC a b⟩,
  ⟨0x203A4, 0x1000, 16, 0x80, 2, 0x0, 1, fun a b _ => Reg.DOR_CNT_REV a b⟩,
  ⟨0x203A8, 0x1000, 16, 0x80, 2, 0x0, 1, fun a b _ => Reg.DOR_CNT_OBS a b⟩,
  ⟨0x203AC, 0x1000, 16, 0x80, 2, 0x0, 1, fun a b _ => Reg.DOR_CNT_NUDGE a b⟩,
  ⟨0x203B0, 0x1000, 16, 0x80, 2, 0x0, 1, fun a b _ => Reg.DOR_CNT_FAULT a b⟩,
  ⟨0x2052C, 0x1000, 16, 0x0, 1, 0x0, 1, fun a _ _ => Reg.ILK_DIS_CNT a⟩,
  ⟨0x20530, 0x1000, 16, 0x0, 1, 0x0, 1, fun a _ _ => Reg.ILK_MISS_CNT a⟩,
  ⟨0x20534, 0x1000, 16, 0x0, 1, 0x0, 1, fun a _ _ => Reg.ILK_TRACK_RUN a⟩,
  ⟨0x20538, 0x1000, 16, 0x0, 1, 0x0, 1, fun a _ _ => Reg.ILK_EVR_TAG a⟩,
  ⟨0x2053C, 0x1000, 16, 0x0, 1, 0x0, 1, fun a _ _ => Reg.ILK_EVR_LANDING a⟩]

/-- Rows of the engine windows (R466). -/
def Reg.rowsCe : List RegRow :=
  Reg.rowsCe0 ++ Reg.rowsCe1 ++ Reg.rowsCe2 ++ Reg.rowsCe3 ++ Reg.rowsCe4 ++ Reg.rowsCe5 ++ Reg.rowsCe6

def Reg.rowsSl0 : List RegRow := [
  ⟨0x40000, 0x4000, 16, 0x0, 1, 0x0, 1, fun a _ _ => Reg.SLP_CHIPID_PART a⟩,
  ⟨0x40000, 0x4000, 16, 0x0, 1, 0x0, 1, fun a _ _ => Reg.SLP_CHIPID_STEP a⟩,
  ⟨0x40004, 0x4000, 16, 0x0, 1, 0x0, 1, fun a _ _ => Reg.SLP_SER_LO a⟩,
  ⟨0x40008, 0x4000, 16, 0x0, 1, 0x0, 1, fun a _ _ => Reg.SLP_SER_HI a⟩,
  ⟨0x4000C, 0x4000, 16, 0x0, 1, 0x0, 1, fun a _ _ => Reg.SLP_HASH_LO a⟩,
  ⟨0x40010, 0x4000, 16, 0x0, 1, 0x0, 1, fun a _ _ => Reg.SLP_HASH_HI a⟩,
  ⟨0x40014, 0x4000, 16, 0x0, 1, 0x0, 1, fun a _ _ => Reg.SLP_REC_SER_LO a⟩,
  ⟨0x40018, 0x4000, 16, 0x0, 1, 0x0, 1, fun a _ _ => Reg.SLP_REC_SER_HI a⟩,
  ⟨0x4001C, 0x4000, 16, 0x0, 1, 0x0, 1, fun a _ _ => Reg.SLP_REC_HASH_LO a⟩,
  ⟨0x40020, 0x4000, 16, 0x0, 1, 0x0, 1, fun a _ _ => Reg.SLP_REC_HASH_HI a⟩,
  ⟨0x40024, 0x4000, 16, 0x0, 1, 0x0, 1, fun a _ _ => Reg.SLP_CTRL_EN a⟩,
  ⟨0x40028, 0x4000, 16, 0x0, 1, 0x0, 1, fun a _ _ => Reg.SLP_LEASE_G_MS a⟩,
  ⟨0x40028, 0x4000, 16, 0x0, 1, 0x0, 1, fun a _ _ => Reg.SLP_LEASE_L_MS a⟩,
  ⟨0x4002C, 0x4000, 16, 0x0, 1, 0x0, 1, fun a _ _ => Reg.SLP_RETRY_T_MS a⟩,
  ⟨0x40030, 0x4000, 16, 0x0, 1, 0x0, 1, fun a _ _ => Reg.SLP_STAT_EPOCH a⟩,
  ⟨0x40030, 0x4000, 16, 0x0, 1, 0x0, 1, fun a _ _ => Reg.SLP_STAT_DLY_FAIL a⟩,
  ⟨0x40030, 0x4000, 16, 0x0, 1, 0x0, 1, fun a _ _ => Reg.SLP_STAT_CFG_PEND a⟩,
  ⟨0x40030, 0x4000, 16, 0x0, 1, 0x0, 1, fun a _ _ => Reg.SLP_STAT_PUSH a⟩,
  ⟨0x40030, 0x4000, 16, 0x0, 1, 0x0, 1, fun a _ _ => Reg.SLP_STAT_OWN a⟩,
  ⟨0x40030, 0x4000, 16, 0x0, 1, 0x0, 1, fun a _ _ => Reg.SLP_STAT_LSTATE a⟩,
  ⟨0x40030, 0x4000, 16, 0x0, 1, 0x0, 1, fun a _ _ => Reg.SLP_STAT_HOLDER a⟩,
  ⟨0x40030, 0x4000, 16, 0x0, 1, 0x0, 1, fun a _ _ => Reg.SLP_STAT_STALE a⟩,
  ⟨0x40030, 0x4000, 16, 0x0, 1, 0x0, 1, fun a _ _ => Reg.SLP_STAT_ID_PEND a⟩,
  ⟨0x40030, 0x4000, 16, 0x0, 1, 0x0, 1, fun a _ _ => Reg.SLP_STAT_LINK a⟩,
  ⟨0x40034, 0x4000, 16, 0x0, 1, 0x0, 1, fun a _ _ => Reg.SLP_LEASE_STAT_ORPH_MS a⟩,
  ⟨0x40034, 0x4000, 16, 0x0, 1, 0x0, 1, fun a _ _ => Reg.SLP_LEASE_STAT_REM_MS a⟩,
  ⟨0x40038, 0x4000, 16, 0x0, 1, 0x0, 1, fun a _ _ => Reg.SLP_SEED a⟩,
  ⟨0x4003C, 0x4000, 16, 0x0, 1, 0x0, 1, fun a _ _ => Reg.SLP_RETRY_STAT_REM_MS a⟩,
  ⟨0x4003C, 0x4000, 16, 0x0, 1, 0x0, 1, fun a _ _ => Reg.SLP_RETRY_STAT_ATTEMPTS a⟩,
  ⟨0x40040, 0x4000, 16, 0x0, 1, 0x0, 1, fun a _ _ => Reg.SLP_BOOT a⟩,
  ⟨0x40044, 0x4000, 16, 0x0, 1, 0x0, 1, fun a _ _ => Reg.SLP_TURN a⟩,
  ⟨0x40400, 0x4000, 16, 0x0, 1, 0x0, 1, fun a _ _ => Reg.FIO_CTRL_SCAN a⟩,
  ⟨0x40404, 0x4000, 16, 0x0, 1, 0x0, 1, fun a _ _ => Reg.FIO_STAT_EDGE_PEND a⟩,
  ⟨0x40404, 0x4000, 16, 0x0, 1, 0x0, 1, fun a _ _ => Reg.FIO_STAT_PROBE a⟩,
  ⟨0x40404, 0x4000, 16, 0x0, 1, 0x0, 1, fun a _ _ => Reg.FIO_STAT_VS_OK a⟩,
  ⟨0x40404, 0x4000, 16, 0x0, 1, 0x0, 1, fun a _ _ => Reg.FIO_STAT_FAULT a⟩,
  ⟨0x40408, 0x4000, 16, 0x0, 1, 0x0, 1, fun a _ _ => Reg.FIO_RAW a⟩,
  ⟨0x4040C, 0x4000, 16, 0x0, 1, 0x0, 1, fun a _ _ => Reg.FIO_VAL a⟩,
  ⟨0x40410, 0x4000, 16, 0x0, 1, 0x0, 1, fun a _ _ => Reg.FIO_STUCK a⟩,
  ⟨0x40414, 0x4000, 16, 0x0, 1, 0x0, 1, fun a _ _ => Reg.FIO_CHAT a⟩]

def Reg.rowsSl1 : List RegRow := [
  ⟨0x40418, 0x4000, 16, 0x0, 1, 0x0, 1, fun a _ _ => Reg.FIO_WBRK a⟩,
  ⟨0x40430, 0x4000, 16, 0x8, 4, 0x0, 1, fun a b _ => Reg.FIO_PROF_A_STUCK_S a b⟩,
  ⟨0x40434, 0x4000, 16, 0x8, 4, 0x0, 1, fun a b _ => Reg.FIO_PROF_B_CHAT_N a b⟩,
  ⟨0x40434, 0x4000, 16, 0x8, 4, 0x0, 1, fun a b _ => Reg.FIO_PROF_B_WB_MS a b⟩,
  ⟨0x40434, 0x4000, 16, 0x8, 4, 0x0, 1, fun a b _ => Reg.FIO_PROF_B_CHAT_MS a b⟩,
  ⟨0x40450, 0x4000, 16, 0x4, 32, 0x0, 1, fun a b _ => Reg.FIO_IN_PROF a b⟩,
  ⟨0x40450, 0x4000, 16, 0x4, 32, 0x0, 1, fun a b _ => Reg.FIO_IN_STAMP a b⟩,
  ⟨0x40450, 0x4000, 16, 0x4, 32, 0x0, 1, fun a b _ => Reg.FIO_IN_WB_EN a b⟩,
  ⟨0x40450, 0x4000, 16, 0x4, 32, 0x0, 1, fun a b _ => Reg.FIO_IN_SAFE a b⟩,
  ⟨0x40450, 0x4000, 16, 0x4, 32, 0x0, 1, fun a b _ => Reg.FIO_IN_POL a b⟩,
  ⟨0x40450, 0x4000, 16, 0x4, 32, 0x0, 1, fun a b _ => Reg.FIO_IN_FILT a b⟩,
  ⟨0x404D0, 0x4000, 16, 0x0, 1, 0x0, 1, fun a _ _ => Reg.FIO_OUT_PAR a⟩,
  ⟨0x404D4, 0x4000, 16, 0x0, 1, 0x0, 1, fun a _ _ => Reg.FIO_OUT_INIT a⟩,
  ⟨0x404D8, 0x4000, 16, 0x0, 1, 0x0, 1, fun a _ _ => Reg.FIO_OUT_DIAG_SB_EN a⟩,
  ⟨0x404D8, 0x4000, 16, 0x0, 1, 0x0, 1, fun a _ _ => Reg.FIO_OUT_DIAG_OL_EN a⟩,
  ⟨0x404DC, 0x4000, 16, 0x0, 1, 0x0, 1, fun a _ _ => Reg.FIO_OUT_CMD_ROLE a⟩,
  ⟨0x404DC, 0x4000, 16, 0x0, 1, 0x0, 1, fun a _ _ => Reg.FIO_OUT_CMD_ACTION a⟩,
  ⟨0x404E0, 0x4000, 16, 0x0, 1, 0x0, 1, fun a _ _ => Reg.FIO_SAFE_CFG_SFB_INV_B a⟩,
  ⟨0x404E0, 0x4000, 16, 0x0, 1, 0x0, 1, fun a _ _ => Reg.FIO_SAFE_CFG_SFB_INV_A a⟩,
  ⟨0x404E4, 0x4000, 16, 0x0, 1, 0x0, 1, fun a _ _ => Reg.FIO_SAFE_STAT_MISM_B a⟩,
  ⟨0x404E4, 0x4000, 16, 0x0, 1, 0x0, 1, fun a _ _ => Reg.FIO_SAFE_STAT_MISM_A a⟩,
  ⟨0x404E4, 0x4000, 16, 0x0, 1, 0x0, 1, fun a _ _ => Reg.FIO_SAFE_STAT_SFB_B a⟩,
  ⟨0x404E4, 0x4000, 16, 0x0, 1, 0x0, 1, fun a _ _ => Reg.FIO_SAFE_STAT_SFB_A a⟩,
  ⟨0x404E4, 0x4000, 16, 0x0, 1, 0x0, 1, fun a _ _ => Reg.FIO_SAFE_STAT_TRAIN_B a⟩,
  ⟨0x404E4, 0x4000, 16, 0x0, 1, 0x0, 1, fun a _ _ => Reg.FIO_SAFE_STAT_TRAIN_A a⟩,
  ⟨0x404E8, 0x4000, 16, 0x0, 1, 0x0, 1, fun a _ _ => Reg.FIO_PROBE_DONE a⟩,
  ⟨0x404E8, 0x4000, 16, 0x0, 1, 0x0, 1, fun a _ _ => Reg.FIO_PROBE_RESULT a⟩,
  ⟨0x404E8, 0x4000, 16, 0x0, 1, 0x0, 1, fun a _ _ => Reg.FIO_PROBE_CHANNEL a⟩,
  ⟨0x404E8, 0x4000, 16, 0x0, 1, 0x0, 1, fun a _ _ => Reg.FIO_PROBE_STEP a⟩,
  ⟨0x40900, 0x4000, 16, 0x0, 1, 0x0, 1, fun a _ _ => Reg.LMP_S_CFG_VB_MAX a⟩,
  ⟨0x40900, 0x4000, 16, 0x0, 1, 0x0, 1, fun a _ _ => Reg.LMP_S_CFG_SRC_B a⟩,
  ⟨0x40900, 0x4000, 16, 0x0, 1, 0x0, 1, fun a _ _ => Reg.LMP_S_CFG_SRC_A a⟩,
  ⟨0x40900, 0x4000, 16, 0x0, 1, 0x0, 1, fun a _ _ => Reg.LMP_S_CFG_TEST_EN a⟩,
  ⟨0x40900, 0x4000, 16, 0x0, 1, 0x0, 1, fun a _ _ => Reg.LMP_S_CFG_STR_EN a⟩,
  ⟨0x40904, 0x4000, 16, 0x0, 1, 0x0, 1, fun a _ _ => Reg.LMP_S_NTC_B a⟩,
  ⟨0x40904, 0x4000, 16, 0x0, 1, 0x0, 1, fun a _ _ => Reg.LMP_S_NTC_R25 a⟩,
  ⟨0x40908, 0x4000, 16, 0x0, 1, 0x0, 1, fun a _ _ => Reg.LMP_S_DERATE_KNEE a⟩,
  ⟨0x40908, 0x4000, 16, 0x0, 1, 0x0, 1, fun a _ _ => Reg.LMP_S_DERATE_SLOPE a⟩,
  ⟨0x40908, 0x4000, 16, 0x0, 1, 0x0, 1, fun a _ _ => Reg.LMP_S_DERATE_FLOOR a⟩,
  ⟨0x40920, 0x4000, 16, 0x0, 1, 0x0, 1, fun a _ _ => Reg.LMP_S_STAT_LATCH a⟩]

def Reg.rowsSl2 : List RegRow := [
  ⟨0x40920, 0x4000, 16, 0x0, 1, 0x0, 1, fun a _ _ => Reg.LMP_S_STAT_UNTESTED a⟩,
  ⟨0x40920, 0x4000, 16, 0x0, 1, 0x0, 1, fun a _ _ => Reg.LMP_S_STAT_ON a⟩,
  ⟨0x40920, 0x4000, 16, 0x0, 1, 0x0, 1, fun a _ _ => Reg.LMP_S_STAT_FLAGS a⟩,
  ⟨0x40924, 0x4000, 16, 0x0, 1, 0x0, 1, fun a _ _ => Reg.LMP_S_VB_HEAD a⟩,
  ⟨0x40924, 0x4000, 16, 0x0, 1, 0x0, 1, fun a _ _ => Reg.LMP_S_VB a⟩,
  ⟨0x40928, 0x4000, 16, 0x0, 1, 0x0, 1, fun a _ _ => Reg.LMP_S_TEMP_DIE a⟩,
  ⟨0x40928, 0x4000, 16, 0x0, 1, 0x0, 1, fun a _ _ => Reg.LMP_S_TEMP_TB a⟩,
  ⟨0x40928, 0x4000, 16, 0x0, 1, 0x0, 1, fun a _ _ => Reg.LMP_S_TEMP_TA a⟩,
  ⟨0x4092C, 0x4000, 16, 0x0, 1, 0x0, 1, fun a _ _ => Reg.LMP_S_FACT_FB a⟩,
  ⟨0x4092C, 0x4000, 16, 0x0, 1, 0x0, 1, fun a _ _ => Reg.LMP_S_FACT_FA a⟩,
  ⟨0x40A00, 0x4000, 16, 0x0, 1, 0x0, 1, fun a _ _ => Reg.HLC_CTRL_EN1 a⟩,
  ⟨0x40A00, 0x4000, 16, 0x0, 1, 0x0, 1, fun a _ _ => Reg.HLC_CTRL_EN0 a⟩,
  ⟨0x40A00, 0x4000, 16, 0x0, 1, 0x0, 1, fun a _ _ => Reg.HLC_CTRL_PERIOD_US a⟩,
  ⟨0x40A04, 0x4000, 16, 0x4, 2, 0x0, 1, fun a b _ => Reg.HLC_PORT_ORPH_SCENE a b⟩,
  ⟨0x40A04, 0x4000, 16, 0x4, 2, 0x0, 1, fun a b _ => Reg.HLC_PORT_RETEST_FR a b⟩,
  ⟨0x40A04, 0x4000, 16, 0x4, 2, 0x0, 1, fun a b _ => Reg.HLC_PORT_NODES a b⟩,
  ⟨0x40A10, 0x4000, 16, 0x4, 2, 0x0, 1, fun a b _ => Reg.HLC_STAT_STATE a b⟩,
  ⟨0x40A10, 0x4000, 16, 0x4, 2, 0x0, 1, fun a b _ => Reg.HLC_STAT_REACH a b⟩,
  ⟨0x40A10, 0x4000, 16, 0x4, 2, 0x0, 1, fun a b _ => Reg.HLC_STAT_SH_TAG a b⟩,
  ⟨0x40A18, 0x4000, 16, 0x4, 2, 0x0, 1, fun a b _ => Reg.HLC_SHD_SH_LIB a b⟩,
  ⟨0x40A18, 0x4000, 16, 0x4, 2, 0x0, 1, fun a b _ => Reg.HLC_SHD_SH_NODE a b⟩,
  ⟨0x40A40, 0x4000, 16, 0x0, 1, 0x0, 1, fun a _ _ => Reg.HLC_SCN_IDX_SEL a⟩,
  ⟨0x40A40, 0x4000, 16, 0x0, 1, 0x0, 1, fun a _ _ => Reg.HLC_SCN_IDX_INDEX a⟩,
  ⟨0x40A44, 0x4000, 16, 0x0, 1, 0x0, 1, fun a _ _ => Reg.HLC_SCN_DATA0 a⟩,
  ⟨0x40A48, 0x4000, 16, 0x0, 1, 0x0, 1, fun a _ _ => Reg.HLC_SCN_DATA1 a⟩,
  ⟨0x40A4C, 0x4000, 16, 0x0, 1, 0x0, 1, fun a _ _ => Reg.HLC_SCN_DATA2 a⟩,
  ⟨0x40800, 0x4000, 16, 0x0, 1, 0x0, 1, fun a _ _ => Reg.DRV_CFG_DEAD a⟩,
  ⟨0x40800, 0x4000, 16, 0x0, 1, 0x0, 1, fun a _ _ => Reg.DRV_CFG_RSH a⟩,
  ⟨0x40800, 0x4000, 16, 0x0, 1, 0x0, 1, fun a _ _ => Reg.DRV_CFG_OCP a⟩,
  ⟨0x40800, 0x4000, 16, 0x0, 1, 0x0, 1, fun a _ _ => Reg.DRV_CFG_VM_UV a⟩,
  ⟨0x40804, 0x4000, 16, 0x0, 1, 0x0, 1, fun a _ _ => Reg.DRV_VM a⟩,
  ⟨0x40808, 0x4000, 16, 0x4, 2, 0x0, 1, fun a b _ => Reg.DRV_STAT_OC a b⟩,
  ⟨0x40808, 0x4000, 16, 0x4, 2, 0x0, 1, fun a b _ => Reg.DRV_STAT_OPEN_A a b⟩,
  ⟨0x40808, 0x4000, 16, 0x4, 2, 0x0, 1, fun a b _ => Reg.DRV_STAT_OPEN_B a b⟩,
  ⟨0x40808, 0x4000, 16, 0x4, 2, 0x0, 1, fun a b _ => Reg.DRV_STAT_GATE a b⟩,
  ⟨0x40808, 0x4000, 16, 0x4, 2, 0x0, 1, fun a b _ => Reg.DRV_STAT_THERM a b⟩,
  ⟨0x40808, 0x4000, 16, 0x4, 2, 0x0, 1, fun a b _ => Reg.DRV_STAT_VM_RANGE a b⟩,
  ⟨0x40808, 0x4000, 16, 0x4, 2, 0x0, 1, fun a b _ => Reg.DRV_STAT_EN a b⟩,
  ⟨0x4090C, 0x4000, 16, 0x4, 2, 0x0, 1, fun a b _ => Reg.LMP_S_TRIM a b 0⟩,
  ⟨0x4090C, 0x4000, 16, 0x4, 2, 0x0, 1, fun a b _ => Reg.LMP_S_TRIM a b 1⟩]

def Reg.rowsSl3 : List RegRow := [
  ⟨0x4090C, 0x4000, 16, 0x4, 2, 0x0, 1, fun a b _ => Reg.LMP_S_TRIM a b 2⟩,
  ⟨0x4090C, 0x4000, 16, 0x4, 2, 0x0, 1, fun a b _ => Reg.LMP_S_TRIM a b 3⟩,
  ⟨0x40914, 0x4000, 16, 0x0, 1, 0x0, 1, fun a _ _ => Reg.LMP_S_ORPH_DAC a⟩,
  ⟨0x40914, 0x4000, 16, 0x0, 1, 0x0, 1, fun a _ _ => Reg.LMP_S_ORPH_PWM a⟩,
  ⟨0x40914, 0x4000, 16, 0x0, 1, 0x0, 1, fun a _ _ => Reg.LMP_S_ORPH_MASK a⟩,
  ⟨0x40048, 0x4000, 16, 0x0, 1, 0x0, 1, fun a _ _ => Reg.SLP_CNT_DROP a⟩,
  ⟨0x4004C, 0x4000, 16, 0x0, 1, 0x0, 1, fun a _ _ => Reg.SLP_CNT_UP_ERR a⟩,
  ⟨0x40050, 0x4000, 16, 0x0, 1, 0x0, 1, fun a _ _ => Reg.SLP_CNT_DN_ERR a⟩,
  ⟨0x40054, 0x4000, 16, 0x0, 1, 0x0, 1, fun a _ _ => Reg.SLP_CNT_RESEND a⟩,
  ⟨0x40058, 0x4000, 16, 0x0, 1, 0x0, 1, fun a _ _ => Reg.SLP_CNT_FOREIGN a⟩,
  ⟨0x4005C, 0x4000, 16, 0x0, 1, 0x0, 1, fun a _ _ => Reg.SLP_CNT_GRANT a⟩,
  ⟨0x40060, 0x4000, 16, 0x0, 1, 0x0, 1, fun a _ _ => Reg.SLP_CNT_QFULL a⟩,
  ⟨0x4041C, 0x4000, 16, 0x0, 1, 0x0, 1, fun a _ _ => Reg.FIO_VS a⟩,
  ⟨0x40420, 0x4000, 16, 0x0, 1, 0x0, 1, fun a _ _ => Reg.FIO_CNT_EDGE a⟩,
  ⟨0x40424, 0x4000, 16, 0x0, 1, 0x0, 1, fun a _ _ => Reg.FIO_CNT_EDGELOST a⟩,
  ⟨0x40428, 0x4000, 16, 0x0, 1, 0x0, 1, fun a _ _ => Reg.FIO_CNT_FAULT a⟩,
  ⟨0x4042C, 0x4000, 16, 0x0, 1, 0x0, 1, fun a _ _ => Reg.FIO_CNT_LATCH a⟩,
  ⟨0x40930, 0x4000, 16, 0x4, 8, 0x0, 1, fun a b _ => Reg.LMP_S_SET_DAC a b⟩,
  ⟨0x40930, 0x4000, 16, 0x4, 8, 0x0, 1, fun a b _ => Reg.LMP_S_SET_PWM a b⟩,
  ⟨0x40950, 0x4000, 16, 0x0, 1, 0x0, 1, fun a _ _ => Reg.LMP_S_CNT_SHORT a⟩,
  ⟨0x40954, 0x4000, 16, 0x0, 1, 0x0, 1, fun a _ _ => Reg.LMP_S_CNT_OPEN a⟩,
  ⟨0x40958, 0x4000, 16, 0x0, 1, 0x0, 1, fun a _ _ => Reg.LMP_S_CNT_TEST a⟩,
  ⟨0x40A20, 0x4000, 16, 0x10, 2, 0x0, 1, fun a b _ => Reg.HLC_CNT_FRAME a b⟩,
  ⟨0x40A24, 0x4000, 16, 0x10, 2, 0x0, 1, fun a b _ => Reg.HLC_CNT_BADRET a b⟩,
  ⟨0x40A28, 0x4000, 16, 0x10, 2, 0x0, 1, fun a b _ => Reg.HLC_CNT_LATE a b⟩,
  ⟨0x40A2C, 0x4000, 16, 0x10, 2, 0x0, 1, fun a b _ => Reg.HLC_CNT_LOCATE a b⟩,
  ⟨0x40B00, 0x4000, 16, 0x0, 1, 0x0, 1, fun a _ _ => Reg.LWT_CFG_EXC_EN a⟩,
  ⟨0x40B04, 0x4000, 16, 0x0, 1, 0x0, 1, fun a _ _ => Reg.LWT_STAT_RAW a⟩,
  ⟨0x40B04, 0x4000, 16, 0x0, 1, 0x0, 1, fun a _ _ => Reg.LWT_STAT_EXC_OK a⟩,
  ⟨0x40B04, 0x4000, 16, 0x0, 1, 0x0, 1, fun a _ _ => Reg.LWT_STAT_LIMIT a⟩,
  ⟨0x40B08, 0x4000, 16, 0x0, 1, 0x0, 1, fun a _ _ => Reg.LWT_EXC_EXC_MV a⟩]

/-- Rows of the slice proxy windows (R467). -/
def Reg.rowsSl : List RegRow :=
  Reg.rowsSl0 ++ Reg.rowsSl1 ++ Reg.rowsSl2 ++ Reg.rowsSl3

/-- The rows of the block in which an offset lies (R465 to R467). -/
def Reg.rowsAt (off : Nat) : List RegRow :=
  if off < 0x1000 then Reg.rowsMisc
  else if off < 0x2000 then Reg.rowsHost
  else if off < 0x4000 then Reg.rowsMisc
  else if off < 0x6000 then Reg.rowsTime
  else if off < 0x7800 then Reg.rowsLdl
  else if off < 0xA000 then Reg.rowsMisc
  else if off < 0xC000 then Reg.rowsSbc
  else if off < 0xE000 then Reg.rowsPbx
  else if off < 0xF000 then Reg.rowsLog
  else if off < 0x10000 then Reg.rowsWhk
  else if off < 0x20000 then Reg.rowsMisc
  else if off < 0x40000 then Reg.rowsCe
  else Reg.rowsSl

/-- The fields of the register at a BAR0 offset; none at a reserved offset (R15). -/
def Reg.fieldsAt (off : Nat) : List RF :=
  (Reg.rowsAt off).filterMap fun e => e.at? off

end Sys2Proof.Machine
end

