-- ==== Sys2Proof/Machine/SliceData.lean ====
section
/-! DEFINITION. Records of a car slice: doors (spec/08), link and lease (spec/10), field I/O (spec/11), lamps and Helea
ports (spec/12). -/

namespace Sys2Proof.Machine

/-- What leaves a slice: the model's own record of it, newest first in `Slice.tx`. -/
inductive SOut where
  /-- An upstream frame on a port, without marker and end symbol (R265). -/
  | frame (port : Nat) (bytes : List Byte)
  /-- A Helea frame on a port: shares and tail (R318). -/
  | helea (port : Nat) (bytes : List Byte)
  deriving DecidableEq, Repr

/-- The running movement of a door: toward the open end or the closed end, opening profile, whether it brakes to rest
first, whether it runs at V_CREEP throughout. -/
structure Move where
  toOpen : Bool
  prof   : Nat
  brake  : Bool
  creep  : Bool
  deriving DecidableEq, Repr

/-- What a braking door does once it is at rest (R213, R216, R222, R224). -/
inductive AtRest where
  | stay
  | opens
  | closes (nudge : Bool)
  | partly
  deriving DecidableEq, Repr

/-- A timer of a slice, by the replica: off, running since an instant, or stopped after having run for a time, ns (R232). -/
inductive Timer where
  | off
  | since (gt : Nat)
  | ran (ns : Nat)
  deriving DecidableEq, Repr

/-- A door channel (R207 to R234). -/
structure Door where
  /-- State, coded as in R112. -/
  st      : Nat
  /-- Microstep position u in 1/256 full step, and the µm at u = 0 (R208, R209). -/
  u       : Int
  uOfs    : Int
  /-- Encoder count, the µm at count 0, and its speed in µm/s. -/
  enc     : Int
  encOfs  : Int
  encVel  : Int
  /-- Commanded position, 10⁻⁹ µm, and speed, 10⁻³ µm/s, positive opening (R214). -/
  cmd     : Int
  vel     : Int
  /-- Ladder resolution r (R217). -/
  res     : Nat
  refd    : Bool
  part    : Bool
  nudge   : Bool
  suspect : Bool
  encLost : Bool
  rev     : Nat
  move    : Option Move
  after   : AtRest
  /-- HELD waits for the arrival at the open end: hold time, ms (R213). -/
  heldArr : Option Nat
  /-- Last commanded dwell, ms; 0 stays open (R213, R224). -/
  dwell   : Nat
  /-- The dwell timer and its time, ms; the hold timer and its time, ms. -/
  dwellT  : Timer
  dwellMs : Nat
  holdT   : Timer
  holdMs  : Nat
  /-- LC or DOB active without a break (R225); LC, DOB and HOLD as last seen, which restart the dwell (R223, R239). -/
  beamT   : Timer
  beams   : Nat
  /-- A close held back while LC is active or HOLD is in force: made in NUDGING or not (R223). -/
  closeHeld : Option Bool
  /-- That close was commanded by DOOR_CLOSE (R228). -/
  heldCmd : Bool
  /-- The lock timer; retries made; a retry is under way (R227); pushed while locked (R226). -/
  lockT   : Timer
  retries : Nat
  retry   : Bool
  pushed  : Bool
  /-- Reported cause of FAULT, and those of the causes 0, 1, 3 and 6 that hold, each with the instant it arose (R231). -/
  fault   : Option Nat
  causes  : List (Nat × Nat)
  /-- Those of them that are gone, causes 1 and 3, with the instant since when; since when the winding of each phase has
  measured open (R231). -/
  well    : List (Nat × Nat)
  openGt  : Vector (Option Nat) 2
  /-- Door encoder index: reference, faults in a row, good pulses in a row (R171). -/
  zRef    : Option Nat
  consec  : Nat
  good    : Nat
  /-- Force model in use and the one pushed, 0.1 N, and whether it is valid (R221). -/
  fm      : List Nat
  fmNext  : List (Nat × Nat)
  fmOk    : Bool
  /-- Sum and count of F_est per bin over this closing (R221). -/
  bins    : List (Nat × Int × Nat)
  /-- The closing started from OPEN or HELD, and nothing has reversed it or made it nudge. -/
  clean   : Bool
  /-- Thrust estimate, N, present current, mA, and mode B current at its cap (R219, R220). -/
  fEst    : Int
  irun    : Nat
  boost   : Bool
  /-- Setpoints of the phase currents, mA (R208). -/
  iA      : Int
  iB      : Int
  /-- Periods of movement since the current was last adapted (R219). -/
  periods : Nat
  /-- Since when |dev| exceeds DEV_WIN, the mode B current stands at its cap, and F_est exceeds the model by F_OBS (R218,
  R219, R222). -/
  devGt   : Option Nat
  topGt   : Option Nat
  forceGt : Option Nat
  /-- Travel of the running movement while not referenced, 10⁻⁹ µm (R210); when the encoder was last seen lost (R234). -/
  crept   : Int
  lostGt  : Nat
  /-- The bridge is energised; the hold of 5 s of an orphan slice (R232). -/
  bridge  : Bool
  orphT   : Timer
  deriving DecidableEq, Repr

/-- State of the lease arbiter (R279). -/
inductive Arb where
  | guard
  | free
  | held (port : Fin 2) (epoch : Nat)
  deriving DecidableEq, Repr

/-- A reliable record of a link direction: section type, payload after its number, the tag its sender knows it by, its
number once it has been sent, the tick of its last sending, and whether it is to be sent (again) in the next frame
(R270). -/
structure LinkRec where
  ty   : Nat
  body : List Byte
  tag  : Nat
  num  : Option Nat
  sent : Nat
  due  : Bool
  deriving DecidableEq, Repr

/-- One port of a slice (R262 to R271). -/
structure SPort where
  /-- A downstream marker has arrived and its upstream frame is still to leave. -/
  marked : Bool
  /-- SEQ of the last valid downstream frame. -/
  lastDn : Option Nat
  /-- Number of the downstream record expected next, of the next upstream record, and SEQ of the next upstream frame. -/
  drNext : Nat
  rNext  : Nat
  seq    : Nat
  queue  : List LinkRec
  /-- The claim of this tick's frame: DUTY and SEED (R280). -/
  claim  : Option (Bool × Nat)
  /-- Snapshots sent, newest first, at most 4 (R237). -/
  snaps  : List Snap
  /-- FIT and LMT payloads last sent (R309, R334). -/
  fit    : List Byte
  lmt    : List Byte
  /-- SAFE_KEEP of a holder on this port counts once the grant has been reported here (R280). -/
  told   : Bool
  /-- Frames sent since the port trained. -/
  since  : Nat
  /-- MIRROR_FAULT as this port reports it, until a power-up or the port's reinsertion (R244). -/
  mirror : Bool
  deriving DecidableEq, Repr

/-- An action delivered to a slice (R131, R269). `found` says that it was found late, `late` its lateness then; `done` the
Helea ports that have carried it, `worst` the worst outcome so far (R325). -/
structure SAct where
  port  : Fin 2
  slot  : Nat
  op    : Nat
  epoch : Nat
  gt    : Nat
  tol   : Nat
  param : List Byte
  found : Bool
  late  : Nat
  done  : Nat
  worst : Nat
  deriving DecidableEq, Repr

/-- A stamped edge (R297). -/
structure EdgeRec where
  input : Nat
  level : Bool
  gt    : Nat
  deriving DecidableEq, Repr

/-- What Colander keeps of an input beside its registers (R291, R294). -/
structure Input where
  /-- Current at its last sample, µA, and the physical level. -/
  cur    : Nat
  lvl    : Bool
  /-- Raw level of the last sample, which is also the candidate, and the GT of the first sample at it. -/
  raw    : Bool
  first  : Nat
  deb    : Bool
  /-- When the active timer last restarted. -/
  active : Nat
  /-- Since when every sample has drawn low current, and since when none has. -/
  low    : Option Nat
  fine   : Option Nat
  /-- Raw edges in each chatter bin, known by its number, newest first. -/
  bins   : List (Nat × Nat)
  deriving DecidableEq, Repr

/-- An input before its first sample. -/
def Input.start : Input :=
  { cur := 0, lvl := false, raw := false, first := 0, deb := false, active := 0, low := none, fine := none, bins := [] }

/-- Field inputs and outputs of a slice beside its registers (R290 to R309). Masks have one bit per input or output. -/
structure Fio where
  /-- IN0 to IN31, then SFB_A and SFB_B. -/
  ins     : Vector Input 34
  edges   : List EdgeRec
  /-- Edges counted since the last EDGE_OVERFLOW. -/
  lost    : Nat
  /-- Running pulses: output, value to restore, end (R300). -/
  pulses  : List (Nat × Bool × Nat)
  /-- The demand of each output, and since when it stands. -/
  dem     : Nat
  demGt   : Vector Nat 16
  /-- Outputs latched off, and those of them whose own stage tripped (R303, R307). -/
  latch   : Nat
  trip    : Nat
  /-- Stages in thermal shutdown (R303, R502). -/
  heat    : Nat
  /-- Diagnostic faults: open load, short to VS. -/
  openL   : Nat
  shortV  : Nat
  /-- Common-fault channels 18 and 19, the stages switched off by VS below 16 V. -/
  supply  : Bool
  hot     : Bool
  vsOff   : Bool
  /-- When FAULT was last set (R307), and when the running probe step began (R308). -/
  faultGt : Nat
  probeGt : Nat
  deriving DecidableEq, Repr

/-- Strings of a slice beside its registers (R312 to R317). -/
structure Lamps where
  /-- Latching cause of each string. -/
  latch : Vector (Option Nat) 8
  /-- Boost target and output, mV, and the pair tested next. -/
  target : Int
  pair   : Nat
  untested : Nat
  /-- When each pair was last tested (R316); since when each string's PWM periods run (R312, R313). -/
  pairGt : Vector Nat 7
  phGt   : Vector Nat 8
  /-- Measured periods in a row in which a string drew its sink below 0.2 V with the target at VB_MAX (R317). -/
  lows   : Vector Nat 8
  /-- The last temperature update, and the temperature of each group, °C (R315). -/
  derGt  : Option Nat
  tempA  : Int
  tempB  : Int
  ntcA : Bool
  ntcB : Bool
  hot  : Bool
  /-- Strings that stay off until the next LAMP_SET with non-zero values (R317). -/
  wait : Nat
  /-- The orphan setting is shown (R332). -/
  orphan : Bool
  deriving DecidableEq, Repr

/-- The values of one node (R318). -/
structure HVal where
  ch0 : Nat
  ch1 : Nat
  ch2 : Nat
  flags : Nat
  deriving DecidableEq, Repr

/-- The last Helea frame of a port: shares, retest, latch instant, whether it has latched and been checked (R318, R326). -/
structure HFrame where
  m      : Nat
  retest : Bool
  lam    : Nat
  latched : Bool
  checked : Bool
  /-- Its last 32 bits (R318). -/
  tail   : Nat
  deriving DecidableEq, Repr

/-- A Helea port (R318 to R331). -/
structure Hel where
  img     : List (Nat × HVal)
  count   : Nat
  frame   : Option HFrame
  /-- 1 NORMAL, 2 LOCATE, 3 BREAK. -/
  state   : Nat
  fails   : Nat
  passes  : Nat
  lo      : Int
  hi      : Int
  reach   : Nat
  /-- Bits returned by the frame that began the locate, and GT from which the next retest is due. -/
  bits    : Nat
  retest  : Nat
  bank    : Option Bank
  shadow  : Option Bank
  /-- The tag whose table failed its CRC-32 (SH_LIB reads 0xFF); the shadow bank stands checked for the next frame. -/
  mism    : Option Nat
  swap    : Bool
  orphan  : Bool
  deriving DecidableEq, Repr

/-- Mirror, SAFE outputs and what the holder's frames last said (R237 to R249). -/
structure Lse where
  mode    : Nat
  rdoors  : Nat
  evals   : Nat
  re      : IlkRes
  rs      : IlkRes
  rsc     : IlkRes
  /-- SNAP of the evaluation reported. -/
  rsSnap  : Nat
  runsA   : Vector Nat 16
  runsB   : Vector Nat 16
  rule9   : Bool
  /-- R_e of the last frame of the holder whose valid keep came last, and that holder: port and epoch (R247). -/
  reKeep  : IlkRes
  keepBy  : Option (Fin 2 × Nat)
  /-- Replica time since when a feedback has disagreed with its output (R248). -/
  sfbSince : Option Nat
  /-- Rule 7 was in force in the latest evaluation (R239). -/
  ovl     : Bool
  /-- Both pulse trains run, and when they last started or stopped; the latch with its cause; the last cause. -/
  trains  : Bool
  trainGt : Nat
  latch   : Option Nat
  lastCause : Nat
  /-- Replica time of the last valid keep. -/
  keep    : Option Nat
  /-- GT of the newest downstream frame of a lease holder, and replica time of its arrival (R132, R265, R279). -/
  fresh   : Nat
  lastHold : Nat
  deriving DecidableEq, Repr

/-- A car slice. -/
structure Slice where
  /-- What has left it, newest first, and free values taken so far (the model's own fields, log entries 1 and 3). -/
  tx     : List SOut
  free   : Nat
  board  : Board
  /-- Its reset is released. -/
  on     : Bool
  /-- Replica of GT, ns (R56), and ALIGNED. -/
  gt     : Nat
  aligned : Bool
  /-- Correction still to be slewed, ns (R56). -/
  slew   : Int
  /-- Replica time of the last marker of a lease holder (R284), and of the last entry to GUARD (R279). -/
  markGt : Nat
  guardGt : Nat
  /-- Registers of its window that the slice keeps, as in the window of car 0. -/
  regs   : RegMap
  /-- Active configuration, the one committed for the next tick boundary, the bytes of the one being received. -/
  cfg    : Option SliceCfg
  cfgNext : Option SliceCfg
  cfgRx  : List (Nat × Byte)
  /-- When the configuration to come was committed (R276). -/
  cfgGt  : Nat
  arb    : Arb
  /-- A grant whose epoch is being written: port and epoch; whether the write is done (R280). -/
  grant  : Option (Fin 2 × Nat)
  ports  : Vector SPort 2
  acts   : List SAct
  /-- Room taken in the tick in progress and in those to come, as far as the slice knows: that of its own car has pool 0,
that of the rest of the group pool 1 (R135). -/
  room   : List RoomUse
  doors  : Vector Door 2
  fio    : Fio
  lse    : Lse
  lamps  : Lamps
  hels   : Vector Hel 2
  deriving DecidableEq, Repr

/-! A slice with no power -/

/-- A result that grants nothing. -/
def noGrant : IlkRes := { run := false, da := false, db := false, hold := false, safe := false, ucm := false }

/-- A door channel at slice start-up: FREE, bridge off, not referenced (R210, R211). -/
def Door.start : Door :=
  { st := 0, u := 0, uOfs := 0, enc := 0, encOfs := 0, encVel := 0, cmd := 0, vel := 0, res := 0, refd := false,
    part := false, nudge := false, suspect := false, encLost := false, rev := 0, move := none, after := .stay,
    heldArr := none, dwell := 0, dwellT := .off, dwellMs := 0, holdT := .off, holdMs := 0, beamT := .off, beams := 0,
    closeHeld := none, heldCmd := false, lockT := .off, retries := 0, retry := false, pushed := false, fault := none, causes := [], well := [],
    openGt := #v[none, none], zRef := none, consec := 0, good := 0,
    fm := [], fmNext := [], fmOk := false, bins := [], clean := false, fEst := 0, irun := 0, boost := false,
    iA := 0, iB := 0, periods := 0, devGt := none, topGt := none, forceGt := none, crept := 0, lostGt := 0, bridge := false,
    orphT := .off }

/-- A port of a slice at start-up. -/
def SPort.start : SPort :=
  { marked := false, lastDn := none, drNext := 0, rNext := 0, seq := 0, queue := [], claim := none, snaps := [],
    fit := [], lmt := [], told := false, since := 0, mirror := false }

/-- A Helea port at start-up, with the bank its memory holds (R323, R327, R331). -/
def Hel.start (nodes : Nat) (bank : Option Bank) : Hel :=
  { img := [], count := 0, frame := none, state := 1, fails := 0, passes := 0, lo := -1, hi := 0, reach := nodes,
    bits := 0, retest := 0, bank := bank, shadow := none, mism := none, swap := false, orphan := false }

/-- Field I/O at start-up. -/
def Fio.start : Fio :=
  { ins := Vector.replicate 34 Input.start, edges := [], lost := 0, pulses := [], dem := 0, demGt := Vector.replicate 16 0,
    latch := 0, trip := 0, heat := 0, openL := 0, shortV := 0, supply := false, hot := false, vsOff := false, faultGt := 0,
    probeGt := 0 }

/-- One eighth of the PWM period of 1/2,400 s times `k`, ns (R312). -/
def phaseNs (k : Nat) : Nat := k * 1250000 / 24

/-- Strings at the start of their domain: every one off, the PWM periods of string k at phase k/8 (R312). -/
def Lamps.start (t : Nat) : Lamps :=
  { latch := Vector.replicate 8 none, target := 0, pair := 0, untested := 0, pairGt := Vector.replicate 7 t,
    phGt := Vector.ofFn fun (k : Fin 8) => t + phaseNs k.val, lows := Vector.replicate 8 0, derGt := none, tempA := 0, tempB := 0,
    ntcA := false, ntcB := false, hot := false, wait := 0, orphan := false }

/-- Mirror and SAFE outputs at start-up: latch clear, trains stopped, nothing granted (R247). -/
def Lse.start : Lse :=
  { mode := 5, rdoors := 0, evals := 0, re := noGrant, rs := noGrant, rsc := noGrant, rsSnap := 0,
    runsA := Vector.replicate 16 0, runsB := Vector.replicate 16 0, rule9 := false, reKeep := noGrant, keepBy := none,
    sfbSince := none, ovl := false,
    trains := false, trainGt := 0, latch := none, lastCause := 0, keep := none, fresh := 0, lastHold := 0 }

/-- A slice with its board in reset: only what its non-volatile memory holds (R461). -/
def Slice.cold (tx : List SOut) (free : Nat) (b : Board) : Slice :=
  { tx := tx, free := free, board := b, on := false, gt := 0, aligned := false, slew := 0, markGt := 0, guardGt := 0, regs := [], cfg := none,
    cfgNext := none, cfgRx := [], cfgGt := 0, arb := .guard, grant := none, ports := Vector.replicate 2 SPort.start, acts := [],
    room := [], doors := Vector.replicate 2 Door.start, fio := Fio.start, lse := Lse.start,
    lamps := Lamps.start 0, hels := Vector.ofFn fun (p : Fin 2) => Hel.start 0 b.bank[p] }

end Sys2Proof.Machine
end

