-- ==== Sys2Proof/Machine/LinkData.lean ====
section
/-! DEFINITION. Records of the controller's ports: slice links (spec/10), calibration transfers (spec/12), the shaft bus
(spec/13), fault containment (spec/14), the Pebex link and Trivet (spec/15), Whisk (spec/17). -/

namespace Sys2Proof.Machine

/-! Slice links -/

/-- What the answer to a proxy record or to a commit is for (R249, R276, R277, R308): a descriptor is named by its SQ and
number. -/
inductive WaitKind where
  /-- The write of an IO_PROBE, and the read of its result. -/
  | probeWrite (sq dn : Nat)
  | probeRead (sq dn : Nat)
  | rearm
  | commit
  /-- A host write to an offset of the slice window, and a read that refreshes a shadow. -/
  | write (off : Nat)
  | refresh (off : Nat)
  deriving DecidableEq, Repr

/-- A proxy record or commit whose PXR is still to come: the tag of its record, and its number once it is sent. -/
structure Wait where
  tag  : Nat
  num  : Option Nat
  kind : WaitKind
  deriving DecidableEq, Repr

/-- A CAL_SWAP with its stored table (R328 to R331): `fired` once its fire time has come and the transfer runs under
`tag`; `lib` and `node` are the entries the slice has shown, `turn` picks library or node entries in turn. -/
structure CalRun where
  act   : Act
  table : List Byte
  fired : Bool
  tag   : Nat
  lib   : Nat
  node  : Nat
  turn  : Nat
  deriving DecidableEq, Repr

/-- A slice link as its controller port holds it (R262 to R288). -/
structure CLink where
  /-- SEQ of the next downstream frame; the frames sent: SEQ and departure, newest first. -/
  seq    : Nat
  sent   : List (Nat × Nat)
  /-- Departure of the newest frame acknowledged (R282). -/
  dep    : Option Nat
  /-- The last 64 round trips, newest first, ns (R55). -/
  trips  : List Nat
  /-- BOOT last seen; hash last reported. -/
  boot   : Option Nat
  hash   : List Byte
  /-- A valid upstream frame has arrived since the last tick; ticks in a row without one (R272). -/
  got    : Bool
  miss   : Nat
  /-- The port entered MEASURE from SEARCH (R273). -/
  fresh  : Bool
  /-- No valid upstream frame has arrived since symbol lock. -/
  first  : Bool
  /-- SLICE_IDENTITY has been posted for another stepping since symbol lock (R3). -/
  foreign : Bool
  /-- GT at which the retry timer expires, while it runs (R285), and of the last training attempt (R274). -/
  retry  : Option Nat
  attGt  : Option Nat
  /-- The lease was granted while the port was in MEASURE: its resync is still to come (R286). -/
  resync : Bool
  /-- Orders of the engine's own whose report is still to come, oldest first: opcode and door mask (R240). -/
  orders : List (Nat × Nat)
  /-- The newest FIT and LMT payloads the engine took: its mirrors of inputs, outputs and lamps (R287). -/
  fit    : List Byte
  lmt    : List Byte
  /-- Upstream record expected next; downstream records; their next number and tag (R270). -/
  rNext  : Nat
  queue  : List LinkRec
  drNext : Nat
  tag    : Nat
  waits  : List Wait
  /-- REL is being sent (R283). -/
  rel    : Bool
  /-- Epoch under which this controller last held the lease. -/
  lastEp : Option Nat
  /-- SLICE_CONFIRM under way, with its descriptor (R276); pushes tried; the slice has accepted a commit. -/
  confirm : Option (Nat × Nat)
  tries  : Nat
  pushed : Bool
  /-- CAL_SWAPs of the two Helea ports, and the tag given last. -/
  cal    : Vector (Option CalRun) 2
  calTag : Nat
  /-- Snapshots received, newest first (R236), and the door states of the newest DRT. -/
  states : Nat
  /-- Force models still to be sent, one bit per door (R221). -/
  fmDue  : Nat
  /-- What the slice last reported while the port was UP: HOLDER, LSTATE, EPOCH, TURN, ORPH_MS and BOOT as the window shows them
  while it is not (R277). -/
  still  : List Nat
  /-- Outcomes reported for no action held here, newest first: slot, outcome, INFO, GT (R397). -/
  outs   : List (Nat × Nat × Nat × Nat)
  deriving DecidableEq, Repr

/-- A link at start-up. -/
def CLink.start : CLink :=
  { seq := 0, sent := [], dep := none, trips := [], boot := none, hash := [], got := false, miss := 0, fresh := true, first := true, foreign := false,
    retry := none, attGt := none, resync := false, orders := [], fit := [], lmt := [], rNext := 0, queue := [], drNext := 0, tag := 1, waits := [], rel := false, lastEp := none,
    confirm := none, tries := 0, pushed := false, cal := Vector.replicate 2 none, calTag := 0, states := 0, fmDue := 0, still := [3, 1, 0, 0, 0, 0], outs := [] }

/-! Shaft bus -/

/-- A frame waiting on a channel (R338 to R349): the mailbox it stands in, its class, GT and order of its entry, the
action it belongs to with the status decided at firing, whether it is the copy of a frame on the partner. -/
structure Mbx where
  num  : Nat
  f    : CanFrame
  cls  : Nat
  gt   : Nat
  ord  : Nat
  act  : Act
  st   : Nat
  /-- GT of firing. -/
  fired : Nat
  copy : Bool
  /-- Its other copy has completed the action while its own transmission was in progress (R348). -/
  done : Bool
  deriving DecidableEq, Repr

/-- An entry of a receive FIFO (R342). -/
structure RxEnt where
  gt  : Nat
  f   : CanFrame
  cls : Nat
  esi : Bool
  deriving DecidableEq, Repr

/-- A frame received on a pair, remembered for duplicate suppression (R346). -/
structure RxKey where
  ide : Bool
  id  : Nat
  seq : Nat
  gt  : Nat
  deriving DecidableEq, Repr

/-- A shaft bus channel beside its registers. `mig` is the migration queue toward it. -/
structure Chan where
  mbx    : List Mbx
  mig    : List Mbx
  rx     : Vector (List RxEnt) 2
  recent : List RxKey
  ord    : Nat
  /-- When its recovery from BUS_OFF began (R352). -/
  recGt  : Nat
  deriving DecidableEq, Repr

/-- A channel at start-up. -/
def Chan.start : Chan := { mbx := [], mig := [], rx := Vector.replicate 2 [], recent := [], ord := 0, recGt := 0 }

/-! Fault containment -/

/-- Correctable errors of one unit within an hour of GT (R354): region code or 0xFF, unit, start of the hour, count,
whether the hour's record is written. -/
structure CorrRun where
  region : Nat
  unit   : Nat
  start  : Nat
  count  : Nat
  noted  : Bool
  deriving DecidableEq, Repr

/-- Containment beside its registers: correctable errors per unit, missed answers per engine (R355), Larder pages that run
single-copy (R365). -/
structure Ctn where
  corr   : List CorrRun
  missed : Vector Nat 16
  single : List (Nat × Nat)
  deriving DecidableEq, Repr

/-! The duplex pair -/

/-- A car handover under way (R384): its car, the GT of the request, the descriptor of a LEASE_RELEASE. -/
structure Handing where
  car   : Nat
  start : Nat
  who   : Option (Nat × Nat)
  /-- The car waits no longer: it is at rest or 60 s have passed, and its descriptors complete BUSY. -/
  closed : Bool
  /-- The partner has acknowledged the checkpoint that carries it: REL is sent. -/
  acked : Bool
  deriving DecidableEq, Repr

/-- The Pebex port beside its registers (R370 to R386). -/
structure Pbx where
  /-- SEQ of the next frame of any kind; heartbeats sent: SEQ and departure, newest first. -/
  seq    : Nat
  sent   : List (Nat × Nat)
  /-- The last heartbeat received: SEQ and GT of its arrival; the partner's GT_TX in it. -/
  rx     : Option (Nat × Nat)
  peerGt : Nat
  trips  : List Nat
  /-- A valid heartbeat has arrived since the last tick; ticks in a row without one. -/
  got    : Bool
  miss   : Nat
  boot   : Option Nat
  /-- Partner IDENT: stepping and hash, once received. -/
  ident  : Option (Nat × List Byte)
  wasUp  : Bool
  retry  : Option Nat
  /-- Cars the last heartbeat showed in HELD or CLAIM, and the one before it (R383). -/
  busy   : Nat
  busy0  : Nat
  /-- RELEASED and HANDED of the partner's last heartbeat, and of this controller. -/
  peerRel  : Nat
  peerHand : Nat
  rel    : Nat
  hand   : Nat
  /-- Cars of the partner's last HELD since seen in GUARD or FREE (R381). -/
  gone   : Nat
  /-- GT of the last drop from UP (R397). -/
  dropGt : Nat
  /-- Actions resolved and not yet in a heartbeat: slot, status; the partner's log since its
  image: slot, status, GT of receipt (R397). -/
  log    : List (Nat × Nat)
  peerLog : List (Nat × Nat × Nat)
  /-- Hash last sent in an IDENT, and ticks since it. -/
  lastId : List Byte
  idTick : Nat
  /-- Start of the boot wait (R380). -/
  boot0  : Option Nat
  handing : List Handing
  /-- The descriptor of a DUTY_HANDOVER under way: SQ, number, GT of the request (R385). -/
  duty   : Option (Nat × Nat × Nat)
  /-- Cars granted whose actions are still to be looked for in the image (R396). -/
  take   : Nat
  /-- Cars handed over that the partner has not been seen to hold since (R384). -/
  away   : Nat
  /-- The partner has sent HANDOVER in its last heartbeat. -/
  peerHanding : Bool
  deriving DecidableEq, Repr

/-- A checkpoint image: number, snapshot GT, cars covered, whether it hands over, the sender's host generation, sections by
type (R388, R389). -/
structure Image where
  seq   : Nat
  gt    : Nat
  cars  : Nat
  hand  : Bool
  gen   : Nat
  secs  : List (Nat × List Byte)
  /-- The enables of the 32 SQs under way at the snapshot; none for a partner's image. -/
  eras  : List Nat
  /-- Descriptors of this controller that had not ended at the snapshot, by SQ and number. -/
  opens : List (Nat × Nat)
  deriving DecidableEq, Repr

/-- A checkpoint in flight: its image, whether it is full, the cars and the group handed over in it (R384, R385). -/
structure InFlight where
  img   : Image
  full  : Bool
  cars  : List Nat
  group : Bool
  deriving DecidableEq, Repr

/-- Trivet beside its registers (R387 to R392). -/
structure Tvt where
  seq    : Nat
  fly    : Option InFlight
  /-- The image the partner acknowledged last, and deltas sent since the last full checkpoint. -/
  base   : Option Image
  deltas : Nat
  /-- GT of the last snapshot. -/
  snap   : Option Nat
  /-- CHECKPOINT_NOW requests: SQ, number, kind; those the checkpoint in flight serves. -/
  want   : List (Nat × Nat × Nat)
  serve  : List (Nat × Nat)
  full   : Bool
  /-- Bytes received of the checkpoint being built, by its number. -/
  rxSeq  : Nat
  rx     : List (Nat × List Byte)
  /-- The partner's acknowledged image, and the section types damaged in it. -/
  image  : Option Image
  hurt   : List Nat
  /-- GT of the last acknowledgement, or of the port's entry to UP. -/
  ackGt  : Nat
  /-- GT of the oldest snapshot since then, and CHECKPOINT_STALL events posted since it (R391). -/
  waitGt : Option Nat
  stalls : Nat
  /-- Chords of the image whose table entry is lost, ended NO_LEASE (R392). -/
  lost   : List Nat
  /-- A damaged image has still to refuse the next checkpoint (R392). -/
  owe3   : Bool
  deriving DecidableEq, Repr

/-! Whisk -/

/-- A logic result of a domain: passed, pattern set, diagnosed, smallest failing set, several bits, pattern, chain, cell,
failing chains (R427 to R430). -/
structure LogicRes where
  pass  : Bool
  pset  : Nat
  diag  : Bool
  first : Nat
  multi : Bool
  pat   : Nat
  chain : Nat
  cell  : Nat
  chains : Nat
  deriving DecidableEq, Repr

/-- A memory result of a macro: failing reads, captured pairs (address, bit), a fifth distinct pair seen (R431). -/
structure MacroRes where
  mac   : Nat
  fails : Nat
  pairs : List (Nat × Nat)
  ovf   : Bool
  deriving DecidableEq, Repr

/-- A soft or hard spare in use: row with its number, or column (R437). -/
structure Spare where
  domain : Nat
  mac    : Nat
  row    : Option Nat
  value  : Nat
  hard   : Bool
  deriving DecidableEq, Repr

/-- A queued or running test: domain, kind 0 logic or 1 memory, pattern set, whether a BIST_RUN asked for it. -/
structure Test where
  domain : Nat
  kind   : Nat
  pset   : Nat
  asked  : Bool
  deriving DecidableEq, Repr

/-- Whisk beside its registers (R425 to R441). -/
structure Whk where
  queue  : List Test
  run    : Option Test
  /-- State of the domain before its test. -/
  before : Nat
  /-- Domain of the last rolling step; cold domain tested last (R435). -/
  last   : Option Nat
  seen   : Option Nat
  logic  : List (Nat × LogicRes)
  mem    : List (Nat × List MacroRes)
  spares : List Spare
  /-- GT at which the running test began, and before which the rolling test takes no further step (R434). -/
  since  : Nat
  gapGt  : Nat
  /-- GT of the last health report (R435). -/
  healthGt : Option Nat
  deriving DecidableEq, Repr

end Sys2Proof.Machine
end

