-- ==== Sys2Proof/Machine/State.lean ====
section
/-! DEFINITION. The machine's state: every register, buffer, queue and mode the spec gives the controller and its sixteen
slices, and the queue of commands that wait. -/

namespace Sys2Proof.Machine


/-- A cue datagram on a port: tag control of its 802.1Q tag, MAC and IPv4 addresses, UDP ports and checksum, TTL, DSCP,
payload (R40, R145). -/
structure CueOut where
  port    : Nat
  tag     : Option Nat
  srcMac  : Nat
  dstMac  : Nat
  src     : Nat
  dst     : Nat
  sport   : Nat
  dport   : Nat
  ttl     : Nat
  dscp    : Nat
  sum     : Nat
  payload : List Byte
  deriving DecidableEq, Repr

/-- What leaves the controller or a slice: the model's own record of it, newest first in `State.tx`. -/
inductive Out where
  /-- A DMA write to host memory (R68). -/
  | dma (addr : Nat) (bytes : List Byte)
  /-- A DMA read the device asks for: address and length. -/
  | dmaRead (addr len : Nat)
  /-- An MSI-X message (R88). -/
  | msix (vec addr data : Nat)
  /-- The value a read of BAR0, of BAR2 and of configuration space returned. -/
  | readData (off value : Nat)
  | readBar2 (off value : Nat)
  | readConf (r : ConfReg) (value : Nat)
  /-- One PM_PME message (R99). -/
  | pmPme
  /-- PTP Delay_Req: port, tag control of its 802.1Q tag, DSCP, UDP payload (R40, R41). -/
  | delayReq (port : Nat) (tag : Option Nat) (dscp : Nat) (payload : List Byte)
  | arpReply (port : Nat) (tag : Option Nat) (toHw toIp mac ip : Nat)
  | echoReply (port : Nat) (tag : Option Nat) (toIp fromIp id seq : Nat) (data : List Byte)
  | igmpReport (port : Nat) (tag : Option Nat) (ip group : Nat)
  /-- A Drive Reference Frame of drive port `car`, its 16 bytes in sending order (R198). -/
  | drive (car : Nat) (frame : List Byte)
  /-- A pulse on PPS_OUT: width in ns, polarity (R51). -/
  | ppsOut (width pol : Nat)
  /-- An ARP request of a port for a next hop (R145). -/
  | arpAsk (port : Nat) (tag : Option Nat) (ip hop : Nat)
  | cue (d : CueOut)
  /-- A downstream frame on a slice port, without marker and end symbol (R264). -/
  | down (port : Nat) (bytes : List Byte)
  /-- A CAN frame that channel `c` has transmitted, with the GT of its start (R340). -/
  | can (c : Nat) (f : CanFrame) (sof : Nat)
  /-- A frame on the Pebex link (R371). -/
  | pebex (bytes : List Byte)
  deriving DecidableEq, Repr

/-- The controller: its registers, stores and queues, and what it has put out. -/
structure Dev where
  /-- What has left the controller, newest first (the model's own field, log entry 3). -/
  tx      : List Out
  /-- Free values taken so far (the model's own field, log entry 1). -/
  free    : Nat
  /-- Register fields (R463 to R467). -/
  regs    : RegMap
  /-- RWT fields written in this tick, with the values still in force (R463). -/
  rwt     : RegMap
  time    : TimeSt
  host    : HostSt
  ladle   : LadleSt
  log     : LogSt
  logP    : LogPersist
  nv      : Nv
  /-- The sixteen car engines. -/
  cars    : Vector Car 16
  /-- EVRs under way on this controller (R255). -/
  evrs    : List EvrGroup
  /-- The sixteen slice links, the four shaft bus channels. -/
  links   : Vector CLink 16
  bus     : Vector Chan 4
  ctn     : Ctn
  pbx     : Pbx
  tvt     : Tvt
  whk     : Whk
  sys     : SysSt
  deriving DecidableEq, Repr

/-- Faults. No command of the spec ends the block's run: every error the spec names is a completion, an event, a record
or a register bit, so this type has no constructor. -/
inductive Fault where
  deriving DecidableEq, Repr

/-- Refusals. -/
inductive Refusal where
  /-- Raised by `exec` for a command that has no meaning in the model yet; safe: nothing is claimed of it. -/
  | notModelled (mnemonic : String)
  deriving DecidableEq, Repr

/-- The state of the block: the commands that wait, the controller, the sixteen slices. -/
structure State where
  /-- Commands that wait, first in, first out. -/
  pending : List Instr
  dev     : Dev
  /-- One-time programmable memory of the controller (R483). -/
  otp     : Otp
  /-- The sixteen car slices (R3). -/
  slices  : Vector Slice 16
  deriving DecidableEq, Repr

/-! The machine at reset: a power-on reset of the controller and of every slice has just been asserted (R450, R451, R461).
Where the spec gives a piece of state no reset value it is empty, none or zero (log entry 8). -/

/-- Configuration space at its reset values; those of AER are PCI Express's (log entry 102). -/
def ConfSt.start : ConfSt :=
  { memEn := false, bar := Vector.replicate 4 0, payload := 0, request := 2, cto := 0, ecrcGen := false, ecrcChk := false,
    uncStat := 0, uncMask := 0, uncSev := 0x62030, corStat := 0, corMask := 0x2000, speed := 0, width := 0 }

/-- The host island. -/
def HostSt.start : HostSt :=
  { conf := ConfSt.start, resv := [], era := Vector.replicate 32 0, durTo := Vector.replicate 32 0, durOpen := [], recovGt := 0, busyGt := 0,
    partials := Vector.replicate 32 [], rr := Vector.replicate 4 31, credit := Vector.replicate 4 0, adm := [], backlog := [],
    evHold := [], moder := Vector.replicate 40 { armed := true, pending := 0, first := 0 }, inert := [],
    msix := Vector.replicate 64 { addr := 0, data := 0, mask := true }, pba := 0, msixEn := false, funcMask := false,
    pmeEn := false, pmeStat := false, pmeQueued := false, pmeSent := false, recov := false, aspmL1 := false, inL1 := false,
    refHeld := false, perst := false, eseq := 0, startDue := false, startMark := false, kickGt := 0, chal := none, durOn := false,
    lastCq := [] }

def LadleSt.start : LadleSt :=
  { acts := [], ord := 0, chords := [], room := [], second := [], arp := [], keyW := [], key := none,
    keyDue := false }

/-- The Logbook outside the persistent tier: SEQ goes on from the reserve, the ring is what LP4X kept (R405, R417). -/
def LogSt.start (seq : Nat) (ring : List Rec) : LogSt :=
  { staging := [], ring := ring, holding := [], freeze := none, mirPtr := 0, seq := seq, drops := Vector.replicate 8 0,
    dropGt := Vector.replicate 8 none, flushing := false, todo := [], clear := none, tseq := 1, trace := [], geom := (22, 8, 8) }

/-- The mirror region of a new persistent device: SEQ counts from 1 (R405). -/
def LogPersist.new : LogPersist :=
  { mirror := [], reserve := 1, slotA := none, slotB := none, flush := .none, clrFloor := 0, clrAuth := 0, clears := 0,
    geom := none, pins := 0, region := (8, 8) }

/-- The system and car records of a new persistent device. -/
def Nv.new : Nv :=
  { cueReserve := 1, cueKey := none, learned := Vector.replicate 16 none, zero := Vector.replicate 16 none, marker := [],
    markOld := false, idRec := Vector.replicate 16 none, seed := Vector.replicate 16 0, force := Vector.replicate 32 none,
    peer := none, boots := 0, images := Vector.replicate 2 none, commit := Vector.replicate 2 none }

/-- Group Time at a cold start (R36). -/
def TimeSt.cold : TimeSt :=
  { gt := 0, corr := 0, step := none, locked1 := false, outRun := 0, fHist := [], holdNs := 0, masters := [], sel := none,
    annGt := Vector.replicate 2 none, lastSync := none, dreq := none, dreqSeq := 0, dreqGt := none,
    syncGt := 0, ptpSince := 0, freeGt := none, reload := 0, peerOver := false, frac := 0,
    due := false, annOut := false, ppsIn := 0 }

def Pbx.start : Pbx :=
  { seq := 0, sent := [], rx := none, peerGt := 0, trips := [], got := false, miss := 0, boot := none, ident := none,
    wasUp := false, retry := none, busy := 0, busy0 := 0, peerRel := 0, peerHand := 0, rel := 0, hand := 0, gone := 0,
    dropGt := 0, log := [], peerLog := [], lastId := [], idTick := 0, boot0 := none, handing := [], duty := none, take := 0,
    away := 0, peerHanding := false }

def Tvt.start : Tvt :=
  { seq := 0, fly := none, base := none, deltas := 0, snap := none, want := [], serve := [], full := true, rxSeq := 0, rx := [],
    image := none, hurt := [], ackGt := 0, waitGt := none, stalls := 0, lost := [], owe3 := false }

def Ctn.start : Ctn := { corr := [], missed := Vector.replicate 16 0, single := [] }

def Whk.start : Whk :=
  { queue := [], run := none, before := 0, last := none, seen := none, logic := [], mem := [], spares := [], since := 0, gapGt := 0,
    healthGt := none }

def SysSt.start : SysSt :=
  { ending := none, prevStep := 0xFF, lostActs := 0xFFFFFFFF, lostCmps := 0xFFFFFFFF, latch := [], staged := none, prog := none,
    unlocked := 0, release := 0, warnGt := 0, dpSts := 0 }

/-- A part whose OTP holds no item: keys are 32 bytes of 0, no slot is programmed. -/
def Otp.blank : Otp :=
  { serial := 0, vid := 0, ssvid := 0, ssid := 0, logKey := List.replicate 32 0, repairKey := List.replicate 32 0,
    storeKey := List.replicate 32 0, slot := Vector.replicate 4 none, revoked := 0, imgReq := false, spoiled := 0, hard := [], bist := [] }

/-- AON reads ON from the first (R443): the deviation of PWR_STAT13.STATE of domain 111 from its reset value 6. -/
def aonOn : RegMap := [((Reg.PWR_STAT_STATE 13 7).key, 4)]

/-- The controller in reset. -/
def Dev.start : Dev :=
  { tx := [], free := 0, regs := aonOn, rwt := [], time := TimeSt.cold, host := HostSt.start, ladle := LadleSt.start,
    log := LogSt.start 1 [], logP := LogPersist.new, nv := Nv.new,
    cars := Vector.replicate 16 (Car.start [] (Vector.replicate 2 DoorM.start)), evrs := [],
    links := Vector.replicate 16 CLink.start, bus := Vector.replicate 4 Chan.start, ctn := Ctn.start, pbx := Pbx.start,
    tvt := Tvt.start, whk := Whk.start, sys := SysSt.start }

/-- A slice board as it leaves its maker: stepping 0xB1, nothing stored (log entry 8). -/
def Board.new : Board := { serial := 0, step := 0xB1, boot := 0, epoch := 0, cfg := none, bank := Vector.replicate 2 none }

/-- The state right after reset. -/
def State.reset : State :=
  { pending := [], dev := Dev.start, otp := Otp.blank, slices := Vector.replicate 16 (Slice.cold [] 0 Board.new) }

end Sys2Proof.Machine
end

