-- ==== Sys2Proof/Machine/Ops.lean ====
section
/-! DEFINITION. Named operations over registers, outputs, free values and records: what every block uses. -/

namespace Sys2Proof.Machine

/-! Register map -/

/-- The deviation listed for a key; 0 where none is. -/
def RegMap.get : RegMap → Nat → Nat
  | [], _ => 0
  | (k, v) :: m, key => if k = key then v else RegMap.get m key

/-- The map with the deviation of `key` made `v`, in the place its key has among rising keys. -/
def RegMap.put : RegMap → Nat → Nat → RegMap
  | [], key, v => [(key, v)]
  | (k, w) :: m, key, v =>
    if key < k then (key, v) :: (k, w) :: m
    else if key = k then (key, v) :: m
    else (k, w) :: RegMap.put m key v

/-- The map with the deviation of `key` made `v`; a zero deviation is not listed. -/
def RegMap.set (m : RegMap) (key v : Nat) : RegMap := if v = 0 then m.filter fun p => p.1 ≠ key else m.put key v

/-- Keys all above a bound and strictly rising, no zero listed. -/
def RegMap.wfFrom (lo : Nat) : RegMap → Bool
  | [] => true
  | (k, v) :: m => decide (lo ≤ k) && decide (v ≠ 0) && RegMap.wfFrom (k + 1) m

/-- The canonical form of a register map: keys strictly rising and no field listed at its reset value. -/
def RegMap.wf (m : RegMap) : Bool := RegMap.wfFrom 0 m

/-- Whether a key is listed. -/
def RegMap.has (m : RegMap) (key : Nat) : Bool := m.any fun p => p.1 = key

/-- The value of a field in a map of deviations: what its width holds. -/
def RegMap.rd (m : RegMap) (f : RF) : Nat := (m.get f.key ^^^ f.rst) % 2 ^ f.w

/-- The map with a field written; the value is cut to the field's width. -/
def RegMap.wr (m : RegMap) (f : RF) (v : Nat) : RegMap := m.set f.key ((v % 2 ^ f.w) ^^^ f.rst)

/-- The current value of a field: for an RWT field the value last written (R463). -/
def Dev.rd (s : Dev) (f : RF) : Nat := s.regs.rd f

/-- A field written at once. -/
def Dev.wr (s : Dev) (f : RF) (v : Nat) : Dev := { s with regs := s.regs.wr f v }

/-- Whether a field is non-zero. -/
def Dev.on (s : Dev) (f : RF) : Bool := s.rd f != 0

/-- A one-bit field written from a truth value. -/
def Dev.flag (s : Dev) (f : RF) (b : Bool) : Dev := s.wr f (b2n b)

/-- A signed field, and one written. -/
def Dev.rdI (s : Dev) (f : RF) : Int := toSigned f.w (s.rd f)
def Dev.wrI (s : Dev) (f : RF) (x : Int) : Dev := s.wr f (ofSigned f.w x)

/-- A counter that wraps at its width, advanced. -/
def Dev.inc (s : Dev) (f : RF) : Dev := s.wr f (s.rd f + 1)

/-- A counter that wraps at its width, advanced by `n`. -/
def Dev.incBy (s : Dev) (f : RF) (n : Nat) : Dev := s.wr f (s.rd f + n)

/-- A counter that saturates at its width, advanced. -/
def Dev.incSat (s : Dev) (f : RF) : Dev := s.wr f (satInc (2 ^ f.w - 1) (s.rd f))

/-- A signed field written, saturating at its width. -/
def Dev.wrSat (s : Dev) (f : RF) (x : Int) : Dev :=
  s.wrI f (clampI (-(2 ^ (f.w - 1) : Nat)) ((2 ^ (f.w - 1) : Nat) - 1) x)

/-- The value of an RWT field in force in this tick (R463, R486). -/
def Dev.rdForce (s : Dev) (f : RF) : Nat :=
  if s.rwt.has f.key then (s.rwt.get f.key - 1) % 2 ^ f.w else s.rd f

/-- An RWT field written: the value in force in this tick is kept beside the new one (R463). The kept value is listed
plus one, so that 0 is listed too. -/
def Dev.wrNext (s : Dev) (f : RF) (v : Nat) : Dev :=
  let s1 := if s.rwt.has f.key then s else { s with rwt := s.rwt.set f.key (s.rd f + 1) }
  s1.wr f v

/-! Outputs, free values, time -/

/-- One part of the controller's state rewritten. -/
def Dev.mapHost (s : Dev) (f : HostSt → HostSt) : Dev := { s with host := f s.host }
def Dev.mapTime (s : Dev) (f : TimeSt → TimeSt) : Dev := { s with time := f s.time }
def Dev.mapLdl (s : Dev) (f : LadleSt → LadleSt) : Dev := { s with ladle := f s.ladle }
def Dev.mapLog (s : Dev) (f : LogSt → LogSt) : Dev := { s with log := f s.log }
def Dev.mapLogP (s : Dev) (f : LogPersist → LogPersist) : Dev := { s with logP := f s.logP }

def Dev.mapNv (s : Dev) (f : Nv → Nv) : Dev := { s with nv := f s.nv }

def Dev.mapPbx (s : Dev) (f : Pbx → Pbx) : Dev := { s with pbx := f s.pbx }
def Dev.mapTvt (s : Dev) (f : Tvt → Tvt) : Dev := { s with tvt := f s.tvt }
def Dev.mapCtn (s : Dev) (f : Ctn → Ctn) : Dev := { s with ctn := f s.ctn }
def Dev.mapWhk (s : Dev) (f : Whk → Whk) : Dev := { s with whk := f s.whk }

/-- One slice link, one bus channel. -/
def Dev.mapLink (s : Dev) (n : Fin 16) (f : CLink → CLink) : Dev := { s with links := s.links.set n (f s.links[n]) }
def Dev.mapChan (s : Dev) (c : Fin 4) (f : Chan → Chan) : Dev := { s with bus := s.bus.set c (f s.bus[c]) }

/-- One car engine's state rewritten. -/
def Dev.mapCar (s : Dev) (n : Fin 16) (f : Car → Car) : Dev := { s with cars := s.cars.set n (f s.cars[n]) }
def Dev.mapTrk (s : Dev) (n : Fin 16) (f : Trk → Trk) : Dev := s.mapCar n fun c => { c with trk := f c.trk }
def Dev.mapMot (s : Dev) (n : Fin 16) (f : Mot → Mot) : Dev := s.mapCar n fun c => { c with mot := f c.mot }
def Dev.mapIlk (s : Dev) (n : Fin 16) (f : Ilk → Ilk) : Dev := s.mapCar n fun c => { c with ilk := f c.ilk }

/-- Parts of one car engine. -/
abbrev Dev.trk (s : Dev) (n : Fin 16) : Trk := s.cars[n].trk
abbrev Dev.mot (s : Dev) (n : Fin 16) : Mot := s.cars[n].mot
abbrev Dev.ilk (s : Dev) (n : Fin 16) : Ilk := s.cars[n].ilk

/-- An output of the block. -/
def Dev.emit (s : Dev) (o : Out) : Dev := { s with tx := o :: s.tx }

/-- An output on PCI Express: the controller leaves L1 for it (R98). -/
def Dev.emitHost (s : Dev) (o : Out) : Dev :=
  { s.emit o with host := { s.host with inL1 := false, busyGt := s.time.gt } }

/-- The largest memory read request, bytes (R68). -/
def Dev.maxRead (s : Dev) : Nat := 128 * 2 ^ s.host.conf.request

/-- Read requests for `len` bytes from an address, none larger than the max read request size (R68). -/
def Dev.emitRead (s : Dev) (addr len : Nat) : Dev :=
  let m := s.maxRead
  (List.range ((len + m - 1) / m)).foldl
    (fun (s : Dev) (i : Nat) => s.emitHost (.dmaRead (addr + m * i) (min m (len - m * i)))) s

/-- A free value below a bound, and the state with it taken (log entry 1). -/
def Dev.fresh (s : Dev) (bound : Nat) : Nat × Dev :=
  (Config.freeNat s.free % bound, { s with free := s.free + 1 })

/-- Group Time (R19). -/
abbrev Dev.gt (s : Dev) : Nat := s.time.gt

/-- Length of a tick, ns (R19). -/
def tickNs : Nat := 100000

/-- The start of the tick in progress, and of the next (R35). -/
def Dev.tickStart (s : Dev) : Nat := s.gt / tickNs * tickNs
def Dev.nextTick (s : Dev) : Nat := (s.gt / tickNs + 1) * tickNs

/-- GT moved on to an instant of the tick in progress; an instant that lies elsewhere moves nothing (log entry 4). -/
def Dev.at (s : Dev) (t : Nat) : Dev :=
  if s.gt ≤ t && t < s.nextTick then { s with time := { s.time with gt := t } } else s

/-- `old` with the bits of `v` cleared, as a bit-clearing write leaves it. -/
def clearBits (old v : Nat) : Nat := old - (old &&& v)

/-- SETUP_LOCK (R6, R470). -/
def Dev.locked (s : Dev) : Bool := s.on Reg.GLB_LOCK

/-- Whether a car is enabled (R26). -/
def Dev.carOn (s : Dev) (n : Nat) : Bool := bit (s.rd Reg.GLB_CAR_EN_MASK) n

/-- State of a power domain, by the index of R442, and that state put to a value. -/
def Dev.dom (s : Dev) (k : Nat) : Nat := s.rd (Reg.PWR_STAT_STATE (k / 8) (k % 8))
def Dev.setDom (s : Dev) (k st : Nat) : Dev := s.wr (Reg.PWR_STAT_STATE (k / 8) (k % 8)) st

/-- States of a power domain (R443). -/
def Dom.off : Nat := 0
def Dom.starting : Nat := 1
def Dom.on : Nat := 2
def Dom.idle : Nat := 3
def Dom.test : Nat := 4
def Dom.isolated : Nat := 5
def Dom.reset : Nat := 6

/-- The five domains of car engine `n` put to a state. -/
def Dev.setEngine (s : Dev) (n st : Nat) : Dev :=
  (List.range 5).foldl (fun (s : Dev) (j : Nat) => s.setDom (5 * n + j) st) s

/-- An engine that runs: its domains are on (R197, R356, R443). -/
def Dev.engineOn (s : Dev) (n : Nat) : Bool := s.dom (5 * n) = Dom.on

/-- This controller's name: 0 X, 1 Y (R1). -/
def Dev.xy (s : Dev) : Nat := s.rd Reg.GLB_ID_XY

/-- An element put into a sorted list, before those it does not come after. -/
def insertBy {α : Type} (le : α → α → Bool) (x : α) : List α → List α
  | [] => [x]
  | y :: l => if le x y then x :: y :: l else y :: insertBy le x l

/-- A list sorted; elements that compare equal keep their order. -/
def sortBy {α : Type} (le : α → α → Bool) (l : List α) : List α := l.foldr (insertBy le) []

/-! Domain types (R427) -/

/-- The lowest domain index of a domain's type: the engine domains of one name, the slice ports, the Ethernet ports and the bus
channels share one each. -/
def bistClass (d : Nat) : Nat :=
  if d < 80 then d % 5 else if d < 96 then 80 else if d = 98 then 97 else if 99 ≤ d && d ≤ 102 then 99 else d

def domType (d : Nat) : Nat := Config.whkType (bistClass d) % 256
/-- Cells of the longest chain, at most 224. -/
def domChainLen (d : Nat) : Nat := min (Config.whkChainLen (bistClass d)) 224
def domMacros (d : Nat) : Nat := min (Config.whkMacros (bistClass d)) 63

/-- Part of a payload: bytes from an offset. -/
abbrev Part := Nat × List Byte

/-- A block of `len` bytes whose first byte has offset `base`, filled from its parts, 0 elsewhere. -/
def layout (base len : Nat) (parts : List Part) : List Byte :=
  (List.range len).map fun i =>
    match parts.find? fun p => p.1 ≤ base + i && base + i < p.1 + p.2.length with
    | some p => p.2.getD (base + i - p.1) 0
    | none => 0

/-- A number as one part of a payload: its offset and width in bytes. -/
def pU (off n v : Nat) : Part := (off, leBytes n v)

/-- The number in `n` bytes from index `i`, most significant byte first (R13, R14). -/
def beAt (b : List Byte) (i n : Nat) : Nat := leAt ((b.drop i).take n).reverse 0 n

/-- A number in network byte order (R13, R14). -/
def beBytes (n v : Nat) : List Byte := (leBytes n v).reverse

/-- A signed number as one part of a payload. -/
def pI (off n : Nat) (v : Int) : Part := (off, leBytes n (ofSigned (8 * n) v))

end Sys2Proof.Machine
end

