-- ==== Sys2Proof/Machine/Codec.lean ====
section
/-! DEFINITION. The byte layouts of completions (R115), events (R117) and logbook records (R404), and CRC-32 (R263). -/

namespace Sys2Proof.Machine

/-- One shift of the CRC register: polynomial 0x04C1_1DB7, most significant bit first, nothing reflected (R263). -/
def crc32Bit (c : Nat) : Nat :=
  if bit c 31 then (2 * c % 2 ^ 32) ^^^ 0x04C11DB7 else 2 * c

/-- One byte entering the register, most significant bit first. -/
def crc32Byte (c : Nat) (b : Byte) : Nat :=
  crc32Bit (crc32Bit (crc32Bit (crc32Bit (crc32Bit (crc32Bit (crc32Bit (crc32Bit (c ^^^ (b.toNat * 2 ^ 24)))))))))

/-- CRC-32 of a byte string: start value and final xor 0xFFFF_FFFF (R263). -/
def crc32 (b : List Byte) : Nat := b.foldl crc32Byte 0xFFFFFFFF ^^^ 0xFFFFFFFF

/-- The 32 bytes of a completion entry (R115); `held` is set in copies HELD_READ delivers (R121). -/
def Cqe.bytes (c : Cqe) (held phase : Bool) : List Byte :=
  layout 0 32 [pU 0 2 c.cmd, pU 2 1 c.status,
    pU 3 1 (b2n c.final + 2 * b2n c.dur + 4 * b2n held),
    pU 4 1 (c.sq % 32), pU 5 1 c.op, pU 6 2 c.dseq, pU 8 8 c.gt, pU 16 8 c.info0,
    pU 24 4 c.info1, pU 28 2 c.gen, pU 31 1 (128 * b2n phase)]

/-- The 32 bytes of an event entry (R117). -/
def Evt.bytes (e : Evt) (phase : Bool) : List Byte :=
  layout 0 32 [pU 0 2 e.code, pU 2 1 (e.sev % 8 + 128 * b2n e.wake), pU 3 1 e.src,
    pU 4 1 e.tclass, pU 5 1 e.tindex, pU 6 2 e.eseq, pU 8 8 e.gt, (16, e.pay.take 14),
    pU 31 1 (128 * b2n phase)]

/-- Bytes 0 to 55 of a record (R404). -/
def Rec.head (r : Rec) : List Byte :=
  layout 0 56 [pU 0 8 r.seq, pU 8 8 r.gt, pU 16 2 r.code,
    pU 18 1 (r.sev % 8 + 8 * b2n r.bypass + 16 * b2n r.pinned + 32 * b2n r.mirrored + 64 * b2n r.flushed),
    pU 19 1 r.src, pU 20 1 r.tclass, pU 21 1 r.tindex, pU 22 1 (r.ctrl % 2 + 2 * (r.role % 4)),
    pU 24 2 r.eseq, pU 26 1 r.part, pU 27 1 r.parts, (28, r.pay.take 28)]

/-- The 64 bytes of a record: the CRC covers bytes 0 to 55 (R404). -/
def Rec.bytes (r : Rec) : List Byte := r.head ++ leBytes 4 (crc32 r.head) ++ leBytes 4 0

/-- The 64 bytes of a trace entry: TSEQ, the completion with its phase byte 0, the flags (R475). -/
def traceBytes (tseq : Nat) (c : Cqe) (flags : Nat) : List Byte :=
  leBytes 8 tseq ++ c.bytes false false ++ leBytes 1 flags ++ leBytes 23 0

end Sys2Proof.Machine
end

