-- ==== Sys2Proof/Machine/Flags.lean ====
section
/-! DEFINITION. Flags, records, events and interrupts: how a happening reaches the logbook, an event ring and an MSI-X
vector (R86 to R89, R97, R99, R117 to R119, R402 to R411). -/

namespace Sys2Proof.Machine

/-! Logbook records -/

/-- A record kept out of the log is counted under its severity (R411). -/
def Dev.logDropped (s : Dev) (sev : Nat) : Dev :=
  { s.inc (Reg.LOG_DROP (sev % 8)) with
    log := { s.log with drops := s.log.drops.set (Fin.ofNat 8 sev) (s.log.drops[Fin.ofNat 8 sev] + 1) } }

/-- The reserve moved on when SEQ comes within 32,768 of it (R405). -/
def Dev.logReserve (s : Dev) : Dev :=
  if s.logP.reserve ≤ s.log.seq + 32768 then
    { s with logP := { s.logP with reserve := s.log.seq + 65536 } }
  else s

/-- A record offered to the Logbook (R403): below MIN_SEV it is discarded; during a flush a record of S0 to S5, and any
record that finds staging full, is dropped and counted (R408, R415); an accepted record takes the next SEQ (R405), and
the first 1,024 of S7 after a clear are pinned (R410). -/
def Dev.record (s : Dev) (r : Rec) : Dev :=
  if r.sev < s.rd Reg.LOG_CTRL_MIN_SEV then s
  else if (s.log.flushing && decide (r.sev ≤ 5)) || decide (4096 ≤ s.log.staging.length) then s.logDropped r.sev
  else
    let pin := decide (r.sev = 7) && decide (s.logP.pins < 1024)
    let r' := { r with seq := s.log.seq, pinned := pin }
    Dev.logReserve
      { s with log := { s.log with staging := s.log.staging ++ [r'], seq := s.log.seq + 1 },
               logP := { s.logP with pins := s.logP.pins + b2n pin } }

/-- A record as its block writes it: code, severity, source, unit and payload bytes 28 to 55 (R404, R406). -/
def Dev.mkRec (s : Dev) (code sev src tclass tindex : Nat) (pay : List Part) : Rec :=
  { seq := 0, gt := s.gt, code := code, sev := sev, bypass := false, pinned := false, mirrored := false,
    flushed := false, torn := false, src := src, tclass := tclass, tindex := tindex, ctrl := s.xy,
    role := s.rd Reg.PBX_STAT_ROLE, eseq := 0, part := 0, parts := 1, pay := layout 28 28 pay }

/-- A record without an event (R406). -/
def Dev.note (s : Dev) (code sev src tclass tindex : Nat) (pay : List Part) : Dev :=
  s.record (s.mkRec code sev src tclass tindex pay)

/-! MSI-X -/

/-- Whether the controller masters transfers: Bus Master Enable in D0, with the island out of reset
(R68, R84, R97). -/
def Dev.mastering (s : Dev) : Bool :=
  s.on Reg.HST_STAT_BME && !s.on Reg.HST_STAT_D3 && !s.host.recov && !s.host.refHeld && !s.host.perst

/-- A read of host memory that a descriptor asks for: `mem` is what it brings, none where it fails and its one repeat fails
too; nothing is asked for while nothing is mastered (R68, R80, R97, log entry 103). -/
def Dev.readHost (s : Dev) (addr len : Nat) (mem : Option (List Byte)) : Option (List Byte) × Dev :=
  if !s.mastering then (none, s)
  else
    match mem with
    | some b => (some b, s.emitRead addr len)
    | none => (none, (s.emitRead addr len).emitRead addr len)

/-- A source signals its vector (R88): pending while the vector or the function is masked, nothing where the table
entry holds address 0 (R487). DESIGN CHOICE (log entry 103): it is pending too while nothing is mastered (R68). -/
def Dev.signalVec (s : Dev) (v : Fin 64) : Dev :=
  let e := s.host.msix[v]
  if !s.host.msixEn || e.addr = 0 then s
  else if e.mask || s.host.funcMask || !s.mastering then s.mapHost fun h => { h with pba := setBit h.pba v.val true }
  else s.emitHost (.msix v.val e.addr e.data)

/-- A vector with its pending bit set is signalled once nothing holds it back (R487, PCI Express). -/
def Dev.unmask (s : Dev) (v : Fin 64) : Dev :=
  if bit s.host.pba v.val && !s.host.msix[v].mask && !s.host.funcMask && s.host.msixEn && s.mastering then
    (s.mapHost fun h => { h with pba := setBit h.pba v.val false }).signalVec v
  else s

/-- Every pending vector that may be signalled now. -/
def Dev.unmaskAll (s : Dev) : Dev := (List.finRange 64).foldl (fun (s : Dev) (v : Fin 64) => s.unmask v) s

/-- Ring source `i` (CQq is q, EQe is 32 + e) signals under its steering entry (R88, R485). -/
def Dev.signalSource (s : Dev) (i : Nat) : Dev :=
  if s.rdForce (Reg.EVT_STEER_EN i) = 1 then s.signalVec (Fin.ofNat 64 (s.rdForce (Reg.EVT_STEER_VEC i))) else s

/-- An entry posted to a ring that signals: the moderation rule's count (R89). -/
def Moder.posted (m : Moder) (now : Nat) : Moder :=
  if m.armed then { m with pending := m.pending + 1, first := if m.pending = 0 then now else m.first } else m

/-! Event rings -/

/-- Entries of a ring with a given LOG2SZ (R69). -/
def ringSize (log2 : Nat) : Nat := 2 ^ log2

/-- An event written at the tail of its EQ (R82, R86). -/
def Dev.eqWrite (s : Dev) (e : Nat) (v : Evt) : Dev :=
  let sz := ringSize (s.rd (Reg.RNG_EQ_CFG_LOG2SZ e))
  let t := s.rd (Reg.RNG_EQ_STAT_TAIL e)
  let ph := s.rd (Reg.RNG_EQ_HEAD_PHASE e)
  let base := s.rd (Reg.RNG_EQ_BASE_HI e) * 2 ^ 32 + s.rd (Reg.RNG_EQ_BASE_LO e) * 4096
  let t' := (t + 1) % sz
  let s := s.emitHost (.dma (base + 32 * t) (v.bytes (ph == 1)))
  let s := s.wr (Reg.RNG_EQ_STAT_TAIL e) t'
  let s := s.wr (Reg.RNG_EQ_HEAD_PHASE e) (if t' = 0 then 1 - ph else ph)
  if s.on (Reg.RNG_EQ_CFG_IEN e) then
    let i := Fin.ofNat 40 (32 + e)
    { s with host := { s.host with moder := s.host.moder.set i (s.host.moder[i].posted s.gt) } }
  else s

/-- Free entries of an EQ: its size less one, less the entries posted and not released. -/
def Dev.eqFree (s : Dev) (e : Nat) : Nat :=
  let sz := ringSize (s.rd (Reg.RNG_EQ_CFG_LOG2SZ e))
  sz - 1 - (s.rd (Reg.RNG_EQ_STAT_TAIL e) + sz - s.rd (Reg.RNG_EQ_HEAD e)) % sz

/-- An EQ that takes events: enabled and not faulted (R87). -/
def Dev.eqOk (s : Dev) (e : Nat) : Bool := s.on (Reg.RNG_EQ_CFG_EN e) && !s.on (Reg.RNG_EQ_STAT_FAULT e)

/-- A wake reason arises (R99, R100): the first is latched and PME_Status is set; where PME_En is set L1 is left, and one
PM_PME is to leave unless the recovery time runs. -/
def Dev.wakeReason (s : Dev) (e : Nat) : Dev :=
  let s := if s.on Reg.HST_WAKE_RSN_VALID then s
    else (s.flag Reg.HST_WAKE_RSN_VALID true).wr Reg.HST_WAKE_RSN_EQ e
  s.mapHost fun h => { h with
    pmeStat := true
    inL1 := h.inL1 && !h.pmeEn
    pmeQueued := h.pmeQueued || (h.pmeEn && !h.pmeSent && !h.recov) }

/-- An event that reaches its EQ (R86, R87, R97): written, held while the function masters nothing (at most 512), or
counted as lost, an excess in D3hot in HST_EVT_LOST as well. In D3hot one for a wake-enabled EQ is a wake reason (R99). -/
def Dev.eqPost (s : Dev) (e : Nat) (v : Evt) : Dev :=
  if !s.eqOk e then s.inc (Reg.RNG_EQ_LOST e)
  else if !s.mastering then
    let w := (s.on Reg.HST_STAT_D3 || s.host.recov) && bit (s.rd Reg.HST_WAKE_EN_EQ) e
    let s := if w then s.wakeReason e else s
    if 512 ≤ s.host.evHold.length then (s.inc (Reg.RNG_EQ_LOST e)).incSat Reg.HST_EVT_LOST
    else s.mapHost fun h => { h with evHold := h.evHold ++ [(e, { v with wake := w })] }
  else if s.eqFree e = 0 then s.inc (Reg.RNG_EQ_LOST e)
  else s.eqWrite e v

/-! Events (R118) -/

/-- The events of the catalogue (R118). -/
inductive Ev where
  | gtValid | gtStep | holdoverLimit | replicaFault | tcxoLost | peerGtDiff | ptpState | ptpGmChange | ptpPortSwitch
  | eringFault | eqOverflow | ping | fireFrame | safetyFrame | busState
  | carMode | carArrived | callDropped | positionState | indexFault | loadState | interlock | ucm
  | doorState | obstruction | doorFault
  | sliceLink | sliceIdentity | leaseChange | sliceOrphan | safeDrop | ioFault | inputState | edgeOverflow
  | lampFault | chainBreak | calSwapped | engineIsolated | evrStep | evrDone | evrInterrupted
  | roleChange | peerLink | standbyHealth | checkpointStall | logFreeze | logCleared | logDrop | bistDone | controllerStart
  deriving DecidableEq, Repr

/-- Event codes (R118). -/
def Ev.code : Ev → Nat
  | .gtValid => 0x0101 | .gtStep => 0x0102 | .holdoverLimit => 0x0103 | .replicaFault => 0x0104
  | .tcxoLost => 0x0105 | .peerGtDiff => 0x0106 | .ptpState => 0x0111 | .ptpGmChange => 0x0112
  | .ptpPortSwitch => 0x0113 | .eringFault => 0x0201 | .eqOverflow => 0x0202 | .ping => 0x0203
  | .fireFrame => 0x0301 | .safetyFrame => 0x0302 | .busState => 0x0303 | .carMode => 0x0401
  | .carArrived => 0x0402 | .callDropped => 0x0403 | .positionState => 0x0404 | .indexFault => 0x0405
  | .loadState => 0x0406 | .interlock => 0x0407 | .ucm => 0x0408 | .doorState => 0x0501
  | .obstruction => 0x0502 | .doorFault => 0x0503 | .sliceLink => 0x0601 | .sliceIdentity => 0x0602
  | .leaseChange => 0x0603 | .sliceOrphan => 0x0604 | .safeDrop => 0x0605 | .ioFault => 0x0606
  | .inputState => 0x0607 | .edgeOverflow => 0x0608 | .lampFault => 0x0701 | .chainBreak => 0x0702
  | .calSwapped => 0x0703 | .engineIsolated => 0x0801 | .evrStep => 0x0802 | .evrDone => 0x0803
  | .evrInterrupted => 0x0804 | .roleChange => 0x0901 | .peerLink => 0x0902 | .standbyHealth => 0x0903
  | .checkpointStall => 0x0904 | .logFreeze => 0x0A01 | .logCleared => 0x0A02 | .logDrop => 0x0A03
  | .bistDone => 0x0B01 | .controllerStart => 0x0C01

/-- Severities (R118); where the catalogue gives two, the lower one, which `raiseSev` overrides. -/
def Ev.sev : Ev → Nat
  | .ping => 0
  | .carArrived | .doorState => 1
  | .callDropped | .calSwapped | .standbyHealth | .bistDone => 2
  | .gtValid | .ptpState | .ptpGmChange | .eqOverflow | .loadState | .obstruction | .inputState | .edgeOverflow
  | .logFreeze => 3
  | .gtStep | .peerGtDiff | .ptpPortSwitch | .eringFault | .safetyFrame | .busState | .carMode | .positionState
  | .indexFault | .sliceLink | .leaseChange | .lampFault | .chainBreak | .evrStep | .evrDone | .peerLink | .logDrop
  | .controllerStart => 4
  | .holdoverLimit | .fireFrame | .interlock | .doorFault | .sliceIdentity | .ioFault | .roleChange
  | .checkpointStall => 5
  | .replicaFault | .tcxoLost | .sliceOrphan | .safeDrop | .engineIsolated | .evrInterrupted => 6
  | .ucm | .logCleared => 7

/-- Source of an event of unit `u` (R118). -/
def Ev.src (e : Ev) (u : Nat) : Nat :=
  match e with
  | .gtValid | .gtStep | .holdoverLimit | .replicaFault | .tcxoLost | .peerGtDiff => 40
  | .ptpState | .ptpGmChange | .ptpPortSwitch => 41
  | .eringFault | .eqOverflow | .ping => 42
  | .fireFrame | .safetyFrame | .busState => 43 + u
  | .carMode | .carArrived | .callDropped | .positionState | .indexFault | .loadState | .interlock | .ucm
  | .doorState | .obstruction | .doorFault => 48 + u
  | .sliceLink | .sliceIdentity | .leaseChange | .sliceOrphan | .safeDrop | .ioFault | .inputState | .edgeOverflow
  | .lampFault | .chainBreak | .calSwapped => 64 + u
  | .engineIsolated | .evrStep | .evrDone | .evrInterrupted => 47
  | .roleChange | .peerLink | .standbyHealth | .checkpointStall => 80
  | .logFreeze | .logCleared | .logDrop => 81
  | .bistDone => 82
  | .controllerStart => 83

/-- Class of the unit an event source concerns (R103, R117). -/
def srcClass (src : Nat) : Nat :=
  if 43 ≤ src && src ≤ 46 then 3 else if src = 47 then 5
  else if 48 ≤ src && src ≤ 63 then 1 else if 64 ≤ src && src ≤ 79 then 2 else 0

/-- Index of that unit. -/
def srcIndex (src : Nat) : Nat :=
  if 43 ≤ src && src ≤ 46 then src - 43
  else if 48 ≤ src && src ≤ 63 then src - 48 else if 64 ≤ src && src ≤ 79 then src - 64 else 0

/-- An event as raised now (R117); ENGINE_ISOLATED, of the group's source, concerns a car. -/
def Dev.mkEvt (s : Dev) (e : Ev) (sev u : Nat) (pay : List Part) : Evt :=
  let (cls, idx) := if e = .engineIsolated then (1, u) else (srcClass (e.src u), srcIndex (e.src u))
  { code := e.code, sev := sev, wake := false, src := e.src u, tclass := cls, tindex := idx, eseq := (s.host.eseq + 1) % 65536, gt := s.gt, pay := layout 16 14 pay }

/-- The logbook record of an event: its GT, that of the happening, and the extension of bytes 42 to 55 (R403, R404, R509). -/
def Dev.recEvt (s : Dev) (v : Evt) (ext : List Part) : Dev :=
  let r := s.mkRec v.code v.sev v.src v.tclass v.tindex []
  s.record { r with gt := v.gt, eseq := v.eseq, pay := v.pay ++ layout 42 14 ext }

/-- An event's count taken (R117). -/
def Dev.countEvt (s : Dev) (v : Evt) : Dev := { s with host := { s.host with eseq := v.eseq } }

/-- An event posted where its source is steered (R86, R485). -/
def Dev.steer (s : Dev) (v : Evt) : Dev :=
  if s.rdForce (Reg.EVT_STEER_EN v.src) = 1 then s.eqPost (s.rdForce (Reg.EVT_STEER_EQ v.src)) v else s

/-- An event raised with its severity: counted, offered to the Logbook with the record extension `ext`, posted. -/
def Dev.raiseSev (s : Dev) (e : Ev) (sev u : Nat) (pay ext : List Part) : Dev :=
  let v := s.mkEvt e sev u pay
  ((s.countEvt v).recEvt v ext).steer v

/-- An event of unit `u` raised with its catalogue severity. -/
def Dev.raise (s : Dev) (e : Ev) (u : Nat) (pay : List Part) : Dev := s.raiseSev e e.sev u pay []

/-- An event raised and posted to a given EQ whatever its steering (R111 EQ_PING, R119 EQ_OVERFLOW). -/
def Dev.raiseTo (s : Dev) (q : Nat) (e : Ev) (pay : List Part) : Dev :=
  let v := s.mkEvt e e.sev 0 pay
  ((s.countEvt v).recEvt v []).eqPost q v

/-- The first EQ that is enabled and not faulted (R119). -/
def Dev.firstEq (s : Dev) : Option Nat := (List.range 8).find? fun e => s.eqOk e

/-- ERING_FAULT (R93, R119): to the EQ steered for source 42, or to the lowest EQ in service where that one is the
faulted ring or is out of service; counted as lost where there is none. `kind` is 0 SQ, 1 CQ, 2 EQ. -/
def Dev.eringFault (s : Dev) (kind num cause index : Nat) : Dev :=
  let v := s.mkEvt .eringFault 4 0 [pU 16 1 kind, pU 17 1 num, pU 18 1 cause, pU 20 2 index]
  let s := (s.countEvt v).recEvt v []
  if s.rdForce (Reg.EVT_STEER_EN 42) = 1 then
    let e := s.rdForce (Reg.EVT_STEER_EQ 42)
    if s.eqOk e then s.eqPost e v
    else match s.firstEq with
      | some e' => s.eqPost e' v
      | none => s.inc (Reg.RNG_EQ_LOST e)
  else s

end Sys2Proof.Machine
end

