-- ==== Sys2Proof/Machine/Rings.lean ====
section
/-! DEFINITION. Submission, completion and event rings: fetching, admission slots, the posting order of completions, the
backlog, doorbells and ring faults (R69 to R93). -/

namespace Sys2Proof.Machine

/-! Statuses (R116) -/

def Stat.ok : Nat := 0
def Stat.lateFired : Nat := 1
def Stat.expired : Nat := 2
def Stat.cancelled : Nat := 3
def Stat.refused : Nat := 4
def Stat.badDesc : Nat := 5
def Stat.engineLost : Nat := 6
def Stat.foreignOwner : Nat := 7
def Stat.noLease : Nat := 8
def Stat.authFail : Nat := 9
def Stat.busy : Nat := 10
def Stat.resource : Nat := 11
def Stat.tooLate : Nat := 12
def Stat.busOff : Nat := 13
def Stat.ringFault : Nat := 14

/-- A refused admission: it changed no state (R90). -/
def AdmRes.refuse (st : Nat) : AdmRes := { status := st, info0 := 0, info1 := 0, inert := true }

/-- An admission that passed and changed state, with its INFO fields. -/
def AdmRes.done (i0 i1 : Nat) : AdmRes := { status := Stat.ok, info0 := i0, info1 := i1, inert := false }

/-- An admission that passed, and changed state or not. -/
def AdmRes.changed (b : Bool) (i0 i1 : Nat) : AdmRes := { status := Stat.ok, info0 := i0, info1 := i1, inert := !b }

/-- An admission that passed and only read. -/
def AdmRes.readOnly (i0 i1 : Nat) : AdmRes := { status := Stat.ok, info0 := i0, info1 := i1, inert := true }

/-! Completion rings -/

/-- Entries posted to a CQ and not released by a head doorbell. -/
def Dev.cqPosted (s : Dev) (q : Nat) : Nat :=
  let sz := ringSize (s.rd (Reg.RNG_CQ_CFG_LOG2SZ q))
  (s.rd (Reg.RNG_CQ_STAT_TAIL q) + sz - s.rd (Reg.RNG_CQ_HEAD q)) % sz

/-- Generation of the host island (R84). -/
def Dev.gen (s : Dev) : Nat := s.rd Reg.HST_STAT_GEN

/-- Slots of a CQ reserved for descriptors fetched and not yet completed at admission (R76, R83). -/
def Dev.cqReserved (s : Dev) (q : Nat) : Nat :=
  (s.host.adm.filter fun (a : AdmSlot) => a.cq = q && a.gen = s.gen).length + (s.host.resv.filter fun r => r.2 = q).length

/-- Free space of a CQ (R83). -/
def Dev.cqFree (s : Dev) (q : Nat) : Nat :=
  ringSize (s.rd (Reg.RNG_CQ_CFG_LOG2SZ q)) - 1 - s.cqPosted q - s.cqReserved q

/-- A CQ that takes completions: enabled and not faulted. -/
def Dev.cqOk (s : Dev) (q : Nat) : Bool := s.on (Reg.RNG_CQ_CFG_EN q) && !s.on (Reg.RNG_CQ_STAT_FAULT q)

/-- A CQ into which a completion can be written now (R84). -/
def Dev.cqLive (s : Dev) (q : Nat) : Bool := s.cqOk q && s.mastering

/-- Backlog entries of the current generation for a CQ (RNG_CQq_BACKLOG). -/
def Dev.cqBacklog (s : Dev) (q : Nat) : Nat :=
  (s.host.backlog.filter fun b => b.cq = q && b.cqe.gen = s.gen).length

/-- Held entries: those of older generations and of restored actions (R84, R398). -/
def Dev.heldCount (s : Dev) : Nat := (s.host.backlog.filter fun b => b.cqe.gen != s.gen).length

/-- Moderation of ring source `i` after an entry was posted, where the ring signals (R89). -/
def Dev.moderate (s : Dev) (i : Nat) (ien : Bool) : Dev :=
  if ien then
    let k := Fin.ofNat 40 i
    { s with host := { s.host with moder := s.host.moder.set k (s.host.moder[k].posted s.gt) } }
  else s

/-- A completion written at the tail of its CQ (R82). -/
def Dev.cqWrite (s : Dev) (q : Nat) (c : Cqe) : Dev :=
  let sz := ringSize (s.rd (Reg.RNG_CQ_CFG_LOG2SZ q))
  let t := s.rd (Reg.RNG_CQ_STAT_TAIL q)
  let ph := s.rd (Reg.RNG_CQ_HEAD_PHASE q)
  let base := s.rd (Reg.RNG_CQ_BASE_HI q) * 2 ^ 32 + s.rd (Reg.RNG_CQ_BASE_LO q) * 4096
  let t' := (t + 1) % sz
  let s := s.emitHost (.dma (base + 32 * t) (c.bytes false (ph == 1)))
  let s := s.wr (Reg.RNG_CQ_STAT_TAIL q) t'
  let s := s.wr (Reg.RNG_CQ_HEAD_PHASE q) (if t' = 0 then 1 - ph else ph)
  let s := { s with host := { s.host with
    lastCq := { cq := q, cqe := c } :: s.host.lastCq.filter fun b => b.cq != q } }
  s.moderate q (s.on (Reg.RNG_CQ_CFG_IEN q))

/-- The first held entry taken out of a backlog. -/
def dropHeld (g : Nat) : List BackEnt → List BackEnt
  | [] => []
  | b :: l => if b.cqe.gen != g then l else b :: dropHeld g l

/-- Room for one more entry in the backlog: a full one gives up its oldest held entry (R85). -/
def Dev.backRoom (s : Dev) : Dev :=
  if 65536 ≤ s.host.backlog.length && s.heldCount != 0 then
    let s := { s with host := { s.host with backlog := dropHeld s.gen s.host.backlog } }
    let s := s.incSat Reg.HST_HELD_LOST
    if s.rd Reg.HST_HELD_LOST % 1024 = 0 then
      s.note 0x800A 5 42 0 0 [pU 28 4 (s.rd Reg.HST_HELD_LOST)]
    else s
  else s

/-- A completion enters the backlog (R83, R84, R85). -/
def Dev.backPush (s : Dev) (q : Nat) (c : Cqe) : Dev :=
  let s := s.backRoom
  { s with host := { s.host with backlog := s.host.backlog ++ [{ cq := q, cqe := c }] } }

/-- Entries the trace region holds: MIB mebibytes of 64 bytes. -/
def Dev.traceCap (s : Dev) : Nat := s.rd Reg.LAR_TRACE_MIB * 16384

/-- The trace entry of a completion just built (R475). `flags`: bit 0 backlog, bit 1 held, bit 2 restored. -/
def Dev.traceAdd (s : Dev) (c : Cqe) (flags : Nat) : Dev :=
  if s.on Reg.LAR_TRACE_MIB && s.locked then
    let l := s.log.trace ++ [(s.log.tseq, c, flags)]
    { s with log := { s.log with tseq := s.log.tseq + 1, trace := l.drop (l.length - s.traceCap) } }
  else s

/-- The enable of an SQ under way, as its descriptors' numbers carry it. -/
def Dev.era (s : Dev) (sq : Nat) : Nat := s.host.era[Fin.ofNat 32 sq]

/-- Whether a descriptor's effect lies in an acknowledged checkpoint (R90, R391): its number is covered and it had ended
when the checkpoint was taken, or it changed no state. -/
def Dev.contained (s : Dev) (sq dn : Nat) : Bool :=
  (decide (dn ≤ s.host.durTo[Fin.ofNat 32 sq]) && !s.host.durOpen.contains (sq, dn)) || s.host.inert.contains (sq, dn)
    || (descNum (s.era sq) 0 < dn && dn ≤ descNum (s.era sq) (s.rd (Reg.RNG_SQ_DSEQ sq)))

/-- Descriptors that have not ended, by SQ and number: their effect is in no checkpoint taken now (R90). -/
def Dev.openDescs (s : Dev) : List (Nat × Nat) := (s.host.adm.filter (·.res.isNone)).map fun a => (a.sq, a.dn)

/-- A checkpoint stands acknowledged, and this controller is one that sends checkpoints: its Pebex port is UP, and it is Duty or
holds a car (R387, R391). -/
def Dev.durable (s : Dev) : Bool :=
  s.host.durOn && s.rd Reg.PBX_STAT_LINK = 4 && (s.rd Reg.PBX_STAT_ROLE = 0 || s.rd Reg.PBX_HELD_OWN != 0)

/-- A completion's DUR and DSEQ at the moment of posting; both 0 where no checkpoint stands acknowledged (R92); for a
restored action DUR = 1 and its own number (R398). -/
def Dev.stamp (s : Dev) (dn : Nat) (c : Cqe) : Cqe :=
  if c.gen = 0xFFFF then { c with dur := true, dseq := dn % 65536 }
  else if s.durable then
    { c with dur := s.contained c.sq dn, dseq := s.rd (Reg.RNG_SQ_DSEQ c.sq) % 65536 }
  else { c with dur := false, dseq := 0 }

/-- A completion built and posted: into its CQ where `fits` says a slot stands ready, otherwise into the backlog; an
entry of an older generation is held (R83, R84). -/
def Dev.post (s : Dev) (q dn : Nat) (c : Cqe) (fits : Bool) : Dev :=
  let c := s.stamp dn c
  if c.gen != s.gen then
    (s.traceAdd c (if c.gen = 0xFFFF then 6 else 2)).backPush q c
  else if s.cqLive q && fits then (s.traceAdd c 0).cqWrite q c
  else (s.traceAdd c 1).backPush q c

/-- A final completion is posted (R81, R83): straight into its CQ only where space is free and nothing waits before it. -/
def Dev.postFinal (s : Dev) (q dn : Nat) (c : Cqe) : Dev :=
  s.post q dn c (s.cqFree q != 0 && s.cqBacklog q = 0)

/-- An admission completion is posted into its reserved slot, unless an earlier one waits in the backlog (R77); never
where the ring holds no free entry (R70). -/
def Dev.postAdm (s : Dev) (q dn : Nat) (c : Cqe) : Dev :=
  s.post q dn c ((s.host.backlog.all fun b => b.cq != q || b.cqe.gen != s.gen || b.cqe.final)
    && decide (s.cqPosted q + 1 < ringSize (s.rd (Reg.RNG_CQ_CFG_LOG2SZ q))))

/-- Number of descriptors of an SQ whose effect stands contained, moved past those that changed no state (R90). -/
def Dev.dseqAdvance (s : Dev) (sq : Nat) : Nat → Dev
  | 0 => s
  | n + 1 =>
    let m := s.rd (Reg.RNG_SQ_DSEQ sq) + 1
    let k := (sq, descNum (s.era sq) m)
    if s.host.inert.contains k then
      Dev.dseqAdvance ((s.wr (Reg.RNG_SQ_DSEQ sq) m).mapHost fun h => { h with inert := h.inert.filter fun p => p != k }) sq n
    else s

/-- A descriptor that changed no state is contained from its admission (R90). -/
def Dev.markInert (s : Dev) (sq dn : Nat) : Dev :=
  let s := { s with host := { s.host with inert := (sq, dn) :: s.host.inert } }
  if s.durable then s.dseqAdvance sq s.host.inert.length else s

/-- Whether FENCE lets an admission completion be posted (R91, R92); one of an older generation is held elsewhere (R94). -/
def Dev.fenceOpen (s : Dev) (a : AdmSlot) : Bool :=
  !a.fence || !s.durable || a.gen != s.gen || s.contained a.sq a.dn

/-- The admission completion of a slot. -/
def AdmSlot.cqe (a : AdmSlot) (r : AdmRes) : Cqe :=
  { cmd := a.cmd, status := r.status, final := false, dur := false, sq := a.sq, op := a.op, dseq := 0, gt := a.gt,
    info0 := r.info0, info1 := r.info1, gen := a.gen }

/-- Slots looked at in order, oldest first: one is posted when its result is known, its fence is open and no earlier
slot of its SQ waits (R77, R91, R110); its waiting final completion follows it (R81). An enable of the SQ starts a new
order. -/
def Dev.flushFrom (s : Dev) (held : List (Nat × Nat)) : List AdmSlot → Dev
  | [] => s
  | a :: l =>
    let k := (a.sq, a.dn / 2 ^ 32)
    match a.res with
    | some r =>
      if held.contains k || !s.fenceOpen a then Dev.flushFrom s (k :: held) l
      else
        let s := { s with host := { s.host with adm := s.host.adm.erase a } }
        let s := s.postAdm a.cq a.dn (a.cqe r)
        let s := match a.final with
          | some c => s.postFinal a.cq a.dn c
          | none => s
        Dev.flushFrom s held l
    | none => Dev.flushFrom s (k :: held) l

/-- Every admission completion that may be posted now is. -/
def Dev.flushAdm (s : Dev) : Dev := s.flushFrom [] s.host.adm

/-- The slot of descriptor `dn` of an SQ gets its result. -/
def Dev.admSet (s : Dev) (sq dn : Nat) (r : AdmRes) : Dev :=
  let upd := fun (a : AdmSlot) => if a.sq = sq && a.dn = dn && a.res.isNone then { a with res := some r } else a
  let s := s.mapHost fun h => { h with adm := h.adm.map upd }
  (if r.inert then s.markInert sq dn else s).flushAdm

/-- A long operation `op` ends: every admission waiting for it that `sel` picks gets its result (R110). -/
def Dev.admFinish (s : Dev) (op : Nat) (sel : AdmSlot → Bool) (r : AdmRes) : Dev :=
  ((s.host.adm.filter fun a => a.op = op && a.res.isNone && sel a).foldl
    (fun s a => s.admSet a.sq a.dn r) s)

/-- A final completion of an action or chord: it waits for the admission completion where that is still to be posted
(R81). DESIGN CHOICE (log entry 103): it goes to the CQ that its SQ's CFG.CQ names when the action ends. -/
def Dev.finalize (s : Dev) (dn : Nat) (c : Cqe) : Dev :=
  let q := s.rd (Reg.RNG_SQ_CFG_CQ c.sq)
  if s.host.adm.any (fun a => a.sq = c.sq && a.dn = dn && a.gen = c.gen) then
    let upd := fun (a : AdmSlot) => if a.sq = c.sq && a.dn = dn && a.gen = c.gen then { a with final := some c } else a
    s.mapHost fun h => { h with adm := h.adm.map upd }
  else s.postFinal q dn c

/-- Entries of the current generation drain from the backlog into a CQ while it accepts them (R83, R84). -/
def Dev.drainFrom (s : Dev) (q : Nat) : List BackEnt → Dev
  | [] => s
  | b :: l =>
    if b.cq = q && b.cqe.gen = s.gen && s.cqLive q && s.cqFree q != 0 then
      let s := { s with host := { s.host with backlog := s.host.backlog.erase b } }
      Dev.drainFrom (s.cqWrite q b.cqe) q l
    else Dev.drainFrom s q l

/-- The backlog of one CQ drained. -/
def Dev.drainCq (s : Dev) (q : Nat) : Dev := s.drainFrom q s.host.backlog

/-! Events held while nothing is mastered -/

/-- Held events written to their EQs in the order in which they arose (R97, R100). -/
def Dev.deliverHeld (s : Dev) : Dev :=
  if s.mastering then
    let l := s.host.evHold
    l.foldl (fun s p =>
      if s.eqOk p.1 && s.eqFree p.1 != 0 then s.eqWrite p.1 p.2 else s.inc (Reg.RNG_EQ_LOST p.1))
      { s with host := { s.host with evHold := [] } }
  else s

/-- The rings served again once transfers are mastered: held events, then the backlog of every CQ (R97). -/
def Dev.resume (s : Dev) : Dev :=
  if s.mastering then (List.range 32).foldl (fun s q => s.drainCq q) s.deliverHeld.unmaskAll else s

/-! Ring faults and doorbells -/

/-- An SQ, CQ or EQ faulted with its cause; ERING_FAULT carries the index (R93, R119). -/
def Dev.faultSq (s : Dev) (q cause idx : Nat) : Dev :=
  ((s.flag (Reg.RNG_SQ_STAT_FAULT q) true).wr (Reg.RNG_SQ_STAT_CAUSE q) cause).eringFault 0 q cause idx
def Dev.faultCq (s : Dev) (q cause idx : Nat) : Dev :=
  ((s.flag (Reg.RNG_CQ_STAT_FAULT q) true).wr (Reg.RNG_CQ_STAT_CAUSE q) cause).eringFault 1 q cause idx
def Dev.faultEq (s : Dev) (e cause idx : Nat) : Dev :=
  ((s.flag (Reg.RNG_EQ_STAT_FAULT e) true).wr (Reg.RNG_EQ_STAT_CAUSE e) cause).eringFault 2 e cause idx

/-- An SQ tail doorbell (R75). -/
def Dev.bellSq (s : Dev) (q v : Nat) : Dev :=
  if !s.on (Reg.RNG_SQ_CFG_EN q) then s.incSat Reg.HST_VIOL_DB_OFF
  else if ringSize (s.rd (Reg.RNG_SQ_CFG_LOG2SZ q)) ≤ v then s.faultSq q 1 v
  else s.wr (Reg.RNG_SQ_TAIL q) v

/-- Re-arming by a head doorbell (R89). -/
def Dev.rearm (s : Dev) (i left : Nat) : Dev :=
  let m : Moder := { armed := true, pending := left, first := s.gt }
  s.mapHost fun h => { h with moder := h.moder.set (Fin.ofNat 40 i) m }

/-- A CQ head doorbell (R75). -/
def Dev.bellCq (s : Dev) (q v : Nat) : Dev :=
  let sz := ringSize (s.rd (Reg.RNG_CQ_CFG_LOG2SZ q))
  let h := s.rd (Reg.RNG_CQ_HEAD q)
  if !s.on (Reg.RNG_CQ_CFG_EN q) then s.incSat Reg.HST_VIOL_DB_OFF
  else if sz ≤ v || s.cqPosted q < (v + sz - h) % sz then s.faultCq q 1 v
  else
    let s := s.wr (Reg.RNG_CQ_HEAD q) v
    s.rearm q (s.cqPosted q)

/-- An EQ head doorbell (R75). -/
def Dev.bellEq (s : Dev) (e v : Nat) : Dev :=
  let sz := ringSize (s.rd (Reg.RNG_EQ_CFG_LOG2SZ e))
  let h := s.rd (Reg.RNG_EQ_HEAD e)
  if !s.on (Reg.RNG_EQ_CFG_EN e) then s.incSat Reg.HST_VIOL_DB_OFF
  else if sz ≤ v || sz - 1 - s.eqFree e < (v + sz - h) % sz then s.faultEq e 1 v
  else
    let s := s.wr (Reg.RNG_EQ_HEAD e) v
    s.rearm (32 + e) (sz - 1 - s.eqFree e)

/-! Ring configuration -/

/-- A field a host write gives a value: out of its range the write is ignored and the field keeps its value (R15,
R463). -/
def Dev.fieldSet (s : Dev) (f : RF) (v : Nat) : Dev := if f.admits v then s.wr f v else s

/-- Field `f` of a 32-bit word written to its register. -/
def RF.cut (f : RF) (w : Nat) : Nat := w / 2 ^ f.lsb % 2 ^ f.w

/-- A field set from a 32-bit word. -/
def Dev.fieldCut (s : Dev) (w : Nat) (f : RF) : Dev := s.fieldSet f (f.cut w)

/-- CONTROLLER_START is raised once, at the first enable of the EQ steered for source 83 after the start, by the entry in
force (R486); its record stands in the Logbook from step 0 (R458). -/
def Dev.startEvent (s : Dev) (e : Nat) : Dev :=
  if s.host.startDue && s.rdForce (Reg.EVT_STEER_EN 83) != 0 && s.rdForce (Reg.EVT_STEER_EQ 83) = e then
    let v := s.mkEvt .controllerStart 4 0 [pU 16 1 (s.rd Reg.RST_STAT_CAUSE), pU 17 1 (b2n s.host.startMark)]
    let s := s.countEvt v
    { s with host := { s.host with startDue := false } }.eqPost e v
  else s

/-- A host write to the CFG register of an SQ (R72, R73). -/
def Dev.sqCfg (s : Dev) (q w : Nat) : Dev :=
  if s.on (Reg.RNG_SQ_CFG_EN q) then
    if bit w 31 then s
    else
      (s.flag (Reg.RNG_SQ_CFG_EN q) false).mapHost fun h => { h with
        partials := h.partials.set (Fin.ofNat 32 q) [], resv := h.resv.filter fun r => r.1 != q }
  else
    let s := [Reg.RNG_SQ_CFG_CQ q, Reg.RNG_SQ_CFG_PRIO q, Reg.RNG_SQ_CFG_LOG2SZ q].foldl (fun s f => s.fieldCut w f) s
    if !bit w 31 then s
    else if !s.on (Reg.RNG_CQ_CFG_EN (s.rd (Reg.RNG_SQ_CFG_CQ q))) then s.incSat Reg.HST_VIOL_BIND
    else
      let s := [Reg.RNG_SQ_STAT_HEAD q, Reg.RNG_SQ_TAIL q, Reg.RNG_SQ_SEQ q, Reg.RNG_SQ_DSEQ q,
        Reg.RNG_SQ_STAT_FAULT q, Reg.RNG_SQ_STAT_CAUSE q].foldl (fun s f => s.wr f 0) s
      let k := Fin.ofNat 32 q
      (s.flag (Reg.RNG_SQ_CFG_EN q) true).mapHost fun h => { h with
        inert := h.inert.filter fun p => p.1 != q, partials := h.partials.set k [], era := h.era.set k (h.era[k] + 1) }

/-- The indices, phase, fault and moderation of a ring at its enable (R72, R89). -/
def Dev.ringFresh (s : Dev) (i : Nat) (zero : List RF) (phase : RF) : Dev :=
  let s := (zero.foldl (fun s f => s.wr f 0) s).wr phase 1
  { s with host := { s.host with moder := s.host.moder.set (Fin.ofNat 40 i) { armed := true, pending := 0, first := 0 } } }

/-- A host write to the CFG register of a CQ (R72, R73). -/
def Dev.cqCfg (s : Dev) (q w : Nat) : Dev :=
  if s.on (Reg.RNG_CQ_CFG_EN q) then (if bit w 31 then s else s.flag (Reg.RNG_CQ_CFG_EN q) false)
  else
    let s := [Reg.RNG_CQ_CFG_IEN q, Reg.RNG_CQ_CFG_LOG2SZ q].foldl (fun s f => s.fieldCut w f) s
    if !bit w 31 then s
    else
      (s.ringFresh q [Reg.RNG_CQ_HEAD q, Reg.RNG_CQ_STAT_TAIL q, Reg.RNG_CQ_STAT_FAULT q, Reg.RNG_CQ_STAT_CAUSE q]
        (Reg.RNG_CQ_HEAD_PHASE q)).flag (Reg.RNG_CQ_CFG_EN q) true

/-- A host write to the CFG register of an EQ (R72, R73, R458). -/
def Dev.eqCfg (s : Dev) (e w : Nat) : Dev :=
  if s.on (Reg.RNG_EQ_CFG_EN e) then (if bit w 31 then s else s.flag (Reg.RNG_EQ_CFG_EN e) false)
  else
    let s := [Reg.RNG_EQ_CFG_IEN e, Reg.RNG_EQ_CFG_LOG2SZ e].foldl (fun s f => s.fieldCut w f) s
    if !bit w 31 then s
    else
      ((s.ringFresh (32 + e)
        [Reg.RNG_EQ_HEAD e, Reg.RNG_EQ_STAT_TAIL e, Reg.RNG_EQ_STAT_FAULT e, Reg.RNG_EQ_STAT_CAUSE e]
        (Reg.RNG_EQ_HEAD_PHASE e)).flag (Reg.RNG_EQ_CFG_EN e) true).startEvent e

/-- A write to the CFG register of a ring, whatever its kind. -/
def Dev.ringCfg (s : Dev) (r : RingId) (w : Nat) : Dev :=
  match r with
  | .sq q => s.sqCfg q.val w
  | .cq q => s.cqCfg q.val w
  | .eq e => s.eqCfg e.val w

/-! Fetching (R76 to R79) -/

/-- Entries between head and tail of an SQ: those still to be read. -/
def Dev.sqAvail (s : Dev) (q : Nat) : Nat :=
  let sz := ringSize (s.rd (Reg.RNG_SQ_CFG_LOG2SZ q))
  (s.rd (Reg.RNG_SQ_TAIL q) + sz - s.rd (Reg.RNG_SQ_STAT_HEAD q)) % sz

/-- Descriptors a CQ can still take: none while entries wait in its backlog (R83). -/
def Dev.cqRoom (s : Dev) (q : Nat) : Nat := if s.cqOk q && s.cqBacklog q = 0 then s.cqFree q else 0

/-- RNG_SQq_STAT.STALLED: the bound CQ is full, faulted or disabled. DESIGN CHOICE (log entry 118): it reads 1 too while
entries of that CQ stand in the backlog for another reason, since no reservation is granted then (R83). -/
def Dev.sqStalled (s : Dev) (q : Nat) : Bool := s.cqRoom (s.rd (Reg.RNG_SQ_CFG_CQ q)) = 0

/-- An eligible SQ (R76), while fetching is allowed at all (HST_CTRL.FETCH_EN, R68). -/
def Dev.sqEligible (s : Dev) (q : Nat) : Bool :=
  s.on Reg.HST_CTRL_FETCH_EN && s.mastering && s.on (Reg.RNG_SQ_CFG_EN q) && !s.on (Reg.RNG_SQ_STAT_FAULT q)
    && s.sqAvail q != 0 && !s.sqStalled q

/-- The next eligible SQ of a priority level after the one served last, round-robin. -/
def Dev.sqNext (s : Dev) (lvl : Fin 4) : Option Nat :=
  let last := s.host.rr[lvl]
  ((List.range 32).map fun i => (last + 1 + i) % 32).find? fun q =>
    s.rd (Reg.RNG_SQ_CFG_PRIO q) = lvl.val && s.sqEligible q

/-- The weight of a level (HST_WRR). -/
def Dev.weight (s : Dev) (lvl : Fin 4) : Nat :=
  match lvl with
  | 1 => s.rd Reg.HST_WRR_W1
  | 2 => s.rd Reg.HST_WRR_W2
  | 3 => s.rd Reg.HST_WRR_W3
  | 0 => 0

/-- A read the arbiter decides on: its SQ, the most entries it takes, the most descriptors that may begin in it (R76). -/
structure Fetch where
  sq    : Nat
  ents  : Nat
  descs : Nat
  deriving DecidableEq, Repr

/-- What a read of an SQ may take: up to 8 entries to the end of the ring, up to `lim` descriptors with a slot of the CQ
for each. -/
def Dev.readOf (s : Dev) (q lim : Nat) : Fetch :=
  let h := s.rd (Reg.RNG_SQ_STAT_HEAD q)
  let sz := ringSize (s.rd (Reg.RNG_SQ_CFG_LOG2SZ q))
  { sq := q, ents := min (min 8 (s.sqAvail q)) (sz - h), descs := min (min 8 lim) (s.cqRoom (s.rd (Reg.RNG_SQ_CFG_CQ q))) }

/-- The lowest level that has credit and an eligible SQ, and that SQ (R76). -/
def Dev.pickLevel (s : Dev) : Option (Fin 4 × Nat) :=
  ([1, 2, 3] : List (Fin 4)).findSome? fun l =>
    if s.host.credit[l] = 0 then none else (s.sqNext l).map fun q => (l, q)

/-- A new round begins as soon as no SQ can be served in the present one: all credits are reloaded (R76). -/
def Dev.roundEnd (s : Dev) : Dev :=
  if (s.sqNext 0).isSome || s.pickLevel.isSome then s
  else s.mapHost fun h => { h with credit := #v[0, s.weight 1, s.weight 2, s.weight 3] }

/-- The SQ the arbiter serves next and what its read may take (R76). -/
def Dev.arbitrate (s : Dev) : Option Fetch × Dev :=
  let take (s : Dev) (lvl : Fin 4) (q lim : Nat) : Option Fetch × Dev :=
    (some (s.readOf q lim), s.mapHost fun h => { h with rr := h.rr.set lvl q })
  match s.sqNext 0 with
  | some q => take s 0 q 8
  | none =>
    let s := s.roundEnd
    match s.pickLevel with
    | some (l, q) => take s l q s.host.credit[l]
    | none => (none, s)

/-- The read of a fetch leaves (R68, R76). -/
def Dev.askFetch (s : Dev) (r : Fetch) : Dev :=
  let base := s.rd (Reg.RNG_SQ_BASE_HI r.sq) * 2 ^ 32 + s.rd (Reg.RNG_SQ_BASE_LO r.sq) * 4096
  s.emitRead (base + 64 * s.rd (Reg.RNG_SQ_STAT_HEAD r.sq)) (64 * r.ents)

/-- Credit of an SQ's level spent for descriptors fetched (R76). -/
def Dev.spend (s : Dev) (q n : Nat) : Dev :=
  let l := Fin.ofNat 4 (s.rd (Reg.RNG_SQ_CFG_PRIO q))
  { s with host := { s.host with credit := s.host.credit.set l (s.host.credit[l] - n) } }

/-- A descriptor of 1 + EXT entries can stand in the ring of its SQ (R104). -/
def Dev.ringFits (s : Dev) (q : Nat) (b : List Byte) : Bool :=
  decide (1 + byteAt b 1 / 8 ≤ ringSize (s.rd (Reg.RNG_SQ_CFG_LOG2SZ q)) - 1)

/-- Entries a descriptor takes: 1 + EXT, and one where that cannot stand in its ring or where an extension entry is read as
a first one (R104). -/
def Dev.descEntries (s : Dev) (q : Nat) (b : List Byte) : Nat :=
  if byteAt b 0 = 0xFE || !s.ringFits q b then 1 else 1 + byteAt b 1 / 8

/-- Entries still to be read of the descriptor an SQ is fetching. -/
def Dev.partLeft (s : Dev) (q : Fin 32) : Nat :=
  let b := s.host.partials[q]
  if b.isEmpty then 0 else s.descEntries q.val b - b.length / 64

/-- The entries of a read that are taken: `left` of a descriptor in progress, then those of descriptors that begin, at most
`k`; and how many begin. -/
def Dev.readSpan (s : Dev) (q : Nat) : Nat → Nat → List Fetched → Nat × Nat
  | _, _, [] => (0, 0)
  | left, k, f :: l =>
    if left != 0 then
      let r := Dev.readSpan s q (left - 1) k l
      (r.1 + 1, r.2)
    else
      match k with
      | 0 => (0, 0)
      | k + 1 =>
        let r := Dev.readSpan s q (s.descEntries q f.desc - 1) k l
        (r.1 + 1, r.2 + 1)

/-- A slot of the bound CQ reserved for each of `n` descriptors fetched (R76, R83). -/
def Dev.reserve (s : Dev) (q n : Nat) : Dev :=
  let c := s.rd (Reg.RNG_SQ_CFG_CQ q)
  s.mapHost fun h => { h with resv := h.resv ++ List.replicate n (q, c) }

/-- HEAD moved on by `n` entries while the ring is enabled. -/
def Dev.moveHead (s : Dev) (q n : Nat) : Dev :=
  if s.on (Reg.RNG_SQ_CFG_EN q) then
    s.wr (Reg.RNG_SQ_STAT_HEAD q)
      ((s.rd (Reg.RNG_SQ_STAT_HEAD q) + n) % ringSize (s.rd (Reg.RNG_SQ_CFG_LOG2SZ q)))
  else s

/-- A descriptor counted and passed on: SEQ moves on, HEAD past entries not read before, and the slot reserved for it is
its admission slot's (R76, R83, R90, R104). Answers the descriptor's number. -/
def Dev.fetchOne (s : Dev) (q : Nat) (b : List Byte) (op : Nat) : Nat × Dev :=
  let s := s.inc (Reg.RNG_SQ_SEQ q)
  let dn := descNum (s.era q) (s.rd (Reg.RNG_SQ_SEQ q))
  let k := Fin.ofNat 32 q
  let whole := decide (s.host.partials[k] = b)
  let s := if whole then s else s.moveHead q (s.descEntries q b)
  let c := s.rd (Reg.RNG_SQ_CFG_CQ q)
  let a : AdmSlot :=
    { sq := q, cq := c, cmd := leAt b 2 2, op := op, dn := dn, gen := s.gen, gt := s.gt
      fence := bit (byteAt b 1) 0, res := none, final := none }
  (dn, s.mapHost fun h => { h with
    adm := h.adm ++ [a], resv := h.resv.erase (q, c), partials := if whole then h.partials.set k [] else h.partials })

end Sys2Proof.Machine
end

