-- ==== Sys2Proof/Machine/Operands.lean ====
section
/-! DEFINITION. Descriptor fields and the form of a descriptor: layout, target, body and ranges per opcode (R101 to
R113, R137). -/

namespace Sys2Proof.Machine

/-! The first entry (R101, R102) -/

def dOp (b : List Byte) : Nat := byteAt b 0
def dExt (b : List Byte) : Nat := byteAt b 1 / 8
def dCmd (b : List Byte) : Nat := leAt b 2 2
def dClass (b : List Byte) : Nat := byteAt b 4
def dIndex (b : List Byte) : Nat := byteAt b 5
def dGt (b : List Byte) : Nat := leAt b 8 8
def dTol (b : List Byte) : Nat := leAt b 16 2

/-- Bytes from `i`, `n` of them; past the end 0. -/
def cut (b : List Byte) (i n : Nat) : List Byte := (List.range n).map fun k => b.getD (i + k) 0

/-- All of `n` bytes from `i` are 0 (R16: reserved bytes). -/
def zeros (b : List Byte) (i n : Nat) : Bool := (cut b i n).all fun x => x = 0

/-! The opcode catalogue (R111) -/

/-- Kinds of opcode (R105); `none` is an opcode that creates no action. -/
def opKind (op : Nat) : Option AKind :=
  if op = 0x12 then some .n
  else if op = 0x43 || op = 0x60 then some .c
  else if [0x30, 0x31, 0x32, 0x40, 0x41, 0x42, 0x50, 0x51, 0x53].contains op then some .s
  else none

/-- Opcodes that may be chord members: every action opcode but CHORD, CAL_SWAP and BUS_TX (R106). -/
def opMember (op : Nat) : Bool := [0x12, 0x30, 0x31, 0x32, 0x40, 0x41, 0x42, 0x50, 0x51, 0x53].contains op

/-- The target class an opcode addresses (R103, R111); none where the opcode is unknown. -/
def opClass (op : Nat) : Option Nat :=
  if [0x00, 0x01, 0x02, 0x03, 0x04, 0x10, 0x13, 0x70, 0x71, 0x72, 0x73, 0x80, 0x81, 0x82, 0x91, 0x92, 0x93, 0xA0,
    0xA1].contains op then some 0
  else if [0x20, 0x21, 0x22, 0x25, 0x30, 0x31, 0x32, 0x43, 0x90].contains op then some 1
  else if [0x40, 0x41, 0x42, 0x50, 0x51, 0x52, 0x53, 0x54, 0xA2].contains op then some 2
  else if [0x60, 0x61].contains op then some 3
  else if op = 0x12 then some 4
  else if [0x11, 0x23, 0x24].contains op then some 5
  else none

/-- Bytes of the body an opcode names, as (first, count); every other body byte is reserved (R16, R111). -/
def opBody (op : Nat) : List (Nat × Nat) :=
  if op = 0x01 then [(16, 12)] else if op = 0x02 then [(16, 4)] else if op = 0x03 || op = 0x04 then [(16, 1)]
  else if op = 0x10 || op = 0x13 then [(16, 1), (18, 2)]
  else if op = 0x11 then [(16, 1), (32, 32)]
  else if op = 0x12 then [(16, 2), (20, 8)]
  else if op = 0x20 then [(16, 3), (20, 4)] else if op = 0x21 then [(16, 2)] else if op = 0x22 then [(16, 3)]
  else if op = 0x23 then [(16, 3), (20, 4)] else if op = 0x24 then [(16, 2)]
  else if op = 0x30 then [(16, 2), (20, 4)] else if op = 0x31 then [(16, 2), (20, 2)]
  else if op = 0x32 then [(16, 2), (20, 1), (22, 2)]
  else if op = 0x40 then [(16, 2), (20, 1), (22, 4)] else if op = 0x41 then [(16, 2), (20, 1), (22, 2)]
  else if op = 0x42 then [(16, 2), (20, 9)] else if op = 0x43 then [(16, 2), (20, 1), (22, 14)]
  else if op = 0x50 then [(16, 2), (20, 4)] else if op = 0x51 then [(16, 2), (20, 1), (22, 2)]
  else if op = 0x52 then [(16, 2)] else if op = 0x53 then [(16, 2)]
  else if op = 0x60 then [(16, 2), (20, 5), (26, 38)]
  else if op = 0x70 then [(16, 14), (32, 8)] else if op = 0x71 then [(16, 2)] else if op = 0x73 then [(16, 36)]
  else if op = 0x80 then [(16, 3)] else if op = 0x81 then [(16, 2)] else if op = 0x82 then [(16, 2), (20, 36)]
  else if op = 0x92 || op = 0x93 then [(16, 1)] else if op = 0xA0 then [(16, 12)] else if op = 0xA2 then [(16, 8)]
  else []

/-- Reserved bytes of the body are 0. -/
def bodyClean (op : Nat) (b : List Byte) : Bool :=
  (List.range 48).all fun i =>
    (opBody op).any (fun r => decide (r.1 ≤ 16 + i) && decide (16 + i < r.1 + r.2)) || b.getD (16 + i) 0 = 0

/-- Minimum lead of a kind, ns (R105); the cue lead is LDL_CUE_CFG.LEAD_MS. -/
def Dev.minLead (s : Dev) (k : AKind) : Nat :=
  match k with
  | .c => 200000
  | .s => 2000000
  | .n => s.rd Reg.LDL_CUE_CFG_LEAD_MS * 1000000

/-- A CAN FD length (R111, R335). -/
def canLen (n : Nat) : Bool := [0, 1, 2, 3, 4, 5, 6, 7, 8, 12, 16, 20, 24, 32, 48, 64].contains n

/-- Landings of a car (TRK_LAND.COUNT). -/
def Dev.landings (s : Dev) (n : Nat) : Nat := s.rd (Reg.TRK_LAND n)

/-- Doors fitted to a car, bit 0 DA, bit 1 DB (DOR_CTRL.FIT). -/
def Dev.fitted (s : Dev) (n : Nat) : Nat := s.rd (Reg.DOR_CTRL_FIT_DA n) + 2 * s.rd (Reg.DOR_CTRL_FIT_DB n)

/-- A mask that names only doors fitted to the car. -/
def Dev.doorMaskOk (s : Dev) (n m : Nat) : Bool := m &&& s.fitted n = m

/-- A Helea port that is enabled. -/
def Dev.hcOn (s : Dev) (n p : Nat) : Bool := s.on (if p = 0 then Reg.HLC_CTRL_EN0 n else Reg.HLC_CTRL_EN1 n)

/-- Outputs 2k and 2k + 1 agree in a mask wherever pair k is paralleled (R301, FIO_OUT_PAR). -/
def Dev.pairsAgree (s : Dev) (n m : Nat) : Bool :=
  (List.range 8).all fun k => !bit (s.rd (Reg.FIO_OUT_PAR n)) k || bit m (2 * k) == bit m (2 * k + 1)

/-- Field ranges of an opcode's body on target `t` (R111, R137, R182, R213, R253, R300, R308, R313, R323, R436, R438).
An action's fields lie where a single descriptor has them (R106). -/
def Dev.rangesOk (s : Dev) (op t : Nat) (b : List Byte) : Bool :=
  let u8 := byteAt b
  let u16 := fun i => leAt b i 2
  let u32 := fun i => leAt b i 4
  if op = 0x01 then u8 16 % 32 = 0 && 1 ≤ u32 24 && u32 24 ≤ 65536
  else if op = 0x03 then decide (u8 16 ≤ 7)
  else if op = 0x04 then u8 16 = 1 || u8 16 = 2
  else if op = 0x10 || op = 0x13 then decide (u8 16 ≤ 31)
  else if op = 0x11 then 1 ≤ u8 16 && u8 16 ≤ 64
  else if op = 0x12 then
    (u8 26 = 0xFF || u8 26 ≤ 127) && (u8 27 = 0xFF || (u8 27 ≤ 15 && s.carOn (u8 27)))
  else if op = 0x20 then u8 16 < s.landings t && u8 17 ≤ 2 && s.doorMaskOk t (u8 18)
  else if op = 0x21 then u8 16 < s.landings t && u8 17 ≤ 2
  else if op = 0x22 then
    (u8 16 = 0 || (2 ≤ u8 16 && u8 16 ≤ 5)) && (!(2 ≤ u8 16 && u8 16 ≤ 4) || u8 17 < s.landings t)
      && s.doorMaskOk t (u8 18)
  else if op = 0x23 || op = 0x24 then
    (List.range 16).all fun n => !bit (u16 16) n || (s.carOn n && (op = 0x24 || decide (u8 18 < s.landings n)))
  else if op = 0x30 then u8 20 != 0 && s.doorMaskOk t (u8 20) && u8 21 ≤ 3
  else if op = 0x31 then u8 20 != 0 && s.doorMaskOk t (u8 20) && u8 21 ≤ 1
  else if op = 0x32 then u8 20 != 0 && s.doorMaskOk t (u8 20) && 1 ≤ u16 22
  else if op = 0x40 then
    u8 20 &&& s.rd (Reg.LMP_S_CFG_STR_EN t) = u8 20 && u16 22 ≤ 1023 && u16 24 ≤ 4095
  else if op = 0x41 then
    u8 20 ≤ 2 && u16 22 ≤ 255 && (u8 20 = 1 || s.hcOn t 0) && (u8 20 = 0 || s.hcOn t 1)
  else if op = 0x42 then
    u8 20 ≤ 1 && s.hcOn t (u8 20) && decide (u8 21 < s.rd (Reg.HLC_PORT_NODES t (u8 20)))
  else if op = 0x43 then u8 20 ≤ 1 && s.hcOn t (u8 20) && 1 ≤ u16 22 && u16 22 ≤ 128
  else if op = 0x50 then s.pairsAgree t (u16 20) && s.pairsAgree t (u16 22)
  else if op = 0x51 then u8 20 ≤ 15 && 1 ≤ u16 22
  else if op = 0x52 then (u8 16 = 0 && u8 17 = 0) || ((u8 16 = 1 || u8 16 = 2) && u8 17 ≤ 19)
  else if op = 0x60 then canLen (u8 24) && (bit (u32 20) 30 || (u8 24 ≤ 8 && !bit (u32 20) 29))
      && (bit (u32 20) 31 || u32 20 % 2 ^ 29 < 2 ^ 11)
      && (!bit (u32 20) 30 || s.on (Reg.SBC_CH_CFG_FD_EN t))
  else if op = 0x70 then
    u8 16 % 64 = 0 && 1 ≤ u32 24 && u32 24 ≤ 65536 && u8 28 ≤ 7 && u8 29 ≤ 2
  else if op = 0x71 then 1 ≤ u16 16 && u16 16 ≤ 10000
  else if op = 0x80 then
    u8 16 ≤ 110 && u8 16 != 109 && u8 17 ≤ 1 && u8 18 ≤ 3 && (u8 17 = 0 || u8 18 = 0)
  else if op = 0x81 || op = 0x82 then u8 16 ≤ 110 && u8 16 != 109 && decide (u8 17 < domMacros (u8 16))
  else if op = 0x92 || op = 0x93 then decide (u8 16 ≤ 1)
  else true

/-- A target that the opcode admits and that is in service (R103, R108). -/
def Dev.targetOk (s : Dev) (op cls idx : Nat) : Bool :=
  opClass op = some cls &&
    (if cls = 1 || cls = 2 then idx ≤ 15 && s.carOn idx
     else if cls = 3 then decide (idx ≤ 3)
     else decide (idx = 0))

/-- Extension entries of a chord of `c` members (R113). -/
def chordExt (c : Nat) : Nat := if c ≤ 2 then 0 else (c - 2 + 2) / 3

/-- The 16 bytes of chord member `m` (R104, R111, R113). -/
def memberAt (b : List Byte) (m : Nat) : List Byte :=
  if m < 2 then cut b (32 + 16 * m) 16 else cut b (64 * (1 + (m - 2) / 3) + 16 + 16 * ((m - 2) % 3)) 16

/-- A member laid out as the single descriptor of its opcode, so that one rule reads both (R106, R113). -/
def memberDesc (b : List Byte) (m : Nat) : List Byte :=
  let x := memberAt b m
  cut x 0 1 ++ leBytes 1 0 ++ cut b 2 2 ++ cut x 1 2 ++ leBytes 2 0 ++ cut b 8 8 ++ cut x 4 2 ++ leBytes 2 0
    ++ cut x 6 10 ++ leBytes 34 0

/-- Form of one action, single or member: target, reserved bytes and ranges. -/
def Dev.actionFormOk (s : Dev) (op : Nat) (b : List Byte) : Bool :=
  s.targetOk op (dClass b) (dIndex b) && bodyClean op b && s.rangesOk op (dIndex b) b

/-- A chord's members: every used slot a well-formed member, every unused one 0 (R113). -/
def Dev.membersOk (s : Dev) (b : List Byte) : Bool :=
  let c := byteAt b 16
  let slots := 2 + 3 * dExt b
  (List.range slots).all fun m =>
    if m < c then
      opMember (byteAt (memberAt b m) 0) && byteAt (memberAt b m) 3 = 0
        && s.actionFormOk (byteAt (memberAt b m) 0) (memberDesc b m)
    else zeros (memberAt b m) 0 16

/-- The extension entries: MARK, ENTRY, CMD_ID and reserved bytes (R104). -/
def extOk (b : List Byte) : Bool :=
  (List.range (dExt b)).all fun k =>
    let o := 64 * (k + 1)
    byteAt b o = 0xFE && byteAt b (o + 1) = k + 1 && leAt b (o + 2) 2 = dCmd b && zeros b (o + 4) 12

/-- EXT agrees with the opcode and its body (R104, R113, R339). -/
def extCountOk (op : Nat) (b : List Byte) : Bool :=
  if op = 0x11 then dExt b = chordExt (byteAt b 16)
  else if op = 0x60 then
    dExt b = (if 38 < byteAt b 24 then 1 else 0) && (dExt b = 0 || zeros b 106 22)
  else dExt b = 0

/-- The first check of R108 after a partial read: a well-formed descriptor of opcode `op`. -/
def Dev.formOk (s : Dev) (op : Nat) (b : List Byte) : Bool :=
  dOp b = op && (dExt b ≤ 21) && zeros b 6 2 && byteAt b 1 / 2 % 4 = 0 && extCountOk op b && extOk b
    && s.actionFormOk op b
    && (op != 0x11 || s.membersOk b)
    && ((opKind op).isSome || op = 0x11 || dGt b = 0)
    && ((opKind op).isNone && op != 0x11 || dGt b ≤ s.gt + 86400 * 1000000000)
    && (op / 16 != 9 || s.on Reg.PBX_CTRL_EN)

/-! When an action is due (R124, R130) -/

/-- The cue lead, ns (LDL_CUE_CFG.LEAD_MS). -/
def Dev.cueLead (s : Dev) : Nat := s.rd Reg.LDL_CUE_CFG_LEAD_MS * 1000000

/-- Due time of an action (R124, R130): GT, the send time of a cue, the delivery tick of a slice-side action. -/
def Dev.due (s : Dev) (a : Act) : Nat :=
  match a.kind with
  | .c => a.gt
  | .n => a.gt - s.cueLead
  | .s => (a.gt - 2100000) / tickNs * tickNs

end Sys2Proof.Machine
end

