-- ==== Sys2Proof/Machine/Time.lean ====
section
/-! DEFINITION. The Time Spine and the PTP port (R34 to R63). -/

namespace Sys2Proof.Machine

/-- A command of the environment or of a block that acts on the controller alone. -/
def State.run (s : State) (f : Dev → Dev) : Host.Outcome State Fault Refusal := .next { s with dev := f s.dev }

/-- A command that acts on the controller and reads OTP. -/
def State.runO (s : State) (f : Otp → Dev → Dev) : Host.Outcome State Fault Refusal :=
  .next { s with dev := f s.otp s.dev }

/-! Servo states (R44) -/

def Servo.free : Nat := 0
def Servo.acquiring : Nat := 1
def Servo.locked : Nat := 2
def Servo.holdover : Nat := 3

/-- Mean of a list of frequency corrections, rounded toward zero. -/
def meanI (l : List Int) : Int := if l.isEmpty then 0 else truncDiv l.sum l.length

/-- A correction dropped: no slew, no step (R44 s = 0). -/
def Dev.noCorr (s : Dev) : Dev :=
  (s.mapTime fun t => { t with corr := 0, step := none }).flag Reg.TSP_STAT_SLEWING false

/-- What a servo state does on entry: FREE puts f to 0, HOLDOVER freezes f at the mean over LOCKED, ACQUIRING and LOCKED
start their counts (R44). Under SRC = FREE_RUN f stays 0 (R38). -/
def Dev.servoEntry (s : Dev) (new : Nat) : Dev :=
  if new = Servo.free then (s.noCorr.wrI Reg.TSP_FREQ 0).wr Reg.PTP_STAT_SYNC_RUN 0
  else if new = Servo.holdover then
    let s := (s.noCorr.mapTime fun t => { t with holdNs := 0 }).wr Reg.PTP_STAT_SYNC_RUN 0
    if s.time.fHist.isEmpty || s.rd Reg.TSP_CTRL_SRC = 1 then s else s.wrI Reg.TSP_FREQ (meanI s.time.fHist)
  else if new = Servo.acquiring then s.wr Reg.PTP_STAT_SYNC_RUN 0
  else s.mapTime fun t => { t with locked1 := true, outRun := 0 }

/-- A servo state change: PTP_STATE, of S4 on entry to HOLDOVER (R44). Leaving HOLDOVER clears HOLD_EXP (R49). -/
def Dev.servo (s : Dev) (new : Nat) : Dev :=
  let old := s.rd Reg.PTP_STAT_STATE
  if old = new then s
  else
    let s := if old = Servo.holdover then s.flag Reg.TSP_STAT_HOLD_EXP false else s
    let s := (s.wr Reg.PTP_STAT_STATE new).servoEntry new
    s.raiseSev .ptpState (if new = Servo.holdover then 4 else 3) 0
      [pU 16 1 old, pU 17 1 new, pU 18 1 (s.rd Reg.PTP_STAT_ACT_PORT)] []

/-- The state without a usable master: HOLDOVER once a lock has occurred since the cold start, else FREE (R44). -/
def Dev.servoLost (s : Dev) : Dev := s.servo (if s.time.locked1 then Servo.holdover else Servo.free)

/-- A timeout: ACQUIRING and LOCKED are left, the other states stay (R44). -/
def Dev.servoTimeout (s : Dev) : Dev :=
  let st := s.rd Reg.PTP_STAT_STATE
  if st = Servo.acquiring || st = Servo.locked then s.servoLost else s

/-- PTP is in use: SRC = PTP and EN = 1 (R38, R44). -/
def Dev.ptpOn (s : Dev) : Bool := s.rd Reg.TSP_CTRL_SRC = 0 && s.on Reg.PTP_CTRL_EN

/-- Nanoseconds of a log2 message interval in seconds, down to 2^-4 s. -/
def logNs (l : Int) : Nat := if 0 ≤ l then 1000000000 * 2 ^ l.toNat else 1000000000 / 2 ^ (-l).toNat

/-- The announce receipt timeout for an announce interval (R43). -/
def Dev.annTimeout (s : Dev) (l : Int) : Nat := s.rd Reg.PTP_CTRL_ANN_TMO * logNs l

/-- A port has heard an Announce in the domain within ANN_TMO intervals (R43). -/
def Dev.heard (s : Dev) (p : Fin 2) : Bool :=
  match s.time.annGt[p] with
  | some (g, l) => decide (s.gt ≤ g + s.annTimeout l)
  | none => false

/-- The active port. -/
def Dev.actPort (s : Dev) : Fin 2 := Fin.ofNat 2 (s.rd Reg.PTP_STAT_ACT_PORT)

/-- PTP starts anew on its port: no master is known, its timeouts count from now (R43, R44). -/
def Dev.ptpRestart (s : Dev) : Dev :=
  let g := s.gt
  (s.flag Reg.PTP_STAT_MASTER_OK false).mapTime fun t => { t with
    masters := [], sel := none, annOut := false, lastSync := none, dreq := none, dreqGt := none, ptpSince := g }

/-- PTP starts anew on the primary port (R43). -/
def Dev.ptpBegin (s : Dev) : Dev := (s.wr Reg.PTP_STAT_ACT_PORT (s.rd Reg.PTP_CTRL_PRI_PORT)).ptpRestart

/-- PTP starts anew in another domain: no port has heard an Announce in it, and the master selected belongs to the old one
(R40, R43). DESIGN CHOICE (log entry 112): the servo keeps its state until a timeout counted from now. -/
def Dev.domainBegin (s : Dev) : Dev :=
  s.ptpRestart.mapTime fun t => { t with annGt := Vector.replicate 2 none }

/-- SRC = FREE_RUN takes effect: f and s become 0, no correction remains (R38). -/
def Dev.freeRunBegin (s : Dev) : Dev :=
  let g := s.gt
  (s.noCorr.wrI Reg.TSP_FREQ 0).mapTime fun t => { t with freeGt := some g, frac := 0 }

/-- No master is selected any more. -/
def Dev.dropMaster (s : Dev) : Dev :=
  (s.mapTime fun t => { t with sel := none, masters := t.masters.filter fun m => some m.srcId != t.sel }).flag
    Reg.PTP_STAT_MASTER_OK false

/-- Failover (R43): with FAILOVER_EN, a failed active port and a qualified other port, PTP moves. -/
def Dev.failover (s : Dev) : Dev :=
  let a := s.actPort
  let o : Fin 2 := a + 1
  if s.on Reg.PTP_CTRL_FAILOVER_EN && (!s.on (Reg.PTP_ETH_STAT_LINK a.val) || s.time.annOut)
      && s.on (Reg.PTP_ETH_STAT_LINK o.val) && s.heard o then
    let s := s.servoLost
    let s := s.ptpBegin.wr Reg.PTP_STAT_ACT_PORT o.val
    s.raise .ptpPortSwitch 0 [pU 16 1 o.val]
  else s

/-! Corrections (R46 to R48) -/

/-- GT moved. -/
def Dev.setGt (s : Dev) (g : Nat) : Dev := s.mapTime fun t => { t with gt := g % 2 ^ 64 }

/-- What the PTP port measures intervals from, moved along as a step carries GT `d` ns forward (log entry 101). -/
def TimeSt.jump (t : TimeSt) (d : Nat) : TimeSt :=
  { t with
    masters := t.masters.map fun m => { m with last := m.last + d, prev := m.prev.map (· + d) }
    annGt := t.annGt.map fun a => a.map fun x => (x.1 + d, x.2)
    lastSync := t.lastSync.map fun x => (x.1, x.2 + d)
    dreq := t.dreq.map fun x => (x.1, x.2 + d)
    dreqGt := t.dreqGt.map (· + d)
    syncGt := t.syncGt + d
    ptpSince := t.ptpSince + d }

/-- GT stepped forward by `d` ns (R37, R47). -/
def Dev.stepGt (s : Dev) (d : Nat) : Dev := (s.mapTime fun t => t.jump d).setGt (s.gt + d)

/-- A remaining correction put in place of the previous one; SLEWING while one remains (R46, R48). -/
def Dev.slew (s : Dev) (c : Int) (step : Option Nat) : Dev :=
  (s.mapTime fun t => { t with corr := c, step := step }).flag Reg.TSP_STAT_SLEWING (c != 0)

/-- A measured offset applied after initial alignment (R46). -/
def Dev.correct (s : Dev) (offset : Int) : Dev :=
  if -1000000 ≤ offset && offset ≤ 1000000 then s.slew (-offset) none
  else if offset < 0 && s.on Reg.TSP_CTRL_STEP_FWD_EN then
    let m := (-offset).toNat / tickNs
    s.slew (-offset - (m * tickNs : Nat)) (some m)
  else s.slew (-offset) none

/-- GT_VALID set with its event (R37, R38); `src` 0 PTP, 1 FREE_RUN. -/
def Dev.gtValidNow (s : Dev) (src : Nat) : Dev :=
  (s.flag Reg.TSP_STAT_GT_VALID true).raise .gtValid 0 [pU 16 1 src]

/-- The servo's time update at a usable Sync: initial alignment or its failure (R37), else the correction (R46). DESIGN CHOICE
(log entry 101): a GT_VALID that FREE_RUN has set counts as aligned when SRC becomes PTP; R46 then applies. -/
def Dev.align (s : Dev) (offset : Int) : Dev :=
  if s.on Reg.TSP_STAT_GT_VALID then s.correct offset
  else if offset < 0 then
    ((s.stepGt (-offset).toNat).flag Reg.TSP_STAT_MASTER_BEHIND false).gtValidNow 0
  else if s.on Reg.TSP_STAT_MASTER_BEHIND then s
  else
    (s.flag Reg.TSP_STAT_MASTER_BEHIND true).note 0x8009 5 41 0 0 [pI 28 8 offset]

/-- f after a Sync: the spec gives the servo's law no formula, only its bound (R34); a free value (log entry 1). -/
def Dev.newFreq (s : Dev) : Dev :=
  let (v, s) := s.fresh 200001
  s.wrI Reg.TSP_FREQ ((v : Int) - 100000)

/-- f of the Sync interval that ends, kept where it was spent in LOCKED, at most 64 of them (R44). -/
def Dev.keepFreq (s : Dev) : Dev :=
  if s.rd Reg.PTP_STAT_STATE = Servo.locked then
    s.mapTime fun t => { t with fHist := (s.rdI Reg.TSP_FREQ :: t.fHist).take 64 }
  else s

/-- The servo's state after a Sync with a measured offset (R44). -/
def Dev.servoRun (s : Dev) (offset : Int) : Dev :=
  let inside := decide (-500 < offset) && decide (offset < 500)
  let s := s.wr Reg.PTP_STAT_SYNC_RUN (if inside then satInc 16 (s.rd Reg.PTP_STAT_SYNC_RUN) else 0)
  if s.rd Reg.PTP_STAT_STATE = Servo.locked then
    let s := s.mapTime fun t => { t with outRun := if inside then 0 else t.outRun + 1 }
    if 4 ≤ s.time.outRun then s.servo Servo.acquiring else s
  else if s.rd Reg.PTP_STAT_SYNC_RUN = 16 then s.servo Servo.locked
  else s

/-! PTP messages as bytes, most significant byte first (R13; the layout is IEEE 1588-2019's, log entry 5) -/

/-- A message of a type: version 2, and as long as its header and its type say. -/
def ptpForm (ty len : Nat) (b : List Byte) : Bool :=
  byteAt b 0 % 16 = ty && byteAt b 1 % 16 = 2 && len ≤ beAt b 2 2 && beAt b 2 2 ≤ b.length

/-- A correctionField, ns, rounded down. -/
def ptpCorr (b : List Byte) : Int := toSigned 64 (beAt b 8 8) / 65536

/-- A timestamp field, ns. -/
def ptpStamp (b : List Byte) : Nat := beAt b 34 6 * 1000000000 + beAt b 40 4

end Sys2Proof.Machine

namespace Sys2Proof

open Machine

/-- The domain, sourcePortIdentity, sequenceId and logMessageInterval of the header. -/
def PtpRx.domain (m : PtpRx) : Nat := byteAt m.data 4
def PtpRx.srcId (m : PtpRx) : Nat := beAt m.data 20 10
def PtpRx.seq (m : PtpRx) : Nat := beAt m.data 30 2
def PtpRx.logInt (m : PtpRx) : Int := toSigned 8 (byteAt m.data 33)

/-- The master's time of departure of a Sync with its corrections; a two-step Sync has one with its Follow_Up alone. -/
def PtpRx.origin (m : PtpRx) : Option Nat :=
  if !bit (byteAt m.data 6) 1 then some ((ptpStamp m.data : Int) + ptpCorr m.data).toNat
  else if ptpForm 8 44 m.follow && beAt m.follow 20 10 = m.srcId && beAt m.follow 30 2 = m.seq then
    some ((ptpStamp m.follow : Int) + ptpCorr m.data + ptpCorr m.follow).toNat
  else none

end Sys2Proof

namespace Sys2Proof.Machine

/-- A port with link; an isolated port has none for every purpose (R363). -/
def Dev.ethUp (s : Dev) (p : Nat) : Bool := s.on (Reg.PTP_ETH_STAT_LINK p)

/-- A frame of a port that takes it: a port with link, with TAG_EN one of its VLAN, else an untagged one (R40, R363, log
entry 101). -/
def Dev.takes (s : Dev) (p : Fin 2) (tag : Option (Fin 65536)) : Bool :=
  s.ethUp p.val
    && (if s.on (Reg.PTP_ETH_VLAN_TAG_EN p.val) then tag.any fun t => t.val % 4096 = s.rd (Reg.PTP_ETH_VLAN_VID p.val)
        else tag.isNone)

/-- The tag control of the frames a port sends (R40). -/
def Dev.sendTag (s : Dev) (p : Nat) : Option Nat :=
  if s.on (Reg.PTP_ETH_VLAN_TAG_EN p) then some (s.rd (Reg.PTP_ETH_VLAN_PCP p) * 8192 + s.rd (Reg.PTP_ETH_VLAN_VID p))
  else none

/-- A PTP datagram received: a port without link receives nothing; a frame with an error is counted; one that PTP does not
use is ignored; a message of another domain, of another type (a management message among them) or malformed is counted as
dropped (R40). DESIGN CHOICE (log entry 113): signalling, Pdelay and other message types that R40 does not support are
counted in PTP_CNT_DROP with the management messages. -/
def Dev.ptpRx (s : Dev) (m : PtpRx) (ty len : Nat) (go : Dev → Dev) : Dev :=
  if !s.ethUp m.port.val then s
  else if m.err then s.incSat (Reg.PTP_ETH_STAT_RX_ERR m.port.val)
  else if !s.ptpOn || !s.takes m.port m.tag then s
  else if !ptpForm ty len m.data || m.domain != s.rd Reg.PTP_CTRL_DOMAIN then s.inc Reg.PTP_CNT_DROP
  else go s

/-- The receive stamp with its resolution of 8 ns, corrected by the PHY's latency (R42). -/
def Dev.rxStamp (s : Dev) (m : PtpRx) : Nat := m.rx / 8 * 8 - s.rd (Reg.PTP_ETH_LAT_RX_LAT m.port.val)

/-- A usable Sync: `origin` is the master's time of departure (R41, R44, R46). -/
def Dev.syncUse (s : Dev) (m : PtpRx) (origin : Nat) : Dev :=
  let s := s.at m.rx
  let rx := s.rxStamp m
  let offset : Int := (rx : Int) - (origin + s.rd Reg.PTP_MPD : Nat)
  let s := ((s.inc Reg.PTP_CNT_SYNC).wrSat Reg.PTP_OFS offset).wrI Reg.PTP_RATES_LOG_SYNC m.logInt
  let g := s.gt
  let s := s.mapTime fun t => { t with lastSync := some (origin, rx), syncGt := g }
  let st := s.rd Reg.PTP_STAT_STATE
  let s := if st = Servo.free || st = Servo.holdover then s.servo Servo.acquiring else s
  (s.keepFreq.align offset).newFreq.servoRun offset

/-- SYNC_RECEIVED: one of the selected master on the active port is used. -/
def Dev.syncRx (s : Dev) (m : PtpRx) : Dev :=
  if m.port != s.actPort && !m.err then s
  else s.ptpRx m 0 44 fun s =>
    if m.logInt < -4 || 1 < m.logInt then s.inc Reg.PTP_CNT_DROP
    else if s.time.sel != some m.srcId || !s.on Reg.PTP_STAT_MASTER_OK then s
    else match m.origin with
      | some o => s.syncUse m o
      | none => s

def execSyncReceived (m : PtpRx) (s : State) : Host.Outcome State Fault Refusal := s.run fun d => d.syncRx m

/-! Announce and the best master (R45; the comparison and the qualification are IEEE 1588-2019's, log entry 5) -/

/-- The order of masters: lower is better. -/
def Master.rank (m : Master) : List Nat :=
  [m.prio1, m.clockCl, m.accur, m.varnc, m.prio2, m.gmId, m.steps, m.srcId]

/-- Whether one rank comes before another. -/
def rankLt : List Nat → List Nat → Bool
  | a :: l, b :: m => decide (a < b) || (a = b && rankLt l m)
  | _, _ => false

/-- Qualified: two Announces within four announce intervals, and fewer than 255 steps removed. DESIGN CHOICE (log entry
114): a foreign master that has gone silent stays qualified; it is not aged against the present GT, and its own announce
timeout ends it once it is selected. -/
def Master.qualified (m : Master) : Bool :=
  match m.prev with
  | some p => decide (m.last ≤ p + 4 * logNs m.logAnn) && decide (m.steps < 255)
  | none => false

/-- The best of the qualified masters. -/
def bestMaster (l : List Master) : Option Master :=
  l.foldl (fun b m =>
    if !m.qualified then b
    else match b with
      | some x => if rankLt m.rank x.rank then some m else b
      | none => some m) none

/-- The master record an Announce makes, the previous Announce of that master remembered. -/
def Dev.noteMaster (s : Dev) (m : PtpRx) : Dev :=
  let b := m.data
  let old := s.time.masters.find? fun x => x.srcId = m.srcId
  let x : Master :=
    { srcId := m.srcId, gmId := beAt b 53 8, prio1 := byteAt b 47, clockCl := byteAt b 48, accur := byteAt b 49,
      varnc := beAt b 50 2, prio2 := byteAt b 52, steps := beAt b 61 2, logAnn := m.logInt, last := s.gt,
      prev := old.map (·.last) }
  s.mapTime fun t => { t with masters := x :: t.masters.filter fun y => y.srcId != m.srcId }

/-- A new grandmaster: counted and posted, and LOCKED is left (R45). The first grandmaster after a cold start is no
change. -/
def Dev.gmChange (s : Dev) (old new : Nat) : Dev :=
  if old = 0 || old = new then s
  else
    let s := (s.inc Reg.PTP_GM_CHG).raise .ptpGmChange 0 [pU 16 8 new]
    if s.rd Reg.PTP_STAT_STATE = Servo.locked then s.servo Servo.acquiring else s

/-- The best master algorithm run over the masters heard (R45). -/
def Dev.bmca (s : Dev) : Dev :=
  match bestMaster s.time.masters with
  | none => s
  | some m =>
    let old := s.rd Reg.PTP_GMID_HI * 2 ^ 32 + s.rd Reg.PTP_GMID_LO
    let s := (s.mapTime fun t => { t with sel := some m.srcId, annOut := false }).flag Reg.PTP_STAT_MASTER_OK true
    let s := (s.wr Reg.PTP_GMID_LO m.gmId).wr Reg.PTP_GMID_HI (m.gmId / 2 ^ 32)
    let s := ((s.wr Reg.PTP_GMINFO_PRIO1 m.prio1).wr Reg.PTP_GMINFO_CLASS m.clockCl).wr
      Reg.PTP_GMINFO_STEPS_REMOVED m.steps
    (s.wrI Reg.PTP_RATES_LOG_ANN m.logAnn).gmChange old m.gmId

/-- ANNOUNCE_RECEIVED (R40, R43, R45). -/
def Dev.announceRx (s : Dev) (m : PtpRx) : Dev :=
  s.ptpRx m 11 64 fun s =>
    if m.logInt < 0 || 4 < m.logInt then s.inc Reg.PTP_CNT_DROP
    else
      let s := s.mapTime fun t => { t with annGt := t.annGt.set m.port (some (s.gt, m.logInt)) }
      if m.port = s.actPort then (s.noteMaster m).bmca else s.failover

def execAnnounceReceived (m : PtpRx) (s : State) : Host.Outcome State Fault Refusal := s.run fun d => d.announceRx m

/-- ANN_TMO announce intervals have passed without an Announce of the selected master, or since PTP came into use (R44). -/
def Dev.annDue (s : Dev) : Bool :=
  let m := s.time.masters.find? fun x => some x.srcId = s.time.sel
  let last := max s.time.ptpSince ((m.map (·.last)).getD 0)
  decide (last + s.annTimeout ((m.map (·.logAnn)).getD (s.rdI Reg.PTP_RATES_LOG_ANN)) ≤ s.gt)

/-- ANNOUNCE_TIMEOUT (R43, R44). -/
def Dev.annTimedOut (s : Dev) : Dev :=
  if s.ptpOn && s.annDue then
    ((s.dropMaster.mapTime fun t => { t with annOut := true })).servoTimeout.failover
  else s

def execAnnounceTimeout (s : State) : Host.Outcome State Fault Refusal := s.run Dev.annTimedOut

/-- Four Sync intervals have passed without a usable Sync, or since PTP came into use (R44). -/
def Dev.syncDue (s : Dev) : Bool :=
  decide (max s.time.ptpSince s.time.syncGt + 4 * logNs (s.rdI Reg.PTP_RATES_LOG_SYNC) ≤ s.gt)

/-- SYNC_TIMEOUT (R44): out of ACQUIRING or LOCKED. -/
def Dev.syncTimedOut (s : Dev) : Dev := if s.ptpOn && s.syncDue then s.servoTimeout else s

def execSyncTimeout (s : State) : Host.Outcome State Fault Refusal := s.run Dev.syncTimedOut

/-- PTP_LINK_LOSS (R43): the active port loses link. -/
def Dev.ptpLinkLost (s : Dev) : Dev :=
  let s := s.flag (Reg.PTP_ETH_STAT_LINK s.actPort.val) false
  if s.ptpOn then s.dropMaster.servoTimeout.failover else s

def execPtpLinkLoss (s : State) : Host.Outcome State Fault Refusal := s.run Dev.ptpLinkLost

/-! Delay request and response (R41) -/

/-- MAC address of a port. -/
def Dev.portMac (s : Dev) (p : Nat) : Nat := s.rd (Reg.PTP_ETH_MACH p) * 2 ^ 32 + s.rd (Reg.PTP_ETH_MACL p)

/-- The port identity of this clock on a port: its MAC widened by FFFE in the middle, port number 1 (log entry 5). -/
def Dev.portIdent (s : Dev) (p : Nat) : List Byte :=
  let m := beBytes 6 (s.portMac p)
  m.take 3 ++ [0xFF, 0xFE] ++ m.drop 3 ++ beBytes 2 1

/-- The bytes of a Delay_Req (R13, R40). -/
def Dev.delayReqBytes (s : Dev) (p q : Nat) : List Byte :=
  leBytes 1 0x01 ++ leBytes 1 0x02 ++ beBytes 2 44 ++ leBytes 1 (s.rd Reg.PTP_CTRL_DOMAIN) ++ beBytes 15 0 ++ s.portIdent p
    ++ beBytes 2 q ++ leBytes 1 1 ++ leBytes 1 0x7F ++ beBytes 10 0

/-- The interval of Delay_Req in use: the master's, but not under 62.5 ms (R41). -/
def Dev.dreqInterval (s : Dev) : Nat := max 62500000 (logNs (s.rdI Reg.PTP_RATES_LOG_DREQ))

/-- A Delay_Req may leave at an instant (R41). -/
def Dev.dreqDue (s : Dev) (g : Nat) : Bool :=
  match s.time.dreqGt with
  | some x => decide (x + s.dreqInterval ≤ g)
  | none => true

/-- DELAY_REQ_SEND: a Delay_Req leaves the active port, with its transmit stamp of 8 ns corrected by the PHY latency
(R42). -/
def Dev.delayReqTx (s : Dev) (stamp : Nat) : Dev :=
  let s := s.at stamp
  if s.ptpOn && s.on Reg.PTP_STAT_MASTER_OK && s.dreqDue s.gt then
    let p := s.actPort.val
    let q := s.time.dreqSeq
    let g := s.gt
    let s := s.mapTime fun t => { t with
      dreq := some (q, stamp / 8 * 8 + s.rd (Reg.PTP_ETH_LAT_TX_LAT p)), dreqSeq := (q + 1) % 65536, dreqGt := some g }
    s.emit (.delayReq p (s.sendTag p) (s.rd Reg.PTP_DSCP) (s.delayReqBytes p q))
  else s

def execDelayReqSend (stamp : Nat) (s : State) : Host.Outcome State Fault Refusal := s.run fun d => d.delayReqTx stamp

/-- DELAY_RESP_RECEIVED: the mean path delay of the end-to-end mechanism (IEEE 1588-2019, log entry 5); a response to another
clock is ignored. The interval in use is the master's, at least 2^-4 s (R41). DESIGN CHOICE (log entry 101): a mean that
comes out negative is written as 0. -/
def Dev.delayRespRx (s : Dev) (m : PtpRx) : Dev :=
  if m.port != s.actPort && !m.err then s
  else s.ptpRx m 9 54 fun s =>
    if (m.data.drop 44).take 10 != s.portIdent m.port.val then s
    else
      let s := (s.inc Reg.PTP_CNT_DRESP).wrI Reg.PTP_RATES_LOG_DREQ (max (-4) m.logInt)
      match s.time.dreq, s.time.lastSync with
      | some (q, t3), some (t1, t2) =>
        if q = m.seq then
          let t4 : Int := (ptpStamp m.data : Int) - ptpCorr m.data
          let d : Int := ((t2 : Int) - t1 + (t4 - t3)) / 2
          (s.wr Reg.PTP_MPD d.toNat).mapTime fun t => { t with dreq := none }
        else s
      | _, _ => s

def execDelayRespReceived (m : PtpRx) (s : State) : Host.Outcome State Fault Refusal := s.run fun d => d.delayRespRx m

/-! Other traffic of the ports (R40) -/

/-- A port that answers for an address: its own, and not 0. -/
def Dev.portIs (s : Dev) (p ip : Nat) : Bool := ip != 0 && s.rd (Reg.PTP_ETH_IP p) = ip

/-- ARP_REQUEST for the port's own address is answered. -/
def Dev.arpRx (s : Dev) (p : Nat) (q : ArpReq) : Dev :=
  if s.takes (Fin.ofNat 2 p) q.tag && s.portIs p q.tpa then
    s.emit (.arpReply p (s.sendTag p) q.sha q.spa (s.portMac p) q.tpa)
  else s

def execArpRequest (p : Fin 2) (q : ArpReq) (s : State) : Host.Outcome State Fault Refusal := s.run fun d => d.arpRx p.val q

/-- ICMP_ECHO_REQUEST to the port's own address is answered. -/
def Dev.echoRx (s : Dev) (p : Nat) (q : EchoReq) : Dev :=
  if s.takes (Fin.ofNat 2 p) q.tag && s.portIs p q.dst then
    s.emit (.echoReply p (s.sendTag p) q.src q.dst q.id q.seq q.data)
  else s

def execIcmpEchoRequest (p : Fin 2) (q : EchoReq) (s : State) : Host.Outcome State Fault Refusal := s.run fun d => d.echoRx p.val q

/-- The PTP multicast group 224.0.1.129 (R40). -/
def ptpGroup : Nat := 0xE0000181

/-- IGMP_QUERY, general or for the PTP group, is answered with an IGMPv2 report. -/
def Dev.igmpRx (s : Dev) (p : Fin 2) (tag : Option (Fin 65536)) (g : Nat) : Dev :=
  if s.takes p tag && (g = 0 || g = ptpGroup) && s.ptpOn then
    s.emit (.igmpReport p.val (s.sendTag p.val) (s.rd (Reg.PTP_ETH_IP p.val)) ptpGroup)
  else s

def execIgmpQuery (p : Fin 2) (tag : Option (Fin 65536)) (group : Nat) (s : State) : Host.Outcome State Fault Refusal :=
  s.run fun d => d.igmpRx p tag group

/-! The spine -/

/-- GT_VALID_FREE_RUN (R38): the first tick that starts after SRC = FREE_RUN took effect. -/
def Dev.freeRunValid (s : Dev) : Dev :=
  if s.rd Reg.TSP_CTRL_SRC = 1 && !s.on Reg.TSP_STAT_GT_VALID && s.time.freeGt.any fun g => decide (g < s.tickStart) then s.gtValidNow 1 else s

def execGtValidFreeRun (s : State) : Host.Outcome State Fault Refusal := s.run Dev.freeRunValid

/-- Actions in an island's queue whose due time a step has carried GT past are found late (R47, R134). -/
def Dev.passLate (s : Dev) : Dev :=
  s.mapLdl fun l => { l with acts := l.acts.map fun a =>
    if a.place = .island && s.due a < s.gt then { a with late := true } else a }

/-- A forward step decided in this tick is applied at its end (R47). -/
def Dev.applyStep (s : Dev) : Dev :=
  match s.time.step with
  | none => s
  | some m =>
    let s := ((s.setGt s.nextTick).stepGt (m * tickNs)).passLate
    let s := s.mapTime fun t => { t with step := none, due := true }
    ((s.flag Reg.TSP_STAT_STEPPED true).inc Reg.TSP_STEP_CNT).raise .gtStep 0 [pU 16 4 m]

def execGtStep (s : State) : Host.Outcome State Fault Refusal := s.run Dev.applyStep

/-- The slew of one tick: at most MAX_PPM of its length (R34, R48). -/
def Dev.slewTick (s : Dev) : Dev :=
  if s.time.corr = 0 then s
  else
    let t := s.time.frac + s.rd Reg.TSP_SLEW_MAX_PPM
    let c := s.time.corr
    let d : Int := (t / 10 : Nat)
    s.mapTime fun x => { x with frac := t % 10, corr := if 0 ≤ c then max 0 (c - d) else min 0 (c + d) }

/-- The spine at the start of a tick (R35, R47, R49): GT moves to the boundary, or stands there already after a step;
the slew of the tick that ended is used up and HOLDOVER is timed; RWT values come into force (R463). -/
def Dev.spineTick (s : Dev) : Dev :=
  let s := if s.time.step.isSome && !s.time.due then s.applyStep else s
  let s := if s.time.due then s.mapTime fun t => { t with due := false } else s.setGt s.nextTick
  let s := s.slewTick
  let s := if s.rd Reg.PTP_STAT_STATE = Servo.holdover then s.mapTime fun t => { t with holdNs := t.holdNs + tickNs } else s
  { s with rwt := [] }

/-- SLEW_DONE (R48): nothing remains to be corrected. -/
def Dev.slewEnd (s : Dev) : Dev := if s.time.corr = 0 then s.flag Reg.TSP_STAT_SLEWING false else s

def execSlewDone (s : State) : Host.Outcome State Fault Refusal := s.run Dev.slewEnd

/-- HOLDOVER_LIMIT (R49): the time in HOLDOVER has passed TSP_HOLD_MAX. -/
def Dev.holdLimit (s : Dev) : Dev :=
  if s.rd Reg.PTP_STAT_STATE = Servo.holdover && s.on Reg.TSP_HOLD_MAX_SECONDS && !s.on Reg.TSP_STAT_HOLD_EXP
      && decide (s.rd Reg.TSP_HOLD_MAX_SECONDS * 1000000000 < s.time.holdNs) then
    (s.flag Reg.TSP_STAT_HOLD_EXP true).raise .holdoverLimit 0 [pU 16 4 (s.time.holdNs / 1000000000)]
  else s

def execHoldoverLimit (s : State) : Host.Outcome State Fault Refusal := s.run Dev.holdLimit

/-- TCXO_LOST (R50): GT goes on from the crystal until a cold start. -/
def Dev.tcxoLost (s : Dev) : Dev :=
  if s.on Reg.TSP_STAT_TCXO_FB then s
  else ((((s.flag Reg.TSP_STAT_TCXO_FB true).flag Reg.CLK_STAT_TCXO_OK false).flag Reg.CLK_STAT_REF_SYNTH true).wrI
    Reg.CLK_TCXO_ERR 0).raise .tcxoLost 0 []

def execTcxoLost (s : State) : Host.Outcome State Fault Refusal := s.run Dev.tcxoLost

/-- PPS_OUT_PULSE (R51): the pin rises at the GT values OFS names in each second; held inactive with PPS_OUT_EN = 0 or
GT_VALID = 0. -/
def Dev.ppsPulse (s : Dev) (t : Nat) : Dev :=
  let s := s.at t
  if s.on Reg.TSP_CTRL_PPS_OUT_EN && s.on Reg.TSP_STAT_GT_VALID && s.gt = t
      && ((t : Int) - s.rdI Reg.TSP_PPS_OFS) % 1000000000 = 0 then
    s.emit (.ppsOut (s.rd Reg.TSP_PPS_CFG_WIDTH * 10000) (s.rd Reg.TSP_PPS_CFG_POL))
  else s

def execPpsOutPulse (t : Nat) (s : State) : Host.Outcome State Fault Refusal := s.run fun d => d.ppsPulse t

/-- PPS_IN_EDGE (R52): stamped to 8 ns and counted. -/
def Dev.ppsEdge (s : Dev) (stamp : Nat) : Dev :=
  ((s.at stamp).mapTime fun t => { t with ppsIn := stamp / 8 * 8 }).inc Reg.TSP_PPSIN_CNT

def execPpsInEdge (stamp : Nat) (s : State) : Host.Outcome State Fault Refusal := s.run fun d => d.ppsEdge stamp

end Sys2Proof.Machine
end

