-- ==== Sys2Proof/Machine/Admit.lean ====
section
/-! DEFINITION. Admission of a descriptor in the order of R108, ownership (R109) and the answer to a challenge (R122). -/

namespace Sys2Proof.Machine

/-- A CMD_ID that an admitted descriptor of the same SQ, still awaiting its final completion, carries (R107). Restored
actions belong to the partner's SQs (R398). -/
def Dev.cmdClash (s : Dev) (sq cmd : Nat) : Bool :=
  s.ladle.acts.any (fun a => a.sq = sq && a.cmd = cmd && a.gen != 0xFFFF)
    || s.ladle.chords.any (fun c => c.sq = sq && c.cmd = cmd && c.gen != 0xFFFF)
    || s.bus.toList.any (fun c => (c.mbx ++ c.mig).any fun m =>
        !m.done && m.act.sq = sq && m.act.cmd = cmd && m.act.gen != 0xFFFF)
    || s.links.toList.any (fun l => l.cal.toList.any fun r =>
        match r with
        | some r => r.fired && r.act.sq = sq && r.act.cmd = cmd && r.act.gen != 0xFFFF
        | none => false)

/-- The family of an opcode is admitted before SETUP_LOCK (R78). -/
def earlyFamily (op : Nat) : Bool := op / 16 = 0 || op / 16 = 7 || op / 16 = 10

/-- Descriptors for a car under handover complete BUSY once it rests (R384). -/
def Dev.carClosed (s : Dev) (n : Nat) : Bool := s.pbx.handing.any fun h => h.car = n && h.closed

/-- The role admits no action: none admits nothing, the Standby and a Duty that hands over nothing of the group pool
(R380, R382, R385). -/
def Dev.roleBusy (s : Dev) (group : Bool) : Bool :=
  s.on Reg.PBX_CTRL_EN && (s.rd Reg.PBX_STAT_ROLE = 3
    || (group && (s.rd Reg.PBX_STAT_ROLE != 0 || s.pbx.duty.isSome)))

/-- The checks of R108 that come before an opcode's own busy condition: form and a ring that can hold the descriptor (R104),
CMD_ID, SETUP_LOCK, GT_VALID. -/
def Dev.precheck (s : Dev) (op sq : Nat) (b : List Byte) : Option Nat :=
  if !s.formOk op b || !s.ringFits sq b then some Stat.badDesc
  else if s.cmdClash sq (dCmd b) then some Stat.badDesc
  else if !s.locked && !earlyFamily op then some Stat.busy
  else if dGt b != 0 && !s.on Reg.TSP_STAT_GT_VALID then some Stat.busy
  else if (dClass b = 1 || dClass b = 2) && s.carClosed (dIndex b) then some Stat.busy
  else none

/-- What a descriptor's own checks and effect answer: the state with its effect and the result of its admission; no
result while a long operation runs (R110). -/
abbrev Admission := Dev × Option AdmRes

/-- A descriptor fetched, checked and handed to its opcode's own part `go`, which is given the descriptor's number. -/
def Dev.tryAdmit (s : Dev) (op sq : Nat) (b : List Byte) (go : Dev → Nat → Admission) : Dev :=
  let (dn, s) := s.fetchOne sq b op
  match s.precheck op sq b with
  | some st => s.admSet sq dn (AdmRes.refuse st)
  | none =>
    match go s dn with
    | (s, some r) => s.admSet sq dn r
    | (s, none) => s

/-- A refusal. -/
def Dev.refuse (s : Dev) (st : Nat) : Admission := (s, some (AdmRes.refuse st))

/-- A descriptor completed at admission without any check (R80, R108). -/
def Dev.admitAs (s : Dev) (sq : Nat) (b : List Byte) (st : Nat) : Dev :=
  let (dn, s) := s.fetchOne sq b (dOp b)
  s.admSet sq dn (AdmRes.refuse st)

/-- Who holds the lease of a car: this controller, the partner, or neither, as ownership of a descriptor sees it
(R109); the refusing status otherwise. -/
def Dev.notOwned (s : Dev) (n : Nat) : Option Nat :=
  if s.on (Reg.SLP_STAT_OWN n) then none
  else if s.rd (Reg.SLP_STAT_HOLDER n) = 1 - s.xy then some Stat.foreignOwner
  else some Stat.noLease

/-- The car of a single descriptor, where its class has one (R109). -/
def dCar (op : Nat) (b : List Byte) : Option Nat :=
  if dClass b = 1 || dClass b = 2 then some (dIndex b)
  else if op = 0x12 && byteAt b 27 != 0xFF then some (byteAt b 27)
  else none

/-- Ownership of a single descriptor. -/
def Dev.ownership (s : Dev) (op : Nat) (b : List Byte) : Option Nat :=
  match dCar op b with
  | some n => s.notOwned n
  | none => none

/-- An AUTH_FAIL is counted and writes an S5 record with its purpose and authoriser (R122, SEC_CNT_AUTH). -/
def Dev.authFailed (s : Dev) (purpose authoriser : Nat) : Dev :=
  (s.inc Reg.SEC_CNT_AUTH).note 0x8004 5 42 0 0 [pU 28 1 purpose, pU 32 4 authoriser]

/-- How long a challenge is valid, ns (R122). -/
def chalNs : Nat := 60000000000

/-- A response checked against the challenge of its purpose; a challenge serves one response within 60 s (R122). `msg` makes
the message of a nonce. DESIGN CHOICE (log entry 103): a response for another purpose leaves the stored challenge valid. -/
def Dev.checkAuth (s : Dev) (purpose authoriser : Nat) (key : List Byte) (msg : Nat → List Byte) (resp : List Byte) :
    Bool × Dev :=
  match s.host.chal with
  | some c =>
    if c.purpose = purpose && s.gt ≤ c.gt + chalNs then
      let s := s.mapHost fun h => { h with chal := none }
      if resp = Config.hmacSha256 key (msg c.nonce) then (true, s)
      else (false, s.authFailed purpose authoriser)
    else (false, s.authFailed purpose authoriser)
  | none => (false, s.authFailed purpose authoriser)

end Sys2Proof.Machine
end

