-- ==== Sys2Proof/Machine/Host.lean ====
section
/-! DEFINITION. The host link's own commands: doorbells, ring enables, the backlog, moderation, the watchdog, power states,
the resets of the host island, and the admin descriptors of family 0x0_ (R64 to R100, R111, R122). -/

namespace Sys2Proof.Machine

/-! Doorbells and rings -/

/-- SQ_TAIL_DOORBELL (R74, R75): bits [15:0] carry the index. -/
def execSqTailDoorbell (sq : Fin 32) (v : BitVec 32) (s : State) : Host.Outcome State Fault Refusal :=
  s.run fun d => d.bellSq sq.val (v.toNat % 65536)

/-- CQ_HEAD_DOORBELL (R75). -/
def execCqHeadDoorbell (cq : Fin 32) (v : BitVec 32) (s : State) : Host.Outcome State Fault Refusal :=
  s.run fun d => d.bellCq cq.val (v.toNat % 65536)

/-- EQ_HEAD_DOORBELL (R75). -/
def execEqHeadDoorbell (eq : Fin 8) (v : BitVec 32) (s : State) : Host.Outcome State Fault Refusal :=
  s.run fun d => d.bellEq eq.val (v.toNat % 65536)

/-- RING_ENABLE (R72): the host's write of a CFG word with EN = 1. -/
def execRingEnable (r : RingId) (cfg : BitVec 32) (s : State) : Host.Outcome State Fault Refusal :=
  s.run fun d => d.ringCfg r (setBit cfg.toNat 31 true)

/-- RING_DISABLE (R73): the host's write of a CFG word with EN = 0. -/
def execRingDisable (r : RingId) (cfg : BitVec 32) (s : State) : Host.Outcome State Fault Refusal :=
  s.run fun d => d.ringCfg r (cfg.toNat % 2 ^ 31)

/-- DMA_WRITE_ERROR (R93): the ring faults with cause 0b011; its tail stands at the entry refused; a completion goes back to
the front of the backlog, which makes room for it (R85), an event is counted lost. DESIGN CHOICE (log entry 117): where the
tail goes back over the wrap, RNG PHASE keeps the value it took there. -/
def Dev.writeRefused (s : Dev) (r : RingId) : Dev :=
  let prev := fun (sz t : Nat) => (t + sz - 1) % sz
  match r with
  | .sq _ => s
  | .cq q =>
    let back := s.host.lastCq.filter fun b => b.cq = q.val
    let s := (if back.isEmpty then s else s.backRoom).mapHost fun h =>
      { h with backlog := back ++ h.backlog, lastCq := h.lastCq.filter fun b => b.cq != q.val }
    let t := s.rd (Reg.RNG_CQ_STAT_TAIL q.val)
    let t := if back.isEmpty then t else prev (ringSize (s.rd (Reg.RNG_CQ_CFG_LOG2SZ q.val))) t
    (s.wr (Reg.RNG_CQ_STAT_TAIL q.val) t).faultCq q.val 3 t
  | .eq e =>
    let t := prev (ringSize (s.rd (Reg.RNG_EQ_CFG_LOG2SZ e.val))) (s.rd (Reg.RNG_EQ_STAT_TAIL e.val))
    ((s.wr (Reg.RNG_EQ_STAT_TAIL e.val) t).inc (Reg.RNG_EQ_LOST e.val)).faultEq e.val 3 t

def execDmaWriteError (r : RingId) (s : State) : Host.Outcome State Fault Refusal := s.run fun d => d.writeRefused r

/-- UNKNOWN_OPCODE (R93, R108): completed BAD_DESC; the ring continues. -/
def Dev.unknownOp (s : Dev) (sq : Nat) (b : List Byte) : Dev :=
  if (opClass (dOp b)).isNone then s.admitAs sq b Stat.badDesc else s

def execUnknownOpcode (sq : Fin 32) (d : List Byte) (s : State) : Host.Outcome State Fault Refusal :=
  s.run fun v => v.unknownOp sq.val d

/-- BACKLOG_DRAIN (R83, R84). -/
def execBacklogDrain (cq : Fin 32) (s : State) : Host.Outcome State Fault Refusal := s.run fun d => d.drainCq cq.val

/-- EQ_OVERFLOW (R87): with two or more free entries, the events lost are reported and the count restarts. -/
def Dev.overflow (s : Dev) (e : Nat) : Dev :=
  if s.eqOk e && s.mastering && 2 ≤ s.eqFree e && s.on (Reg.RNG_EQ_LOST e) then
    let n := s.rd (Reg.RNG_EQ_LOST e)
    (s.wr (Reg.RNG_EQ_LOST e) 0).raiseTo e .eqOverflow [pU 16 4 n]
  else s

def execEqOverflow (eq : Fin 8) (s : State) : Host.Outcome State Fault Refusal := s.run fun d => d.overflow eq.val

/-! Moderation (R89) -/

/-- MOD.CNT, MOD.TIME in ns and CFG.IEN of ring source `i`. -/
def Dev.modOf (s : Dev) (i : Nat) : Nat × Nat × Bool :=
  if i < 32 then (s.rd (Reg.RNG_CQ_MOD_CNT i), s.rd (Reg.RNG_CQ_MOD_TIME i) * 1000, s.on (Reg.RNG_CQ_CFG_IEN i))
  else (s.rd (Reg.RNG_EQ_MOD_CNT (i - 32)), s.rd (Reg.RNG_EQ_MOD_TIME (i - 32)) * 1000,
    s.on (Reg.RNG_EQ_CFG_IEN (i - 32)))

/-- The check made every 1 µs of one ring. -/
def Dev.modCheck (s : Dev) (i : Fin 40) : Dev :=
  let m := s.host.moder[i]
  let (cnt, time, ien) := s.modOf i.val
  if ien && m.armed && m.pending != 0 && (cnt ≤ m.pending || (time != 0 && m.first + time ≤ s.gt)) then
    (s.signalSource i.val).mapHost fun h => { h with moder := h.moder.set i { m with armed := false } }
  else s

/-- MODERATION_TIMER. -/
def Dev.moderation (s : Dev) : Dev := (List.finRange 40).foldl (fun s i => s.modCheck i) s

def execModerationTimer (s : State) : Host.Outcome State Fault Refusal := s.run Dev.moderation

/-- FENCE_RELEASE (R91): held admission completions whose fence is open are posted. -/
def execFenceRelease (s : State) : Host.Outcome State Fault Refusal := s.run Dev.flushAdm

/-! Resets of the host island (R94) -/

/-- Registers kept across a host-island reset although they lie in its block. -/
def hostKept : List Nat :=
  [Reg.HST_STAT_GEN.key, Reg.HST_STAT_LAST_RST.key, Reg.HST_HELD_DISC.key, Reg.HST_HELD_LOST.key, Reg.HST_EVT_LOST.key]

/-- The HST and RNG registers at their reset values (R94). -/
def Dev.hostRegsReset (s : Dev) : Dev :=
  { s with regs := s.regs.filter fun p => p.1 < 0x1000 * 32 || 0x2000 * 32 ≤ p.1 || hostKept.contains p.1 }

/-- Code of a reset cause in HST_STAT.LAST_RST (R94). -/
def hostCause : HostReset → Nat
  | .perst | .linkDown => 1 | .hot => 2 | .flr => 3

/-- The generation after this one: it is 0 only after a cold start (R451); 0xFFFF marks restored actions and is skipped
(R84, R398). -/
def nextGen (g : Nat) : Nat := if g = 0xFFFE then 1 else g + 1

/-- Configuration space after a reset of the island, as PCI Express has it (log entry 102): PERST# clears all; an in-band
reset and an FLR leave AER's sticky registers and the trained link; an FLR leaves the largest payload as well. -/
def ConfSt.cleared (c : ConfSt) (cause : HostReset) : ConfSt :=
  match cause with
  | .perst => ConfSt.start
  | .linkDown | .hot | .flr =>
    { ConfSt.start with
      payload := if cause = .flr then c.payload else 0
      ecrcGen := c.ecrcGen, ecrcChk := c.ecrcChk
      uncStat := c.uncStat, uncMask := c.uncMask, uncSev := c.uncSev, corStat := c.corStat, corMask := c.corMask
      speed := c.speed, width := c.width }

/-- Host-island state that goes back to its reset values. -/
def HostSt.cleared (h : HostSt) (cause : HostReset) : HostSt :=
  { h with conf := h.conf.cleared cause, partials := Vector.replicate 32 [], resv := [], rr := Vector.replicate 4 31,
           credit := Vector.replicate 4 0, evHold := [],
           moder := Vector.replicate 40 { armed := true, pending := 0, first := 0 }, inert := [],
           msix := Vector.replicate 64 { addr := 0, data := 0, mask := true }, pba := 0, msixEn := false,
           funcMask := false, pmeEn := false, pmeStat := false, pmeQueued := false, pmeSent := false, recov := false,
           aspmL1 := cause = .flr && h.aspmL1, inL1 := false, lastCq := [] }

/-- The reset of the host island alone (R94): admission completions that wait become held entries of the old generation. -/
def Dev.hostReset (s : Dev) (cause : HostReset) : Dev :=
  let code := hostCause cause
  let disc := (s.host.partials.toList.filter fun p => !p.isEmpty).length
  let lost := s.host.evHold.length
  let s := s.wr Reg.HST_HELD_DISC (min (2 ^ 32 - 1) (s.rd Reg.HST_HELD_DISC + disc))
  let s := s.wr Reg.HST_EVT_LOST (min (2 ^ 32 - 1) (s.rd Reg.HST_EVT_LOST + lost))
  let s := ((s.wr Reg.HST_STAT_GEN (nextGen s.gen)).wr Reg.HST_STAT_LAST_RST code).flushAdm
  let s := s.hostRegsReset.mapHost fun h => h.cleared cause
  s.note 0x8001 4 42 0 0 [pU 28 1 code, pU 32 4 s.heldCount, pU 36 4 disc]

/-- HOST_ISLAND_RESET. After a link-down, a hot reset or an FLR the island is ready again; PERST# holds it. -/
def execHostIslandReset (cause : HostReset) (s : State) : Host.Outcome State Fault Refusal :=
  s.run fun d => (d.hostReset cause).mapHost fun h => { h with perst := decide (cause = .perst) }

/-- The link has trained: its rate and width (R64, R95). -/
def Dev.linkTrained (s : Dev) (speed : Fin 3) (x2 : Bool) : Dev :=
  s.mapHost fun h => { h with conf := { h.conf with speed := speed.val + 1, width := if x2 then 2 else 1 } }

/-- PERST_DEASSERT (R95): the link trains and configuration requests are accepted. -/
def Dev.perstOff (s : Dev) (speed : Fin 3) (x2 : Bool) : Dev :=
  (s.mapHost fun h => { h with perst := false }).linkTrained speed x2

def execPerstDeassert (speed : Fin 3) (x2 : Bool) (s : State) : Host.Outcome State Fault Refusal :=
  s.run fun d => d.perstOff speed x2

/-! Host watchdog (R96) -/

/-- HWD_KICK: SILENT clears with an S3 record. -/
def Dev.hwdKick (s : Dev) : Dev :=
  let ms := (s.gt - s.host.kickGt) / 1000000
  let quiet := s.on Reg.HST_STAT_SILENT
  let s := (s.flag Reg.HST_STAT_SILENT false).mapHost fun h => { h with kickGt := s.gt }
  if quiet then s.note 0x8003 3 42 0 0 [pU 28 4 ms] else s

def execHwdKick (s : State) : Host.Outcome State Fault Refusal := s.run Dev.hwdKick

/-- HOST_WATCHDOG_EXPIRY: TMO_MS have passed without a kick; SILENT with an S5 record; nothing else changes. -/
def Dev.hwdExpire (s : Dev) : Dev :=
  if s.on Reg.HST_HWD_TMO_MS && !s.on Reg.HST_STAT_SILENT
      && decide (s.host.kickGt + s.rd Reg.HST_HWD_TMO_MS * 1000000 ≤ s.gt) then
    (s.flag Reg.HST_STAT_SILENT true).note 0x8002 5 42 0 0 [pU 28 4 (s.rd Reg.HST_HWD_TMO_MS)]
  else s

def execHostWatchdogExpiry (s : State) : Host.Outcome State Fault Refusal := s.run Dev.hwdExpire

/-! Power states (R97 to R100) -/

/-- D3HOT_ENTRY: no further transfer is mastered; the link enters L1 (R97, R98). -/
def Dev.enterD3 (s : Dev) : Dev :=
  if s.on Reg.HST_STAT_D3 || s.host.refHeld then s
  else (s.flag Reg.HST_STAT_D3 true).mapHost fun h =>
    { h with pmeSent := false, pmeQueued := false, recov := false, inL1 := true }

def execD3hotEntry (s : State) : Host.Outcome State Fault Refusal := s.run Dev.enterD3

/-- D0_ENTRY: a PM_PME that has not left is not sent; the 10 ms recovery time starts (R100). -/
def Dev.enterD0 (s : Dev) : Dev :=
  if s.on Reg.HST_STAT_D3 then
    let g := s.gt
    (s.flag Reg.HST_STAT_D3 false).mapHost fun h =>
      { h with recov := true, recovGt := g, pmeQueued := false, inL1 := false }
  else s

def execD0Entry (s : State) : Host.Outcome State Fault Refusal := s.run Dev.enterD0

/-- The D3hot-to-D0 recovery time, ns. -/
def recovNs : Nat := 10000000

/-- D0_RECOVERY_END: after 10 ms the function is in D0; held events and the backlog follow where Bus Master Enable is 1. -/
def Dev.recovered (s : Dev) : Dev :=
  if s.host.recov && s.host.recovGt + recovNs ≤ s.gt then (s.mapHost fun h => { h with recov := false }).resume else s

def execD0RecoveryEnd (s : State) : Host.Outcome State Fault Refusal := s.run Dev.recovered

/-- BUS_MASTER_ENABLE: held events in order, then the backlog (R97). -/
def Dev.busMaster (s : Dev) : Dev := if s.host.refHeld || s.host.perst then s else (s.flag Reg.HST_STAT_BME true).resume

def execBusMasterEnable (s : State) : Host.Outcome State Fault Refusal := s.run Dev.busMaster

/-- ASPM_L1_ENTRY: idle for 7 µs with ASPM L1 enabled (R98). -/
def Dev.aspmIdle (s : Dev) : Dev :=
  if s.host.aspmL1 && s.host.busyGt + 7000 ≤ s.gt then s.mapHost fun h => { h with inL1 := true } else s

def execAspmL1Entry (s : State) : Host.Outcome State Fault Refusal := s.run Dev.aspmIdle

/-- A PM_PME that is due leaves, in D3hot only and once in a stay (R99, R100). -/
def Dev.pmeLeave (s : Dev) : Dev :=
  if s.host.pmeQueued && s.on Reg.HST_STAT_D3 then
    (s.mapHost fun h => { h with pmeQueued := false, pmeSent := true }).emitHost .pmPme
  else s

/-! Admin descriptors (R111) -/

/-- NOP. -/
def Dev.opNop (s : Dev) (sq : Nat) (b : List Byte) : Dev :=
  s.tryAdmit 0x00 sq b fun s _ => (s, some (AdmRes.readOnly 0 0))

def execNop (sq : Fin 32) (d : List Byte) (s : State) : Host.Outcome State Fault Refusal := s.run fun v => v.opNop sq.val d

/-- Held entries, oldest first. -/
def Dev.held (s : Dev) : List BackEnt := s.host.backlog.filter fun b => b.cqe.gen != s.gen

/-- The `n` oldest held entries freed. -/
def Dev.heldFree (s : Dev) (n : Nat) : Dev :=
  (s.held.take n).foldl (fun s b => s.mapHost fun h => { h with backlog := h.backlog.erase b }) s

/-- HELD_READ (R84, R121): entries copied with HELD = 1, oldest first, and freed; none while nothing is mastered (R68, log
entry 103). -/
def Dev.opHeldRead (s : Dev) (sq : Nat) (b : List Byte) : Dev :=
  s.tryAdmit 0x01 sq b fun s _ =>
    let out := if s.mastering then s.held.take (leAt b 24 4) else []
    let s' := (List.range out.length).foldl
      (fun s i => match out[i]? with
        | some x => s.emitHost (.dma (leAt b 16 8 + 32 * i) (x.cqe.bytes true false))
        | none => s) s
    let s' := s'.heldFree out.length
    (s', some (AdmRes.changed (out.length != 0) out.length s'.heldCount))

def execHeldRead (sq : Fin 32) (d : List Byte) (s : State) : Host.Outcome State Fault Refusal :=
  s.run fun v => v.opHeldRead sq.val d

/-- HELD_DISCARD (R84): count 0 frees all. -/
def Dev.opHeldDiscard (s : Dev) (sq : Nat) (b : List Byte) : Dev :=
  s.tryAdmit 0x02 sq b fun s _ =>
    let n := leAt b 16 4
    let k := if n = 0 then s.heldCount else min n s.heldCount
    (s.heldFree k, some (AdmRes.changed (k != 0) k 0))

def execHeldDiscard (sq : Fin 32) (d : List Byte) (s : State) : Host.Outcome State Fault Refusal :=
  s.run fun v => v.opHeldDiscard sq.val d

/-- EQ_PING: a PING event is posted to the EQ named. -/
def Dev.opEqPing (s : Dev) (sq : Nat) (b : List Byte) : Dev :=
  s.tryAdmit 0x03 sq b fun s _ =>
    (s.raiseTo (byteAt b 16) .ping [pU 16 1 sq, pU 18 2 (dCmd b)], some (AdmRes.done 0 0))

def execEqPing (sq : Fin 32) (d : List Byte) (s : State) : Host.Outcome State Fault Refusal :=
  s.run fun v => v.opEqPing sq.val d

/-- AUTH_CHALLENGE (R122): a fresh nonce, a free value, replaces the previous challenge. -/
def Dev.opAuthChallenge (s : Dev) (sq : Nat) (b : List Byte) : Dev :=
  s.tryAdmit 0x04 sq b fun s _ =>
    let (n, s) := s.fresh (2 ^ 64)
    (s.mapHost fun h => { h with chal := some { nonce := n, purpose := byteAt b 16, gt := s.gt } },
      some (AdmRes.done n 0))

def execAuthChallenge (sq : Fin 32) (d : List Byte) (s : State) : Host.Outcome State Fault Refusal :=
  s.run fun v => v.opAuthChallenge sq.val d

/-- CHALLENGE_EXPIRY (R122): 60 s have passed. -/
def Dev.challengeEnd (s : Dev) : Dev :=
  if s.host.chal.any fun c => decide (c.gt + chalNs < s.gt) then s.mapHost fun h => { h with chal := none } else s

def execChallengeExpiry (s : State) : Host.Outcome State Fault Refusal := s.run Dev.challengeEnd

end Sys2Proof.Machine
end

