-- ==== Sys2Proof/Machine/Ladle.lean ====
section
/-! DEFINITION. Ladle (R124 to R153): the action store, chords, the hand-on to the firing places, cancels and cues. -/

namespace Sys2Proof.Machine

/-! Actions -/

/-- The car of an action (R109): TINDEX for classes CAR and SLICE, the CAR byte for a cue. -/
def Act.car (a : Act) : Option Nat :=
  if a.tclass = 1 || a.tclass = 2 then some a.tindex
  else if a.op = 0x12 && byteAt a.param 7 != 0xFF then some (byteAt a.param 7)
  else none

/-- The tick in which an action takes firing room (R135): that of its fire time, for a cue of its send time. -/
def Dev.roomOf (s : Dev) (a : Act) : Nat := (if a.kind = .n then a.gt - s.cueLead else a.gt) / tickNs

/-- Pool of an action: its car's allocation (0 to 15) or the group pool (16) (R124). -/
def Act.pool (a : Act) : Nat := if a.tclass = 1 || a.tclass = 2 then a.tindex else 16

/-- First slot and size of a pool. -/
def poolBase (p : Nat) : Nat := p * 1920
def poolSize (p : Nat) : Nat := if p = 16 then 2048 else 1920

/-- Whether a slot is in flight. -/
def Dev.slotUsed (s : Dev) (i : Nat) : Bool := s.ladle.acts.any fun a => a.slot = i || a.slot2 = some i

/-- Slots of a pool in flight (LDL_OCC). -/
def Dev.poolUsed (s : Dev) (p : Nat) : Nat :=
  (s.ladle.acts.map fun a => if a.pool = p then (if a.slot2.isSome then 2 else 1) else 0).sum

/-- The lowest free slot of a pool from `i` on (the choice of slot is the model's, log entry 6). -/
def Dev.freeSlotFrom (s : Dev) (i : Nat) : Nat → Nat
  | 0 => i
  | n + 1 => if s.slotUsed i then Dev.freeSlotFrom s (i + 1) n else i

/-- The lowest free slot of a pool. -/
def Dev.freeSlot (s : Dev) (p : Nat) : Nat := s.freeSlotFrom (poolBase p) (poolSize p)

/-- Slots an action needs: a BUS_TX of 32, 48 or 64 bytes takes two (R125). -/
def Act.slots (a : Act) : Nat := if a.op = 0x60 && 32 ≤ byteAt a.param 4 then 2 else 1

/-- Whether a pool can give `n` slots to a descriptor of an SQ: priorities 1 to 3 leave the reserved share free (R126). -/
def Dev.slotsFree (s : Dev) (sq p n : Nat) : Bool :=
  let free := poolSize p - s.poolUsed p
  let keep := if s.rd (Reg.RNG_SQ_CFG_PRIO sq) = 0 then 0
    else if p = 16 then s.rd Reg.LDL_RSV_GROUP else s.rd Reg.LDL_RSV_ENGINE
  decide (n + keep ≤ free)

/-- Actions of a pool that fire in tick `k`, and of all pools. -/
def Dev.firedIn (s : Dev) (k p : Nat) : Nat := (s.ladle.room.filter fun u => u.tick = k && u.pool = p).length
def Dev.firedAll (s : Dev) (k : Nat) : Nat := (s.ladle.room.filter fun u => u.tick = k).length

/-- An action still held that has taken its room: one that fired at its slice and whose report is on its way. -/
def Dev.tookRoom (s : Dev) (a : Act) : Bool := s.ladle.room.any fun u => u.pool = a.pool && u.slot = some a.slot

/-- Actions whose room in tick `k` is reserved and not yet taken. -/
def Dev.reservedIn (s : Dev) (k : Nat) : List Act := s.ladle.acts.filter fun a => s.roomOf a = k && !s.tookRoom a

/-- Room reserved or used in tick `k` by a pool, and in all (R135). -/
def Dev.roomPool (s : Dev) (k p : Nat) : Nat :=
  s.firedIn k p + ((s.reservedIn k).filter fun a => a.pool = p).length
def Dev.roomAll (s : Dev) (k : Nat) : Nat := s.firedAll k + (s.reservedIn k).length

/-- Most actions of a pool in one tick. -/
def poolRoom (p : Nat) : Nat := if p = 16 then 16 else 4

/-- Whether an action finds room in its tick beside those of `l`, admitted with it (R135, R139). -/
def Dev.roomFor (s : Dev) (l : List Act) (a : Act) : Bool :=
  let k := s.roomOf a
  decide (s.roomPool k a.pool + (l.filter fun x => x.pool = a.pool && s.roomOf x = k).length < poolRoom a.pool)
    && decide (s.roomAll k + (l.filter fun x => s.roomOf x = k).length < 64)

/-- Whether every one of a list of new actions has its slots and its room; all or none (R139). -/
def Dev.resourcesFor (s : Dev) (sq : Nat) (l : List Act) : Bool :=
  (List.range 17).all (fun p =>
    let n := ((l.filter fun a => a.pool = p).map Act.slots).sum
    n = 0 || s.slotsFree sq p n)
  && (List.range l.length).all fun i =>
    match l[i]? with
    | some a => s.roomFor (l.take i) a
    | none => true

/-- The fire time of a descriptor: its GT, or the first tick boundary at least `lead` ahead where GT is 0 (R105). -/
def Dev.fireTime (s : Dev) (gt lead : Nat) : Nat :=
  if gt = 0 then (s.gt + lead + tickNs - 1) / tickNs * tickNs else gt

/-- An action as a single descriptor, or a member laid out as one, asks for it; its slots are not yet assigned. -/
def Dev.mkAct (s : Dev) (op sq dn : Nat) (b : List Byte) (k : AKind) (member : Nat) (chord : Option Nat) (gt : Nat) :
    Act :=
  { op := op, kind := k, tclass := dClass b, tindex := dIndex b, cmd := dCmd b, sq := sq, member := member,
    chord := chord, gt := gt, tol := dTol b, param := cut b 20 10,
    extra := if op = 0x60 then cut b 26 38 ++ cut b 80 26 else if op = 0x43 then cut b 30 24 else [],
    gen := s.gen, dn := dn,
    epoch := match dCar op b with
      | some n => s.rd (Reg.SLP_STAT_EPOCH n)
      | none => 0
    slot := 0, slot2 := none, place := .stored, ord := 0, late := false, waited := false, revoked := false,
    restored := false, cueSeq := 0, origin := s.xy }

/-- The next cue SEQ (R144): its reserve is moved on when SEQ comes within 4,096 of it, both counted modulo 2^32. -/
def Dev.nextCueSeq (s : Dev) : Dev :=
  let s := s.inc Reg.LDL_CUE_SEQ
  let q := s.rd Reg.LDL_CUE_SEQ
  let left := (s.nv.cueReserve + 2 ^ 32 - q) % 2 ^ 32
  if left ≤ 4096 || 65536 < left then s.mapNv fun v => { v with cueReserve := (q + 65536) % 2 ^ 32 } else s

/-- An admitted action put into the store: slots, order, and for a cue its SEQ. -/
def Dev.store (s : Dev) (a : Act) : Dev :=
  let s := if a.kind = .n then s.nextCueSeq else s
  let i := s.freeSlot a.pool
  let a := { a with slot := i, ord := s.ladle.ord, cueSeq := s.rd Reg.LDL_CUE_SEQ }
  let s := s.mapLdl fun l => { l with acts := l.acts ++ [a], ord := l.ord + 1 }
  if a.slots = 2 then
    let j := s.freeSlot a.pool
    s.mapLdl fun l => { l with acts := l.acts.map fun x => if x.slot = i then { x with slot2 := some j } else x }
  else s

/-- A descriptor refused for want of slots or room (R135, LDL_CNT_RES). -/
def Dev.noResource (s : Dev) : Admission := (s.inc Reg.LDL_CNT_RES).refuse Stat.resource

/-- Busy for every action descriptor (R153). -/
def Dev.ladleBusy (s : Dev) (cue : Bool) : Bool := !s.on Reg.LDL_STAT_READY || (cue && !s.on Reg.LDL_CTRL_CUE_EN)

/-- A single action descriptor past the common checks: busy, ownership, resources, then stored (R108). -/
def Dev.admitAction (s : Dev) (op sq dn : Nat) (b : List Byte) (k : AKind) (busy : Bool) : Admission :=
  if s.ladleBusy (k = .n) || busy || s.roleBusy (dClass b = 3 || dClass b = 4) || ((dCar op b).map s.carClosed).getD false then
    s.refuse Stat.busy
  else match s.ownership op b with
    | some st => s.refuse st
    | none =>
      let a := s.mkAct op sq dn b k 0 none (s.fireTime (dGt b) (s.minLead k))
      if s.resourcesFor sq [a] then (s.store a, some (AdmRes.done 0 0)) else s.noResource

/-- An action opcode with nothing of its own to check at admission. -/
def Dev.opAction (s : Dev) (op : Nat) (k : AKind) (sq : Nat) (b : List Byte) : Dev :=
  s.tryAdmit op sq b fun s dn => s.admitAction op sq dn b k false

def execDoorOpen (sq : Fin 32) (d : List Byte) (s : State) : Host.Outcome State Fault Refusal :=
  s.run fun v => v.opAction 0x30 .s sq.val d
def execDoorClose (sq : Fin 32) (d : List Byte) (s : State) : Host.Outcome State Fault Refusal :=
  s.run fun v => v.opAction 0x31 .s sq.val d
def execDoorHold (sq : Fin 32) (d : List Byte) (s : State) : Host.Outcome State Fault Refusal :=
  s.run fun v => v.opAction 0x32 .s sq.val d
def execLampSet (sq : Fin 32) (d : List Byte) (s : State) : Host.Outcome State Fault Refusal :=
  s.run fun v => v.opAction 0x40 .s sq.val d
def execHeleaScene (sq : Fin 32) (d : List Byte) (s : State) : Host.Outcome State Fault Refusal :=
  s.run fun v => v.opAction 0x41 .s sq.val d
def execHeleaNode (sq : Fin 32) (d : List Byte) (s : State) : Host.Outcome State Fault Refusal :=
  s.run fun v => v.opAction 0x42 .s sq.val d
def execOutSet (sq : Fin 32) (d : List Byte) (s : State) : Host.Outcome State Fault Refusal :=
  s.run fun v => v.opAction 0x50 .s sq.val d
def execOutPulse (sq : Fin 32) (d : List Byte) (s : State) : Host.Outcome State Fault Refusal :=
  s.run fun v => v.opAction 0x51 .s sq.val d
def execSafeOpen (sq : Fin 32) (d : List Byte) (s : State) : Host.Outcome State Fault Refusal :=
  s.run fun v => v.opAction 0x53 .s sq.val d
def execBusTx (sq : Fin 32) (d : List Byte) (s : State) : Host.Outcome State Fault Refusal :=
  s.run fun v => v.opAction 0x60 .c sq.val d
/-- CUE (R144): the action takes the next SEQ. -/
def execCue (sq : Fin 32) (d : List Byte) (s : State) : Host.Outcome State Fault Refusal :=
  s.run fun v => v.opAction 0x12 .n sq.val d

/-! Chords (R113, R139) -/

/-- Members of a chord descriptor as actions at its time. -/
def Dev.chordActs (s : Dev) (sq dn ent : Nat) (b : List Byte) : List Act :=
  let c := byteAt b 16
  let op := fun m => byteAt (memberAt b m) 0
  let kind := fun m => (opKind (op m)).getD .s
  let lead := (List.range c).foldl (fun l m => max l (s.minLead (kind m))) 0
  let gt := s.fireTime (dGt b) lead
  (List.range c).map fun m => s.mkAct (op m) sq dn (memberDesc b m) (kind m) m (some ent) gt

/-- The lowest free chord entry of 1,024 (R127). -/
def Dev.freeChord (s : Dev) : Option Nat :=
  (List.range 1024).find? fun i => s.ladle.chords.all fun c => c.ent != i

/-- CHORD: admitted whole or not at all. -/
def Dev.opChord (s : Dev) (sq : Nat) (b : List Byte) : Dev :=
  s.tryAdmit 0x11 sq b fun s dn =>
    let ent := s.freeChord
    let l := s.chordActs sq dn (ent.getD 0) b
    if s.ladleBusy (l.any fun a => a.kind = .n) || s.roleBusy (l.any fun a => a.pool = 16)
        || l.any fun a => (a.car.map s.carClosed).getD false then s.refuse Stat.busy
    else if l.any fun a => match a.car with
        | some n => (s.notOwned n).isSome
        | none => false
    then s.refuse Stat.foreignOwner
    else if ent.isNone || !s.resourcesFor sq l then s.noResource
    else
      let gt := (l.head?.map (·.gt)).getD 0
      let c : Chord :=
        { ent := ent.getD 0, orig := ent.getD 0, cmd := dCmd b, sq := sq, gt := gt, gen := s.gen, dn := dn, count := l.length, ends := [],
          restored := false, win := l.foldl (fun (w : Nat) (a : Act) => max w (s.minLead a.kind)) 0 }
      let s := s.mapLdl fun x => { x with chords := x.chords ++ [c] }
      (l.foldl Dev.store s, some (AdmRes.done 0 0))

def execChord (sq : Fin 32) (d : List Byte) (s : State) : Host.Outcome State Fault Refusal := s.run fun v => v.opChord sq.val d

/-! How an action ends (R81, R113, R125) -/

/-- Whether a status means that the action fired. -/
def didFire (st : Nat) : Bool := st = Stat.ok || st = Stat.lateFired

/-- The final completion of a chord whose members have all ended (R113). -/
def Chord.cqe (c : Chord) (gt : Nat) : Cqe :=
  let stOf := fun m => ((c.ends.find? fun e => e.member = m).map (·.status)).getD 0
  let ms := List.range c.count
  let fired := (ms.filter fun m => didFire (stOf m)).length
  let late := (ms.filter fun m => stOf m = Stat.lateFired).length
  let not := ms.filter fun m => !didFire (stOf m)
  { cmd := c.cmd, final := true, dur := false, sq := c.sq, op := 0x11, dseq := 0, gt := gt, gen := c.gen,
    status := match not.head? with
      | some m => stOf m
      | none => if late = 0 then Stat.ok else Stat.lateFired
    info0 := (not.map fun m => 2 ^ m).sum
    info1 := fired + 256 * late + 65536 * not.length }

/-- A member's end noted on its chord; the last one posts the chord's final completion and frees its entry. -/
def Dev.chordEnd (s : Dev) (ent member st g : Nat) : Dev :=
  match s.ladle.chords.find? fun c => c.ent = ent with
  | none => s
  | some c =>
    let c := { c with ends := c.ends ++ [{ member := member, status := st }] }
    if c.count ≤ c.ends.length then
      (s.mapLdl fun l => { l with chords := l.chords.filter fun x => x.ent != ent }).finalize c.dn (c.cqe g)
    else s.mapLdl fun l => { l with chords := l.chords.map fun x => if x.ent = ent then c else x }

/-- The counter a status moves (LDL_CNT_FIRED, LATE, EXP, CANC). -/
def Dev.countEnd (s : Dev) (st : Nat) : Dev :=
  if st = Stat.ok then s.inc Reg.LDL_CNT_FIRED
  else if st = Stat.lateFired then s.inc Reg.LDL_CNT_LATE
  else if st = Stat.expired then s.inc Reg.LDL_CNT_EXP
  else if st = Stat.cancelled then s.inc Reg.LDL_CNT_CANC
  else s

/-- A CAL_SWAP still waiting for its fire time no longer waits (R331). -/
def Dev.calDrop (s : Dev) (n : Fin 16) (slot : Nat) : Dev :=
  let one := fun (s : Dev) (p : Fin 2) =>
    match s.links[n].cal[p] with
    | some r =>
      if !r.fired && r.act.slot = slot then
        (s.mapLink n fun l => { l with cal := l.cal.set p none }).flag
          (if p = 0 then Reg.LMP_STAT_PEND0 n.val else Reg.LMP_STAT_PEND1 n.val) false
      else s
    | none => s
  one (one s 0) 1

/-- An action's slot freed without a completion. -/
def Dev.freeAct (s : Dev) (a : Act) : Dev :=
  let s := s.mapLdl fun l => { l with
    acts := l.acts.filter fun x => x.slot != a.slot
    room := l.room.map fun u => if u.pool = a.pool && u.slot = some a.slot then { u with slot := none } else u }
  if a.op = 0x43 then s.calDrop (Fin.ofNat 16 a.tindex) a.slot else s

/-- A resolved action noted for the next heartbeat (R372). -/
def Dev.logAct (s : Dev) (a : Act) (st : Nat) : Dev :=
  if s.on Reg.PBX_CTRL_EN then s.mapPbx fun p => { p with log := p.log ++ [(a.slot, st)] } else s

/-- INFO fields of an action that did not fire: what R111 names for them never came about, and the spec states no value for
them then (log entry 1); bytes that R111 does not name are 0 (R16). -/
def Dev.infoFor (s : Dev) (op st info0 info1 : Nat) : Nat × Nat × Dev :=
  if didFire st || st = Stat.refused then (info0, info1, s)
  else
    let (x, s) := if op = 0x60 then s.fresh (2 ^ 64) else (info0, s)
    let (y, s) := if op = 0x12 || op = 0x43 then s.fresh (2 ^ 32)
      else if op = 0x30 || op = 0x31 || op = 0x32 || op = 0x60 then s.fresh 256 else (info1, s)
    (x, y, s)

/-- The final completion of an action, or its end noted on its chord; `g` is the GT of firing or of the decision (R115). -/
def Dev.completeAt (s : Dev) (a : Act) (st info0 info1 g : Nat) : Dev :=
  let s := s.countEnd st
  match a.chord with
  | some ent => s.chordEnd ent a.member st g
  | none =>
    let (info0, info1, s) := s.infoFor a.op st info0 info1
    s.finalize a.dn
      { cmd := a.cmd, status := st, final := true, dur := false, sq := a.sq, op := a.op, dseq := 0, gt := g,
        info0 := info0, info1 := info1, gen := a.gen }

/-- The same, decided now. -/
def Dev.completeAct (s : Dev) (a : Act) (st info0 info1 : Nat) : Dev := s.completeAt a st info0 info1 s.gt

/-- An action resolves: its slot is freed and its end reported (R125). INFO0 is the scheduled GT (R111). -/
def Dev.resolve (s : Dev) (a : Act) (st info1 : Nat) : Dev := ((s.freeAct a).logAct a st).completeAct a st a.gt info1

/-- Every action that `sel` picks ends with one status, in admission order. -/
def Dev.resolveAll (s : Dev) (st : Nat) (sel : Act → Bool) : Dev :=
  (s.ladle.acts.filter sel).foldl (fun s a => s.resolve a st 0) s

/-- An action of the store rewritten. -/
def Dev.setAct (s : Dev) (a : Act) : Dev :=
  s.mapLdl fun l => { l with acts := l.acts.map fun x => if x.slot = a.slot then a else x }

/-! Cancel and query (R114, R138) -/

/-- The cut-off of a cancel before an action's time (R114). -/
def Dev.cancelWindow (s : Dev) (k : AKind) : Nat := s.minLead k

/-- One action withdrawn wherever it is: revoked at its slice, else freed (R138). -/
def Dev.withdraw (s : Dev) (a : Act) : Dev :=
  if a.place = .delivered then s.setAct { a with revoked := true } else s.resolve a Stat.cancelled 0

/-- The pending actions that an SQ and CMD_ID name (R107): a single action, or the members left of a chord. DESIGN CHOICE
(log entry 103): one already revoked at its slice is named no more, so that a second cancel of it finds nothing pending. -/
def Dev.named (s : Dev) (sq cmd : Nat) : List Act :=
  s.ladle.acts.filter fun a => a.sq = sq && a.cmd = cmd && a.gen != 0xFFFF && !a.revoked

/-- An action so named has fired and only awaits its completion: a BUS_TX in a mailbox, a CAL_SWAP under transfer. -/
def Dev.underWay (s : Dev) (sq cmd : Nat) : Bool :=
  let mine := fun (a : Act) => a.sq = sq && a.cmd = cmd && a.gen != 0xFFFF
  s.bus.toList.any (fun c => (c.mbx ++ c.mig).any fun m => !m.done && mine m.act)
    || s.links.toList.any fun l => l.cal.toList.any fun r => r.any fun r => r.fired && mine r.act

/-- The window of a cancel: that of the action, or the longest of its chord's members (R114). -/
def Dev.windowOf (s : Dev) (a : Act) : Nat :=
  match a.chord with
  | none => s.cancelWindow a.kind
  | some e => ((s.ladle.chords.find? fun c => c.ent = e).map (·.win)).getD (s.cancelWindow a.kind)

/-- ACTION_CANCEL. -/
def Dev.opCancel (s : Dev) (sq : Nat) (b : List Byte) : Dev :=
  s.tryAdmit 0x10 sq b fun s _ =>
    let l := s.named (byteAt b 16) (leAt b 18 2)
    let late := (s.inc Reg.LDL_CNT_TOOLATE).refuse Stat.tooLate
    match l.head? with
    | none => if s.underWay (byteAt b 16) (leAt b 18 2) then late else (s, some (AdmRes.readOnly 0 0))
    | some a => if s.gt + s.windowOf a ≤ a.gt then (l.foldl Dev.withdraw s, some (AdmRes.done 1 0)) else late

def execActionCancel (sq : Fin 32) (d : List Byte) (s : State) : Host.Outcome State Fault Refusal :=
  s.run fun v => v.opCancel sq.val d

/-- Actions of a pool still in the store, by due time and then admission (R130). -/
def Dev.waiting (s : Dev) (p : Nat) : List Act :=
  sortBy (fun (a b : Act) =>
    s.due a < s.due b || (s.due a = s.due b && a.ord ≤ b.ord))
    (s.ladle.acts.filter fun a => a.pool = p && a.place = .stored)

/-- Depth of a pool's Near Queue (R130). -/
def nearDepth (p : Nat) : Nat := if p = 16 then 128 else 64

/-- Actions in the Near Queue of a pool (LDL_OCC.NEAR). -/
def Dev.nearCount (s : Dev) (p : Nat) : Nat := min (nearDepth p) (s.waiting p).length

/-- Place of an action as ACTION_QUERY reports it: an action in an island's queue is place 2. -/
def Dev.placeCode (s : Dev) (a : Act) : Nat :=
  match a.place with
  | .delivered => 3
  | .island => 2
  | .stored => if ((s.waiting a.pool).take (nearDepth a.pool)).any (fun x => x.slot = a.slot) then 2 else 1

/-- ACTION_QUERY. For a chord the first member still pending answers. -/
def Dev.opQuery (s : Dev) (sq : Nat) (b : List Byte) : Dev :=
  s.tryAdmit 0x13 sq b fun s _ =>
    match (s.named (byteAt b 16) (leAt b 18 2)).head? with
    | some a => (s, some (AdmRes.readOnly a.gt (s.placeCode a)))
    | none => (s, some (AdmRes.readOnly 0 0))

def execActionQuery (sq : Fin 32) (d : List Byte) (s : State) : Host.Outcome State Fault Refusal :=
  s.run fun v => v.opQuery sq.val d

/-! Hand-on (R130) -/

/-- The hand-on point of an action has come: this tick is the last that starts at or before its due time − 200 µs, or
that tick has passed. -/
def Dev.handDue (s : Dev) (a : Act) : Bool := decide (s.due a < s.nextTick + 200000)

/-- A controller-side action or cue moved into its island's queue; found late there where its due time has come (R134). -/
def Dev.handOn (s : Dev) (a : Act) : Dev :=
  s.setAct { a with place := .island, late := decide (s.due a ≤ s.gt) }

/-- ACTION_HAND_ON: every Near Queue hands on what has reached its point; slice-side actions leave in the downstream
frame of their delivery tick instead. -/
def Dev.handOnAll (s : Dev) : Dev :=
  (List.range 17).foldl (fun s p =>
    (((s.waiting p).take (nearDepth p)).filter fun a => a.kind != .s && s.handDue a).foldl Dev.handOn s) s

def execActionHandOn (s : State) : Host.Outcome State Fault Refusal := s.run Dev.handOnAll

/-! Firing (R134, R135) -/

/-- A firing place's verdict on an action it examines. -/
inductive Verdict where
  | ends (status : Nat)
  | defer
  | fires
  deriving DecidableEq, Repr

/-- Room left in the tick in progress for an action of a pool: what has fired in it counts, at the controller and at the
slices it leads (R135). -/
def Dev.roomLeft (s : Dev) (p : Nat) : Bool :=
  let k := s.gt / tickNs
  decide (s.firedIn k p < poolRoom p) && decide (s.firedAll k < 64)

/-- Room taken; what was taken in ticks gone by is dropped. -/
def Dev.takeRoom (s : Dev) (l : List RoomUse) : Dev :=
  s.mapLdl fun x => { x with room := (x.room.filter fun u => s.gt / tickNs ≤ u.tick) ++ l }

/-- One action fired in the tick in progress. -/
def Dev.useRoom (s : Dev) (p : Nat) : Dev := s.takeRoom [{ tick := s.gt / tickNs, pool := p, slot := none }]

/-- Lateness of an action at this instant; an action on time has none (R134). -/
def Dev.lateness (s : Dev) (a : Act) : Nat := if a.late then s.gt - s.due a else 0

/-- The decision of R134 for a controller-side action or a cue. -/
def Dev.judge (s : Dev) (a : Act) : Verdict :=
  let lost := match a.car with
    | some n => if bit (s.rd Reg.CTN_ISO_CE) n then some Stat.engineLost
        else if !s.on (Reg.SLP_STAT_OWN n) || (!a.restored && s.rd (Reg.SLP_STAT_EPOCH n) != a.epoch) then
          some Stat.noLease
        else none
    | none => none
  match lost with
  | some st => .ends st
  | none =>
    if a.kind = .n && a.gt ≤ s.gt then .ends Stat.expired
    else if a.tol * 1000 < s.lateness a then .ends Stat.expired
    else if !s.roomLeft a.pool then .defer
    else .fires

/-- Status of an action that fires (R134). -/
def firedStatus (late : Bool) : Nat := if late then Stat.lateFired else Stat.ok

/-- Actions of a kind in their island's queue whose due time has come, in order of due time, then of admission. -/
def Dev.dueNow (s : Dev) (k : AKind) : List Act :=
  sortBy (fun (a b : Act) =>
    s.due a < s.due b || (s.due a = s.due b && a.ord ≤ b.ord))
    (s.ladle.acts.filter fun a => a.kind = k && a.place = .island && s.due a ≤ s.gt)

/-! Cue datagrams (R142 to R146) -/

/-- The servo is not LOCKED, or GT runs free (R142). -/
def Dev.unlocked (s : Dev) : Bool := s.rd Reg.PTP_STAT_STATE != Servo.locked || s.rd Reg.TSP_CTRL_SRC = 1

/-- Payload bytes 0 to 43 of a copy of a cue (R142). -/
def Dev.cueBody (s : Dev) (a : Act) (dup : Bool) (sgt : Nat) : List Byte :=
  beBytes 2 0x4B43 ++ beBytes 1 1 ++ beBytes 1 (b2n dup + 2 * b2n s.unlocked) ++ beBytes 1 a.origin ++ beBytes 1 s.xy
    ++ beBytes 2 (s.rd Reg.LDL_CUE_ID_GROUP) ++ beBytes 4 a.cueSeq ++ beBytes 8 a.gt ++ beBytes 2 (leAt a.param 0 2)
    ++ beBytes 1 (byteAt a.param 6) ++ beBytes 1 (byteAt a.param 7) ++ beBytes 4 (leAt a.param 2 4)
    ++ beBytes 1 (s.rd Reg.PTP_CTRL_DOMAIN) ++ beBytes 1 (s.rd Reg.LDL_CUE_ID_KEY_ID) ++ beBytes 2 0 ++ beBytes 8 sgt
    ++ beBytes 4 0

/-- AUTH (R143); 0 without CUE_AUTH, and where no key is in use (log entry 7). -/
def Dev.cueAuth (s : Dev) (body : List Byte) : List Byte :=
  if s.on Reg.LDL_CTRL_CUE_AUTH then
    match s.ladle.key with
    | some k => cut (Config.hmacSha256 k body) 0 4
    | none => beBytes 4 0
  else beBytes 4 0

/-- Ports a cue goes to (R145). -/
def Dev.cuePorts (s : Dev) : List Nat :=
  let p := s.rd Reg.LDL_CUE_CFG_PORT
  if p = 0 then [if s.ptpOn then s.rd Reg.PTP_STAT_ACT_PORT else s.rd Reg.PTP_CTRL_PRI_PORT]
  else if p = 1 then [0] else if p = 2 then [1] else [0, 1]

/-- The selected ports that have link. -/
def Dev.cueLinked (s : Dev) : List Nat := s.cuePorts.filter fun p => s.on (Reg.PTP_ETH_STAT_LINK p)

/-- A multicast IPv4 address. -/
def isMulticast (ip : Nat) : Bool := ip / 2 ^ 28 = 14

/-- The ones' complement sum of 16-bit words, most significant byte first; an odd byte is padded with 0. -/
def onesSum : List Byte → Nat
  | [] => 0
  | [a] => a.toNat * 256
  | a :: b :: l =>
    let x := onesSum l + a.toNat * 256 + b.toNat
    x % 65536 + x / 65536

/-- The UDP checksum over the pseudo header, the header and the payload (RFC 768); 0 is sent as 0xFFFF. -/
def udpSum (src dst sport dport : Nat) (pay : List Byte) : Nat :=
  let n := 8 + pay.length
  let x := onesSum (beBytes 4 src ++ beBytes 4 dst ++ beBytes 2 17 ++ beBytes 2 n ++ beBytes 2 sport ++ beBytes 2 dport
    ++ beBytes 2 n ++ beBytes 2 0 ++ pay)
  if x % 65535 = 0 && x != 0 then 0xFFFF else 65535 - x

/-- The MAC address of a next hop on a port: known, or asked for by ARP; what the network answers is a free value (R145, log
entry 1). -/
def Dev.hopMac (s : Dev) (p hop : Nat) : Nat × Dev :=
  match s.ladle.arp.find? fun e => e.1 = p && e.2.1 = hop with
  | some e => (e.2.2, s)
  | none =>
    let (m, s) := s.fresh (2 ^ 48)
    let s := s.emit (.arpAsk p (s.sendTag p) (s.rd (Reg.PTP_ETH_IP p)) hop)
    (m, s.mapLdl fun l => { l with arp := (p, hop, m) :: l.arp })

/-- One copy of a cue sent on the linked ports among those selected. DESIGN CHOICE (log entry 103): with both ports selected
and one of them without link the copy leaves by the other alone; it does not wait for the second link. -/
def Dev.cueSend (s : Dev) (a : Act) (dup : Bool) (sgt : Nat) : Dev :=
  let body := s.cueBody a dup sgt
  let pay := body ++ s.cueAuth body
  let dst := s.rd Reg.LDL_CUE_DST
  s.cueLinked.foldl (fun s p =>
    let ip := s.rd (Reg.PTP_ETH_IP p)
    let mask := s.rd (Reg.PTP_ETH_MASK p)
    let hop := if isMulticast dst || ip &&& mask = dst &&& mask then dst else s.rd (Reg.PTP_ETH_GW p)
    let (mac, s) := if isMulticast dst then (0x01005E000000 + dst % 2 ^ 23, s) else s.hopMac p hop
    let sport := s.rd Reg.LDL_CUE_PORT_SRC
    let dport := s.rd Reg.LDL_CUE_PORT_DST
    let d : CueOut :=
      { port := p, tag := s.sendTag p, srcMac := s.portMac p, dstMac := mac, src := ip, dst := dst, sport := sport, dport := dport,
        ttl := s.rd Reg.LDL_CUE_CFG_TTL, dscp := s.rd Reg.LDL_CUE_CFG_DSCP, sum := udpSum ip dst sport dport pay, payload := pay }
    (s.emit (.cue d)).inc Reg.LDL_CUE_SENT) s

/-- The first copy of one due cue (R134, R145, R146). -/
def Dev.cueFirst (s : Dev) (a : Act) : Dev :=
  match s.judge a with
  | .ends st =>
    let s := if st = Stat.expired && a.waited then s.inc Reg.LDL_CUE_NOLINK else s
    s.resolve a st 0
  | .defer => s.setAct { a with late := true }
  | .fires =>
    if s.cueLinked.isEmpty then s.setAct { a with late := true, waited := true }
    else
      let sgt := if a.late then s.gt + 20000 else s.due a
      let s := (s.useRoom a.pool).cueSend a false sgt
      let s := if sgt + 2000000 < a.gt then
          s.mapLdl fun l => { l with second := l.second ++ [{ act := a, sgt := sgt + 2000000 }] }
        else s
      s.resolve a (firedStatus a.late) (sgt % 2 ^ 32)

/-- CUE_FIRST_COPY at instant `t`. -/
def Dev.cueFirstAll (s : Dev) (t : Nat) : Dev :=
  let s := s.at t
  if bit s.time.reload 19 then s else (s.dueNow .n).foldl Dev.cueFirst s

def execCueFirstCopy (t : Nat) (s : State) : Host.Outcome State Fault Refusal := s.run fun d => d.cueFirstAll t

/-- CUE_SECOND_COPY at instant `t`: due second copies leave; one that cannot within 1 ms is dropped (R145). They wait for a
replica that is to be reloaded (R54). -/
def Dev.cueSecondAll (s : Dev) (t : Nat) : Dev :=
  let s := s.at t
  if bit s.time.reload 19 then s
  else s.ladle.second.foldl (fun s c =>
    if s.gt < c.sgt then s
    else if c.sgt + 1000000 < s.gt then s.mapLdl fun l => { l with second := l.second.erase c }
    else if s.cueLinked.isEmpty then s
    else (s.cueSend c.act true c.sgt).mapLdl fun l => { l with second := l.second.erase c }) s

def execCueSecondCopy (t : Nat) (s : State) : Host.Outcome State Fault Refusal := s.run fun d => d.cueSecondAll t

/-! The cue key (R152) -/

/-- CUE_KEY_WRITE: a host write to LDL_CUE_KEYk; ignored after SETUP_LOCK. Key 7 completes the key. -/
def Dev.cueKeyWr (s : Dev) (k v : Nat) : Dev :=
  if s.locked then s
  else
    let w := (k, v) :: s.ladle.keyW.filter fun p => p.1 != k
    if k = 7 then
      let word := fun i => ((w.find? fun p => p.1 = i).map (·.2)).getD 0
      let key := (List.range 8).flatMap fun i => leBytes 4 (word i)
      s.mapLdl fun l => { l with keyW := [], key := some key, keyDue := true }
    else s.mapLdl fun l => { l with keyW := w }

def execCueKeyWrite (k : Fin 8) (v : BitVec 32) (s : State) : Host.Outcome State Fault Refusal :=
  s.run fun d => d.cueKeyWr k.val v.toNat

end Sys2Proof.Machine
end

