-- ==== Sys2Proof/Machine/Logbook.lean ====
section
/-! DEFINITION. The Logbook: its stores, freezes, power-fail flush, reading, authorised clear and start (R402 to R424). -/

namespace Sys2Proof.Machine

/-! Stores (R407 to R410) -/

/-- Records the ring and the mirror hold (R407), by the geometry in force (R424). -/
def Dev.ringCap (s : Dev) : Nat := 2 ^ s.log.geom.1
def Dev.mirrorCap (s : Dev) : Nat := (s.log.geom.2.2 * 2 ^ 20 - 65536) / 64

/-- The record a full store gives up for `r` (R409). -/
def storeVictim (l : List Rec) (r : Rec) : Option Rec :=
  if r.sev = 7 then l.find? fun c => c.sev = 7 && !c.pinned else l.find? fun c => c.sev ≤ r.sev

/-- A record at its place in SEQ order. -/
def seqInsert (r : Rec) : List Rec → List Rec
  | [] => [r]
  | c :: l => if c.seq ≤ r.seq then c :: seqInsert r l else r :: c :: l

/-- A record entering a store of a given capacity: the new content and the record given up; none where `r` is dropped
(R409). Stores are kept in SEQ order, so that the first of several is the oldest. -/
def storePut (cap : Nat) (l : List Rec) (r : Rec) : Option (List Rec × Option Rec) :=
  if l.length < cap then some (seqInsert r l, none)
  else (storeVictim l r).map fun c => (seqInsert r (l.erase c), some c)

/-- A record not yet mirrored that the mirror is to hold (R408). -/
def Rec.unmirrored (r : Rec) : Bool := decide (4 ≤ r.sev) && !r.mirrored

/-- A record entering the ring: one given up before it was mirrored, and one dropped, are counted (R408, R411). -/
def Dev.ringPut (s : Dev) (r : Rec) : Dev :=
  match storePut s.ringCap s.log.ring r with
  | some (l, c) =>
    let s := s.mapLog fun x => { x with ring := l }
    match c with
    | some c => if c.unmirrored then s.inc Reg.LOG_CNT_MIRLOST else s
    | none => s
  | none => s.logDropped r.sev

/-- MIRRORED set in every copy of a record by its SEQ. -/
def Dev.markMirrored (s : Dev) (seq : Nat) : Dev :=
  let f := fun (r : Rec) => if r.seq = seq then { r with mirrored := true } else r
  s.mapLog fun x => { x with ring := x.ring.map f, staging := x.staging.map f, holding := x.holding.map f }

/-- A record copied into the mirror, every copy marked (R408); one dropped there stays where it is and is not counted
(R409, R411). -/
def Dev.mirrorRec (s : Dev) (r : Rec) (flushed : Bool) : Dev :=
  match storePut s.mirrorCap s.logP.mirror { r with mirrored := true, flushed := flushed } with
  | some (l, _) => (s.mapLogP fun x => { x with mirror := l }).markMirrored r.seq
  | none => s

/-- RING_WRITE (R408, R413): the next staged record moves into the ring; during a freeze into the holding queue, which a
record of S6 or S7 bypasses when it is full. -/
def Dev.ringWrite (s : Dev) : Dev :=
  match s.log.staging with
  | [] => s
  | r :: l =>
    let pop := s.mapLog fun x => { x with staging := l }
    if s.log.freeze.isSome then
      if s.log.holding.length < 8192 then pop.mapLog fun x => { x with holding := x.holding ++ [r] }
      else if 6 ≤ r.sev then
        let r := { r with bypass := true }
        let s := (pop.inc Reg.LOG_CNT_BYPASS).ringPut r
        if s.log.ring.contains r && !r.mirrored && s.on Reg.LOG_STAT_P_READY then s.mirrorRec r false else s
      else pop.logDropped r.sev
    else if s.on Reg.LOG_STAT_READY then pop.ringPut r
    else s

def execRingWrite (s : State) : Host.Outcome State Fault Refusal := s.run Dev.ringWrite

/-- The record a flush has to write next is written to the mirror with FLUSHED = 1, and the DONE marker after the last
(R415). One that the ring has given up meanwhile is passed over. -/
def Dev.flushNext (s : Dev) : Dev :=
  match s.log.todo with
  | [] => s
  | q :: l =>
    let s := s.mapLog fun x => { x with todo := l }
    let held := (s.log.staging ++ s.log.holding ++ s.log.ring).find? fun r => r.seq = q && !r.mirrored
    let s := match held with
      | some r => s.mirrorRec r true
      | none => s
    let wrote := s.logP.mirror.any fun r => r.seq = q && r.flushed
    s.mapLogP fun x =>
      let n := x.flush.written + b2n wrote
      { x with flush := if l.isEmpty then .done x.flush.planned n else .started x.flush.planned n }

/-- MIRROR_COPY (R408): the mirror pointer copies the next record of S4 and above; a freeze holds it still. A flush, which
a freeze does not hold back, goes on with its next record (R415). -/
def Dev.mirrorCopy (s : Dev) : Dev :=
  if !s.log.todo.isEmpty then s.flushNext
  else if s.log.freeze.isSome || !s.on Reg.LOG_STAT_P_READY then s
  else match s.log.ring.find? fun r => r.unmirrored && decide (s.log.mirPtr ≤ r.seq) with
    | some r => (s.mirrorRec r false).mapLog fun x => { x with mirPtr := r.seq + 1 }
    | none => s

def execMirrorCopy (s : State) : Host.Outcome State Fault Refusal := s.run Dev.mirrorCopy

/-- Records of S4 and above not yet mirrored (LOG_UNMIR). -/
def Dev.unmirrored (s : Dev) : Nat :=
  ((s.log.ring.filter fun r => r.unmirrored && decide (s.log.mirPtr ≤ r.seq)) ++
    (s.log.holding ++ s.log.staging).filter Rec.unmirrored).length

/-- Pinned records (LOG_PINNED). -/
def Dev.pinned (s : Dev) : Nat := s.logP.pins

/-- LOG_DROP_REPORT (R411): for each severity with drops since its last report, at most once per second. -/
def Dev.dropReport (s : Dev) : Dev :=
  (List.finRange 8).foldl (fun (s : Dev) (i : Fin 8) =>
    let n := s.log.drops[i]
    let quiet := match s.log.dropGt[i] with
      | some g => decide (g + 1000000000 ≤ s.gt)
      | none => true
    if n != 0 && quiet then
      (s.mapLog fun x => { x with drops := x.drops.set i 0, dropGt := x.dropGt.set i (some s.gt) }).raise .logDrop 0
        [pU 16 1 i.val, pU 20 4 n]
    else s) s

def execLogDropReport (s : State) : Host.Outcome State Fault Refusal := s.run Dev.dropReport

/-! Freeze (R412, R413) -/

/-- The LOG_FREEZE event with the records held. -/
def Dev.freezeEvent (s : Dev) (code : Nat) : Dev :=
  s.raise .logFreeze 0 [pU 16 1 code, pU 20 4 s.log.holding.length]

/-- A freeze ends: the holding queue drains into the ring in SEQ order. -/
def Dev.endFreeze (s : Dev) (code : Nat) : Dev :=
  if s.log.freeze.isSome then
    let s := s.freezeEvent code
    let l := s.log.holding
    l.foldl Dev.ringPut (s.mapLog fun x => { x with freeze := none, holding := [] })
  else s

/-- FREEZE_END, once the requested duration has passed, or 10 s since the start. -/
def Dev.freezeExpire (s : Dev) : Dev :=
  match s.log.freeze with
  | some f => if f.stop ≤ s.gt then s.endFreeze (if f.capped then 2 else 1) else s
  | none => s

def execFreezeEnd (s : State) : Host.Outcome State Fault Refusal := s.run Dev.freezeExpire

/-- LOG_FREEZE: BUSY while a clear or a flush runs. -/
def Dev.opLogFreeze (s : Dev) (sq : Nat) (b : List Byte) : Dev :=
  s.tryAdmit 0x71 sq b fun s _ =>
    if s.log.clear.isSome || s.log.flushing then s.refuse Stat.busy
    else
      let want := s.gt + leAt b 16 2 * 1000000
      let start := match s.log.freeze with
        | some f => f.start
        | none => s.gt
      let cap := start + 10000000000
      let s' := s.mapLog fun x => { x with freeze := some { start := start, stop := min want cap, capped := decide (cap < want) } }
      let s' := if s.log.freeze.isNone then s'.freezeEvent 0 else s'
      (s', some (AdmRes.done 0 0))

def execLogFreeze (sq : Fin 32) (d : List Byte) (s : State) : Host.Outcome State Fault Refusal :=
  s.run fun v => v.opLogFreeze sq.val d

/-- LOG_THAW: without a freeze it does nothing. -/
def Dev.opLogThaw (s : Dev) (sq : Nat) (b : List Byte) : Dev :=
  s.tryAdmit 0x72 sq b fun s _ => (s.endFreeze 1, some (AdmRes.done 0 0))

def execLogThaw (sq : Fin 32) (d : List Byte) (s : State) : Host.Outcome State Fault Refusal :=
  s.run fun v => v.opLogThaw sq.val d

/-! Power failure (R414 to R416) -/

/-- Records a flush is to write: S4 and above in staging, the holding queue and the ring, not yet mirrored. -/
def Dev.flushSet (s : Dev) : List Rec := (s.log.ring ++ s.log.holding ++ s.log.staging).filter Rec.unmirrored

/-- The order of a flush: S7 down to S4, oldest first. -/
def flushOrder (l : List Rec) : List Nat :=
  ([7, 6, 5, 4].flatMap fun v => sortBy (fun (a b : Rec) => a.seq ≤ b.seq) (l.filter fun r => r.sev = v)).map (·.seq)

/-- PFAIL: the PFAIL record and the STARTED marker, then the records one after another. How far the flush is when the
next command comes is a free value, since the speed of the persistent device is open; it goes on with MIRROR_COPY
(log entry 110). -/
def Dev.pfail (s : Dev) : Dev :=
  if !s.on Reg.LOG_CTRL_PF_EN || s.log.flushing then s
  else
    let l := s.flushSet
    let s := s.note 0x800C 6 81 0 0 [pU 28 4 l.length]
    let s := s.mapLog fun x => { x with flushing := true, todo := flushOrder l }
    if l.isEmpty then s.mapLogP fun x => { x with flush := .done 0 0 }
    else
      let (k, s) := (s.mapLogP fun x => { x with flush := .started l.length 0 }).fresh (l.length + 1)
      (List.range k).foldl (fun (s : Dev) _ => s.flushNext) s

def execPfail (s : State) : Host.Outcome State Fault Refusal := s.run Dev.pfail

/-- PFAIL_RETURN (R416): the flush ends at the record boundary reached, the DONE marker is written and normal service
resumes. -/
def Dev.pfailReturn (s : Dev) : Dev :=
  if s.log.flushing then
    (s.mapLog fun x => { x with flushing := false, todo := [] }).mapLogP fun x =>
      { x with flush := .done x.flush.planned x.flush.written }
  else s

def execPfailReturn (s : State) : Host.Outcome State Fault Refusal := s.run Dev.pfailReturn

/-! Reading (R418) -/

/-- Records examined, in SEQ order: those copied, and the SEQ after the last one examined. One whose CRC fails is skipped. -/
def readFrom (min n : Nat) : List Rec → List Rec × Option Nat
  | [] => ([], none)
  | r :: l =>
    if n = 0 then ([], none)
    else if min ≤ r.sev && !r.torn then
      let (c, e) := readFrom min (n - 1) l
      (r :: c, some (e.getD (r.seq + 1)))
    else
      let (c, e) := readFrom min n l
      (c, some (e.getD (r.seq + 1)))

/-- Blocks of 64 bytes written to consecutive addresses of a host buffer (R121). -/
def Dev.dmaBlocks (s : Dev) (addr : Nat) (l : List (List Byte)) : Dev :=
  (List.range l.length).foldl (fun s i => s.emitHost (.dma (addr + 64 * i) (l.getD i []))) s

/-- LOG_READ from the ring, the mirror or the trace; nothing is copied while nothing is mastered (R68, log entry 103). Records
examined whose CRC fails are counted. DEDUCED (log entry 126): INFO0 is the SEQ after the last record examined, as R418 has it, where
a minimum severity passes over records after the last one copied (R111). -/
def Dev.opLogRead (s : Dev) (sq : Nat) (b : List Byte) : Dev :=
  s.tryAdmit 0x70 sq b fun s _ =>
    if s.log.clear.isSome then s.refuse Stat.busy
    else
      let addr := leAt b 16 8
      let cap := if s.mastering then leAt b 24 4 else 0
      let start := leAt b 32 8
      if bit (byteAt b 29) 1 then
        let l := (s.log.trace.filter fun t => start ≤ t.1).take cap
        let next := match l.getLast? with
          | some t => t.1 + 1
          | none => start
        (s.dmaBlocks addr (l.map fun t => traceBytes t.1 t.2.1 t.2.2), some (AdmRes.readOnly next l.length))
      else
        let src := if bit (byteAt b 29) 0 then sortBy (fun (a b : Rec) => a.seq ≤ b.seq) s.logP.mirror else s.log.ring
        let (l, e) := readFrom (byteAt b 28) cap (src.filter fun r => start ≤ r.seq)
        let next := if l.isEmpty then start else e.getD start
        let bad := (src.filter fun r => start ≤ r.seq && r.torn && e.any fun e => decide (r.seq < e)).length
        let s := s.incBy Reg.LOG_CNT_CRC bad
        (s.dmaBlocks addr (l.map Rec.bytes), some (AdmRes.readOnly next l.length))

def execLogRead (sq : Fin 32) (d : List Byte) (s : State) : Host.Outcome State Fault Refusal :=
  s.run fun v => v.opLogRead sq.val d

/-! The authorised clear (R419 to R422) -/

/-- The controller's serial number. -/
def Dev.serial (s : Dev) : Nat := s.rd Reg.GLB_SER_HI * 2 ^ 32 + s.rd Reg.GLB_SER_LO

/-- The 32-byte message of a clear (R419). -/
def Dev.clearMsg (s : Dev) (auth nonce : Nat) : List Byte :=
  leBytes 4 0x43474F4C ++ leBytes 1 1 ++ leBytes 3 0 ++ leBytes 8 nonce ++ leBytes 8 s.serial ++ leBytes 4 auth
    ++ leBytes 4 0

/-- Every record at or below the floor becomes absent; earlier pins are removed with them (R410, R420). -/
def Dev.applyFloor (s : Dev) (f : Nat) : Dev :=
  let keep := fun (r : Rec) => decide (f < r.seq)
  (s.mapLog fun x => { x with ring := x.ring.filter keep, staging := x.staging.filter keep, holding := x.holding.filter keep }).mapLogP
    fun x => { x with mirror := x.mirror.filter keep, pins := 0 }

/-- LOG_CLEARED written and raised: pinned, and mirrored at once; byte 50 bit 0 tells a clear completed at start-up. -/
def Dev.logCleared (s : Dev) (auth floor : Nat) (late : Bool) : Dev :=
  let s := s.raiseSev .logCleared 7 0 [pU 16 4 auth] [pU 42 8 floor, pU 50 1 (b2n late)]
  match s.log.staging.getLast? with
  | some r => if r.code = 0x0A02 then s.mirrorRec r false else s
  | none => s

/-- A marker of a clear. -/
def ClearRun.mark (c : ClearRun) (st : MarkState) : Option ClearMark :=
  some { state := st, num := c.num, floor := c.floor, auth := c.auth, gt := c.gt }

/-- The next write of a clear (R420): a marker to slot A, then to slot B; between COMMITTED and DONE the records at or below the
floor become absent and LOG_CLEARED is written. DESIGN CHOICE (log entry 129): one write a tick, the device's pace being open. -/
def Dev.clearStep (s : Dev) : Dev :=
  match s.log.clear with
  | none => s
  | some c =>
    let slotA := fun (s : Dev) (st : MarkState) => s.mapLogP fun x => { x with slotA := c.mark st }
    let slotB := fun (s : Dev) (st : MarkState) => s.mapLogP fun x => { x with slotB := c.mark st }
    let s := s.mapLog fun x => { x with clear := if c.step < 7 then some { c with step := c.step + 1 } else none }
    match c.step with
    | 0 => slotA s .prepared
    | 1 => slotB s .prepared
    | 2 => slotA s .committed
    | 3 => slotB s .committed
    | 4 => (s.applyFloor c.floor).mapLogP fun x => { x with clears := c.num, clrFloor := c.floor, clrAuth := c.auth }
    | 5 => s.logCleared c.auth c.floor false
    | 6 => slotA s .done
    | _ => (slotB s .done).admSet c.sq c.dn (AdmRes.done 0 0)

/-- LOG_CLEAR: BUSY during a freeze, a flush or a clear before its response is checked (R122, R421). The clear then runs. -/
def Dev.opLogClear (s : Dev) (o : Otp) (sq : Nat) (b : List Byte) : Dev :=
  s.tryAdmit 0x73 sq b fun s dn =>
    if s.log.freeze.isSome || s.log.flushing || s.log.clear.isSome then s.refuse Stat.busy
    else
      let auth := leAt b 48 4
      let (ok, s) := s.checkAuth 1 auth o.logKey (s.clearMsg auth) (cut b 16 32)
      if !ok then s.refuse Stat.authFail
      else
        let c : ClearRun :=
          { sq := sq, dn := dn, num := s.logP.clears + 1, floor := s.log.seq - 1, auth := auth, gt := s.gt, step := 0 }
        (s.mapLog fun x => { x with clear := some c }, none)

def execLogClear (sq : Fin 32) (d : List Byte) (s : State) : Host.Outcome State Fault Refusal :=
  s.runO fun o v => v.opLogClear o sq.val d

/-! Start and geometry (R405, R416, R417, R422 to R424) -/

/-- The marker a start goes by: the slot with the higher clear number; of equal numbers the later state (R422). -/
def Dev.clearMark (s : Dev) : Option ClearMark :=
  match s.logP.slotA, s.logP.slotB with
  | some a, some b => if a.num < b.num then some b else if b.num < a.num then some a
      else if a.state = .prepared then some b else some a
  | some a, none => some a
  | none, b => b

/-- The clear markers judged at start-up; ring records at or below the floor are discarded and counted (R417, R422). -/
def Dev.clearRecover (s : Dev) : Dev :=
  match s.clearMark with
  | none => s
  | some m =>
    if m.state = .prepared then
      (s.note 0x800E 5 81 0 0 [pU 28 8 m.floor, pU 36 4 m.auth]).mapLogP fun x => { x with slotA := none, slotB := none }
    else
      let pay := leBytes 8 m.floor
      let here := (s.logP.mirror ++ s.log.ring).any fun r => r.code = 0x0A02 && cut r.pay 14 8 = pay
      let keep := fun (r : Rec) => decide (m.floor < r.seq)
      let s := s.incBy Reg.LOG_CNT_CRC (s.log.ring.filter fun r => !keep r).length
      let s := (s.mapLog fun x => { x with ring := x.ring.filter keep }).mapLogP fun x =>
        { x with mirror := x.mirror.filter keep }
      if here then s
      else
        let s := s.mapLogP fun x => { x with pins := 0, clears := m.num, clrFloor := m.floor, clrAuth := m.auth }
        let s := (s.logCleared m.auth m.floor true).flag Reg.LOG_STAT_CLR_RECOVERED true
        let done := some { m with state := .done }
        s.mapLogP fun x => { x with slotA := done, slotB := done }

/-- An incomplete flush reported at start-up (R416). The PFAIL record whose SEQ bounds the count is the newest one the
mirror holds: the flush does not write its own (log entry 110). -/
def Dev.flushRecover (s : Dev) : Dev :=
  match s.logP.flush with
  | .started p w =>
    let base := (s.logP.mirror.foldl (fun (m : Nat) (r : Rec) => if r.code = 0x800C then max m r.seq else m) 0)
    let n := (s.logP.mirror.filter fun r => r.flushed && decide (base < r.seq)).length
    ((s.note 0x800D 6 81 0 0 [pU 28 4 p, pU 32 4 n]).flag Reg.LOG_STAT_PF_INCOMPLETE true).mapLogP fun x =>
      { x with flush := .done p w }
  | _ => s

/-- What a start reads of the persistent device for a mirror region: what is there where it begins where the region in use begins;
elsewhere a region that was never initialised (R424; DESIGN CHOICE, log entry 130). -/
def LogPersist.readAt (x : LogPersist) (base size : Nat) : LogPersist :=
  if x.region.1 = base then { x with mirror := x.mirror.take ((size * 2 ^ 20 - 65536) / 64) }
  else { LogPersist.new with reserve := x.reserve, geom := x.geom }

/-- The Logbook's part of a start (R417, R424): the kept ring is read with the stored geometry, or with the reset values where it
is not valid; `bad` names ring records whose CRC fails, `torn` mirror records. Staging has taken records, numbered from the
reserve, since the reset. -/
def Dev.logStart (s : Dev) (bad torn : List Nat) : Dev :=
  let lost := (s.log.ring.filter fun r => bad.contains r.seq).length
  let geom := s.logP.geom.getD (22, 8, 8)
  let s := if s.logP.geom.isSome then s else s.mapLogP fun x => { x.readAt 8 8 with region := (8, 8) }
  let s := (s.incBy Reg.LOG_CNT_CRC lost).mapLog fun x =>
    { x with geom := geom, ring := x.ring.filter fun r => !bad.contains r.seq }
  let s := s.mapLogP fun x => { x with mirror := x.mirror.map fun r => { r with torn := r.torn || torn.contains r.seq } }
  ((s.flag Reg.LOG_STAT_READY true).flag Reg.LOG_STAT_P_READY true).logReserve.clearRecover.flushRecover

/-- The geometry taken into force and stored at SETUP_LOCK (R423, R424). A new mirror region holds no marker of the old
one; the reserve and the clear count go on. -/
def Dev.logGeometry (s : Dev) : Dev :=
  let g := (s.rd Reg.LOG_RING_LOG2SZ, s.rd Reg.LOG_PREG_BASE_MIB, s.rd Reg.LOG_PREG_SIZE_MIB)
  let old := s.log.geom
  let s := if old.2 != g.2 then s.mapLogP fun x =>
      { x with mirror := [], pins := 0, slotA := none, slotB := none, flush := .none, clrFloor := 0, clrAuth := 0 }
    else s
  let s := if old.1 != g.1 then
      (s.incBy Reg.LOG_CNT_CRC s.log.ring.length).mapLog fun x => { x with ring := [] }
    else s
  (s.mapLog fun x => { x with geom := g }).mapLogP fun x => { x with geom := some g, region := g.2 }

end Sys2Proof.Machine
end

