-- ==== Sys2Proof/Machine/Tracker.lean ====
section
/-! DEFINITION. The Tracker of a car engine (R154 to R181): position, landing table, recalibration, load. -/

namespace Sys2Proof.Machine

/-! Position states -/

def Pst.verified : Nat := 0
def Pst.unverified : Nat := 1
def Pst.unknown : Nat := 2
def Pst.unlearned : Nat := 3

/-- The position state of a car. -/
def Dev.pst (s : Dev) (n : Nat) : Nat := s.rd (Reg.TRK_STAT_PSTATE n)

/-- The published position and speed, µm and µm/s. -/
def Dev.pos (s : Dev) (n : Nat) : Int := s.rdI (Reg.TRK_POS n)
def Dev.spd (s : Dev) (n : Nat) : Int := s.rdI (Reg.TRK_SPD n)

/-- AT_REST. -/
def Dev.atRest (s : Dev) (n : Nat) : Bool := s.on (Reg.TRK_STAT_AT_REST n)

/-- POSITION_STATE of a car: byte 16, deviation; S5 whenever byte 16 is 2 (R118). -/
def Dev.posState (s : Dev) (n what : Nat) (dev : Int) : Dev :=
  s.raiseSev .positionState (if what = 2 then 5 else 4) n [pU 16 1 what, pI 20 4 dev] []

/-- The reading of the speed while ENC_LOST, and of the load while FAULT. -/
def noReading : Nat := 0x80000000

/-! The landing table (R158) -/

/-- A key that holds nothing reads 0. -/
def tabGet (t : List (Nat × Nat)) (key : Nat) : Nat := RegMap.get t key

/-- Word `w` of landing `l` of a car's table, signed. -/
def Dev.tabW (s : Dev) (n : Fin 16) (l w : Nat) : Int := toSigned 32 (tabGet (s.trk n).ltab (l * 8 + w))

/-- Floor level of a landing: the sum of the vane words, four times the offsets, over four, rounded toward zero. -/
def floorOf (t : List (Nat × Nat)) (ofs : Int) (l : Nat) : Int :=
  let w := fun k => toSigned 32 (tabGet t (l * 8 + k))
  let trim := toSigned 16 (tabGet t (l * 8 + 4))
  truncDiv (w 0 + w 1 + w 2 + w 3 + 4 * (ofs + trim)) 4

/-- FLOOR of a landing of a car. -/
def Dev.floor (s : Dev) (n : Fin 16) (l : Nat) : Int := floorOf (s.trk n).ltab (s.rdI (Reg.TRK_FLOOR_OFS n.val)) l

/-- |x| of an integer. -/
def absI (x : Int) : Int := Int.ofNat x.natAbs

/-- Whether a table is consistent (R158). -/
def Dev.tabOk (s : Dev) (n : Fin 16) (t : List (Nat × Nat)) : Bool :=
  let c := s.landings n.val
  let w := fun l k => toSigned 32 (tabGet t (l * 8 + k))
  decide (absI (floorOf t (s.rdI (Reg.TRK_FLOOR_OFS n.val)) 0) ≤ 1)
    && ((List.range c).all fun l =>
      decide (w l 0 < w l 1) && decide (w l 3 < w l 2)
        && decide (absI (w l 0 - w l 3) ≤ 20000) && decide (absI (w l 1 - w l 2) ≤ 20000))
    && ((List.range (c - 1)).all fun l =>
      decide (2 * (s.rd (Reg.TRK_REREF_MM n.val) * 1000 : Nat) ≤ absI (w (l + 1) 0 - w l 0)))

/-- Words 0 to 3 of one table with the TRIM words of another (R159, R160). -/
def withTrim (words trims : List (Nat × Nat)) : List (Nat × Nat) :=
  (trims.filter fun p => p.1 % 8 = 4).foldl (fun (t : List (Nat × Nat)) (p : Nat × Nat) => RegMap.set t p.1 p.2)
    (words.filter fun p => p.1 % 8 < 4)

/-! Position (R157) -/

/-- The direction sign d. -/
def Dev.encSign (s : Dev) (n : Nat) : Int := if s.on (Reg.TRK_ENC_CFG_DIR n) then -1 else 1

/-- Z of R157. -/
def Dev.encZero (s : Dev) (n : Nat) : Int :=
  if s.on (Reg.TRK_ENC_CFG_TYPE n) then (s.rd (Reg.TRK_SSI_ZERO n) : Int) else 0

/-- Position of a count given as the quotient `num / den`, without OFS. -/
def Dev.rawPos (s : Dev) (n : Nat) (num : Int) (den : Nat) : Int :=
  roundDiv (s.encSign n * (num - s.encZero n * den) * s.rd (Reg.TRK_ENC_SCALE n)) (65536 * den)

/-- Position of the present count with the offset in force. -/
def Dev.posNow (s : Dev) (n : Fin 16) : Int := s.rawPos n.val (s.trk n).cnt 1 + s.rdI (Reg.TRK_OFS n.val)

/-- The window of the speed: the shortest of 1 to 100 ms that holds 32 counts, else 100 ms; its length in ms and its
count change. A window longer than the samples held uses the oldest. -/
def speedWin (cnt : Int) (rest : List TickSmp) : Nat → Nat → Nat × Int
  | w, 0 => (w, cnt - ((rest[10 * w]?.map (·.last)).getD ((rest.getLast?.map (·.last)).getD cnt)))
  | w, n + 1 =>
    let d := cnt - ((rest[10 * w]?.map (·.last)).getD ((rest.getLast?.map (·.last)).getD cnt))
    if 32 ≤ absI d then (w, d) else speedWin cnt rest (w + 1) n

/-- Speed in µm/s at a count after the ticks `l`, newest first, rounded to nearest (the spec names no rounding, log
entry 13). -/
def Dev.speedOf (s : Dev) (n : Nat) (cnt : Int) (l : List TickSmp) : Int :=
  let (w, d) := speedWin cnt l 1 99
  roundDiv (s.encSign n * d * 1000 * s.rd (Reg.TRK_ENC_SCALE n)) (65536 * w)

/-- The speed of the present tick. -/
def Dev.speedNow (s : Dev) (n : Fin 16) : Int := s.speedOf n.val (s.trk n).cnt (s.trk n).rest

/-- The speed at a stamp (R163): that of the tick the stamp lies in (DEDUCED, log entry 105). -/
def Dev.speedAt (s : Dev) (n : Fin 16) (stamp : Nat) : Int :=
  let newest := ((s.trk n).hist.head?.map (·.1)).getD 0
  match (s.trk n).rest.drop (newest / tickNs - stamp / tickNs) with
  | x :: l => s.speedOf n.val x.last (x :: l)
  | [] => s.speedNow n

/-- AT_REST over the last 500 ms; 0 until 500 ms of samples stand (log entry 13). -/
def restNow (l : List TickSmp) : Bool :=
  match l with
  | [] => false
  | x :: _ =>
    decide (5000 ≤ l.length)
      && decide ((l.foldl (fun (m : Int) (y : TickSmp) => max m y.hi) x.hi)
          - (l.foldl (fun (m : Int) (y : TickSmp) => min m y.lo) x.lo) ≤ 4)

/-! Encoder samples (R156) -/

/-- The running counts of a list of changes, oldest first. -/
def counts (c : Int) : List Int → List Int
  | [] => []
  | d :: l => (c + d) :: counts (c + d) l

/-- Samples taken into the history: `l` oldest first, each with its GT. -/
def Trk.take (t : Trk) (l : List (Nat × Int)) : Trk :=
  match l.reverse with
  | [] => t
  | (g, c) :: r => { t with cnt := c, hist := (((g, c) :: r) ++ t.hist).take 256 }

/-- The counts of the tick that began at `g`, for speed and rest; without a sample the count stands. -/
def Trk.endTick (t : Trk) (g : Nat) : Trk :=
  let l := t.hist.takeWhile fun p => decide (g ≤ p.1)
  let c := (l.head?.map (·.2)).getD t.cnt
  let smp : TickSmp :=
    { lo := l.foldl (fun (m : Int) (y : Nat × Int) => min m y.2) c,
      hi := l.foldl (fun (m : Int) (y : Nat × Int) => max m y.2) c,
      last := t.cnt }
  { t with rest := (smp :: t.rest).take 5000 }

/-- A Gray code read as binary. -/
def gray (v : Nat) : Nat → Nat
  | 0 => 0
  | n + 1 => (v >>> n) ^^^ gray v n

/-- An SSI frame that is discarded: parity, or all ones, or all zeros (R156). -/
def Dev.ssiBadFrame (s : Dev) (n : Nat) (f : SsiFrame) : Bool :=
  let b := s.rd (Reg.TRK_ENC_CFG_SSI_BITS n)
  let d := f.data % 2 ^ b
  let ones := popcount b d + b2n f.parity
  d = 0 || d = 2 ^ b - 1
    || (s.rd (Reg.TRK_ENC_CFG_PAR n) = 1 && ones % 2 = 1) || (s.rd (Reg.TRK_ENC_CFG_PAR n) = 2 && ones % 2 = 0)

/-- The count after an accepted SSI value: the first is taken as it is, later ones step by less than half the code
range (R156). -/
def ssiCount (b : Nat) (t : Trk) (v : Nat) : Int :=
  match t.ssi with
  | none => (v : Int)
  | some o =>
    let d := (v + 2 ^ b - o) % 2 ^ b
    if d < 2 ^ (b - 1) then t.cnt + d else t.cnt + d - 2 ^ b

/-- ENC_LOST of a running engine (R170): a VERIFIED position becomes UNVERIFIED; the event is posted in every state. A
learn trip is aborted (R160). While it stands, a further loss starts the 100 ms of valid samples anew. -/
def Dev.encLost (s : Dev) (n : Fin 16) : Dev :=
  if !s.carOn n.val || !s.engineOn n.val then s
  else if s.on (Reg.TRK_STAT_ENC_LOST n.val) then s.mapTrk n fun t => { t with lostGt := s.gt }
  else
    let s := (s.flag (Reg.TRK_STAT_ENC_LOST n.val) true).wr (Reg.TRK_SPD n.val) noReading
    let s := if s.pst n.val = Pst.verified then s.wr (Reg.TRK_STAT_PSTATE n.val) Pst.unverified else s
    let s := s.mapTrk n fun t => { t with
      pair := none, lostGt := s.gt, learn := t.learn.map fun l => { l with aborted := true } }
    s.posState n.val 2 0x7FFFFFFF

/-- One SSI frame of the drive port: four discarded in a row are a loss, and while ENC_LOST stands each one discarded begins
the 100 ms of valid samples anew (R170). -/
def Dev.ssiFrame (s : Dev) (n : Fin 16) (g : Nat) (f : SsiFrame) : Dev :=
  if s.ssiBadFrame n.val f then
    let s := (s.inc (Reg.TRK_CNT_SSIERR n.val)).mapTrk n fun t => { t with ssiBad := t.ssiBad + 1 }
    if 4 ≤ (s.trk n).ssiBad || s.on (Reg.TRK_STAT_ENC_LOST n.val) then s.encLost n else s
  else
    let b := s.rd (Reg.TRK_ENC_CFG_SSI_BITS n.val)
    let d := f.data % 2 ^ b
    let v := if s.on (Reg.TRK_ENC_CFG_GRAY n.val) then gray d b else d
    s.mapTrk n fun t =>
      { t.take [(g, ssiCount b t v)] with ssi := some v, ssiBad := 0 }

/-- Whether the drive port clocks a second SSI frame in a tick (R156). -/
def Dev.ssiTwice (s : Dev) (n : Nat) : Bool :=
  decide (s.rd (Reg.TRK_ENC_CFG_SSI_BITS n) + b2n (s.on (Reg.TRK_ENC_CFG_PAR n)) + s.rd (Reg.TRK_ENC_CFG_MONO n) ≤ 50)

/-- The encoder samples of the tick that ended. -/
def Dev.encSamples (s : Dev) (n : Fin 16) (g : Nat) (e : EncIn) : Dev :=
  match e with
  | .abz l =>
    if s.on (Reg.TRK_ENC_CFG_TYPE n.val) then s
    else
      let c := counts (s.trk n).cnt (l ++ List.replicate (10 - l.length) 0)
      s.mapTrk n fun t => t.take ((List.range 10).map fun i => (g + 10000 * i, c.getD i t.cnt))
  | .ssi l =>
    if s.on (Reg.TRK_ENC_CFG_TYPE n.val) then
      let l := if s.ssiTwice n.val then l.take 2 else l.take 1
      ((List.range l.length).foldl (fun (s : Dev) (i : Nat) =>
        match l[i]? with
        | some f => s.ssiFrame n (g + 50000 * i) f
        | none => s) s)
    else s

/-- The samples of the tick that began at `g`, and what they say of the tick. -/
def Dev.encTick (s : Dev) (n : Fin 16) (g : Nat) (e : EncIn) : Dev :=
  (s.encSamples n g e).mapTrk n fun t => t.endTick g

/-! Index pulses (R171, R172) -/

/-- The deviation of a count from the index reference, mapped to the range above −CPR/2 up to CPR/2. -/
def idxDev (count : Int) (ref cpr : Nat) : Int :=
  let m := (count - ref) % (cpr : Int)
  if 2 * m ≤ cpr then m else m - cpr

/-- INDEX_FAULT: encoder, consecutive faults, SUSPECT, deviation. -/
def Dev.indexFault (s : Dev) (n enc run : Nat) (sus : Bool) (dev : Int) : Dev :=
  s.raise .indexFault n [pU 16 1 enc, pU 17 1 run, pU 18 1 (b2n sus), pI 20 4 dev]

/-- An index pulse of the drive encoder at a count. A correction moves the samples held with the count, so that every edge
handled after it is measured on the corrected count (R172). -/
def Dev.driveIndex (s : Dev) (n : Fin 16) (count : Int) : Dev :=
  let cpr := s.rd (Reg.TRK_ENC_CPR n.val)
  if cpr = 0 || !s.on (Reg.TRK_ENC_CFG_Z_EN n.val) || s.on (Reg.TRK_ENC_CFG_TYPE n.val) || !s.engineOn n.val then s
  else if !(s.trk n).zValid then
    (s.wr (Reg.TRK_ENC_CPR_Z_REF n.val) (count % (cpr : Int)).toNat).mapTrk n fun t => { t with zValid := true }
  else
    let d := idxDev count (s.rd (Reg.TRK_ENC_CPR_Z_REF n.val)) cpr
    let sus := s.on (Reg.TRK_STAT_SUSPECT n.val)
    if absI d ≤ 4 then
      let s := (s.inc (Reg.TRK_CNT_IDXCOR n.val)).mapTrk n fun t => { t with
          cnt := t.cnt - d
          hist := t.hist.map fun p => (p.1, p.2 - d) }
      let s := s.wr (Reg.TRK_IDX_STAT_CONSEC n.val) 0
      if sus then
        let s := s.inc (Reg.TRK_IDX_STAT_GOOD_RUN n.val)
        if s.rd (Reg.TRK_IDX_STAT_GOOD_RUN n.val) = 8 then
          ((s.flag (Reg.TRK_STAT_SUSPECT n.val) false).wr (Reg.TRK_IDX_STAT_GOOD_RUN n.val) 0).indexFault n.val 0 0 false d
        else s
      else s
    else
      let s := s.inc (Reg.TRK_CNT_IDXFLT n.val)
      let s := (s.wr (Reg.TRK_IDX_STAT_CONSEC n.val) (min 3 (s.rd (Reg.TRK_IDX_STAT_CONSEC n.val) + 1))).wr
        (Reg.TRK_IDX_STAT_GOOD_RUN n.val) 0
      let s := if s.rd (Reg.TRK_IDX_STAT_CONSEC n.val) = 3 then s.flag (Reg.TRK_STAT_SUSPECT n.val) true else s
      s.indexFault n.val 0 (s.rd (Reg.TRK_IDX_STAT_CONSEC n.val)) (s.on (Reg.TRK_STAT_SUSPECT n.val)) d

/-! Corrections (R164, R165) -/

/-- A remaining slew put in place of the one before and of a step not yet applied. -/
def Dev.setSlew (s : Dev) (n : Fin 16) (r : Int) : Dev :=
  ((s.wrI (Reg.TRK_SLEW_REM n.val) r).flag (Reg.TRK_STAT_SLEWING n.val) (r != 0)).mapTrk n fun t => { t with step := none }

/-- A step put in place of every outstanding correction. -/
def Dev.setStep (s : Dev) (n : Fin 16) (d : Int) : Dev := (s.setSlew n 0).mapTrk n fun t => { t with step := some d }

/-- Entry to UNVERIFIED with a deviation. -/
def Dev.unverify (s : Dev) (n : Fin 16) (dev : Int) : Dev :=
  let s := (s.wr (Reg.TRK_STAT_PSTATE n.val) Pst.unverified).mapTrk n fun t => { t with pair := none, missRun := 0 }
  s.posState n.val 2 dev

/-- W1, W2 and the re-reference window, µm. -/
def Dev.w1 (s : Dev) (n : Nat) : Int := (s.rd (Reg.TRK_WIN_W1_MM n) * 1000 : Nat)
def Dev.w2 (s : Dev) (n : Nat) : Int := (s.rd (Reg.TRK_WIN_W2_MM n) * 1000 : Nat)
def Dev.wRef (s : Dev) (n : Nat) : Int := (s.rd (Reg.TRK_REREF_MM n) * 1000 : Nat)

/-- POSITION_STEP at the start of a tick (R165). TRK_CNT_STEP counts steps within W2: the step of a re-reference may lie
beyond. -/
def Dev.posStep (s : Dev) (n : Fin 16) : Dev :=
  match (s.trk n).step with
  | some d =>
    let s := s.wrI (Reg.TRK_OFS n.val) (s.rdI (Reg.TRK_OFS n.val) + d)
    let s := if absI d ≤ s.w2 n.val then s.inc (Reg.TRK_CNT_STEP n.val) else s
    s.mapTrk n fun t => { t with step := none, stepFlag := true }
  | none => if (s.trk n).stepFlag then s.mapTrk n fun t => { t with stepFlag := false } else s

/-- POSITION_SLEW at the start of a tick (R165). -/
def Dev.posSlew (s : Dev) (n : Fin 16) : Dev :=
  let r := s.rdI (Reg.TRK_SLEW_REM n.val)
  if r = 0 then s
  else
    let m := clampI (-1000) 1000 r
    let s := (s.wrI (Reg.TRK_OFS n.val) (s.rdI (Reg.TRK_OFS n.val) + m)).wrI (Reg.TRK_SLEW_REM n.val) (r - m)
    if r = m then (s.flag (Reg.TRK_STAT_SLEWING n.val) false).inc (Reg.TRK_CNT_SLEW n.val) else s

/-! Vane edges (R163 to R169) -/

/-- The landing whose word `k` lies nearest to a position. -/
def Dev.nearWord (s : Dev) (n : Fin 16) (k : Nat) (p : Int) : Nat :=
  (List.range (s.landings n.val)).foldl (fun (b l : Nat) =>
    if absI (s.tabW n l k - p) < absI (s.tabW n b k - p) then l else b) 0

/-- Position at a stamp by interpolation between the two samples around it; none outside the history (R163). -/
def Dev.posAt (s : Dev) (n : Fin 16) (stamp : Nat) : Option Int :=
  let h := (s.trk n).hist
  match h.find? (fun p => p.1 ≤ stamp), (h.reverse.find? fun p => stamp ≤ p.1) with
  | some (g0, c0), some (g1, c1) =>
    let den := if g0 < g1 then g1 - g0 else 1
    some (s.rawPos n.val (c0 * den + (c1 - c0) * (stamp - g0 : Nat)) den + s.rdI (Reg.TRK_OFS n.val))
  | _, _ => none

/-- An input of a car as the newest snapshot has it; 0xFF reads inactive (R252). -/
def Dev.snapIn (s : Dev) (n : Fin 16) (i : Nat) : Bool :=
  match (s.ilk n).snap with
  | some p => decide (i < 32) && bit p.inputs i
  | none => false

/-- A usable edge in state VERIFIED (R164). -/
def Dev.edgeVerified (s : Dev) (n : Fin 16) (k : Nat) (p : Int) : Dev :=
  let l := s.nearWord n k p
  let dev := s.tabW n l k - p
  let s := s.mapTrk n fun t => { t with missRun := 0, lastVane := some l }
  if absI dev ≤ s.w1 n.val then s.setSlew n dev
  else if absI dev ≤ s.w2 n.val then (s.setStep n dev).posState n.val 1 dev
  else (s.setSlew n 0).unverify n dev

/-- A usable edge in state UNVERIFIED (R167). -/
def Dev.edgeUnverified (s : Dev) (n : Fin 16) (k : Nat) (p : Int) : Dev :=
  let l := s.nearWord n k p
  let dev := s.tabW n l k - p
  if s.wRef n.val < absI dev then s.mapTrk n fun t => { t with pair := none }
  else match (s.trk n).pair with
    | some d1 =>
      if absI (dev - d1) ≤ s.w1 n.val && !s.on (Reg.TRK_STAT_DZ_NONE n.val) && !s.on (Reg.TRK_STAT_ENC_LOST n.val) then
        let s := (s.wr (Reg.TRK_STAT_PSTATE n.val) Pst.verified).setStep n dev
        let s := s.mapTrk n fun t => { t with pair := none, missRun := 0, lastVane := some l }
        (s.inc (Reg.TRK_CNT_REREF n.val)).posState n.val 0 dev
      else s.mapTrk n fun t => { t with pair := some dev }
    | none => s.mapTrk n fun t => { t with pair := some dev }

/-- The edge of L0 that ends a reference run (R168): UU in a creep up, UD in a creep down, with BOT_IN active. -/
def Dev.edgeUnknown (s : Dev) (n : Fin 16) (k : Nat) (p : Int) : Dev :=
  let up := (s.mot n).up
  if s.snapIn n (s.rd (Reg.TRK_CTRL_BOT_IN n.val)) && ((k = 1 && up) || (k = 2 && !up)) then
    let dev := s.tabW n 0 k - p
    let s := (s.setSlew n 0).wrI (Reg.TRK_OFS n.val) (s.rdI (Reg.TRK_OFS n.val) + dev)
    let s := (s.wr (Reg.TRK_STAT_PSTATE n.val) Pst.verified).inc (Reg.TRK_CNT_REREF n.val)
    let s := s.mapTrk n fun t => { t with pair := none, missRun := 0, lastVane := some 0 }
    s.posState n.val 0 dev
  else s

/-- What a learn trip records at an edge of DZ_A (R160): the words of the vane passed, counted from L0 up and from the top
vane down; the trip's own steps follow the edges. -/
def Learn.edge (l : Learn) (cnt k : Nat) (p : Int) : Learn :=
  let put := fun (l : Learn) (land : Nat) =>
    { l with tab := RegMap.set l.tab (land * 8 + k) (ofSigned 32 p), edgeA := { kind := k, pos := p } :: l.edgeA }
  if l.phase = 1 then (if k = 3 then { put l 0 with phase := 2 } else l)
  else if l.phase = 2 then
    if k = 0 then { put l l.up with up := l.up + 1 }
    else if k = 1 then
      let l := put l (l.up - 1)
      if l.up = cnt then { l with phase := 4 } else l
    else l
  else if l.phase = 4 then
    if k = 2 then
      let l := put l (cnt - 1 - l.dn')
      let l := { l with dn' := l.dn' + 1 }
      if l.dn' = cnt then { l with phase := 5 } else l
    else if k = 3 then put l (cnt - l.dn')
    else l
  else l

/-- An edge taken by a learn trip: one of DZ_A, or of DZ_B where that stands in for DZ_A, marks a vane; one of the other
input serves TRK_DZB_OFS (R160, R169). -/
def Dev.edgeLearn (s : Dev) (n : Fin 16) (dzB : Bool) (k : Nat) (p : Int) : Dev :=
  let c := s.landings n.val
  let src := s.on (Reg.TRK_STAT_DZ_SRC n.val)
  let ofs := s.rdI (Reg.TRK_DZB_OFS n.val)
  let take := fun (l : Learn) =>
    if dzB then (if src then l.edge c k (p - ofs) else { l with edgeB := { kind := k, pos := p } :: l.edgeB })
    else if src then l
    else l.edge c k p
  let s := s.mapTrk n fun t => { t with learn := t.learn.map take }
  match (s.trk n).learn with
  | some l => (s.wr (Reg.TRK_LEARN_STAT_VANES_UP n.val) l.up).wr (Reg.TRK_LEARN_STAT_VANES_DN n.val) l.dn'
  | none => s

/-- An edge of DZ_A or DZ_B handled. The input that the Tracker does not use is ignored outside a learn trip; an edge below
5 mm/s is ignored; a stamp before the history is counted (R163, R169). DESIGN CHOICE (log entry 121): a learn trip records an edge in place of what R164 to
R168 make of it. -/
def Dev.takeEdge (s : Dev) (n : Fin 16) (dzB active : Bool) (stamp : Nat) : Dev :=
  let learning := (s.trk n).learn.isSome
  let late := match (s.trk n).hist.getLast? with
    | some h => decide (stamp < h.1)
    | none => false
  if s.on (Reg.TRK_STAT_DZ_NONE n.val) || (!learning && dzB != s.on (Reg.TRK_STAT_DZ_SRC n.val)) then s
  else match s.posAt n stamp with
    | none => if late then s.inc (Reg.TRK_CNT_LATEEDGE n.val) else s
    | some p =>
      let v := s.speedAt n stamp
      if s.on (Reg.TRK_STAT_ENC_LOST n.val) || absI v < 5000 then s
      else
        let up := decide (0 < v)
        let k := if up then (if active then 0 else 1) else (if active then 2 else 3)
        if learning then s.edgeLearn n dzB k p
        else
          let p := if dzB then p - s.rdI (Reg.TRK_DZB_OFS n.val) else p
          if s.pst n.val = Pst.verified then s.edgeVerified n k p
          else if s.pst n.val = Pst.unverified then s.edgeUnverified n k p
          else if s.pst n.val = Pst.unknown then s.edgeUnknown n k p
          else s

/-- The newest sample of the history is as new as a stamp, or none will come while the encoder is lost. -/
def Dev.sampled (s : Dev) (n : Fin 16) (stamp : Nat) : Bool :=
  s.on (Reg.TRK_STAT_ENC_LOST n.val) || (match (s.trk n).hist.head? with
    | some h => decide (stamp ≤ h.1)
    | none => false)

/-- VANE_EDGE: an edge of DZ_A or DZ_B with its stamp. It waits for the next tick, behind the index corrections of this
one (R172), and one newer than the newest sample for the sample after it. -/
def Dev.vaneEdge (s : Dev) (n : Fin 16) (dzB active : Bool) (stamp : Nat) : Dev :=
  let s := s.mapTrk n fun t => { t with lastEdge := max t.lastEdge stamp }
  if !s.carOn n.val || !s.engineOn n.val then s
  else s.mapTrk n fun t => { t with edges := t.edges ++ [(dzB, active, stamp)] }

/-- The waiting edges whose sample has come. -/
def Dev.edgeTick (s : Dev) (n : Fin 16) : Dev :=
  let l := (s.trk n).edges
  if l.isEmpty then s
  else
    let (now, later) := l.partition fun e => s.sampled n e.2.2
    now.foldl (fun (s : Dev) (e : Bool × Bool × Nat) => s.takeEdge n e.1 e.2.1 e.2.2)
      (s.mapTrk n fun t => { t with edges := later })

def execVaneEdge (n : Fin 16) (dzB active : Bool) (stamp : Nat) (s : State) : Host.Outcome State Fault Refusal :=
  s.run fun d => d.vaneEdge n dzB active stamp

/-- The door-zone inputs as Colander marks them: IN29 stands in for IN28, and with both marked the position becomes
UNVERIFIED; a car without a table stays UNLEARNED (R159, R169, log entry 105). -/
def Dev.dzMarks (s : Dev) (n : Fin 16) (aBad bBad : Bool) : Dev :=
  let s := (s.flag (Reg.TRK_STAT_DZ_SRC n.val) (aBad && !bBad))
  if aBad && bBad then
    if s.on (Reg.TRK_STAT_DZ_NONE n.val) then s
    else
      let s := s.flag (Reg.TRK_STAT_DZ_NONE n.val) true
      if s.pst n.val = Pst.verified || s.pst n.val = Pst.unknown then s.unverify n 0 else s
  else s.flag (Reg.TRK_STAT_DZ_NONE n.val) false

/-- ENC_LOST: the drive port reports loss of the A/B/Z signal (R170). -/
def execEncLost (n : Fin 16) (s : State) : Host.Outcome State Fault Refusal := s.run fun d => d.encLost n

/-- ENC_LOST_CLEAR: 100 ms of valid samples since the last sign of loss; the position is recomputed from the count and the
offset (R170), and the next index pulse sets the reference (R171). -/
def Dev.encLostClear (s : Dev) (n : Fin 16) : Dev :=
  if s.on (Reg.TRK_STAT_ENC_LOST n.val) && decide ((s.trk n).lostGt + 100000000 ≤ s.gt) then
    let s := (s.flag (Reg.TRK_STAT_ENC_LOST n.val) false).mapTrk n fun t => { t with zValid := false, ssiBad := 0 }
    s.wrI (Reg.TRK_POS n.val) (s.posNow n)
  else s

def execEncLostClear (n : Fin 16) (s : State) : Host.Outcome State Fault Refusal := s.run fun d => d.encLostClear n

/-! Publishing (R154) -/

/-- A missed vane (R166): the position passed the entry word of a landing by more than W2 in this tick and no usable edge
of that landing has been used. DESIGN CHOICE (log entry 121): a learn trip counts none. -/
def Dev.missTick (s : Dev) (n : Fin 16) (p0 p : Int) : Dev :=
  if s.pst n.val != Pst.verified || s.on (Reg.TRK_STAT_ENC_LOST n.val) || (s.trk n).learn.isSome then s
  else
    let w2 := s.w2 n.val
    let crossed := (List.range (s.landings n.val)).find? fun l =>
      if p0 < p then p0 ≤ s.tabW n l 0 + w2 && decide (s.tabW n l 0 + w2 < p)
      else if p < p0 then decide (s.tabW n l 2 - w2 ≤ p0) && decide (p < s.tabW n l 2 - w2) else false
    match crossed with
    | none => s
    | some l =>
      if (s.trk n).lastVane = some l then s
      else
        let s := (s.inc (Reg.TRK_CNT_MISS n.val)).mapTrk n fun t => { t with lastVane := some l, missRun := t.missRun + 1 }
        if 2 ≤ (s.trk n).missRun then s.unverify n 0 else s

/-- The door-zone input that the Tracker uses is active in the newest snapshot (R169, R236). -/
def Dev.dzActive (s : Dev) (n : Fin 16) : Bool := s.snapIn n (if s.on (Reg.TRK_STAT_DZ_SRC n.val) then 29 else 28)

/-- The state R173 gives, judged at the first tick that has a position and, for SSI, a snapshot showing DZ_A; entry to a
state other than VERIFIED is posted. With both door-zone inputs marked the state is UNVERIFIED (R169). -/
def Dev.judgeStart (s : Dev) (n : Fin 16) : Dev :=
  let ssi := s.on (Reg.TRK_ENC_CFG_TYPE n.val)
  if !(s.trk n).judge || (ssi && ((s.trk n).ssi.isNone || (s.ilk n).snap.isNone)) then s
  else
    let s := s.mapTrk n fun t => { t with judge := false }
    if s.rd (Reg.TRK_STAT_TABLE n.val) = 0 then (s.wr (Reg.TRK_STAT_PSTATE n.val) Pst.unlearned).posState n.val 2 0
    else if s.on (Reg.TRK_STAT_DZ_NONE n.val) then s.unverify n 0
    else if !ssi then (s.wr (Reg.TRK_STAT_PSTATE n.val) Pst.unknown).posState n.val 2 0
    else
      let p := s.posNow n
      let near := (List.range (s.landings n.val)).any fun l => decide (absI (p - s.floor n l) ≤ s.w2 n.val)
      if s.dzActive n && near then s.wr (Reg.TRK_STAT_PSTATE n.val) Pst.verified else s.unverify n 0

/-- The direction changes at a position: a vane left behind has its edges to come again; inside a vane, its edge has arrived
(R166). -/
def Dev.turnVane (s : Dev) (n : Fin 16) (p : Int) : Dev :=
  let inside := fun (l : Nat) =>
    decide (min (s.tabW n l 0) (s.tabW n l 3) ≤ p) && decide (p ≤ max (s.tabW n l 1) (s.tabW n l 2))
  s.mapTrk n fun t => { t with lastVane := t.lastVane.filter inside }

/-- TRACKER_PUBLISH at the start of a tick: corrections, then position, speed, direction and AT_REST; while ENC_LOST the
position holds. -/
def Dev.trkTick (s : Dev) (n : Fin 16) (e : EncIn) (g : Nat) : Dev :=
  let s := s.encTick n g e
  let s := (((s.wrI (Reg.TRK_ENC_CNT n.val) (s.trk n).cnt).posStep n).edgeTick n).posSlew n
  let s := s.flag (Reg.TRK_STAT_AT_REST n.val) (restNow (s.trk n).rest)
  if s.on (Reg.TRK_STAT_ENC_LOST n.val) then s
  else
    let p := s.posNow n
    let v := s.speedNow n
    let s := (s.wrI (Reg.TRK_POS n.val) p).wrI (Reg.TRK_SPD n.val) v
    let p0 := (s.trk n).pos0
    let down := decide (v < 0)
    let s := if v = 0 || s.on (Reg.TRK_STAT_DIR n.val) = down then s
      else (s.flag (Reg.TRK_STAT_DIR n.val) down).turnVane n p
    let s := s.missTick n p0 p
    (s.mapTrk n fun t => { t with pos0 := p }).judgeStart n

/-! Adoption and start-up (R159, R173) -/

/-- A car that has adopted a table waits for its first position in the state the table's encoder allows; without a table
it is UNLEARNED (R159, R173). -/
def Dev.trkStart (s : Dev) (n : Fin 16) : Dev :=
  let st :=
    if s.rd (Reg.TRK_STAT_TABLE n.val) = 0 then Pst.unlearned
    else if s.on (Reg.TRK_ENC_CFG_TYPE n.val) then Pst.unverified
    else Pst.unknown
  (s.wr (Reg.TRK_STAT_PSTATE n.val) st).mapTrk n fun t => { t with judge := true }

/-- TABLE_ADOPTION at SETUP_LOCK (R159): the stored learned table, else the preset one. -/
def Dev.adoptTable (s : Dev) (n : Fin 16) : Dev :=
  let pre := (s.trk n).ltab
  match s.nv.learned[n] with
  | some t =>
    if t.count = s.landings n.val && s.tabOk n (withTrim t.words pre) then
      let s := (s.wr (Reg.TRK_STAT_TABLE n.val) 2).wr (Reg.TRK_SSI_ZERO n.val) t.ssiZero
      (s.mapTrk n fun x => { x with ltab := withTrim t.words pre }).trkStart n
    else if s.on (Reg.TRK_CTRL_TAB_PRESET n.val) && s.tabOk n pre then
      (s.wr (Reg.TRK_STAT_TABLE n.val) 1).trkStart n
    else s.trkStart n
  | none =>
    if s.on (Reg.TRK_CTRL_TAB_PRESET n.val) && s.tabOk n pre then
      (s.wr (Reg.TRK_STAT_TABLE n.val) 1).trkStart n
    else s.trkStart n

/-! The learn trip (R160 to R162) -/

/-- The car stands at L0 (R161). -/
def Dev.atL0 (s : Dev) (n : Fin 16) : Bool :=
  s.atRest n.val && s.snapIn n 28
    && (if s.pst n.val = Pst.unlearned then
          s.rd (Reg.TRK_CTRL_BOT_IN n.val) = 0xFF || s.snapIn n (s.rd (Reg.TRK_CTRL_BOT_IN n.val))
        else decide (absI (s.pos n.val - s.floor n 0) ≤ s.w2 n.val))

/-- Every fitted door of a car is CLOSED_LOCKED, by the engine's mirror. -/
def Dev.doorsLocked (s : Dev) (n : Nat) : Bool :=
  (List.range 2).all fun d => !bit (s.fitted n) d || s.rd (Reg.DOR_STAT_STATE n d) = 1

/-- LEARN_TRIP admitted (R111, R160); its completion waits for the end of the trip. -/
def Dev.opLearn (s : Dev) (sq : Nat) (b : List Byte) : Dev :=
  s.tryAdmit 0x25 sq b fun s dn =>
    let n := Fin.ofNat 16 (dIndex b)
    match s.ownership 0x25 b with
    | some st =>
      if (s.trk n).learn.isSome || s.rd (Reg.ILK_STAT_MODE n.val) != 5 || !s.atL0 n || !s.doorsLocked n.val then
        s.refuse Stat.busy
      else s.refuse st
    | none =>
      if (s.trk n).learn.isSome || s.rd (Reg.ILK_STAT_MODE n.val) != 5 || !s.atL0 n || !s.doorsLocked n.val then
        s.refuse Stat.busy
      else
        let l : Learn :=
          { sq := sq, dn := dn, phase := 1, up := 0, dn' := 0, tab := [], edgeA := [], edgeB := [], aborted := false }
        let s := (s.mapTrk n fun t => { t with learn := some l }).flag (Reg.TRK_STAT_LEARNING n.val) true
        ((s.wr (Reg.TRK_LEARN_STAT_VANES_UP n.val) 0).wr (Reg.TRK_LEARN_STAT_VANES_DN n.val) 0, none)

def execLearnTrip (sq : Fin 32) (d : List Byte) (s : State) : Host.Outcome State Fault Refusal :=
  s.run fun v => v.opLearn sq.val d

/-- Words 0 to 3 of a recorded table moved by `x` µm. -/
def shiftTab (t : List (Nat × Nat)) (x : Int) : List (Nat × Nat) :=
  t.foldl (fun (u : List (Nat × Nat)) (p : Nat × Nat) => RegMap.set u p.1 (ofSigned 32 (toSigned 32 p.2 + x))) []

/-- TRK_DZB_OFS after a learn trip: the mean of (DZ_B − DZ_A) over the edges, each DZ_A edge with the nearest DZ_B edge
of its kind. -/
def dzbMean (a b : List LearnEdge) : Int :=
  let d := a.filterMap fun x =>
    let m := b.filter fun y => y.kind = x.kind
    match m with
    | [] => none
    | y :: r =>
      let z := r.foldl (fun (z w : LearnEdge) => if absI (w.pos - x.pos) < absI (z.pos - x.pos) then w else z) y
      some (z.pos - x.pos)
  if d.isEmpty then 0 else truncDiv d.sum d.length

/-- The new table adopted and stored (R160, R162): positions shifted so that L0's FLOOR is 0; for SSI the count there is
the new zero, for A/B/Z the offset takes the shift. -/
def Dev.learnAdopt (s : Dev) (n : Fin 16) (l : Learn) : Dev :=
  let trims := (s.trk n).ltab
  let raw := withTrim l.tab trims
  let x := -floorOf raw (s.rdI (Reg.TRK_FLOOR_OFS n.val)) 0
  let t := withTrim (shiftTab l.tab x) trims
  let s := if l.edgeB.isEmpty then s else s.wrI (Reg.TRK_DZB_OFS n.val) (dzbMean l.edgeA l.edgeB)
  let s := (s.setSlew n 0).mapTrk n fun y => { y with ltab := t, pair := none, missRun := 0, lastVane := none }
  let p := s.posNow n + x
  let s :=
    if s.on (Reg.TRK_ENC_CFG_TYPE n.val) then
      -- the zero is the count at which the shifted position, without OFS, reads 0
      let sc := s.rd (Reg.TRK_ENC_SCALE n.val)
      let z := (s.trk n).cnt - s.encSign n.val * roundDiv (p * 65536) (max sc 1)
      (s.wrI (Reg.TRK_SSI_ZERO n.val) z).wr (Reg.TRK_OFS n.val) 0
    else s.wrI (Reg.TRK_OFS n.val) (s.rdI (Reg.TRK_OFS n.val) + x)
  let s := (s.wrI (Reg.TRK_POS n.val) (s.posNow n)).mapTrk n fun y => { y with pos0 := s.posNow n }
  let s := s.mapNv fun v => { v with learned := v.learned.set n (some
    { count := s.landings n.val, words := t.filter fun q => q.1 % 8 < 4, ssiZero := s.rd (Reg.TRK_SSI_ZERO n.val) }) }
  let s := (s.wr (Reg.TRK_STAT_TABLE n.val) 2).wr (Reg.TRK_STAT_PSTATE n.val) Pst.verified
  s.posState n.val 0 0

/-- LEARN_TRIP_END (R160): the car has stopped at the end of step 5 or on abort; RESULT, then the completion, OK in every
case. -/
def Dev.learnEnd (s : Dev) (n : Fin 16) : Dev :=
  match (s.trk n).learn with
  | none => s
  | some l =>
    let c := s.landings n.val
    let raw := withTrim l.tab (s.trk n).ltab
    let x := -floorOf raw (s.rdI (Reg.TRK_FLOOR_OFS n.val)) 0
    let res := if l.aborted then 3 else if l.up != c || l.dn' != c then 2
      else if s.tabOk n (withTrim (shiftTab l.tab x) (s.trk n).ltab) then 1 else 4
    let s := (s.mapTrk n fun t => { t with learn := none }).flag (Reg.TRK_STAT_LEARNING n.val) false
    let s := s.wr (Reg.TRK_LEARN_STAT_RESULT n.val) res
    let s := if res = 1 then s.learnAdopt n l else s
    s.admSet l.sq l.dn (AdmRes.done 0 0)

/-- A learn trip aborted by a mode change, an interlock stop, the loss of the lease or of the encoder (R160): RESULT 3. -/
def Dev.learnAbort (s : Dev) (n : Fin 16) : Dev :=
  s.mapTrk n fun t => { t with learn := t.learn.map fun l => { l with aborted := true } }

/-- An aborted learn trip whose car this engine no longer moves ends at once. -/
def Dev.learnDrop (s : Dev) (n : Fin 16) : Dev :=
  if (s.trk n).learn.isSome then (s.learnAbort n).learnEnd n else s

/-- A learn trip is over: aborted, at the end of step 5 with its trip done, or at rest in a pass that found no further vane
(R160, R161). -/
def Dev.learnOver (s : Dev) (n : Fin 16) : Bool :=
  match (s.trk n).learn with
  | some l =>
    let done := match (s.mot n).trip with
      | some t => decide (t.phase = .ended)
      | none => true
    l.aborted || (l.phase = 5 && done) || ((l.phase = 2 || l.phase = 4) && s.atRest n.val)
  | none => false

/-- LEARN_TRIP_END, where the learn trip is over. -/
def Dev.learnFinish (s : Dev) (n : Fin 16) : Dev := if s.learnOver n then s.learnEnd n else s

def execLearnTripEnd (n : Fin 16) (s : State) : Host.Outcome State Fault Refusal := s.run fun d => d.learnFinish n

/-! Load weighing (R175 to R180) -/

/-- The load in g of a code under a zero (R175). -/
def Dev.loadOf (s : Dev) (n : Nat) (raw zero : Int) : Int :=
  truncDiv ((raw - zero) * s.rdI (Reg.TRK_LW_GAIN n)) 65536

/-- LOAD_STATE of a car: `cap` where a zero was captured; S5 on overload and on a bridge fault (R118, R179). -/
def Dev.loadState (s : Dev) (n sev : Nat) (cap : Bool) : Dev :=
  s.raiseSev .loadState sev n
    [pU 16 1 (s.rd (Reg.TRK_LOAD_STAT_OVERLOAD n) + 2 * s.rd (Reg.TRK_LOAD_STAT_STALE_ZERO n) + 4 * b2n cap),
     pU 20 4 (s.rd (Reg.TRK_LOAD n))] []

/-- OVERLOAD put to a value; a change is posted. -/
def Dev.setOverload (s : Dev) (n : Nat) (b : Bool) : Dev :=
  if s.on (Reg.TRK_LOAD_STAT_OVERLOAD n) = b then s
  else (s.flag (Reg.TRK_LOAD_STAT_OVERLOAD n) b).loadState n (if b then 5 else 3) false

/-- OVERLOAD evaluated at rest (R178). -/
def Dev.overloadEval (s : Dev) (n : Nat) : Dev :=
  if !s.atRest n || s.on (Reg.TRK_LOAD_STAT_FAULT n) then s
  else
    let r : Int := (s.rd (Reg.TRK_LW_CFG_RATED_KG n) * 1000 : Nat)
    let load := s.rdI (Reg.TRK_LOAD n)
    -- the thresholds of R178 multiplied by 100
    let th := r * s.rd (Reg.TRK_LW_CFG_OVL_PCT n)
      - (if s.on (Reg.TRK_LOAD_STAT_STALE_ZERO n) then r * s.rd (Reg.TRK_LW_CFG_MARGIN_PCT n) else 0)
    if th ≤ load * 100 then s.setOverload n true
    else if load * 100 < th - r * 2 then s.setOverload n false
    else s

/-- A bridge fault declared (R179). -/
def Dev.bridgeFault (s : Dev) (n : Fin 16) : Dev :=
  let s := (s.flag (Reg.TRK_LOAD_STAT_FAULT n.val) true).wr (Reg.TRK_LOAD n.val) noReading
  let s := (s.wr (Reg.TRK_LOAD_STAT_OVERLOAD n.val) (s.rd (Reg.TRK_LW_CFG_FAULT_OVL n.val))).mapTrk n fun t =>
    { t with okLoad := 0 }
  s.loadState n.val 5 false

/-- Conditions of a zero capture (R176): at rest, every door CLOSED_LOCKED, no car call, no trip. -/
def Dev.captureOk (s : Dev) (n : Fin 16) : Bool :=
  s.atRest n.val && s.doorsLocked n.val && !s.on (Reg.MOT_STAT_TRIP n.val)
    && !((s.mot n).calls.any fun c => c.kind = 0)

/-- The steady window of R176 and the capture it allows. -/
def Dev.captureTry (s : Dev) (n : Fin 16) (code : Int) : Dev :=
  let s := if s.atRest n.val then s else s.mapTrk n fun t => { t with captured := false }
  if !s.captureOk n then (s.flag (Reg.TRK_LOAD_STAT_STEADY n.val) false).mapTrk n fun t => { t with lwin := [] }
  else
    let s := s.mapTrk n fun t => { t with lwin := (code :: t.lwin).take 2000 }
    let w := (s.trk n).lwin
    let hi := w.foldl (fun (m x : Int) => max m x) code
    let lo := w.foldl (fun (m x : Int) => min m x) code
    let steady := decide (2000 ≤ w.length) && decide (hi - lo ≤ 33554)
    let s := s.flag (Reg.TRK_LOAD_STAT_STEADY n.val) steady
    if steady && !(s.trk n).captured then
      let s := s.mapTrk n fun t => { t with captured := true }
      let m := truncDiv w.sum w.length
      let lim := s.rd (Reg.TRK_LW_AUX_ZLIM_KG n.val)
      let z := s.rdI (Reg.TRK_LW_ZERO n.val)
      if lim != 0 && decide (((lim * 1000 : Nat) : Int) * 65536 < absI ((m - z) * s.rdI (Reg.TRK_LW_GAIN n.val))) then
        s.inc (Reg.TRK_LW_ZREJ n.val)
      else
        let s := (s.wrI (Reg.TRK_LW_ZERO n.val) m).flag (Reg.TRK_LOAD_STAT_STALE_ZERO n.val) false
        let s := s.mapTrk n fun t => { t with zeroGt := some s.gt }
        let s := s.mapNv fun v => { v with zero := v.zero.set n (some (m, s.gt)) }
        let s := if s.on (Reg.TRK_LOAD_STAT_FAULT n.val) then s else s.wrI (Reg.TRK_LOAD n.val) (s.loadOf n.val code m)
        s.loadState n.val 3 true
    else s

/-- One load sample of an upstream frame: signed 24-bit code, excitation in range (R175 to R179). -/
def Dev.loadSample (s : Dev) (n : Fin 16) (code : Int) (excOk : Bool) : Dev :=
  let s := s.wrI (Reg.TRK_LW_RAW n.val) code
  if !s.on (Reg.TRK_CTRL_LW_EN n.val) then s
  else
    let lim := code = 8388607 || code = -8388608
    let s := s.mapTrk n fun t => { t with limRun := if lim then t.limRun + 1 else 0 }
    let bad := decide (16 ≤ (s.trk n).limRun) || !excOk
    if s.on (Reg.TRK_LOAD_STAT_FAULT n.val) then
      let s := s.mapTrk n fun t => { t with okLoad := if lim || !excOk then 0 else t.okLoad + 1 }
      let s :=
        if (s.trk n).okLoad < 1000 then s
        else
          let s := s.flag (Reg.TRK_LOAD_STAT_FAULT n.val) false
          s.wrI (Reg.TRK_LOAD n.val) (s.loadOf n.val code (s.rdI (Reg.TRK_LW_ZERO n.val)))
      (s.captureTry n code).overloadEval n.val
    else if bad then (s.bridgeFault n).captureTry n code
    else
      let s := s.wrI (Reg.TRK_LOAD n.val) (s.loadOf n.val code (s.rdI (Reg.TRK_LW_ZERO n.val)))
      (s.captureTry n code).overloadEval n.val

/-- Age of the zero in whole hours, saturating (R177). -/
def Dev.zeroAge (s : Dev) (n : Fin 16) : Nat :=
  match (s.trk n).zeroGt with
  | some g => min 65535 ((s.gt - g) / 3600000000000)
  | none => 0

/-- The zero is older than STALE_H hours, to the nanosecond (R177). -/
def Dev.zeroOld (s : Dev) (n : Fin 16) : Bool :=
  (s.trk n).zeroGt.any fun g => decide (s.rd (Reg.TRK_LW_AUX_STALE_H n.val) * 3600000000000 < s.gt - g)

/-- ZERO_STALE (R177): the age exceeds STALE_H. -/
def Dev.zeroStale (s : Dev) (n : Fin 16) : Dev :=
  if s.on (Reg.TRK_LOAD_STAT_STALE_ZERO n.val) || !s.zeroOld n then s
  else (s.flag (Reg.TRK_LOAD_STAT_STALE_ZERO n.val) true).loadState n.val 3 false

def execZeroStale (n : Fin 16) (s : State) : Host.Outcome State Fault Refusal := s.run fun d => d.zeroStale n

/-- The zero at start-up (R177, R180): the stored one with its GT, else ZINIT with STALE_ZERO = 1. -/
def Dev.zeroRestore (s : Dev) (n : Fin 16) : Dev :=
  match s.nv.zero[n] with
  | some (z, g) => (s.wrI (Reg.TRK_LW_ZERO n.val) z).mapTrk n fun t => { t with zeroGt := some g }
  | none => (s.wr (Reg.TRK_LW_ZERO n.val) (s.rd (Reg.TRK_LW_ZINIT n.val))).flag (Reg.TRK_LOAD_STAT_STALE_ZERO n.val) true

end Sys2Proof.Machine
end

