-- ==== Sys2Proof/Machine/Motion.lean ====
section
/-! DEFINITION. Motion of a car engine (R182 to R206): calls, the stop scheduler, the profile, the drive port. -/

namespace Sys2Proof.Machine

/-! The motion profile (R188, R189), in 10⁻⁶ µm/s, 10⁻⁶ µm/s² and ns along the direction of travel -/

/-- Integer square root, rounded down, of a number below 2^(2b): bits are set from the top. -/
def isqrtGo (n : Nat) : Nat → Nat → Nat
  | 0, r => r
  | b + 1, r => isqrtGo n b (if (r + 2 ^ b) * (r + 2 ^ b) ≤ n then r + 2 ^ b else r)

def isqrt (n : Nat) : Nat := isqrtGo n 60 0

/-- Nanoseconds in a second, as the divisor of every product with a duration. -/
def nsI : Int := 1000000000

/-- The segments that take speed `v0` and acceleration `a0` to speed `v1` at acceleration 0 in the shortest time, within
acceleration `A` and jerk `J` (µm/s³): at most three, numbered from `k` on. -/
def shift (A J v0 a0 v1 : Int) (k : Nat) : List Seg :=
  let j := J * 1000000
  let vs := v0 + a0 * absI a0 / (2 * j)
  let sg : Int := if vs ≤ v1 then 1 else -1
  let d := sg * (v1 - v0)
  let a := sg * a0
  let pk := min A (isqrt (j * d + a * a / 2).toNat)
  let t2 := if 0 < pk then (d - (2 * pk * pk - a * a) / (2 * j)) * nsI / pk else 0
  [ { num := k, jerk := sg * J, dur := ((pk - a) * nsI / j).toNat },
    { num := k + 1, jerk := 0, dur := t2.toNat },
    { num := k + 2, jerk := -sg * J, dur := (pk * nsI / j).toNat } ]

/-- Speed and acceleration after `t` ns of a segment. -/
def Seg.go (g : Seg) (v a : Int) (t : Nat) : Int × Int :=
  (v + roundDiv (a * t) 1000000000 + roundDiv (g.jerk * (t * t : Nat)) 2000000000000, a + g.jerk * t / 1000)

/-- Distance of `t` ns of a segment, 10⁻⁶ µm. -/
def Seg.dist (g : Seg) (v a : Int) (t : Nat) : Int :=
  roundDiv (v * t) 1000000000 + roundDiv (a * (t * t : Nat)) 2000000000000000000
    + roundDiv (g.jerk * (t * t * t : Nat)) 6000000000000000000000

/-- Distance of a list of segments. -/
def segsDist : List Seg → Int → Int → Int
  | [], _, _ => 0
  | g :: l, v, a => let (v', a') := g.go v a g.dur; g.dist v a g.dur + segsDist l v' a'

/-- Distance of the shortest profile from (v, a) to rest: s_stop of R184. -/
def sStop (A J v a : Int) : Int := segsDist (shift A J v a 0 5) v a

/-- The segments through a peak speed (µm/s) to rest. -/
def viaPeak (A J v a : Int) (vp : Nat) : List Seg :=
  shift A J v a (vp * 1000000 : Nat) 1 ++ shift A J (vp * 1000000 : Nat) 0 0 5

/-- The segments through a peak fit a distance. -/
def fits (A J v a D : Int) (vp : Nat) : Bool := decide (segsDist (viaPeak A J v a vp) v a ≤ D)

/-- The largest peak speed from `r` up to `cap` that fits, where those that fit are the lower ones: bits are set from the
top. -/
def peakGo (A J v a D : Int) (cap : Nat) : Nat → Nat → Nat
  | 0, r => r
  | b + 1, r =>
    let c := r + 2 ^ b
    peakGo A J v a D cap b (if c ≤ cap && fits A J v a D c then c else r)

/-- The largest peak speed within the cap that fits the distance (R189). Distances grow with the peak from the speed on at
which the acceleration has come to 0, and a peak below that speed, braked to and then left, takes more distance the nearer it
lies to it or to rest: so the search begins there where it fits, and from rest where it does not. -/
def peakOf (A J v a D : Int) (cap : Nat) : Nat :=
  let vs := ((v + a * absI a / (2 * (J * 1000000)) + 999999) / 1000000).toNat
  if fits A J v a D cap then cap
  else if vs ≤ cap && fits A J v a D vs then peakGo A J v a D cap 24 vs
  else peakGo A J v a D (min vs cap) 24 0

/-- A_MAX and J_MAX: 10⁻⁶ µm/s² and µm/s³. -/
def Dev.aMax (s : Dev) (n : Nat) : Int := (s.rd (Reg.MOT_AJ_A_MAX n) * 1000000000 : Nat)
def Dev.jMax (s : Dev) (n : Nat) : Int := (s.rd (Reg.MOT_AJ_J_MAX n) * 1000 : Nat)

/-- A plan to a stop position `D` µm ahead, reached from (v, a) through the largest peak speed; the cruise takes up what
distance the segments leave. None where the stop lies nearer than s_stop. -/
def Dev.planTo (s : Dev) (n : Nat) (up : Bool) (v a : Int) (cap : Nat) (D tgt : Int) : Option Plan :=
  let A := s.aMax n
  let J := s.jMax n
  let d := D * 1000000
  if d < sStop A J v a then none
  else
    let vp := peakOf A J v a d cap
    let acc := shift A J v a (vp * 1000000 : Nat) 1
    let dec := shift A J (vp * 1000000 : Nat) 0 0 5
    let r := d - segsDist (acc ++ dec) v a
    let cr := if vp = 0 then 0 else (r * nsI / (vp * 1000000 : Nat)).toNat
    some { up := up, v := v, a := a, segs := acc ++ [{ num := 4, jerk := 0, dur := cr }] ++ dec, cap := cap,
           free := false, tgt := some tgt, age := 0 }

/-- A ramp to rest. -/
def Dev.planStop (s : Dev) (n : Nat) (up : Bool) (v a : Int) : Plan :=
  { up := up, v := v, a := a, segs := shift (s.aMax n) (s.jMax n) v a 0 5, cap := 0, free := false, tgt := none, age := 0 }

/-- A run with no stop position. -/
def Dev.planFree (s : Dev) (n : Nat) (up : Bool) (v a : Int) (cap : Nat) : Plan :=
  { up := up, v := v, a := a, segs := shift (s.aMax n) (s.jMax n) v a (cap * 1000000 : Nat) 1, cap := cap, free := true,
    tgt := none, age := 0 }

/-- Length of a plan in ticks: its last segment is shortened to a tick boundary (R189). -/
def Plan.ticks (p : Plan) : Nat := (p.segs.map (·.dur)).sum / tickNs

/-- Segment number, speed and acceleration `t` ns after the start of a list of segments; past its end segment 4 at the
speed reached. -/
def segsAt : List Seg → Int → Int → Nat → Nat × Int × Int
  | [], v, _, _ => (4, v, 0)
  | g :: l, v, a, t =>
    if t < g.dur then (g.num, (g.go v a t).1, (g.go v a t).2)
    else segsAt l (g.go v a g.dur).1 (g.go v a g.dur).2 (t - g.dur)

/-- The plan has come to its end. -/
def Plan.over (p : Plan) : Bool := !p.free && decide (p.ticks ≤ p.age)

/-- Segment, speed and acceleration of a plan in the tick it has reached. -/
def Plan.now (p : Plan) : Nat × Int × Int := if p.over then (0, 0, 0) else segsAt p.segs p.v p.a (p.age * tickNs)

/-- Segments 5 to 7 toward a stop position. -/
def Plan.committed (p : Plan) : Bool := p.tgt.isSome && (p.over || decide (5 ≤ p.now.1))

/-- COMMITTED from the tick in which the profile enters segment 5 on, whatever plan follows (R186). -/
def Trip.committed (t : Trip) : Bool :=
  t.com || (match t.plan with
    | some p => p.committed
    | none => false)

/-! Caps (R188) -/

/-- The lowest cap that applies to a trip, µm/s. -/
def Dev.cap (s : Dev) (n : Nat) (k : TripKind) : Nat :=
  let mm := fun r => r * 1000
  let c := s.rd (Reg.MOT_VMAX n)
  let lev := mm (s.rd (Reg.MOT_SLOW_V_LEV n))
  let c := if s.pst n = Pst.unverified || s.on (Reg.TRK_STAT_SUSPECT n) then min c lev else c
  let c := if k = .refrun then min c (mm (s.rd (Reg.MOT_SLOW_V_REF n))) else c
  let c := if k = .relevel || k = .sensor then min c lev else c
  let c := if k = .learn then min c (mm (s.rd (Reg.TRK_LEARN_SPEED_MM n))) else c
  if s.rd (Reg.ILK_STAT_MODE n) = 1 then min c (mm (s.rd (Reg.MOT_SLOW_V_INSP n))) else c

/-! Calls (R182, R183) -/

/-- Whether MOT_SERVE names a landing. -/
def Dev.served (s : Dev) (n l : Nat) : Bool := bit (s.rd (Reg.MOT_SERVE n (l / 32))) (l % 32)

/-- The call registers written from the calls held. -/
def Dev.showCalls (s : Dev) (n : Fin 16) : Dev :=
  let c := (s.mot n).calls
  let m := fun (k w : Nat) => (List.range 32).foldl (fun (v i : Nat) =>
    v + if c.any (fun x => x.kind = k && x.land = 32 * w + i) then 2 ^ i else 0) 0
  (List.range 4).foldl (fun (s : Dev) (w : Nat) =>
    ((s.wr (Reg.MOT_CALL_CAR n.val w) (m 0 w)).wr (Reg.MOT_CALL_UP n.val w) (m 1 w)).wr (Reg.MOT_CALL_DN n.val w) (m 2 w)) s

/-- CALL_DROPPED of a call with a reason. -/
def Dev.callDropped (s : Dev) (n reason : Nat) (c : Call) : Dev :=
  s.raise .callDropped n [pU 16 1 c.land, pU 17 1 c.kind, pU 18 1 reason, pU 20 4 c.tag]

/-- Calls that `sel` picks removed and dropped with one reason. -/
def Dev.dropCalls (s : Dev) (n : Fin 16) (reason : Nat) (sel : Call → Bool) : Dev :=
  let l := (s.mot n).calls.filter sel
  let s := s.mapMot n fun m => { m with calls := m.calls.filter fun c => !sel c }
  (l.foldl (fun (s : Dev) (c : Call) => s.callDropped n.val reason c) s).showCalls n

/-- A call registered: one for the same landing and type ends with reason 0 (R183). -/
def Dev.addCall (s : Dev) (n : Fin 16) (c : Call) : Dev :=
  let s := s.dropCalls n 0 fun x => x.land = c.land && x.kind = c.kind
  (s.mapMot n fun m => { m with calls := m.calls ++ [c] }).showCalls n

/-- INTERLOCK of a car; an outcome 0 counts a refusal (R240). -/
def Dev.ilkEvent (s : Dev) (n rule outcome : Nat) : Dev :=
  let s := if outcome = 0 then s.inc (Reg.ILK_CNT_REFUSE n) else s
  s.raise .interlock n [pU 16 2 rule, pU 18 1 outcome]

/-- A descriptor refused by the interlock of a car. -/
def Dev.refuseIlk (s : Dev) (n rule : Nat) : Admission := (s.ilkEvent n rule 0).refuse Stat.refused

/-- TRIP (R182): what the mode admits; in FIREFIGHTER one car call, replaced by one for another landing (R251). -/
def Dev.opTrip (s : Dev) (sq : Nat) (b : List Byte) : Dev :=
  s.tryAdmit 0x20 sq b fun s _ =>
    let n := Fin.ofNat 16 (dIndex b)
    let mode := s.rd (Reg.ILK_STAT_MODE n.val)
    let c : Call := { land := byteAt b 16, kind := byteAt b 17, doors := byteAt b 18, tag := leAt b 20 4 }
    if (s.trk n).learn.isSome then s.refuse Stat.busy
    else match s.ownership 0x20 b with
      | some st => s.refuse st
      | none =>
        if s.pst n.val = Pst.unlearned || !(mode = 0 || ((mode = 3 || mode = 4) && c.kind = 0)) then s.refuseIlk n.val 0
        else if !s.served n.val c.land then
          (s.mapMot n fun m => { m with unserved := m.unserved ++ [c] }, some (AdmRes.done 0 0))
        else
          let s := if mode = 3 then s.dropCalls n 0 fun x => x.kind = 0 && x.land != c.land else s
          (s.addCall n c, some (AdmRes.done 0 0))

def execTrip (sq : Fin 32) (d : List Byte) (s : State) : Host.Outcome State Fault Refusal := s.run fun v => v.opTrip sq.val d

/-- CALL_CANCEL (R183): INFO0 is the number of calls removed. -/
def Dev.opCallCancel (s : Dev) (sq : Nat) (b : List Byte) : Dev :=
  s.tryAdmit 0x21 sq b fun s _ =>
    let n := Fin.ofNat 16 (dIndex b)
    match s.ownership 0x21 b with
    | some st => s.refuse st
    | none =>
      if s.pst n.val = Pst.unlearned then s.refuseIlk n.val 0
      else
        let sel := fun (c : Call) => c.land = byteAt b 16 && c.kind = byteAt b 17
        let k := ((s.mot n).calls.filter sel).length
        (s.dropCalls n 0 sel, some (AdmRes.done k 0))

def execCallCancel (sq : Fin 32) (d : List Byte) (s : State) : Host.Outcome State Fault Refusal :=
  s.run fun v => v.opCallCancel sq.val d

/-! Where the car is -/

/-- The landing in whose door zone a position lies: its vane reaches from the lower to the upper of its words
(log entry 16). -/
def Dev.zoneAt (s : Dev) (n : Fin 16) (p : Int) : Option Nat :=
  (List.range (s.landings n.val)).find? fun l =>
    min (s.tabW n l 0) (s.tabW n l 3) ≤ p && decide (p ≤ max (s.tabW n l 1) (s.tabW n l 2))

/-- The landing at which a car stands at rest. -/
def Dev.atLanding (s : Dev) (n : Fin 16) : Option Nat := if s.atRest n.val then s.zoneAt n (s.pos n.val) else none

/-- The nearest landing at or beyond a position in a direction. -/
def Dev.beyond (s : Dev) (n : Fin 16) (up : Bool) (h : Int) : Option Nat :=
  let l := (List.range (s.landings n.val)).filter fun l => if up then h ≤ s.floor n l else s.floor n l ≤ h
  if up then l.head? else l.getLast?

/-- References along the direction of the trip's plan, 10⁻⁶ units. -/
def Trip.refs (t : Trip) : Int × Int :=
  match t.plan with
  | some p => (p.now.2.1, p.now.2.2)
  | none => (0, 0)

/-- The committable horizon of a moving car, µm (R184). -/
def Dev.horizon (s : Dev) (n : Fin 16) (t : Trip) : Int :=
  let (v, a) := t.refs
  let d := (absI v * 200000 / nsI + sStop (s.aMax n.val) (s.jMax n.val) v a + 999999) / 1000000
  if t.up then s.pos n.val + d else s.pos n.val - d

/-- The horizon landing. -/
def Dev.horizonLand (s : Dev) (n : Fin 16) (t : Trip) : Option Nat := s.beyond n t.up (s.horizon n t)

/-- The nearest landing at which the trip under way can stop: the horizon landing or, nearer, the present target while
the plan in force reaches it (R185, R186; the example of Motion keeps its target up to segment 5, log entry 75). -/
def Dev.stopLand (s : Dev) (n : Fin 16) (t : Trip) : Option Nat :=
  let aimed := match t.plan with
    | some p => p.tgt.isSome && !t.next
    | none => false
  match s.horizonLand n t, t.land with
  | some l, some x => if aimed then some (if t.up then min x l else max x l) else some l
  | none, some x => if aimed then some x else none
  | h, none => h

/-- next_stop of R185 from a landing. -/
def Dev.nextStop (s : Dev) (n : Fin 16) (up : Bool) (start : Nat) : Option Nat :=
  let c := (s.mot n).calls
  let ahead := (if up then (List.range (s.landings n.val)).filter fun l => start ≤ l
    else ((List.range (s.landings n.val)).filter fun l => l ≤ start).reverse).filter fun l => s.served n.val l
  let dir := if up then 1 else 2
  match ahead.find? fun l => c.any fun x => x.land = l && (x.kind = 0 || x.kind = dir) with
  | some l => some l
  | none => ahead.reverse.find? fun l => c.any fun x => x.land = l && x.kind = 3 - dir

/-! Trips -/

/-- A trip put in place. -/
def Dev.setTrip (s : Dev) (n : Fin 16) (t : Option Trip) : Dev := s.mapMot n fun m => { m with trip := t }

/-- A plan for a trip from references (v, a) along `up`: to its stop position, or to rest first where the stop lies
behind or too near (R190, R192). -/
def Dev.planFrom (s : Dev) (n : Fin 16) (t : Trip) (up : Bool) (v a : Int) (tgt : Option Int) : Trip :=
  match tgt with
  | some x =>
    let D := if up then x - s.pos n.val else s.pos n.val - x
    match s.planTo n.val up v a (s.cap n.val t.kind) D x with
    | some p => { t with up := up, plan := some p, phase := .running, next := false }
    | none => { t with up := up, plan := some (s.planStop n.val up v a), phase := .running, next := true }
  | none => { t with up := up, plan := some (s.planFree n.val up v a (s.cap n.val t.kind)), phase := .running, next := false }

/-- The stop position of a trip. -/
def Dev.tripTgt (s : Dev) (n : Fin 16) (t : Trip) : Option Int :=
  if t.kind = .learn then
    match (s.trk n).learn with
    | some l => if l.phase = 5 then some (floorOf (withTrim l.tab (s.trk n).ltab) (s.rdI (Reg.TRK_FLOOR_OFS n.val)) 0) else none
    | none => none
  else match t.land with
    | some l => some (s.floor n l)
    | none => none

/-- The direction in which a trip's stop position lies; its own direction where it has none. -/
def Dev.tripDir (s : Dev) (n : Fin 16) (t : Trip) : Bool :=
  match s.tripTgt n t with
  | some x => if x = s.pos n.val then t.up else decide (s.pos n.val < x)
  | none => t.up

/-- TRIP_START (R190): from rest, flying, or after a ramp to rest from motion the other way. A relevelling trip is counted
where it becomes active (R194). -/
def Dev.startTrip (s : Dev) (n : Fin 16) (t : Trip) : Dev :=
  let up := s.tripDir n t
  let v := s.spd n.val
  let catch' : Int := (s.rd (Reg.MOT_THR_CATCH n.val) * 1000 : Nat)
  let s := if (t.kind = .relevel || t.kind = .sensor) && !s.on (Reg.MOT_STAT_TRIP n.val) then s.inc (Reg.MOT_CNT_RELEV n.val)
    else s
  let s := (s.flag (Reg.MOT_STAT_TRIP n.val) true).mapMot n fun m => { m with trackRun := 0 }
  let t := { t with pre := false, miss := false, com := false, sus := s.on (Reg.TRK_STAT_SUSPECT n.val) }
  if absI v < catch' || s.on (Reg.TRK_STAT_ENC_LOST n.val) then
    s.setTrip n (some (s.planFrom n t up 0 0 (s.tripTgt n t)))
  else if decide (0 < v) = up then
    (s.inc (Reg.MOT_CNT_FLY n.val)).setTrip n (some (s.planFrom n t up (absI v * 1000000) 0 (s.tripTgt n t)))
  else
    let s := s.inc (Reg.MOT_CNT_PRESTOP n.val)
    let p := s.planStop n.val (!up) (absI v * 1000000) 0
    s.setTrip n (some { t with up := !up, plan := some p, phase := .running, next := true, pre := true })

/-- The plan after a ramp to rest that goes on: from rest (R190). -/
def Dev.goOn (s : Dev) (n : Fin 16) (t : Trip) : Dev :=
  let t := { t with pre := false, miss := false, com := false }
  s.setTrip n (some (s.planFrom n t (s.tripDir n t) 0 0 (s.tripTgt n t)))

/-- A trip replanned from its present references toward its stop position. Where that is out of reach the car is brought to
rest under A and J: for a target put behind the car with PRESTOP, to reverse from rest (R190); after a position step without,
to relevel (R192). -/
def Dev.replan (s : Dev) (n : Fin 16) (t : Trip) (step : Bool) : Dev :=
  let (v, a) := t.refs
  let t' := s.planFrom n { t with pre := false, miss := false } (if v = 0 then s.tripDir n t else t.up) v a (s.tripTgt n t)
  if !t'.next then s.setTrip n (some t')
  else if step then s.setTrip n (some { t' with miss := t.kind = .stop })
  else (s.inc (Reg.MOT_CNT_PRESTOP n.val)).setTrip n (some { t' with pre := true })

/-- A trip brought to rest under A and J, to go on once it may (R193, R239), or to end there. One that a tracking fault has
stopped stays so until the car rests (R195). -/
def Dev.rampTrip (s : Dev) (n : Fin 16) (t : Trip) (ends : Bool) : Dev :=
  let (v, a) := t.refs
  let t := { t with fin := t.fin || ends, land := if ends then none else t.land }
  if t.phase = .track then s.setTrip n (some t)
  else s.setTrip n (some { t with plan := some (s.planStop n.val t.up v a), next := false, pre := false, miss := false,
                                  phase := if ends then .running else .ramp })

/-- The reference of rule 8 taken where the car is (R245). -/
def Dev.setRest (s : Dev) (n : Fin 16) : Dev := s.mapIlk n fun i => { i with pRest := s.pos n.val }

/-- A trip ends: an active one, TRIP = 1, stays so until the car is at rest (R191); one that waited for its permit is gone. -/
def Dev.endTrip (s : Dev) (n : Fin 16) (t : Trip) : Dev :=
  let act := s.on (Reg.MOT_STAT_TRIP n.val)
  let s := (s.flag (Reg.MOT_STAT_RELEV n.val) false).flag (Reg.MOT_STAT_REFRUN n.val) false
  if act then (s.setRest n).setTrip n (some { t with plan := none, phase := .ended, next := false, pre := false, miss := false })
  else s.setTrip n none

/-! Arrival (R187) -/

/-- The calls served where the car stops at a landing. -/
def Dev.servedAt (s : Dev) (n : Fin 16) (l : Nat) : List Call :=
  let m := s.mot n
  let dir := if m.up then 1 else 2
  let more := m.calls.any fun c => if m.up then decide (l < c.land) else decide (c.land < l)
  m.calls.filter fun c => c.land = l && (c.kind = 0 || c.kind = dir || !more)

/-- The calls at a landing served: CAR_ARRIVED for each, and the automatic opening of the union of their doors. -/
def Dev.serve (s : Dev) (n : Fin 16) (l : Nat) : Dev :=
  let cs := s.servedAt n l
  if cs.isEmpty then s
  else
    let s := (s.mapMot n fun m => { m with calls := m.calls.filter fun c => !cs.contains c }).showCalls n
    let s := cs.foldl (fun (s : Dev) (c : Call) =>
      s.raise .carArrived n.val [pU 16 1 l, pU 17 1 c.doors, pU 20 4 c.tag, pU 24 4 (s.rd (Reg.TRK_POS n.val))]) s
    let mask := cs.foldl (fun (k : Nat) (c : Call) => k ||| c.doors) 0
    if s.on (Reg.MOT_CTRL_AUTO_OPEN n.val) && mask != 0 then
      s.mapMot n fun m => { m with openReq := m.openReq ++
        [(mask, s.rd (Reg.MOT_CTRL_AUTO_PROF n.val), s.rd (Reg.MOT_CTRL_AUTO_DWELL_MS n.val))] }
    else s

/-- The doors a mode opens where its trip ends: the recall doors at the recall landing (R228), the fitted doors once at
the stop of OUT_OF_SERVICE (R251). -/
def Dev.modeOpen (s : Dev) (n : Fin 16) (l : Nat) : Dev :=
  let mode := s.rd (Reg.ILK_STAT_MODE n.val)
  if mode = 2 && l = (s.ilk n).rclLand && (s.ilk n).rclDoors != 0 then
    s.mapMot n fun m => { m with openReq := m.openReq ++ [((s.ilk n).rclDoors, 0, 0)] }
  else if mode = 5 && (s.mot n).oosStop then
    let f := s.fitted n.val
    let ask : Nat → List (Nat × Nat × Nat) := fun d => if bit f d then [(2 ^ d, 0, s.rd (Reg.DOR_TIME_DWELL_AFTER n.val d) * 100)] else []
    s.mapMot n fun m => { m with openReq := m.openReq ++ (ask 0 ++ ask 1), oosStop := false }
  else s

/-- TRIP_COMPLETE: the speed reference has reached 0 at the target's floor level (R187). -/
def Dev.tripComplete (s : Dev) (n : Fin 16) : Dev :=
  match (s.mot n).trip with
  | none => s
  | some t =>
    if t.phase != .arrived then s
    else
      let s := s.endTrip n t
      match t.kind, t.land with
      | .stop, some l =>
        let s := s.inc (Reg.MOT_CNT_TRIP n.val)
        if s.pst n.val = Pst.verified then (s.serve n l).modeOpen n l else s
      | .relevel, _ => (s.inc (Reg.MOT_CNT_TRIP n.val)).mapMot n fun m => { m with afterRef := false }
      | _, _ => s

def execTripComplete (n : Fin 16) (s : State) : Host.Outcome State Fault Refusal := s.run fun d => d.tripComplete n

/-! The references of a tick -/

/-- The plan moved on by one tick; at its end the trip completes, goes on, waits or ends. -/
def Dev.planTick (s : Dev) (n : Fin 16) : Dev :=
  match (s.mot n).trip with
  | none => s
  | some t =>
    match t.plan with
    | none => s
    | some p =>
      let p := { p with age := p.age + 1 }
      let t := { t with plan := some p, com := t.com || p.committed }
      if !p.over then s.setTrip n (some t)
      else if t.phase = .ramp || t.next then s.setTrip n (some { t with plan := none, phase := .waiting })
      else if p.tgt.isSome then s.setTrip n (some { t with phase := .arrived })
      else s.endTrip n t

/-- RUN of the tick's frame: 1 while a trip follows a plan (log entry 16). -/
def Dev.runBit (s : Dev) (n : Fin 16) : Bool :=
  match (s.mot n).trip with
  | some t => t.plan.isSome && (t.phase = .running || t.phase = .ramp)
  | none => false

/-- The trip that TRIP reports; one that waits for its permit without having started is none (R191, R239). -/
def Dev.activeTrip (s : Dev) (n : Fin 16) : Option Trip :=
  if s.on (Reg.MOT_STAT_TRIP n.val) then (s.mot n).trip else none

/-- The references and the status registers of Motion. -/
def Dev.showMot (s : Dev) (n : Fin 16) : Dev :=
  let k := n.val
  let s := s.flag (Reg.MOT_STAT_PRESTOP k) (match (s.mot n).trip with
    | some t => t.pre && t.plan.isSome
    | none => false)
  match s.activeTrip n with
  | none =>
    let s := ((s.wr (Reg.MOT_STAT_TARGET k) 0xFF).wr (Reg.MOT_STAT_HORIZON k) 0xFF).wr (Reg.MOT_STAT_SEG k) 0
    let s := ((s.wr (Reg.MOT_STAT_DIR k) 0).flag (Reg.MOT_STAT_COMMITTED k) false).flag (Reg.MOT_STAT_TRIP k) false
    let s := ((s.wr (Reg.MOT_VREF k) 0).wr (Reg.MOT_AREF k) 0).wr (Reg.MOT_HZN_POS_HZN k) 0
    let s := ((s.wr (Reg.MOT_TGT_POS_TGT k) 0).wr (Reg.MOT_ETA_LO k) 0).wr (Reg.MOT_ETA_HI k) 0
    s.flag (Reg.MOT_STAT_LIMITED k) (decide (s.cap k .stop < s.rd (Reg.MOT_VMAX k)))
  | some t =>
    let (v, a) := t.refs
    let sg : Int := if t.up then 1 else -1
    let vref := roundDiv v 1000000
    let seg := match t.plan with
      | some p => p.now.1
      | none => 0
    let s := (s.wrI (Reg.MOT_VREF k) (sg * vref)).wrI (Reg.MOT_AREF k) (sg * roundDiv a 1000000)
    let s := (s.wr (Reg.MOT_STAT_SEG k) seg).wr (Reg.MOT_STAT_DIR k) (if t.up then 1 else 2)
    let s := s.wr (Reg.MOT_STAT_TARGET k) (t.land.getD 0xFF)
    let s := if vref = 0 then (s.wr (Reg.MOT_STAT_HORIZON k) 0xFF).wr (Reg.MOT_HZN_POS_HZN k) 0
      else (s.wr (Reg.MOT_STAT_HORIZON k) ((s.horizonLand n t).getD 0xFF)).wrI (Reg.MOT_HZN_POS_HZN k) (s.horizon n t)
    let s := s.flag (Reg.MOT_STAT_LIMITED k) (decide (s.cap k t.kind < s.rd (Reg.MOT_VMAX k)))
    match t.plan with
    | some p =>
      let eta := if p.tgt.isSome then s.tickStart + (p.ticks - p.age) * tickNs else 0
      let s := (s.flag (Reg.MOT_STAT_COMMITTED k) t.committed).wrI (Reg.MOT_TGT_POS_TGT k) (p.tgt.getD 0)
      (s.wr (Reg.MOT_ETA_LO k) eta).wr (Reg.MOT_ETA_HI k) (eta / 2 ^ 32)
    | none => s.flag (Reg.MOT_STAT_COMMITTED k) false

/-! Tracking faults (R195) -/

/-- TRACKING_FAULT: RUN = 0 and speed 0 until the car is at rest; the fault is reported to the Interlock. -/
def Dev.trackFault (s : Dev) (n : Fin 16) : Dev :=
  match (s.mot n).trip with
  | none => s
  | some t =>
    if (s.mot n).trackRun < s.rd (Reg.MOT_THR_TRACK_TICKS n.val) || t.phase = .track then s
    else
      let s := (s.setTrip n (some { t with plan := none, phase := .track, next := false })).mapMot n fun m => { m with trackRun := 0 }
      let s := (s.flag (Reg.MOT_STAT_TRACK n.val) true).inc (Reg.MOT_CNT_TRACK n.val)
      s.mapIlk n fun i => { i with trackGt := s.gt :: i.trackGt }

def execTrackingFault (n : Fin 16) (s : State) : Host.Outcome State Fault Refusal := s.run fun d => d.trackFault n

/-- The tracking window judged in a tick whose last frame had RUN = 1. DESIGN CHOICE (log entry 123): during the ramp of
ENC_LOST, which has no v_e, it is not. -/
def Dev.trackTick (s : Dev) (n : Fin 16) : Dev :=
  let err : Int := (s.rd (Reg.MOT_THR_TRACK_ERR n.val) * 1000 : Nat)
  let out := s.runBit n && !s.on (Reg.TRK_STAT_ENC_LOST n.val)
    && decide (err < absI (s.spd n.val - s.rdI (Reg.MOT_VREF n.val)))
  s.mapMot n fun m => { m with trackRun := if out then m.trackRun + 1 else 0 }

/-! The drive port (R196 to R200, R205) -/

/-- One bit into the CRC register of R199. -/
def crc16Bit (c : Nat) : Nat := if bit c 15 then (2 * c % 65536) ^^^ 0x1021 else 2 * c

/-- One byte into it. -/
def crc16Byte (c : Nat) (b : Byte) : Nat :=
  crc16Bit (crc16Bit (crc16Bit (crc16Bit (crc16Bit (crc16Bit (crc16Bit (crc16Bit (c ^^^ (b.toNat * 256)))))))))

/-- CRC-16 of R199. -/
def crc16 (b : List Byte) : Nat := b.foldl crc16Byte 0xFFFF

/-- HOLD_BUDGET (R200). An inspection run has none even where a terminal landing bounds it, and a car that moves outside a
trip, which rule 8 tells, has none (R191, R246). -/
def Dev.holdBudget (s : Dev) (n : Fin 16) : Nat :=
  let mx := s.rd (Reg.DRP_HOLD_MAX n.val)
  let v := absI (s.rdI (Reg.MOT_VREF n.val))
  let dec : Int := (s.rd (Reg.DRP_HOLD_DEC n.val) * 1000 : Nat)
  if (s.ilk n).ucmOn then 0
  else if !s.runBit n || v = 0 then mx
  else match (s.mot n).trip with
    | some t =>
      match t.plan with
      | some p =>
        match p.tgt with
        | some x =>
          if t.kind = .insp || t.kind = .refrun then 0 else
          let D := if t.up then x - s.pos n.val else s.pos n.val - x
          -- the margin of R200 times 2 DEC; one tick at v covers v / 10,000 µm
          let m := D * 2 * dec - v * v
          if m ≤ 0 then 0 else min mx (m * 10000 / (2 * dec * v)).toNat
        | none => 0
      | none => mx
    | none => mx

/-- The 16 bytes of a Drive Reference Frame, in sending order (R198, R199). -/
def driveFrame (ctrl car epoch seq mode : Nat) (run lev rel : Bool) (speed acc : Int) (hold : Nat) : List Byte :=
  let b := beBytes 1 0xD5 ++ beBytes 1 (128 * ctrl + car) ++ beBytes 2 epoch ++ beBytes 2 seq
    ++ beBytes 1 (16 * mode + 8 * b2n run + 4 * b2n lev + 2 * b2n rel) ++ beBytes 4 (ofSigned 32 speed)
    ++ beBytes 2 (ofSigned 16 acc) ++ beBytes 1 hold
  b ++ beBytes 2 (crc16 b)

/-- DRIVE_REFERENCE_FRAME of a tick (R197). -/
def Dev.driveTick (s : Dev) (n : Fin 16) : Dev :=
  let k := n.val
  if s.on (Reg.DRP_CTRL_EN k) && s.locked && s.on (Reg.SLP_STAT_OWN k) && s.engineOn k then
    let seq := (s.mot n).seq.getD 0
    let hold := s.holdBudget n
    let run := s.runBit n
    let f := driveFrame s.xy k (s.rd (Reg.SLP_STAT_EPOCH k)) seq (s.rd (Reg.ILK_STAT_MODE k)) run
      (s.on (Reg.MOT_STAT_LIMITED k)) (s.mot n).rel (if run then s.rdI (Reg.MOT_VREF k) else 0)
      (if run then clampI (-32768) 32767 (roundDiv (s.rdI (Reg.MOT_AREF k)) 100) else 0) hold
    let s := (s.emit (.drive k f)).mapMot n fun m => { m with seq := some ((seq + 1) % 65536) }
    let s := ((s.flag (Reg.DRP_STAT_SENDING k) true).wr (Reg.DRP_STAT_SEQ k) seq).wr (Reg.DRP_STAT_HOLD k) hold
    let s := (List.range 4).foldl (fun (s : Dev) (i : Nat) =>
      s.wr (Reg.DRP_FRAME k i) (leAt f.reverse (4 * i) 4)) s
    s.inc (Reg.DRP_CNT_SENT k)
  else (s.flag (Reg.DRP_STAT_SENDING k) false).mapMot n fun m => { m with seq := none, rel := false }

/-- DRV_RDY: DPn_STS reads ready, or is not in use (R205, DRP_STAT.READY). -/
def Dev.drvReady (s : Dev) (n : Nat) : Bool :=
  !s.on (Reg.DRP_CTRL_STS_EN n) || bit s.sys.dpSts n != s.on (Reg.DRP_CTRL_STS_POL n)

/-- DRIVE_STATUS_CHANGE: the level of the pin DPn_STS, held whether or not it is in use; a change from ready to not ready is
counted (R205). -/
def Dev.driveStatus (s : Dev) (n : Fin 16) (level : Bool) : Dev :=
  let d := { s with sys := { s.sys with dpSts := setBit s.sys.dpSts n.val level } }
  if s.drvReady n.val && !d.drvReady n.val then d.inc (Reg.DRP_CNT_NRDY n.val) else d

def execDriveStatusChange (n : Fin 16) (level : Bool) (s : State) : Host.Outcome State Fault Refusal :=
  s.run fun d => d.driveStatus n level

/-- The part of a tick in which Motion's references move on and the frame leaves. A trip whose reference reaches 0 in this
tick completes in it (R187). -/
def Dev.motSample (s : Dev) (n : Fin 16) : Dev :=
  let s := (s.tripComplete n).trackFault n
  let s := ((s.planTick n).showMot n).trackTick n
  (s.driveTick n).tripComplete n

/-! Decisions of a tick (R185, R190 to R195, R239, R251) -/

/-- A new trip of a kind. -/
def mkTrip (k : TripKind) (l : Option Nat) (up : Bool) : Trip :=
  { kind := k, land := l, up := up, plan := none, phase := .waiting, next := false, pre := false, miss := false, com := false,
    sus := false, fin := false }

/-- The drive is ready and the encoder present (R193, R205). -/
def Dev.driveOk (s : Dev) (n : Nat) : Bool := s.drvReady n && !s.on (Reg.TRK_STAT_ENC_LOST n)

/-- The run permit as the drive takes it (R193, R205, R239). -/
def Dev.runOk (s : Dev) (n : Nat) : Bool := s.on (Reg.ILK_STAT_RUN n) && s.driveOk n

/-- A relevelling trip may be asked for: RUN is granted, or the engine's rules would grant it with RELEV = 1 (R238, R239). -/
def Dev.relevOk (s : Dev) (n : Fin 16) : Bool :=
  (s.on (Reg.ILK_STAT_RUN n.val) || (s.ilk n).runRel) && s.driveOk n.val

/-- A reference run may be asked for: the rules but rule 5 grant RUN, which REFRUN = 1 satisfies (R168, R238). -/
def Dev.refOk (s : Dev) (n : Fin 16) : Bool :=
  (s.on (Reg.ILK_STAT_RUN n.val) || ((s.ilk n).run5 && (s.ilk n).rs.run)) && s.driveOk n.val

/-- FLYING_RETARGET (R186): the target of a moving car put elsewhere. -/
def Dev.retarget (s : Dev) (n : Fin 16) (t : Trip) (l : Nat) : Dev :=
  if t.land = some l then s else (s.inc (Reg.MOT_CNT_RETGT n.val)).replan n { t with land := some l } false

/-- Where a running stop trip should go now; none keeps its target. An UNVERIFIED position, or SUSPECT that came during the
trip, cuts it to the next landing (R193). -/
def Dev.wantStop (s : Dev) (n : Fin 16) (t : Trip) : Option Nat :=
  let mode := s.rd (Reg.ILK_STAT_MODE n.val)
  let hl := s.stopLand n t
  if mode = 5 then none
  else if s.pst n.val != Pst.verified || (s.on (Reg.TRK_STAT_SUSPECT n.val) && !t.sus) then hl
  else if mode = 2 then some (s.ilk n).rclLand
  else match hl with
    | none => none
    | some l => some ((s.nextStop n t.up l).getD l)

/-- A relevelling trip asked for: RELEV = 1 lets the rules make their exception; it starts with the permit (R194, R238). -/
def Dev.askRelevel (s : Dev) (n : Fin 16) (t : Trip) : Dev :=
  if s.relevOk n then (s.flag (Reg.MOT_STAT_RELEV n.val) true).setTrip n (some t) else s

/-- The way an UNVERIFIED car at rest creeps: toward its next call, or down (R193); `above` and `below` are the landings next
to it. The landing it creeps to; none where there is none that way. -/
def Dev.creepTo (s : Dev) (n : Fin 16) (above below : Option Nat) : Option (Nat × Bool) :=
  let call := fun (up : Bool) => match if up then above else below with
    | some l =>
      if s.rd (Reg.ILK_STAT_MODE n.val) = 2 then
        (if up then decide (l ≤ (s.ilk n).rclLand) else decide ((s.ilk n).rclLand ≤ l))
      else (s.nextStop n up l).isSome
    | none => false
  let way := (s.mot n).up
  let up := if call way then way else call (!way) && !way
  (if up then above else below).map fun l => (l, up)

/-- The trip a car at rest starts, if any: relevelling, the creep of an UNVERIFIED car, the target of its mode, the stop
scheduler's choice. Calls at the landing are served whatever the permit; no trip starts without it (R185, R239). DESIGN CHOICE
(log entry 122): a VERIFIED car at rest between landings takes the nearest landing in its direction as its L, or goes to the
nearest one the other way. -/
def Dev.restTrip (s : Dev) (n : Fin 16) : Dev :=
  let k := n.val
  let mode := s.rd (Reg.ILK_STAT_MODE k)
  let pos := s.pos k
  let here := s.atLanding n
  let u := s.snapIn n 30
  let d := s.snapIn n 31
  let go := fun (s : Dev) (t : Trip) => s.startTrip n t
  let relev := fun (s : Dev) (t : Trip) => s.askRelevel n t
  let near := fun (l : Nat) => if l + 1 < s.landings k then some (l + 1) else none
  if (s.mot n).afterRef then
    if decide (absI (pos - s.floor n 0) ≤ (s.rd (Reg.MOT_LEV_RELEV_UM k) : Int)) then s.mapMot n fun m => { m with afterRef := false }
    else relev s (mkTrip .relevel (some 0) (decide (pos < s.floor n 0)))
  else match here with
    | some l =>
      let s := if s.pst k = Pst.verified && (mode = 0 || mode = 3 || mode = 4) then s.serve n l else s
      if s.on (Reg.MOT_CTRL_LEV_EN k) && u != d then relev s (mkTrip .sensor none u)
      else if s.pst k = Pst.verified && decide ((s.rd (Reg.MOT_LEV_RELEV_UM k) : Int) < absI (pos - s.floor n l)) then
        relev s (mkTrip .relevel (some l) (decide (pos < s.floor n l)))
      else if mode = 5 then s
      else if s.pst k = Pst.unverified then
        match s.creepTo n (near l) (if 0 < l then some (l - 1) else none) with
        | some (x, up) => if s.runOk k then go s (mkTrip .creep (some x) up) else s
        | none => s
      else if mode = 2 then
        if l != (s.ilk n).rclLand && s.runOk k then
          go s (mkTrip .stop (some (s.ilk n).rclLand) (decide (l < (s.ilk n).rclLand)))
        else s
      else
        if !s.runOk k then s
        else
          let up := (s.mot n).up
          match s.nextStop n up l with
          | some x => go s (mkTrip .stop (some x) up)
          | none =>
            match s.nextStop n (!up) l with
            | some x => go (s.mapMot n fun m => { m with up := !up }) (mkTrip .stop (some x) (!up))
            | none => s
    | none =>
      -- at rest between landings: to the next landing, where the modes of R251 run trips
      if mode = 5 || !s.atRest k || !s.runOk k
          || ((s.mot n).calls.isEmpty && mode != 2 && s.pst k != Pst.unverified) then s
      else if s.pst k = Pst.unverified then
        match s.creepTo n (s.beyond n true pos) (s.beyond n false pos) with
        | some (x, up) => go s (mkTrip .creep (some x) up)
        | none =>
          -- below the lowest landing the only way to one is up (log entry 106)
          match s.beyond n true pos with
          | some x => go s (mkTrip .creep (some x) true)
          | none => s
      else if mode = 2 then go s (mkTrip .stop (some (s.ilk n).rclLand) (decide (pos < s.floor n (s.ilk n).rclLand)))
      else
        let up := (s.mot n).up
        match s.beyond n up pos, s.beyond n (!up) pos with
        | some l, _ => go s (mkTrip .stop (some ((s.nextStop n up l).getD l)) up)
        | none, some l => go s (mkTrip .stop (some l) (!up))
        | none, none => s

/-- Direction in which a learn trip's step runs (R160): 1, 4 and 5 down, 2 up. -/
def learnUp (ph : Nat) : Bool := ph = 2

/-- The terminal landing that bounds an inspection run: with the position VERIFIED only (R251). -/
def Dev.inspLimit (s : Dev) (n : Fin 16) (up : Bool) : Option Nat :=
  if s.pst n.val = Pst.verified then some (if up then s.landings n.val - 1 else 0) else none

/-- An inspection run under way: a new bound, a new cap or a position step replans it (R188, R192, R251); a bound already
passed ends it. -/
def Dev.steerInsp (s : Dev) (n : Fin 16) (t : Trip) : Dev :=
  let t' := { t with land := s.inspLimit n t.up }
  let same := match t.plan with
    | some p => p.cap = s.cap n.val .insp
    | none => false
  if t'.land = t.land && same && !(s.trk n).stepFlag then s
  else match s.tripTgt n t' with
    | some x => if (if t.up then x ≤ s.pos n.val else s.pos n.val ≤ x) then s.rampTrip n t true else s.replan n t' true
    | none => s.replan n t' true

/-- A trip in progress looked after: what its kind asks for in this tick. A cap that has changed replans a run without a stop
position too (R188). -/
def Dev.runTrip (s : Dev) (n : Fin 16) (t : Trip) : Dev :=
  let k := n.val
  let recap := match t.plan with
    | some p => p.free && p.cap != s.cap k t.kind
    | none => false
  match t.kind with
  | .stop =>
    let step := (s.trk n).stepFlag
    let capNow := s.cap k .stop
    let capOld := match t.plan with
      | some p => if p.tgt.isSome then p.cap else capNow
      | none => capNow
    if t.next then s
    else if t.committed then (if step then s.replan n { t with com := true } true else s)
    else match s.wantStop n t with
      | some l =>
        if t.land != some l then s.retarget n t l
        else if step || capNow != capOld then s.replan n t step else s
      | none => if step || capNow != capOld then s.replan n t step else s
  | .relevel => if (s.trk n).stepFlag then s.replan n t true else s
  | .creep =>
    if s.pst k = Pst.verified then s.setTrip n (some { t with kind := .stop })
    else if (s.trk n).stepFlag then s.replan n t true else s
  | .sensor => if s.snapIn n 30 && s.snapIn n 31 then s.rampTrip n t true else s
  | .refrun =>
    if s.pst k = Pst.unknown then (if recap then s.replan n t false else s) else s.rampTrip n t true
  | .insp =>
    let u := s.snapIn n (s.rd (Reg.ILK_ROLE0_INSP_UP k))
    let d := s.snapIn n (s.rd (Reg.ILK_ROLE0_INSP_DN k))
    if s.rd (Reg.ILK_STAT_MODE k) = 1 && u != d && u = t.up then s.steerInsp n t else s.rampTrip n t true
  | .learn =>
    match (s.trk n).learn with
    | none => s.rampTrip n t true
    | some l =>
      if l.aborted then s.rampTrip n t true
      else if learnUp l.phase != t.up then
        let (v, a) := t.refs
        s.setTrip n (some { t with plan := some (s.planStop k t.up v a), next := true })
      else if recap || (l.phase = 5 && (match t.plan with
          | some p => p.tgt.isNone
          | none => false)) then s.replan n t false
      else s

/-- Whether a trip's plan is on its way to rest for good: a ramp that ends it, or one that ends in a new start. -/
def Trip.stopping (t : Trip) : Bool :=
  match t.plan with
  | some p => t.next || (p.tgt.isNone && !p.free)
  | none => false

/-- A stop trip that a position step has put out of reach, once at rest: it goes on as the relevel of R194, or ends where the
car stands level (R192). -/
def Dev.missRelevel (s : Dev) (n : Fin 16) (t : Trip) : Dev :=
  match t.land with
  | some l =>
    if absI (s.pos n.val - s.floor n l) ≤ (s.rd (Reg.MOT_LEV_RELEV_UM n.val) : Int) then s.endTrip n t
    else
      let s := (s.inc (Reg.MOT_CNT_RELEV n.val)).flag (Reg.MOT_STAT_RELEV n.val) true
      s.setTrip n (some { t with kind := .relevel, next := false, miss := false, com := false })
  | none => s.endTrip n t

/-- The input of one way of an inspection run is active alone, and the way has room to its bound (R251). -/
def Dev.inspHeld (s : Dev) (n : Fin 16) (up : Bool) : Bool :=
  let u := s.snapIn n (s.rd (Reg.ILK_ROLE0_INSP_UP n.val))
  let d := s.snapIn n (s.rd (Reg.ILK_ROLE0_INSP_DN n.val))
  u != d && u = up && match s.inspLimit n up with
    | some l => if up then decide (s.pos n.val < s.floor n l) else decide (s.floor n l < s.pos n.val)
    | none => true

/-- A trip that waits at rest starts, goes on, or starts again, where it may (R190, R193, R239). A reference run is asked for,
with REFRUN, from the state UNKNOWN on: rule 5 lets its permit stand only then. -/
def Dev.resumeTrip (s : Dev) (n : Fin 16) (t : Trip) : Dev :=
  let k := n.val
  let t := if t.kind = .learn then
      match (s.trk n).learn with
      | some l => { t with up := learnUp l.phase }
      | none => t
    else t
  if t.kind = .learn && (match (s.trk n).learn with
      | some l => l.aborted
      | none => true) then s.endTrip n t
  else if t.kind = .insp && (s.rd (Reg.ILK_STAT_MODE k) != 1 || !s.inspHeld n t.up) then s.endTrip n t
  else if t.kind = .refrun && s.pst k != Pst.unknown then s.endTrip n t
  else if t.miss then s.missRelevel n t
  else if !s.runOk k then s.setTrip n (some { t with next := false })
  else if t.next then s.goOn n t
  else if t.kind = .refrun then
    let up := s.dzActive n && s.snapIn n (s.rd (Reg.TRK_CTRL_BOT_IN k))
    (s.mapMot n fun m => { m with up := up }).startTrip n { t with up := up }
  else if t.kind = .stop && s.pst k = Pst.unverified then
    s.startTrip n { t with land := (s.beyond n t.up (s.pos k)).orElse fun _ => t.land }
  else s.startTrip n t

/-- A relevelling trip that waits for the permit: the car still serves the calls at its landing, and a reason to relevel
that has gone, or a permit that RELEV cannot bring, ends it. -/
def Dev.waitRelevel (s : Dev) (n : Fin 16) (t : Trip) : Dev :=
  let k := n.val
  let gone := if t.kind = .sensor then s.snapIn n 30 && s.snapIn n 31
    else match t.land with
      | some l => decide (absI (s.pos k - s.floor n l) ≤ (s.rd (Reg.MOT_LEV_RELEV_UM k) : Int))
      | none => true
  if gone || (!s.on (Reg.MOT_STAT_TRIP k) && !s.relevOk n) then s.endTrip n t
  else
    let mode := s.rd (Reg.ILK_STAT_MODE k)
    let s := match s.atLanding n with
      | some l => if mode = 0 || mode = 3 || mode = 4 then s.serve n l else s
      | none => s
    s.resumeTrip n t

/-- TRIPs admitted for landings not served, dropped in the tick after admission (R183). -/
def Dev.postUnserved (s : Dev) (n : Fin 16) : Dev :=
  ((s.mot n).unserved.foldl (fun (s : Dev) (c : Call) => s.callDropped n.val 2 c) s).mapMot n fun m =>
    { m with unserved := [] }

/-- Motion's decision of a tick for the next one. RUN withdrawn at any point of a learn trip is its interlock stop (R160). -/
def Dev.motDecide (s : Dev) (n : Fin 16) : Dev :=
  let k := n.val
  let s := s.postUnserved n
  let s := if s.atRest k then s.flag (Reg.MOT_STAT_TRACK k) false else s
  if (!s.on (Reg.SLP_STAT_OWN k) || !s.engineOn k) && (s.mot n).again then s
  else if !s.on (Reg.SLP_STAT_OWN k) || !s.engineOn k then
    let s := if (s.activeTrip n).isSome then s.setRest n else s
    let s := (s.flag (Reg.MOT_STAT_RELEV k) false).flag (Reg.MOT_STAT_REFRUN k) false
    (s.setTrip n none).mapMot n fun m => { m with openReq := [], sceneReq := [], afterRef := false }
  else
    let mode := s.rd (Reg.ILK_STAT_MODE k)
    match (s.mot n).trip with
    | some t =>
      let s := if t.kind = .learn && t.phase != .ended && !s.runOk k then s.learnAbort n else s
      let s := s.mapMot n fun m => { m with again := false }
      let s := if t.kind = .refrun && s.pst k != Pst.unknown && s.on (Reg.MOT_STAT_REFRUN k) then
          (s.flag (Reg.MOT_STAT_REFRUN k) false).mapMot n fun m => { m with afterRef := true }
        else s
      match t.phase with
      | .ended => if s.atRest k then (s.setRest n).setTrip n none else s
      | .arrived => s
      | .track =>
        if !s.atRest k then s else if t.fin then s.endTrip n t else s.setTrip n (some { t with phase := .waiting })
      | .waiting =>
        if t.kind = .relevel || t.kind = .sensor then s.waitRelevel n t
        else if t.kind = .refrun && !s.on (Reg.MOT_STAT_TRIP k) && !s.refOk n then s.endTrip n t
        else s.resumeTrip n t
      | .ramp => s
      | .running =>
        if t.stopping then s
        else if !s.runOk k then s.rampTrip n t (t.kind = .insp && !s.inspHeld n t.up)
        else s.runTrip n t
    | none =>
      if mode = 1 then
        let u := s.snapIn n (s.rd (Reg.ILK_ROLE0_INSP_UP k))
        if s.inspHeld n u && s.runOk k then s.startTrip n (mkTrip .insp (s.inspLimit n u) u) else s
      else if mode = 6 then s
      else match (s.trk n).learn with
        | some l => if l.aborted || !s.runOk k then s else s.startTrip n (mkTrip .learn none (learnUp l.phase))
        | none =>
          if s.pst k = Pst.unlearned then s
          else if s.pst k = Pst.unknown then
            if s.refOk n then
              let t := mkTrip .refrun none false
              ((s.flag (Reg.MOT_STAT_REFRUN k) true).setTrip n (some t)).resumeTrip n t
            else s
          else if s.on (Reg.TRK_STAT_ENC_LOST k) then s
          else s.restTrip n

end Sys2Proof.Machine
end

