-- ==== Sys2Proof/Machine/Rules.lean ====
section
/-! DEFINITION. The interlock rules that the engine and the slice's mirror both evaluate (R236 to R241, R263 of the frame
coding). -/

namespace Sys2Proof.Machine

/-- What one evaluation reads: a reader of the car's settings, the signals of R236, the mode, the SAFE latch, the door
states of the snapshot, and whether the speed condition of the relevelling exception holds (R238). -/
structure RuleIn where
  rd    : (Nat → RF) → Nat
  sig   : Nat → Bool
  mode  : Nat
  latch : Bool
  state : Nat → Nat
  slow  : Bool

/-- Whether door `d` is fitted. -/
def RuleIn.fit (x : RuleIn) (d : Nat) : Bool := x.rd (if d = 0 then Reg.DOR_CTRL_FIT_DA else Reg.DOR_CTRL_FIT_DB) != 0

/-- An input named by a role field; 0xFF reads inactive (R252). -/
def RuleIn.role (x : RuleIn) (f : Nat → RF) : Bool := let i := x.rd f; decide (i < 32) && x.sig i

/-- The relevelling exception for door `d` (R238). -/
def RuleIn.excused (x : RuleIn) (d : Nat) : Bool :=
  x.rd Reg.ILK_CTRL_RELEV_OPEN != 0 && x.sig 41 && x.sig 36 && x.slow && (x.state d = 4 || x.state d = 5)

/-- The fixed rules of kind "Both" in force (R238). -/
def RuleIn.rule1 (x : RuleIn) : Bool := (List.range 2).any fun d => x.fit d && !x.sig (32 + d) && !x.excused d
def RuleIn.rule2 (x : RuleIn) : Bool :=
  !x.sig 39 && (List.range 2).any fun d => x.fit d && !x.role (fun n => Reg.DOR_ROLE_LOCK_IN n d) && !x.excused d
def RuleIn.rule3 (x : RuleIn) : Bool := !x.sig 36 || (!x.sig 39 && !x.sig 41)
def RuleIn.rule4 (x : RuleIn) : Bool := !x.role Reg.ILK_ROLE0_SC_IN || x.latch
def RuleIn.rule7 (x : RuleIn) : Bool := x.sig 43 && x.sig 36 && x.mode != 1
def RuleIn.rule11 (x : RuleIn) : Bool :=
  x.mode = 1 && x.role Reg.ILK_ROLE0_INSP_UP == x.role Reg.ILK_ROLE0_INSP_DN

/-- Whether configurable rule `r` is true and in scope in an evaluation (R241). -/
def RuleIn.cfgTrue (x : RuleIn) (r : Nat) : Bool :=
  let f := fun (g : Nat → Nat → RF) => x.rd (fun n => g n r)
  let a := x.sig (f Reg.ILK_RULE_SIG_A) != (f Reg.ILK_RULE_POL_A != 0)
  let b := x.sig (f Reg.ILK_RULE_SIG_B) != (f Reg.ILK_RULE_POL_B != 0)
  let t := if f Reg.ILK_RULE_SIG_B = 0xFF then a else if f Reg.ILK_RULE_OP != 0 then a || b else a && b
  f Reg.ILK_RULE_EN != 0 && t && bit (f Reg.ILK_SCOPE_MODES) x.mode

/-- The runs of true evaluations after one more (R241). -/
def RuleIn.runs (x : RuleIn) (v : Vector Nat 16) : Vector Nat 16 :=
  Vector.ofFn fun (r : Fin 16) => if x.cfgTrue r.val then min 255 (v[r] + 1) else 0

/-- Configurable rule `r` is in force. -/
def RuleIn.cfgOn (x : RuleIn) (v : Vector Nat 16) (r : Fin 16) : Bool :=
  x.cfgTrue r.val && decide (x.rd (fun n => Reg.ILK_SCOPE_TICKS n r.val) ≤ v[r])

/-- Effects that the configurable rules in force withdraw: bit 0 RUN, 1 DA, 2 DB, 3 HOLD, 4 SAFE (R241). -/
def RuleIn.cfgEffect (x : RuleIn) (v : Vector Nat 16) : Nat :=
  (List.finRange 16).foldl (fun (e : Nat) (r : Fin 16) =>
    if x.cfgOn v r then e ||| x.rd (fun n => Reg.ILK_RULE_EFFECT n r.val) else e) 0

/-- The result of the rules of kind "Both" and of the configurable rules (R243). -/
def RuleIn.result (x : RuleIn) (v : Vector Nat 16) : IlkRes :=
  let e := x.cfgEffect v
  { run := !(x.rule1 || x.rule4 || x.rule7 || x.rule11 || bit e 0),
    da := !(x.rule3 || bit e 1), db := !(x.rule3 || bit e 2),
    hold := x.rule7 || bit e 3, safe := !(x.rule2 || bit e 4), ucm := false }

/-- Two results combined effect by effect to the more restrictive (R242). -/
def IlkRes.meet (a b : IlkRes) : IlkRes :=
  { run := a.run && b.run, da := a.da && b.da, db := a.db && b.db, hold := a.hold || b.hold, safe := a.safe && b.safe,
    ucm := a.ucm || b.ucm }

/-- The coding of a result in a frame (R264). -/
def IlkRes.code (a : IlkRes) : Nat :=
  b2n a.run + 2 * b2n a.da + 4 * b2n a.db + 8 * b2n a.hold + 16 * b2n a.safe + 32 * b2n a.ucm

def IlkRes.ofCode (c : Nat) : IlkRes :=
  { run := bit c 0, da := bit c 1, db := bit c 2, hold := bit c 3, safe := bit c 4, ucm := bit c 5 }

/-- The signals that a snapshot and the engine's values make (R236): `e` codes signals 39 to 47 from bit 0, bit 9 is
DZ_SRC (R264). -/
def signals (p : Snap) (fitA fitB : Bool) (e : Nat) (i : Nat) : Bool :=
  if i < 32 then bit p.inputs i
  else if i = 32 then bit p.doors 0 || !fitA
  else if i = 33 then bit p.doors 1 || !fitB
  else if i = 34 then bit p.doors 2 || !fitA
  else if i = 35 then bit p.doors 3 || !fitB
  else if i = 36 then bit p.inputs (if bit e 9 then 29 else 28)
  else if i = 37 then bit p.doors 4
  else if i = 38 then bit p.doors 5
  else if i ≤ 47 then bit e (i - 39)
  else false

end Sys2Proof.Machine
end

