-- ==== Sys2Proof/Machine/Interlock.lean ====
section
/-! DEFINITION. The Interlock of a car engine (R236 to R259): evaluation, modes, Group Evacuation Recall. -/

namespace Sys2Proof.Machine

/-! Evaluation (R237 to R246) -/

/-- The car mode. -/
def Dev.mode (s : Dev) (n : Nat) : Nat := s.rd (Reg.ILK_STAT_MODE n)

/-- The engine's values E: signals 39 to 47 of R236, and DZ_SRC at bit 9 (R264). -/
def Dev.evals (s : Dev) (n : Nat) : Nat :=
  let b := fun (i : Nat) (c : Bool) => if c then 2 ^ i else 0
  b 0 (s.atRest n) + b 1 (s.on (Reg.MOT_STAT_TRIP n)) + b 2 (s.on (Reg.MOT_STAT_RELEV n))
    + b 3 (bit (s.rd (Reg.DRP_FRAME n 2)) 11)
    + b 4 (s.on (Reg.TRK_LOAD_STAT_OVERLOAD n)) + b 5 (s.pst n = Pst.verified) + b 6 (s.drvReady n)
    + b 7 (s.on (Reg.ILK_STAT_FIRE n)) + b 8 (s.on (Reg.ILK_STAT_EVR n)) + b 9 (s.on (Reg.TRK_STAT_DZ_SRC n))

/-- The snapshot an evaluation uses; none received reads as nothing active. -/
def Dev.snapOf (s : Dev) (n : Fin 16) : Snap := ((s.ilk n).snap).getD { seq := 0, inputs := 0, doors := 0, states := 0 }

/-- What the engine's evaluation reads. -/
def Dev.ruleIn (s : Dev) (n : Fin 16) (slow : Bool) : RuleIn :=
  let p := s.snapOf n
  { rd := fun f => s.rd (f n.val),
    sig := signals p (s.on (Reg.DOR_CTRL_FIT_DA n.val)) (s.on (Reg.DOR_CTRL_FIT_DB n.val)) (s.evals n.val),
    mode := s.mode n.val, latch := s.on (Reg.ILK_STAT_SAFE_LATCH n.val),
    state := fun d => p.states / 16 ^ d % 16, slow := slow }

/-- |SPEED| within V_LEV: the speed condition of the relevelling exception, which the engine alone evaluates (R238). -/
def Dev.slowNow (s : Dev) (n : Nat) : Bool :=
  decide (absI (s.rdI (Reg.MOT_VREF n)) ≤ (s.rd (Reg.MOT_SLOW_V_LEV n) * 1000 : Nat))

/-- Rule 5, POSITION. -/
def Dev.rule5 (s : Dev) (n : Fin 16) : Bool :=
  s.mode n.val != 1
    && ((s.pst n.val = Pst.unlearned && !(s.trk n).learn.isSome)
      || (s.pst n.val = Pst.unknown && !s.on (Reg.MOT_STAT_REFRUN n.val)))

/-- Rule 6, DRIVE. -/
def Dev.rule6 (s : Dev) (n : Nat) : Bool := !s.drvReady n

/-- The condition of rule 8 in an evaluation (R245). -/
def Dev.rule8 (s : Dev) (n : Fin 16) : Bool :=
  !s.on (Reg.TRK_STAT_ENC_LOST n.val) && !s.on (Reg.MOT_STAT_TRIP n.val)
    && (decide (((s.rd (Reg.ILK_UCM_V_MM n.val) * 1000 : Nat) : Int) < absI (s.spd n.val))
      || decide (((s.rd (Reg.ILK_UCM_DIST_MM n.val) * 1000 : Nat) : Int) < absI (s.pos n.val - (s.ilk n).pRest) && !(s.ilk n).restDue))

/-- Rule 12 as the engine can tell it from the door states it mirrors (R229, R238): it withdraws the openings of a mask. -/
def Dev.rule12 (s : Dev) (n mask : Nat) : Bool :=
  let shut := fun (d : Nat) => s.rd (Reg.DOR_STAT_STATE n d) = 1 || s.rd (Reg.DOR_STAT_STATE n d) = 2
  s.mode n = 4 && s.on (Reg.DOR_CTRL_EXCL n) && s.fitted n = 3
    && (mask = 3 || (mask = 1 && !shut 1) || (mask = 2 && !shut 0))

/-- Rule 13 (R230, R238). -/
def Dev.rule13 (s : Dev) (n : Nat) : Bool := s.mode n = 3 && s.on (Reg.DOR_CTRL_FF_CP n)

/-- The fixed rules in force, rule i in bit i as ILK_ACTIVE_F has them; rule 9 as the slice reports it. -/
def Dev.fixedOn (s : Dev) (n : Fin 16) (x : RuleIn) (r8 : Bool) : Nat :=
  let b := fun (i : Nat) (c : Bool) => if c then 2 ^ i else 0
  b 1 x.rule1 + b 2 x.rule2 + b 3 x.rule3 + b 4 x.rule4 + b 5 (s.rule5 n) + b 6 (s.rule6 n.val) + b 7 x.rule7 + b 8 r8
    + b 9 (s.on (Reg.FIO_SAFE_STAT_MISM_A n.val) || s.on (Reg.FIO_SAFE_STAT_MISM_B n.val))
    + b 10 (s.ilk n).trackOn + b 11 x.rule11 + b 12 (s.rule12 n.val 1 || s.rule12 n.val 2) + b 13 (s.rule13 n.val)

/-- The lowest-numbered rule in force that withdraws an effect (R240): 0 RUN, 1 DA, 2 DB, 3 HOLD, 4 SAFE; 0 where none
does. -/
def Dev.lowestRule (s : Dev) (n : Fin 16) (eff : Nat) : Nat :=
  let f := 2 * s.rd (Reg.ILK_ACTIVE_F n.val)
  let fixed := match eff with
    | 0 => [1, 4, 5, 6, 7, 11]
    | 1 => [3]
    | 2 => [3]
    | 3 => [7]
    | _ => [2, 8, 9]
  match fixed.find? fun r => bit f r with
  | some r => r
  | none =>
    match (List.range 16).find? fun r =>
        bit (s.rd (Reg.ILK_ACTIVE_C n.val)) r && bit (s.rd (Reg.ILK_RULE_EFFECT n.val r)) eff with
    | some r => 32 + r
    | none => 0

/-- UCM: rule 8 comes into force (R246). -/
def Dev.ucmFires (s : Dev) (n : Fin 16) : Dev :=
  let s := s.inc (Reg.ILK_CNT_UCM n.val)
  let s := s.raise .ucm n.val [pI 16 4 (s.spd n.val), pI 20 4 (s.pos n.val)]
  (s.ilkEvent n.val 8 1).mapIlk n fun i => { i with ucmOn := true, ucmWait := true, modeEff := true }

/-- Rule 8 over one evaluation: its reference is the first position of the start-up or takeover; once it is in force, the
reference is taken anew where the car next stands still (R245). -/
def Dev.ucmTick (s : Dev) (n : Fin 16) : Dev :=
  let s := if (s.ilk n).restDue && !(s.trk n).hist.isEmpty then
      s.mapIlk n fun i => { i with pRest := s.pos n.val, restDue := false }
    else s
  let s := if (s.ilk n).ucmWait && s.atRest n.val then
      s.mapIlk n fun i => { i with pRest := s.pos n.val, ucmWait := false }
    else s
  let c := s.rule8 n
  if c && !(s.ilk n).ucmOn then s.ucmFires n
  else if !c && (s.ilk n).ucmOn then s.mapIlk n fun i => { i with ucmOn := false }
  else s

/-- Rule 10, TRACKING: TRACK_MAX faults within TRACK_WIN_S. -/
def Dev.trackRule (s : Dev) (n : Fin 16) : Dev :=
  let w := s.rd (Reg.ILK_OOS_TRACK_WIN_S n.val) * 1000000000
  let l := (s.ilk n).trackGt.filter fun g => s.gt ≤ g + w
  let on := decide (s.rd (Reg.ILK_OOS_TRACK_MAX n.val) ≤ l.length)
  let rise := on && !(s.ilk n).trackOn
  (s.wr (Reg.ILK_TRACK_RUN n.val) l.length).mapIlk n fun i =>
    { i with trackGt := l, trackOn := on, modeEff := i.modeEff || rise }

/-- INTERLOCK_EVALUATION of a tick: R_e for the next tick, its comparable result, the registers that show them; a rule
that opens SAFE outputs which are on posts INTERLOCK with outcome 1 (R240). The mode is that of the tick's mode evaluation,
which the same frame carries, so that both sides judge it alike (R237, R243). -/
def Dev.ilkEval (s : Dev) (n : Fin 16) : Dev :=
  let k := n.val
  let cmp := s.ruleIn n true
  let own := s.ruleIn n (s.slowNow k)
  let v := cmp.runs (s.ilk n).ruleRun
  let r8 := (s.ilk n).ucmOn
  let base := own.result v
  let lev := ({ own with sig := fun i => i = 41 || own.sig i } : RuleIn).result v
  let re : IlkRes :=
    { base with run := base.run && !s.rule5 n && !s.rule6 k, safe := base.safe && !r8, ucm := r8 }
  let fix := s.fixedOn n own r8
  let act := (List.finRange 16).foldl (fun (a : Nat) (r : Fin 16) => if own.cfgOn v r then a + 2 ^ r.val else a) 0
  let opened := s.on (Reg.ILK_STAT_SAFE_ON k) && (s.ilk n).re.safe && !re.safe && !r8
  let sq := (s.snapOf n).seq
  let s := ((s.wr (Reg.ILK_ACTIVE_F k) (fix / 2)).wr (Reg.ILK_ACTIVE_C k) act).mapIlk n fun i => { i with
    re := re, run5 := base.run && !s.rule6 k, runRel := lev.run && !s.rule5 n && !s.rule6 k, ev := s.evals k, ruleRun := v, snapUsed := sq, rcHist := ((sq % 256, cmp.result v) :: i.rcHist).take 8 }
  let m := re.meet (s.ilk n).rs
  let s := ((s.flag (Reg.ILK_STAT_RUN k) m.run).flag (Reg.ILK_STAT_DA k) m.da).flag (Reg.ILK_STAT_DB k) m.db
  let s := s.flag (Reg.ILK_STAT_HOLD k) m.hold
  if opened then s.ilkEvent k (s.lowestRule n 4) 1 else s

/-- DISAGREEMENT at the start of a tick (R243): the result reported in the last tick against the engine's own. -/
def Dev.ilkCompare (s : Dev) (n : Fin 16) : Dev :=
  match (s.ilk n).rcGot with
  | none => s.inc (Reg.ILK_MISS_CNT n.val)
  | some (sq, rc) =>
    let h := (s.ilk n).rcHist
    let s := s.mapIlk n fun i => { i with rcGot := none }
    match (h.drop 2 ++ h.take 2).find? fun p => p.1 = sq % 256 with
    | none => s
    | some (_, own) =>
      if own = rc then (s.flag (Reg.ILK_STAT_MIRROR_OK n.val) true).mapIlk n fun i => { i with disRun := 0 }
      else ((s.flag (Reg.ILK_STAT_MIRROR_OK n.val) false).inc (Reg.ILK_DIS_CNT n.val)).mapIlk n fun i =>
        { i with disRun := i.disRun + 1 }

/-- The engine has disagreed for DIS_TICKS: it has failed, cause 2 (R243). -/
def Dev.ilkFailed (s : Dev) (n : Fin 16) : Bool := decide (s.rd (Reg.ILK_CTRL_DIS_TICKS n.val) ≤ (s.ilk n).disRun)

/-! Modes (R251, R252) -/

/-- A role input of a car; 0xFF reads inactive. -/
def Dev.roleIn (s : Dev) (n : Fin 16) (f : Nat → RF) : Bool := s.snapIn n (s.rd (f n.val))

/-- The car stands at rest in the door zone of a landing. -/
def Dev.restAt (s : Dev) (n : Fin 16) (l : Nat) : Bool := s.atLanding n = some l

/-- Entry to OUT_OF_SERVICE: a trip under way stops at its horizon landing (R251). -/
def Dev.oosEntry (s : Dev) (n : Fin 16) : Dev :=
  match (s.mot n).trip with
  | some t =>
    if t.kind = .stop && t.phase = .running then
      let s := s.mapMot n fun m => { m with oosStop := true }
      if t.committed || t.plan.isNone then s
      else match s.stopLand n t with
        | some l => s.retarget n { t with next := false } l
        | none => s.rampTrip n t true
    else if t.kind = .stop || t.kind = .creep || t.kind = .insp then s.rampTrip n t true
    else s
  | none => s

/-- Entry to INSPECTION: a trip under way ramps to rest and ends (R251). -/
def Dev.inspEntry (s : Dev) (n : Fin 16) : Dev :=
  match (s.mot n).trip with
  | some t => if t.phase = .running || t.phase = .ramp then s.rampTrip n t true else s.endTrip n t
  | none => s

/-- A stored scene ordered on the car's chains; its number is a free value (R30, log entry 104). -/
def Dev.orderScene (s : Dev) (n : Fin 16) : Dev :=
  let (x, s) := s.fresh 256
  s.mapMot n fun m => { m with sceneReq := m.sceneReq ++ [x] }

/-- Entry to RECALL: the recall scene (R30); a car that moves with no trip active is given one to the recall landing (R190); a
car at rest there opens its recall doors (R228). -/
def Dev.rclEntry (s : Dev) (n : Fin 16) : Dev :=
  let s := s.orderScene n
  let l := (s.ilk n).rclLand
  let s := if (s.mot n).trip.isSome || s.atRest n.val then s
    else s.setTrip n (some (mkTrip .stop (some l) (decide (s.pos n.val < s.floor n l))))
  if s.restAt n (s.ilk n).rclLand && (s.ilk n).rclDoors != 0 then
    s.mapMot n fun m => { m with openReq := m.openReq ++ [((s.ilk n).rclDoors, 0, 0)] }
  else s

/-- The car's mode put to another with a trigger: CAR_MODE, the calls dropped, a learn trip aborted, and what the new
mode does on entry. -/
def Dev.setMode (s : Dev) (n : Fin 16) (new trigger : Nat) : Dev :=
  let old := s.mode n.val
  if old = new then s
  else
    let s := (s.wr (Reg.ILK_STAT_MODE n.val) new).raise .carMode n.val [pU 16 1 old, pU 17 1 new, pU 18 1 trigger]
    let s := if new = 0 then s else s.dropCalls n 1 fun _ => true
    let s := s.mapTrk n fun t => { t with learn := t.learn.map fun l => { l with aborted := true } }
    let s := s.mapMot n fun m => { m with oosStop := false }
    if new = 5 then s.oosEntry n else if new = 1 then s.inspEntry n else if new = 2 then s.rclEntry n else s

/-- The recall landing and doors of automatic recall (R251). -/
def Dev.autoRecall (s : Dev) (n : Fin 16) : Dev :=
  s.mapIlk n fun i => { i with rclLand := s.rd (Reg.ILK_RECALL_LANDING n.val), rclDoors := s.rd (Reg.ILK_RECALL_DOORS n.val) }

/-- Every door of a mask is OPEN. -/
def Dev.doorsOpen (s : Dev) (n mask : Nat) : Bool :=
  (List.range 2).all fun d => !bit mask d || s.rd (Reg.DOR_STAT_STATE n d) = 4

/-- CAR_MODE requests still pending are not applied: each completes refused, with INTERLOCK rule 0 (R253). -/
def Dev.refuseReqs (s : Dev) (n : Fin 16) : Dev :=
  let l := (s.ilk n).req
  let s := s.mapIlk n fun i => { i with req := [] }
  l.foldl (fun (s : Dev) (r : ModeReq) => (s.ilkEvent n.val 0 0).admSet r.sq r.dn (AdmRes.refuse Stat.refused)) s

/-- A CAR_MODE applied: the mode, and the recall landing and doors it carries (R251, R253). -/
def Dev.applyReq (s : Dev) (n : Fin 16) (r : ModeReq) : Dev :=
  let s := if 2 ≤ r.mode && r.mode ≤ 4 then s.mapIlk n fun i => { i with rclLand := r.land, rclDoors := r.doors } else s
  let s := if r.mode = 4 then s.mapIlk n fun i => { i with home := some r.land } else s
  (s.setMode n r.mode 0).admSet r.sq r.dn (AdmRes.done 0 0)

/-- Whether any controller holds the car's lease, by the upstream HOLDER and the partner's observation (R252). -/
def Dev.leaseHeld (s : Dev) (n : Nat) : Bool :=
  s.on (Reg.SLP_STAT_OWN n) || (s.rd (Reg.SLP_STAT_HOLDER n) != 3 && s.rd (Reg.SLP_STAT_HOLDER n) != s.xy)
    || bit (s.rd Reg.PBX_HELD_PEER) n

/-- The mode an EVR's step sets: RECALL at step 1, EVACUATION or RECALL at step 5 (R255); a car that holds its step (R256) or
is UNLEARNED (R159) is left alone. -/
def Dev.evrMode (s : Dev) (n : Fin 16) : Dev :=
  match (s.ilk n).evr with
  | none => s
  | some e =>
    if s.pst n.val = Pst.unlearned || (s.mode n.val = 5 && e.step != 1) then s
    else if e.step = 1 then
      if s.mode n.val = 2 && (s.ilk n).rclLand = e.land && (s.ilk n).rclDoors = s.rd (Reg.ILK_EVR_EXIT_MASK n.val) then s
      else
        let s := s.mapIlk n fun i => { i with rclLand := e.land, rclDoors := s.rd (Reg.ILK_EVR_EXIT_MASK n.val) }
        if s.mode n.val = 2 then s.rclEntry n else s.setMode n 2 5
    else if e.step = 5 && s.on (Reg.ILK_CTRL_EVAC_LIFT n.val) && s.mode n.val != 4 then
      (s.mapIlk n fun i => { i with home := some e.land }).setMode n 4 5
    else if e.step = 5 && !s.on (Reg.ILK_CTRL_EVAC_LIFT n.val) then s.setMode n 2 5
    else s

/-- SLICE_ORPHAN on entry to ORPHAN (R284): ms since the last acknowledged frame left. -/
def Dev.orphanEvent (s : Dev) (n : Fin 16) : Dev :=
  s.raise .sliceOrphan n.val [pU 16 4 ((s.gt - ((s.links[n].dep).getD s.gt)) / 1000000)]

/-- A rule with a mode effect that came into force, taken. -/
def Dev.takeEff (s : Dev) (n : Fin 16) : Dev := s.mapIlk n fun i => { i with modeEff := false }

/-- What the holder of a car's lease is judged by: upstream frames on this controller's port, or the partner (R284). -/
def Dev.holderSeen (s : Dev) (n : Fin 16) : Bool :=
  let k := s.rd (Reg.SLP_STAT_LINK n.val)
  (decide (2 ≤ k) && decide (k ≤ 5) && !s.links[n].first) || s.rd Reg.PBX_STAT_LINK = 4

/-- A slice that reports another stepping (R3). -/
def Dev.foreignStep (s : Dev) (n : Nat) : Bool := s.on (Reg.SLP_CHIPID_STEP n) && s.rd (Reg.SLP_CHIPID_STEP n) != 0xB1

/-- MODE_EVALUATION in the order of R252; the first branch that applies ends it. Without any observation the car is ORPHAN
once its own lease has ended (R284); it returns to its mode as SYNC ends (R286, example of R288). DESIGN CHOICE (log entry
88): a car whose slice reports another stepping, which R3 keeps OUT_OF_SERVICE, is so in the place of ORPHAN. -/
def Dev.modeTick (s : Dev) (n : Fin 16) : Dev :=
  let k := n.val
  let mode := s.mode k
  let i := s.ilk n
  let fire := s.on (Reg.ILK_STAT_FIRE k) && s.on (Reg.ILK_CTRL_AUTO_RECALL k)
  let rcl := s.roleIn n Reg.ILK_ROLE1_RCL_IN
  let ff := s.roleIn n Reg.ILK_ROLE1_FF_IN
  let insp := s.roleIn n Reg.ILK_ROLE0_INSP_IN
  if !s.on (Reg.SLP_STAT_OWN k) then
    let s := s.refuseReqs n
    if s.foreignStep k then (s.takeEff n).setMode n 5 3
    else if (i.had || s.holderSeen n) && !s.leaseHeld k && mode != 6 then
      ((s.wr (Reg.ILK_STAT_PREV_MODE k) mode).setMode n 6 4).orphanEvent n
    else s
  else if mode = 6 && s.rd (Reg.SLP_STAT_LINK k) = 4 then s.refuseReqs n
  else if mode = 6 then (s.refuseReqs n).setMode n (s.rd (Reg.ILK_STAT_PREV_MODE k)) 4
  else if insp && mode != 1 then
    let s := (s.refuseReqs n).setMode n 1 2
    s.mapIlk n fun j => { j with oosPend := j.modeEff, modeEff := false }
  else if mode = 1 && !insp then
    let s := (s.refuseReqs n).takeEff n
    let s := s.mapIlk n fun j => { j with oosPend := false }
    if i.oosPend || i.modeEff then s.setMode n 5 3
    else if s.on (Reg.ILK_STAT_FIRE k) || rcl then (s.autoRecall n).setMode n 2 2
    else s.setMode n 5 2
  else if mode = 1 then (s.refuseReqs n).mapIlk n fun j => { j with oosPend := j.oosPend || j.modeEff, modeEff := false }
  else if i.modeEff then ((s.takeEff n).refuseReqs n).setMode n 5 3
  else match i.req.find? fun r => r.from' = mode with
    | some r => ((s.mapIlk n fun j => { j with req := j.req.erase r }).applyReq n r).refuseReqs n
    | none =>
      let s := s.refuseReqs n
      if mode = 2 && s.on (Reg.ILK_CTRL_FF_LIFT k) && ff && s.restAt n i.rclLand
          && s.doorsOpen k i.rclDoors then s.setMode n 3 2
      else if mode = 3 && !ff then
        if s.restAt n i.rclLand then s.setMode n 2 2
        else
          let c : Call := { land := i.rclLand, kind := 0, doors := i.rclDoors, tag := 0 }
          if (s.mot n).calls = [c] then s else (s.dropCalls n 0 fun x => x.kind = 0).addCall n c
      else if mode = 0 && (fire || rcl) then (s.autoRecall n).setMode n 2 (if fire then 1 else 2)
      else s.evrMode n

/-- FIRE_LATCH: a FIRE-class frame sets the latch of every car with AUTO_RECALL (R252). -/
def Dev.fireLatch (s : Dev) : Dev :=
  (List.range 16).foldl (fun (s : Dev) (n : Nat) =>
    if s.on (Reg.ILK_CTRL_AUTO_RECALL n) && s.carOn n then s.flag (Reg.ILK_STAT_FIRE n) true else s) s

/-! CAR_MODE (R253) -/

/-- What NORMAL needs beyond its table row: RCL_IN and FF_IN inactive, SAFE latch clear, not UNLEARNED, identity
confirmed; `rcl` leaves RCL_IN out, as RECALL and EVACUATION from OUT_OF_SERVICE do. -/
def Dev.normalOk (s : Dev) (n : Fin 16) (rcl : Bool) : Bool :=
  (!rcl || !s.roleIn n Reg.ILK_ROLE1_RCL_IN) && !s.roleIn n Reg.ILK_ROLE1_FF_IN
    && !s.on (Reg.ILK_STAT_SAFE_LATCH n.val) && s.pst n.val != Pst.unlearned && !s.on (Reg.SLP_STAT_ID_PEND n.val)

/-- The table of R253. -/
def Dev.modeOk (s : Dev) (n : Fin 16) (new land : Nat) : Bool :=
  let k := n.val
  let old := s.mode k
  if old = 1 || (s.ilk n).evr.isSome then false
  else if new = old then true
  else if new = 0 then [2, 3, 4, 5].contains old && s.normalOk n true
  else if new = 2 then [0, 3, 4, 5].contains old && s.served k land && (old != 5 || s.normalOk n false)
  else if new = 3 then
    old = 2 && s.on (Reg.ILK_CTRL_FF_LIFT k) && s.restAt n (s.ilk n).rclLand && land = (s.ilk n).rclLand
  else if new = 4 then
    [0, 2, 5].contains old && s.on (Reg.ILK_CTRL_EVAC_LIFT k) && s.served k land && (old != 5 || s.normalOk n false)
  else if new = 5 then [0, 2, 3, 4].contains old
  else false

/-- CAR_MODE (R253): admitted, it waits for the next mode evaluation; NORMAL clears the FIRE latch (R252). -/
def Dev.opCarMode (s : Dev) (sq : Nat) (b : List Byte) : Dev :=
  s.tryAdmit 0x22 sq b fun s dn =>
    let n := Fin.ofNat 16 (dIndex b)
    match s.ownership 0x22 b with
    | some st => s.refuse st
    | none =>
      let r : ModeReq :=
        { mode := byteAt b 16, from' := s.mode n.val, land := byteAt b 17, doors := byteAt b 18, sq := sq, dn := dn }
      if s.pst n.val = Pst.unlearned || !s.modeOk n r.mode r.land then s.refuseIlk n.val 0
      else
        let s := if r.mode = 0 then s.flag (Reg.ILK_STAT_FIRE n.val) false else s
        (s.mapIlk n fun i => { i with req := i.req ++ [r] }, none)

def execCarMode (sq : Fin 32) (d : List Byte) (s : State) : Host.Outcome State Fault Refusal :=
  s.run fun v => v.opCarMode sq.val d

/-! Group Evacuation Recall (R255 to R259) -/

/-- EVR_STEP: car, step, entered or reached. -/
def Dev.evrStepEvent (s : Dev) (n step what : Nat) : Dev := s.raise .evrStep 0 [pU 16 1 n, pU 17 1 step, pU 18 1 what]

/-- The marker written from the cars' EVR records; what a start-up found in it stays until an EVR_START or EVR_ABORT is
admitted (R258). -/
def Dev.evrMark (s : Dev) : Dev :=
  let l := (List.finRange 16).filterMap fun (n : Fin 16) => (s.ilk n).evr.map fun (e : Evr) =>
    ({ car := n.val, step := e.step, land := e.land, tag := e.tag, start := e.start } : MarkCar)
  let old := if s.nv.markOld then s.nv.marker.filter fun m => l.all fun x => x.car != m.car else []
  s.mapNv fun v => { v with marker := sortBy (fun (a b : MarkCar) => a.car ≤ b.car) (old ++ l) }

/-- The EVR record of a car put to a value, with the registers that show it. -/
def Dev.setEvr (s : Dev) (n : Fin 16) (e : Option Evr) : Dev :=
  let s := s.mapIlk n fun i => { i with evr := e }
  let s := (s.flag (Reg.ILK_STAT_EVR n.val) e.isSome).wr (Reg.ILK_STAT_EVR_STEP n.val) ((e.map (·.step)).getD 0)
  ((s.wr (Reg.ILK_EVR_TAG n.val) ((e.map (·.tag)).getD 0)).wr (Reg.ILK_EVR_LANDING n.val) ((e.map (·.land)).getD 0)).evrMark

/-- EVR_DONE of every EVR with no car left (R256). -/
def Dev.evrDone (s : Dev) : Dev :=
  let l := s.evrs.filter fun g => g.cars.isEmpty
  l.foldl (fun (s : Dev) (g : EvrGroup) =>
    s.raise .evrDone 0 [pU 16 2 (g.parked.map fun n => 2 ^ n).sum, pU 20 4 g.tag])
    { s with evrs := s.evrs.filter fun g => !g.cars.isEmpty }

/-- A group without one of its cars, which left as parked or not. -/
def EvrGroup.without (g : EvrGroup) (n : Nat) (parked : Bool) : EvrGroup :=
  if g.cars.contains n then
    { g with cars := g.cars.erase n, parked := if parked then g.parked ++ [n] else g.parked }
  else g

/-- A car leaves its EVR, parked or not. -/
def Dev.evrLeave (s : Dev) (n : Fin 16) (parked : Bool) : Dev :=
  let s := s.setEvr n none
  Dev.evrDone { s with evrs := s.evrs.map fun (g : EvrGroup) => g.without n.val parked }

/-- Whether the target of a step holds (R255). -/
def Dev.evrTarget (s : Dev) (n : Fin 16) (e : Evr) : Bool :=
  let k := n.val
  if e.step = 1 then
    s.mode k = 2 && (s.ilk n).rclLand = e.land && (s.ilk n).rclDoors = s.rd (Reg.ILK_EVR_EXIT_MASK k)
      && (s.mot n).calls.isEmpty
  else if e.step = 2 then s.doorsLocked k || s.restAt n e.land
  else if e.step = 3 then
    s.pst k = Pst.verified && decide (absI (s.pos k - s.floor n e.land) ≤ (s.rd (Reg.MOT_LEV_RELEV_UM k) : Int))
      && (match (s.mot n).trip with
          | none => true
          | some t => t.phase = .ended && t.land = some e.land)
  else if e.step = 4 then s.doorsOpen k (s.rd (Reg.ILK_EVR_EXIT_MASK k))
  else if s.on (Reg.ILK_CTRL_EVAC_LIFT k) then s.mode k = 4 else s.mode k = 2

/-- What a step drives toward beyond the mode it sets: step 4 opens the exit doors with dwell 0. -/
def Dev.evrDrive (s : Dev) (n : Fin 16) (e : Evr) : Dev :=
  let m := s.rd (Reg.ILK_EVR_EXIT_MASK n.val)
  let shut := (List.range 2).any fun d => bit m d && s.rd (Reg.DOR_STAT_STATE n.val d) ≤ 2
  if e.step = 4 && shut && (s.mot n).openReq.isEmpty then
    s.mapMot n fun x => { x with openReq := [(m, 0, 0)] }
  else s

/-- The announcement of an EVR's step: a cue whose message, zones and parameters are free values (R30, log entry 104). -/
def Dev.evrCue (s : Dev) (n : Fin 16) : Dev :=
  if !s.on Reg.LDL_CTRL_CUE_EN || s.cueLinked.isEmpty then s
  else
    let (x, s) := s.fresh (2 ^ 80)
    let s := s.nextCueSeq
    let g := s.gt + s.minLead .n
    let a : Act :=
      { op := 0x12, kind := .n, tclass := 4, tindex := n.val, cmd := 0, sq := 0, member := 0, chord := none, gt := g, tol := 0,
        param := leBytes 10 x, extra := [], gen := s.gen, dn := 0, epoch := 0, slot := 0, slot2 := none, place := .island, ord := 0,
        late := false, waited := false, revoked := false, restored := false, cueSeq := s.rd Reg.LDL_CUE_SEQ, origin := s.xy }
    let s := s.cueSend a false s.gt
    if s.gt + 2000000 < g then s.mapLdl fun l => { l with second := l.second ++ [{ act := a, sgt := s.gt + 2000000 }] } else s

/-- What the entry to a step brings beside its drive: EVR_STEP, the signage and the announcement of the step (R30, R256). -/
def Dev.evrEntered (s : Dev) (n : Fin 16) (step : Nat) : Dev := ((s.evrStepEvent n.val step 0).orderScene n).evrCue n

/-- EVR_TIMEOUT: TMO_S has run since the start; the car leaves, not parked, its mode unchanged (R256). -/
def Dev.evrTimeout (s : Dev) (n : Fin 16) : Dev :=
  match (s.ilk n).evr with
  | none => s
  | some e =>
    if e.start + s.rd (Reg.ILK_EVR_TMO_S n.val) * 1000000000 ≤ s.gt then
      let s := s.note 0x8008 6 47 5 0 [pU 28 1 n.val, pU 29 1 e.step, pU 32 4 e.tag]
      s.evrLeave n false
    else s

def execEvrTimeout (n : Fin 16) (s : State) : Host.Outcome State Fault Refusal := s.run fun d => d.evrTimeout n

/-- EVR_STEP of a tick: at most one step forward (R256). -/
def Dev.evrTick (s : Dev) (n : Fin 16) : Dev :=
  match (s.ilk n).evr with
  | none => s
  | some e =>
    let mode := s.mode n.val
    let s :=
      if mode = 1 || mode = 6 || (mode = 5 && decide (1 < e.step)) then s
      else if s.evrTarget n e then
        let s := s.evrStepEvent n.val e.step 1
        if e.step = 5 then s.evrLeave n true
        else (s.setEvr n (some { e with step := e.step + 1 })).evrEntered n (e.step + 1)
      else s.evrDrive n e
    s.evrTimeout n

/-- Cars of an EVR mask. -/
def maskCars (m : Nat) : List (Fin 16) := (List.finRange 16).filter fun n => bit m n.val

/-- A car placed in an EVR: step 1 entered, or parked at once in FIREFIGHTER (R255). -/
def Dev.evrEnter (s : Dev) (n : Fin 16) (land tag : Nat) : Dev :=
  if s.mode n.val = 3 then
    let s := s.evrStepEvent n.val 5 1
    Dev.evrDone { s with evrs := s.evrs.map fun (g : EvrGroup) => g.without n.val true }
  else
    let l := if s.served n.val land then land else s.rd (Reg.ILK_RECALL_LANDING n.val)
    (s.setEvr n (some { step := 1, land := l, tag := tag, start := s.gt })).evrEntered n 1

/-- EVR_START (R123, R255, R257). DESIGN CHOICE (log entry 104): a car that is UNLEARNED (R159) is passed over and reported
in INFO0 like one not leased; where no other car is left the descriptor is refused. -/
def Dev.opEvrStart (s : Dev) (sq : Nat) (b : List Byte) : Dev :=
  s.tryAdmit 0x23 sq b fun s _ =>
    let cars := maskCars (leAt b 16 2)
    let acts := fun (n : Fin 16) => s.on (Reg.SLP_STAT_OWN n.val) && s.pst n.val != Pst.unlearned
    let own := cars.filter acts
    let skip := ((cars.filter fun n => !acts n).map fun n => 2 ^ n.val).sum
    let tag := leAt b 20 4
    if cars.any fun n => (s.ilk n).evr.isSome then s.refuse Stat.busy
    else if cars.all fun n => !s.on (Reg.SLP_STAT_OWN n.val) then s.refuse Stat.foreignOwner
    else if own.isEmpty then s.refuse Stat.refused
    else
      let s := (s.mapNv fun v => { v with markOld := false }).evrMark
      let s := { s with evrs := s.evrs ++ [{ tag := tag, cars := own.map (·.val), parked := [] }] }
      (own.foldl (fun (s : Dev) (n : Fin 16) => s.evrEnter n (byteAt b 18) tag) s, some (AdmRes.done skip 0))

def execEvrStart (sq : Fin 32) (d : List Byte) (s : State) : Host.Outcome State Fault Refusal :=
  s.run fun v => v.opEvrStart sq.val d

/-- EVR_ABORT (R257): the cars of the mask leave their EVR in their present mode; INFO0 is the mask of those taken out. -/
def Dev.opEvrAbort (s : Dev) (sq : Nat) (b : List Byte) : Dev :=
  s.tryAdmit 0x24 sq b fun s _ =>
    let cars := (maskCars (leAt b 16 2)).filter fun n => (s.ilk n).evr.isSome && s.pst n.val != Pst.unlearned
    let s := (s.mapNv fun v => { v with markOld := false }).evrMark
    (cars.foldl (fun (s : Dev) (n : Fin 16) => s.evrLeave n false) s,
      some (AdmRes.done ((cars.map fun n => 2 ^ n.val).sum) 0))

def execEvrAbort (sq : Fin 32) (d : List Byte) (s : State) : Host.Outcome State Fault Refusal :=
  s.run fun v => v.opEvrAbort sq.val d

/-! SAFE as the controller sees it (R247 to R249) -/

/-- A SAFE_DROP reported by the slice: counted, latched with its cause; a feedback mismatch brings rule 9 into
force and takes the car to OUT_OF_SERVICE (R248). -/
def Dev.safeDropped (s : Dev) (n : Fin 16) (cause : Nat) : Dev :=
  let s := ((s.inc (Reg.ILK_CNT_SAFE n.val)).flag (Reg.ILK_STAT_SAFE_LATCH n.val) true).wr (Reg.ILK_STAT_SAFE_CAUSE n.val) cause
  if cause = 3 then (s.ilkEvent n.val 9 1).mapIlk n fun i => { i with modeEff := true } else s

/-- MIRROR_FAULT reported by the slice (R244). -/
def Dev.mirrorFault (s : Dev) (n : Fin 16) : Dev :=
  if s.on (Reg.ILK_STAT_MIRROR_FAULT n.val) then s
  else
    let s := (s.flag (Reg.ILK_STAT_MIRROR_FAULT n.val) true).mapIlk n fun i => { i with modeEff := true }
    s.note 0x8013 6 (48 + n.val) 1 n.val [pU 28 1 n.val]

/-- Why SAFE_REARM is refused (R249): the rule it names, 0 for a condition that no rule states; none where it is not. -/
def Dev.rearmBar (s : Dev) (n : Fin 16) : Option Nat :=
  let k := n.val
  let safeOn := (s.ilk n).re.safe && (s.ilk n).rs.safe
  if !safeOn then some (s.lowestRule n 4)
  else if s.on (Reg.ILK_STAT_MIRROR_FAULT k) || (s.snapOf n).doors / 16 % 4 != 0
      || (s.rd (Reg.ILK_STAT_SAFE_CAUSE k) = 2 && s.rd (Reg.ILK_ROLE1_UCM_RST k) != 0xFF
          && !s.roleIn n Reg.ILK_ROLE1_UCM_RST) then some 0
  else none

end Sys2Proof.Machine
end

