-- ==== Sys2Proof/Machine/SliceOps.lean ====
section
/-! DEFINITION. Named operations over a slice: its registers and configuration, its replica, the records it queues, its
outputs with the common fault (R56, R268, R270, R299 to R307). -/

namespace Sys2Proof.Machine

/-! Registers, configuration, time -/

/-- One slice rewritten. -/
def State.runS (s : State) (n : Fin 16) (f : Slice → Slice) : Host.Outcome State Fault Refusal :=
  .next { s with slices := s.slices.set n (f s.slices[n]) }

/-- A register the slice keeps, by its field in the windows of car 0. -/
def Slice.rd (s : Slice) (f : Nat → RF) : Nat := s.regs.rd (f 0)
def Slice.wr (s : Slice) (f : Nat → RF) (v : Nat) : Slice := { s with regs := s.regs.wr (f 0) v }
def Slice.wrI (s : Slice) (f : Nat → RF) (x : Int) : Slice := s.wr f (ofSigned (f 0).w x)
def Slice.inc (s : Slice) (f : Nat → RF) : Slice := s.wr f (s.rd f + 1)
def Slice.flag (s : Slice) (f : Nat → RF) (b : Bool) : Slice := s.wr f (b2n b)

/-- A setting of the active configuration; without one, its reset value (R276). -/
def Slice.set (s : Slice) (f : Nat → RF) : Nat :=
  match s.cfg with
  | some c => c.regs.rd (f 0)
  | none => (f 0).rst

def Slice.setOn (s : Slice) (f : Nat → RF) : Bool := s.set f != 0

/-- A setting of a door. -/
def Slice.dset (s : Slice) (d : Fin 2) (f : Nat → Nat → RF) : Nat := s.set fun n => f n d.val

/-- The slice's replica moved on to an instant; an earlier instant moves nothing (log entry 4). -/
def Slice.at (s : Slice) (t : Nat) : Slice := if s.gt ≤ t then { s with gt := t } else s

/-- A port rewritten. -/
def Slice.mapPort (s : Slice) (p : Fin 2) (f : SPort → SPort) : Slice := { s with ports := s.ports.set p (f s.ports[p]) }
def Slice.mapDoor (s : Slice) (d : Fin 2) (f : Door → Door) : Slice := { s with doors := s.doors.set d (f s.doors[d]) }
def Slice.mapHel (s : Slice) (p : Fin 2) (f : Hel → Hel) : Slice := { s with hels := s.hels.set p (f s.hels[p]) }
def Slice.mapFio (s : Slice) (f : Fio → Fio) : Slice := { s with fio := f s.fio }
def Slice.mapLse (s : Slice) (f : Lse → Lse) : Slice := { s with lse := f s.lse }
def Slice.mapLamps (s : Slice) (f : Lamps → Lamps) : Slice := { s with lamps := f s.lamps }

/-- What leaves the slice. -/
def Slice.emit (s : Slice) (o : SOut) : Slice := { s with tx := o :: s.tx }

/-! Records (R268, R270) -/

/-- Unacknowledged records a port holds at most. -/
def linkQueueMax : Nat := 512

/-- A reliable record queued on a port; with the queue full it is counted instead. -/
def Slice.queueTo (s : Slice) (p : Fin 2) (ty : Nat) (body : List Byte) : Slice :=
  if linkQueueMax ≤ s.ports[p].queue.length then s.inc Reg.SLP_CNT_QFULL
  else s.mapPort p fun q => { q with queue := q.queue ++ [{ ty := ty, body := body, tag := 0, num := none, sent := 0, due := true }] }

/-- A reliable record for both ports. -/
def Slice.queueAll (s : Slice) (ty : Nat) (body : List Byte) : Slice := (s.queueTo 0 ty body).queueTo 1 ty body

/-- An event record: its code, then its payload from byte 16, as it stands in memory (R14, R268). -/
def Slice.evt (s : Slice) (e : Ev) (len : Nat) (pay : List Part) : Slice :=
  s.queueAll 0x84 (beBytes 2 e.code ++ layout 16 len pay)

/-- A door event record. -/
def Slice.dev (s : Slice) (d : Fin 2) (old new cause : Nat) : Slice :=
  s.queueAll 0x83 (leBytes 1 d.val ++ leBytes 1 old ++ leBytes 1 new ++ leBytes 1 cause ++ beBytes 8 s.gt)

/-- Outcomes of a delivered action (R268). -/
def Outc.fired : Nat := 0
def Outc.late : Nat := 1
def Outc.expired : Nat := 2
def Outc.refused : Nat := 3
def Outc.discarded : Nat := 4

/-- The outcome of a delivered action, on both ports: a new holder reads it on its own (R133, R397). -/
def Slice.report (s : Slice) (a : SAct) (outcome info g : Nat) : Slice :=
  s.queueAll 0x81 (beBytes 2 a.slot ++ leBytes 1 outcome ++ leBytes 1 info ++ beBytes 8 g)

/-- A delivered action discarded: it leaves the slice and is reported so (R132, R269). -/
def Slice.discard (s : Slice) (a : SAct) : Slice :=
  { s.report a Outc.discarded 0 s.gt with acts := s.acts.filter fun x => x != a }

/-! Firing room (R135) -/

/-- Room left in tick `k`: at most 4 actions of the car, 64 in all. -/
def Slice.roomLeft (s : Slice) (k : Nat) : Bool :=
  let l := s.room.filter fun u => u.tick = k
  decide ((l.filter fun u => u.pool = 0).length < 4) && decide (l.length < 64)

/-- An action that fires in tick `k` takes room there. -/
def Slice.useRoom (s : Slice) (k : Nat) (a : SAct) : Slice :=
  { s with room := s.room ++ [{ tick := k, pool := 0, slot := some a.slot }] }

/-! Inputs and outputs -/

/-- Colander's value of an input; an input the slice does not have reads inactive (R295). -/
def Slice.input (s : Slice) (i : Nat) : Bool := decide (i < 32) && bit (s.rd Reg.FIO_VAL) i

/-- An input named by a setting of a door; 0xFF names none. -/
def Slice.din (s : Slice) (d : Fin 2) (f : Nat → Nat → RF) : Bool := s.input (s.dset d f)

/-- Whether a door is fitted (R211, R446). -/
def Slice.fits (s : Slice) (d : Fin 2) : Bool :=
  s.cfg.isSome && s.setOn (if d = 0 then Reg.DOR_CTRL_FIT_DA else Reg.DOR_CTRL_FIT_DB)

/-- Outputs that stand in one unit with output `i` (R301). -/
def Slice.unit (s : Slice) (i : Nat) : Nat :=
  if bit (s.set Reg.FIO_OUT_PAR) (i / 2) then 3 * 2 ^ (i / 2 * 2) else 2 ^ i

/-- A mask widened to whole units. -/
def Slice.units (s : Slice) (m : Nat) : Nat :=
  (List.range 16).foldl (fun (a : Nat) (i : Nat) => if bit m i then a ||| s.unit i else a) 0

/-- One output bit of a role; a number above 15 names none. -/
def roleBit (i : Nat) (on : Bool) : Nat := if on && decide (i < 16) then 2 ^ i else 0

/-- Role demands: the buzzer of a door in NUDGING, the overload output while rule 7 is in force (R225, R239, R299). -/
def Slice.roles (s : Slice) : Nat :=
  s.units (roleBit (s.dset 0 Reg.DOR_ROLE_BUZ_OUT) (s.doors[0].st = 8)
    ||| roleBit (s.dset 1 Reg.DOR_ROLE_BUZ_OUT) (s.doors[1].st = 8)
    ||| roleBit (s.set Reg.ILK_ROLE1_OVL_OUT) s.lse.ovl)

/-- The demand of each output (R299). -/
def Slice.demand (s : Slice) : Nat := s.units (s.rd Reg.FIO_OUT_CMD_ACTION) ||| s.roles

/-- The channels in fault; one of a latched pair whose own stage did not trip reports none of its own (R307). -/
def Slice.faults (s : Slice) : Nat :=
  let sound := s.fio.latch ^^^ (s.fio.latch &&& s.fio.trip)
  s.fio.trip ||| (((s.fio.openL &&& s.set Reg.FIO_OUT_DIAG_OL_EN) ||| (s.fio.shortV &&& s.set Reg.FIO_OUT_DIAG_SB_EN)) &&& (0xFFFF ^^^ sound))
    ||| (b2n (s.rd Reg.FIO_SAFE_STAT_MISM_A = 1) * 2 ^ 16) ||| (b2n (s.rd Reg.FIO_SAFE_STAT_MISM_B = 1) * 2 ^ 17)
    ||| (b2n s.fio.supply * 2 ^ 18) ||| (b2n s.fio.hot * 2 ^ 19)

/-- The common fault follows its channels, but stands for 100 ms at least; each change sends IO_FAULT (R307). -/
def Slice.faultRule (s : Slice) : Slice :=
  let now := s.gt
  let any := s.faults != 0
  let f := s.rd Reg.FIO_STAT_FAULT = 1
  if any && !f then
    (((s.wr Reg.FIO_STAT_FAULT 1).inc Reg.FIO_CNT_FAULT).mapFio fun x => { x with faultGt := now }).evt .ioFault 1
      [pU 16 1 0]
  else if !any && f && decide (s.fio.faultGt + 100000000 ≤ now) then (s.wr Reg.FIO_STAT_FAULT 0).evt .ioFault 1 [pU 16 1 1]
  else s

/-- A stage in thermal shutdown latches its unit as soon as it has demand; each unit latched counts once (R303, R502). -/
def Slice.heatRule (s : Slice) : Slice :=
  let m := if s.fio.vsOff then 0 else s.demand &&& s.fio.heat
  let u := s.units m
  let new := (List.range 16).filter fun i => bit u i && !bit s.fio.latch i && (i % 2 = 0 || !bit (s.set Reg.FIO_OUT_PAR) (i / 2))
  (s.mapFio fun x => { x with latch := x.latch ||| u, trip := x.trip ||| m }).wr Reg.FIO_CNT_LATCH
    (s.rd Reg.FIO_CNT_LATCH + new.length)

/-- A feedback's conditioned level shown as its reading (R306). -/
def Slice.sfbShow (s : Slice) (i : Fin 34) : Slice :=
  let inv := s.setOn (if i.val = 32 then Reg.FIO_SAFE_CFG_SFB_INV_A else Reg.FIO_SAFE_CFG_SFB_INV_B)
  s.flag (if i.val = 32 then Reg.FIO_SAFE_STAT_SFB_A else Reg.FIO_SAFE_STAT_SFB_B) (s.fio.ins[i].deb != inv)

/-- Since when each output has had its demand. -/
def Slice.noteDemand (s : Slice) : Slice :=
  let d := s.demand
  let now := s.gt
  s.mapFio fun x => { x with
    dem := d, demGt := Vector.ofFn fun (i : Fin 16) => if bit d i.val = bit x.dem i.val then x.demGt[i] else now }

/-- What follows any change of demands: the demands shown, latches of units without demand cleared, stages in thermal shutdown
latched, diagnostic faults that need the other demand ended, the common fault brought up to date (R299, R303, R307); and since
when a SAFE feedback has
disagreed with its output (R248). -/
def Slice.settle (s : Slice) : Slice :=
  let d := s.demand
  let bad := (s.rd Reg.FIO_SAFE_STAT_SFB_A = 1) != s.lse.trains || (s.rd Reg.FIO_SAFE_STAT_SFB_B = 1) != s.lse.trains
  let now := s.gt
  let s := s.mapLse fun l => { l with sfbSince := if bad then some (l.sfbSince.getD now) else none }
  let s := (s.wr Reg.FIO_OUT_CMD_ROLE s.roles).mapFio fun x => { x with
    latch := x.latch &&& d, trip := x.trip &&& d, openL := x.openL &&& d, shortV := x.shortV &&& (0xFFFF ^^^ d) }
  s.heatRule.noteDemand.faultRule

/-- A happening at slice `n` at instant `t` of its replica; a slice in reset does nothing. -/
def State.slice (s : State) (n : Fin 16) (t : Nat) (f : Slice → Slice) : Host.Outcome State Fault Refusal :=
  s.runS n fun c => if c.on then (f (c.at t)).settle else c

/-- The slice knows what has fired in its tick, where this controller leads it (R135). -/
def Slice.takeRoom (c : Slice) (d : Dev) (n : Nat) : Slice :=
  let l := if d.on (Reg.SLP_STAT_OWN n) then d.ladle.room.map fun u => { u with pool := if u.pool = n then 0 else 1 } else c.room
  { c with room := l.filter fun u => c.gt / tickNs ≤ u.tick }

/-- The room that actions take at slice `n`, counted where this controller leads it. -/
def Dev.sliceRoom (d : Dev) (n : Nat) (l : List RoomUse) : Dev :=
  if d.on (Reg.SLP_STAT_OWN n) && !l.isEmpty then d.takeRoom (l.map fun u => { u with pool := n }) else d

/-- A happening at slice `n` in which actions fire: they take the room of the car and of the group (R135). -/
def State.sliceFire (s : State) (n : Fin 16) (t : Nat) (f : Slice → Slice) : Host.Outcome State Fault Refusal :=
  let c := s.slices[n]
  if !c.on then .next s
  else
    let c := (c.at t).takeRoom s.dev n.val
    let c' := (f c).settle
    .next { s with slices := s.slices.set n c', dev := s.dev.sliceRoom n.val (c'.room.drop c.room.length) }

end Sys2Proof.Machine
end

