-- ==== Sys2Proof/Machine/Doors.lean ====
section
/-! DEFINITION. The door channels of a slice (R207 to R234). -/

namespace Sys2Proof.Machine

/-! Door states (R112, R211) -/

def DoorSt.free : Nat := 0
def DoorSt.locked : Nat := 1
def DoorSt.closed : Nat := 2
def DoorSt.opening : Nat := 3
def DoorSt.open' : Nat := 4
def DoorSt.held : Nat := 5
def DoorSt.closing : Nat := 6
def DoorSt.reversing : Nat := 7
def DoorSt.nudging : Nat := 8
def DoorSt.fault : Nat := 9

/-! Timers -/

/-- A timer has run for a time, ns. -/
def Timer.done (t : Timer) (gt ns : Nat) : Bool :=
  match t with
  | .since g => decide (g + ns ≤ gt)
  | _ => false

/-- A timer stopped, and one that goes on with the time it had left (R232). -/
def Timer.stop (t : Timer) (gt : Nat) : Timer :=
  match t with
  | .since g => .ran (gt - g)
  | t => t
def Timer.resume (t : Timer) (gt : Nat) : Timer :=
  match t with
  | .ran n => .since (gt - n)
  | t => t

/-- A condition kept with the instant from which it has held without a break. -/
def heldSince (old : Option Nat) (on : Bool) (gt : Nat) : Option Nat := if on then some (old.getD gt) else none

/-- A condition has held for a time, ns. -/
def heldFor (since : Option Nat) (gt ns : Nat) : Bool :=
  match since with
  | some g => decide (g + ns ≤ gt)
  | none => false

def msNs : Nat := 1000000

/-- The arbiter has no holder (R284). -/
def Slice.orphan (s : Slice) : Bool :=
  match s.arb with
  | .held _ _ => false
  | _ => true

/-- HOLD in force for the slice: its own result or the engine's (R242). -/
def Slice.holdOn (s : Slice) : Bool := s.lse.re.hold || s.lse.rs.hold

/-- The door encoder works: fitted, and neither lost nor suspect (R216, R234). -/
def Slice.encWorks (s : Slice) (d : Fin 2) : Bool :=
  s.dset d Reg.DOR_ROLE_ENC_EN = 1 && !s.doors[d].encLost && !s.doors[d].suspect

/-- Mode E stall detection applies (R218, R219). -/
def Slice.modeE (s : Slice) (d : Fin 2) : Bool := s.dset d Reg.DOR_ROLE_STALL = 0 && s.encWorks d

/-! Position (R209, R210) -/

/-- Encoder position and commanded position, µm. -/
def Slice.encUm (s : Slice) (d : Fin 2) : Int :=
  truncDiv (s.doors[d].enc * s.dset d Reg.DOR_ENC_UM_CNT) 100 + s.doors[d].encOfs
def Slice.stepUm (s : Slice) (d : Fin 2) : Int :=
  truncDiv (s.doors[d].u * s.dset d Reg.DOR_GEOM_UM_FS) 2560 + s.doors[d].uOfs

/-- The door's position, µm. -/
def Slice.doorUm (s : Slice) (d : Fin 2) : Int :=
  if s.dset d Reg.DOR_ROLE_ENC_EN = 1 then s.encUm d else s.stepUm d

/-- The microstep position at which the motor's field stands at a position in µm (R216, R218). -/
def Slice.toU (s : Slice) (d : Fin 2) (um : Int) : Int :=
  truncDiv ((um - s.doors[d].uOfs) * 2560) (s.dset d Reg.DOR_GEOM_UM_FS)

/-- Position of an end, µm. -/
def Slice.endUm (s : Slice) (d : Fin 2) (toOpen : Bool) : Int :=
  if toOpen then ((s.dset d Reg.DOR_GEOM_WIDTH_MM * 1000 : Nat) : Int) else 0

/-- Both positions made to read `x` at the door's present place. -/
def Slice.setPos (s : Slice) (d : Fin 2) (x : Int) : Slice :=
  let e := s.encUm d - s.doors[d].encOfs
  let m := s.stepUm d - s.doors[d].uOfs
  s.mapDoor d fun a => { a with encOfs := x - e, uOfs := x - m, cmd := x * 1000000000 }

/-- A timer of a door that starts: stopped at once in an orphan slice (R232). -/
def Slice.timer (s : Slice) : Timer := if s.orphan then .ran 0 else .since s.gt

/-- The dwell of an OPEN door starts; 0 keeps it open (R213). -/
def Slice.startDwell (s : Slice) (d : Fin 2) (ms : Nat) : Slice :=
  let t := if ms = 0 then .off else s.timer
  s.mapDoor d fun a => { a with dwellT := t, dwellMs := ms }

/-- A door enters a state: the change is reported with its GT (R212); PARTIAL goes when OPEN is left, and the count of R225
where the door enters a state that it does not run across. -/
def Slice.doorTo (s : Slice) (d : Fin 2) (new cause : Nat) : Slice :=
  let old := s.doors[d].st
  if old = new then s
  else
    let s := s.mapDoor d fun a => { a with
      st := new, part := a.part && new = DoorSt.open', beamT := if 3 ≤ new && new ≤ 7 then a.beamT else .off }
    s.dev d old new cause

/-- A door that leaves FREE without a working encoder, or leaves FAULT, is not referenced; the cause of the FAULT, cause 2 with
its DRV_STAT bits, is cleared by the command that moves the door (R210, R211, R231). -/
def Slice.leaveRest (s : Slice) (d : Fin 2) : Slice :=
  let st := s.doors[d].st
  if st = DoorSt.fault then
    let s := (s.flag (fun n => Reg.DRV_STAT_OPEN_A n d.val) false).flag (fun n => Reg.DRV_STAT_OPEN_B n d.val) false
    s.mapDoor d fun a => { a with refd := false, fault := none }
  else if st = DoorSt.free && !s.encWorks d then s.mapDoor d fun a => { a with refd := false }
  else s

/-! Movements (R214 to R216) -/

/-- A movement starts under the catch rule (R216). -/
def Slice.startMove (s : Slice) (d : Fin 2) (toOpen : Bool) (prof : Nat) (creep : Bool) : Slice :=
  let um := s.encUm d
  let s := if s.dset d Reg.DOR_ROLE_ENC_EN = 1 then
      let u := s.toU d um
      s.mapDoor d fun a => { a with u := u, cmd := um * 1000000000 }
    else s
  let v := if s.encWorks d then s.doors[d].encVel else 0
  let slow := decide (absI v < (s.dset d Reg.DOR_CATCHR_CATCH * 1000 : Nat))
  let same := decide (0 ≤ v) == toOpen
  s.mapDoor d fun a => { a with
    vel := if slow then 0 else v * 1000, bridge := true, orphT := .off, after := .stay, periods := 0, crept := 0,
    devGt := none, topGt := none, forceGt := none,
    move := some { toOpen := toOpen, prof := prof, brake := !slow && !same, creep := creep } }

/-- A door starts to open. -/
def Slice.startOpen (s : Slice) (d : Fin 2) (prof : Nat) (creep : Bool) : Slice :=
  let s := (s.leaveRest d).doorTo d DoorSt.opening 0xFF
  let s := s.mapDoor d fun a => { a with
    dwellT := .off, holdT := .off, closeHeld := none, lockT := .off, pushed := false }
  s.startMove d true prof creep

/-- A force model pushed is taken into use at the start of a closing, all at once (R221). -/
def Door.takeModel (a : Door) : Door :=
  { a with
    fm := (List.range 32).map fun b => match a.fmNext.find? fun p => p.1 = b with
      | some p => p.2
      | none => a.fm.getD b 0 }

/-- A door starts to close; with NUDGE set every close is made in NUDGING (R211, R225). -/
def Slice.startClose (s : Slice) (d : Fin 2) (nudge creep : Bool) : Slice :=
  let st := s.doors[d].st
  let nd := nudge || s.doors[d].nudge
  let s := (s.leaveRest d).doorTo d (if nd then DoorSt.nudging else DoorSt.closing) 0xFF
  let s := s.mapDoor d fun a => { a.takeModel with
    dwellT := .off, holdT := .off, closeHeld := none, heldArr := none, lockT := .off, pushed := false,
    bins := [], clean := !nd && (st = DoorSt.open' || st = DoorSt.held) }
  s.startMove d false 0 creep

/-- LC and DOB as the channel regards them: ignored in FIREFIGHTER with FF_LC_IGN = 1 (R223, R228). -/
def Slice.beamIgnored (s : Slice) : Bool := s.lse.mode = 3 && s.setOn Reg.DOR_CTRL_FF_LC_IGN
def Slice.lcOn (s : Slice) (d : Fin 2) : Bool := s.din d Reg.DOR_PROT_LC && !s.beamIgnored
def Slice.dobOn (s : Slice) (d : Fin 2) : Bool := s.din d Reg.DOR_PROT_DOB && !s.beamIgnored

/-- Constant-pressure doors are in force (R230). -/
def Slice.ffCp (s : Slice) : Bool := s.lse.mode = 3 && s.setOn Reg.DOR_CTRL_FF_CP

/-- A close from OPEN or HELD: held back, the door OPEN, while HOLD is in force, and while LC is active unless it is made
in NUDGING (R223, R225, R239); that of a lock retry runs at creep (R227). -/
def Slice.closeFromOpen (s : Slice) (d : Fin 2) (nudge : Bool) : Slice :=
  let nd := nudge || s.doors[d].nudge
  if s.holdOn || (s.lcOn d && !nd) then
    (s.doorTo d DoorSt.open' 0xFF).mapDoor d fun a =>
      { a with closeHeld := some nudge, heldCmd := a.heldCmd && a.closeHeld.isSome, dwellT := .off, holdT := .off }
  else s.startClose d nudge s.doors[d].retry

/-- A reversal (R224): REVERSING, braking at A_CLOSE; REV counts those of LC or DOB and sets NUDGE (R225). -/
def Slice.reverse (s : Slice) (d : Fin 2) (beam : Bool) : Slice :=
  let s := s.doorTo d DoorSt.reversing 0xFF
  let max := s.dset d Reg.DOR_TIME_REV_MAX
  let m := s.lse.mode
  s.mapDoor d fun a =>
    let r := if beam then satInc 15 a.rev else a.rev
    { a with rev := r, nudge := a.nudge || (beam && max ≤ r && m != 1), clean := false, after := .opens, retry := false,
             move := some { toOpen := false, prof := 0, brake := true, creep := false } }

/-! Door commands (R213) -/

/-- DOOR_OPEN on one door. -/
def Slice.openCmd (s : Slice) (d : Fin 2) (prof dwell : Nat) : Slice :=
  let st := s.doors[d].st
  let s := s.mapDoor d fun a => { a with dwell := dwell, retry := false, heldArr := none }
  if st = DoorSt.free || st = DoorSt.locked || st = DoorSt.closed || st = DoorSt.fault then s.startOpen d prof false
  else if st = DoorSt.open' || st = DoorSt.held then
    ((s.doorTo d DoorSt.open' 0xFF).startDwell d dwell).mapDoor d fun a => { a with holdT := .off, closeHeld := none }
  else if st = DoorSt.closing || st = DoorSt.nudging then s.reverse d false
  else if st = DoorSt.reversing then s.mapDoor d fun a => { a with after := .opens }
  else s.mapDoor d fun a => { a with closeHeld := none }

/-- DOOR_CLOSE on one door; mode 1 closes in NUDGING. -/
def Slice.closeCmd (s : Slice) (d : Fin 2) (nudge : Bool) : Slice :=
  let st := s.doors[d].st
  let s := s.mapDoor d fun a => { a with retry := false }
  if st = DoorSt.free || st = DoorSt.fault then
    if s.holdOn then s else s.startClose d nudge false
  else if st = DoorSt.opening then
    if s.holdOn then s.mapDoor d fun a => { a with closeHeld := some nudge, heldCmd := true } else s.startClose d nudge false
  else if st = DoorSt.open' || st = DoorSt.held then
    (s.closeFromOpen d nudge).mapDoor d fun a => { a with heldCmd := a.closeHeld.isSome }
  else if st = DoorSt.closing && nudge then
    (s.doorTo d DoorSt.nudging 0xFF).mapDoor d fun a => { a with clean := false }
  else if st = DoorSt.reversing then s.mapDoor d fun a => { a with after := .closes nudge, heldArr := none }
  else s

/-- DOOR_HOLD on one door. -/
def Slice.holdCmd (s : Slice) (d : Fin 2) (ms : Nat) : Slice :=
  let st := s.doors[d].st
  if st = DoorSt.opening then s.mapDoor d fun a => { a with heldArr := some ms, closeHeld := none }
  else if st = DoorSt.open' || st = DoorSt.held then
    let t := s.timer
    (s.doorTo d DoorSt.held 0xFF).mapDoor d fun a => { a with holdT := t, holdMs := ms, dwellT := .off, closeHeld := none }
  else if st = DoorSt.closing || st = DoorSt.nudging then
    (s.reverse d false).mapDoor d fun a => { a with heldArr := some ms }
  else if st = DoorSt.reversing then s.mapDoor d fun a => { a with heldArr := some ms, after := .opens }
  else s

/-- The causes of FAULT that clear by themselves (R231). -/
def selfClearing (c : Nat) : Bool := c = 0 || c = 1 || c = 3 || c = 6

/-- A command finds a door in FAULT: causes 2, 4 and 5 clear, and the table is checked again (R231); where none other holds
the movement that the command starts clears them. Answers whether the door refuses the command. -/
def Slice.faultCheck (s : Slice) (d : Fin 2) : Bool × Slice :=
  if s.doors[d].st != DoorSt.fault then (false, s)
  else
    match s.doors[d].fault with
    | none => (false, s)
    | some c =>
      if selfClearing c then (true, s)
      else
        match s.doors[d].causes.head? with
        | none => (false, s)
        | some (c', _) =>
          (true, (s.mapDoor d fun a => { a with fault := some c' }).dev d DoorSt.fault DoorSt.fault c')

/-- Whether a DOOR_OPEN or DOOR_CLOSE finds a door of its mask in a FAULT that refuses it, with what the check changed. -/
def Slice.faultsRefuse (s : Slice) (mask : Nat) : Bool × Slice :=
  let (ra, s) := if bit mask 0 then s.faultCheck 0 else (false, s)
  let (rb, s) := if bit mask 1 then s.faultCheck 1 else (false, s)
  (ra || rb, s)

/-- The open permits of the doors of a mask under R242. -/
def Slice.mayOpen (s : Slice) (mask : Nat) : Bool :=
  (!bit mask 0 || (s.lse.re.da && s.lse.rs.da)) && (!bit mask 1 || (s.lse.re.db && s.lse.rs.db))

/-- R229: in EVACUATION with EXCL = 1 and both doors fitted, only one door opens, the other closed. -/
def Slice.exclRefuses (s : Slice) (mask : Nat) : Bool :=
  let shut := fun (d : Fin 2) => s.doors[d].st = DoorSt.closed || s.doors[d].st = DoorSt.locked
  s.lse.mode = 4 && s.setOn Reg.DOR_CTRL_EXCL && s.fits 0 && s.fits 1
    && (mask = 3 || (mask = 1 && !shut 1) || (mask = 2 && !shut 0))

/-- Whether the interlock forbids a door action at its fire time (R134, R229 to R231, R239). -/
def Slice.doorRefused (s : Slice) (op mask : Nat) : Bool × Slice :=
  if op = 0x32 then (false, s)
  else if s.ffCp then (true, s)
  else if op = 0x30 && (!s.mayOpen mask || s.exclRefuses mask) then (true, s)
  else s.faultsRefuse mask

/-- A door action on one door of its mask. -/
def Slice.doorOne (s : Slice) (op mask : Nat) (par : List Byte) (d : Fin 2) : Slice :=
  if !bit mask d.val || !s.fits d then s
  else if op = 0x30 then s.openCmd d (byteAt par 1) (leAt par 2 2)
  else if op = 0x31 then s.closeCmd d (byteAt par 1 = 1)
  else s.holdCmd d (leAt par 2 2)

/-- DOOR_COMMAND_EFFECT: the action on every door of its mask (R213). -/
def Slice.doorAct (s : Slice) (op : Nat) (par : List Byte) : Slice :=
  (s.doorOne op (byteAt par 0) par 0).doorOne op (byteAt par 0) par 1

/-- State of the lowest-numbered door of a mask (INFO1 byte 24 of R111). -/
def Slice.doorInfo (s : Slice) (mask : Nat) : Nat := if bit mask 0 then s.doors[0].st else s.doors[1].st

/-! Arrivals (R209, R210, R222, R225, R227) -/

/-- A door at rest in an orphan slice holds for 5 s (R232). -/
def Slice.orphRest (s : Slice) (d : Fin 2) : Slice :=
  if s.orphan then s.mapDoor d fun a => { a with orphT := .since s.gt } else s

/-- Means of the bins of a closing, 0.1 N; 0xFFFF where a bin has none (R221). -/
def Door.means (a : Door) : List Byte :=
  ((List.range 32).map fun b => match a.bins.find? fun p => p.1 = b with
    | some (_, sum, n) => beBytes 2 ((truncDiv sum n).toNat % 65536)
    | none => beBytes 2 0xFFFF).flatten

/-- Arrival at the open end: HELD where one waits, else OPEN with the dwell; a lock retry closes again, held back like any
close from OPEN (R223, R227). -/
def Slice.arriveOpen (s : Slice) (d : Fin 2) : Slice :=
  match s.doors[d].heldArr with
  | some ms =>
    let t := s.timer
    ((s.doorTo d DoorSt.held 0xFF).mapDoor d fun a => { a with heldArr := none, holdT := t, holdMs := ms }).orphRest d
  | none =>
    let s := (s.doorTo d DoorSt.open' 0xFF).startDwell d s.doors[d].dwell
    if s.orphan then s.orphRest d
    else if s.doors[d].retry then s.closeFromOpen d false
    else match s.doors[d].closeHeld with
      | some nd => s.closeFromOpen d nd
      | none => s

/-- Arrival at the closed end: NUDGE and REV clear, the means are reported, LOCK decides the state. -/
def Slice.arriveClosed (s : Slice) (d : Fin 2) : Slice :=
  let a := s.doors[d]
  let lock := s.din d Reg.DOR_ROLE_LOCK_IN
  let s := (s.doorTo d (if lock then DoorSt.locked else DoorSt.closed) 0xFF).mapDoor d fun a => { a with
    nudge := false, rev := 0, lockT := if lock then .off else s.timer, retries := if lock then 0 else a.retries,
    retry := false }
  (s.queueAll 0x86 (leBytes 1 d.val ++ leBytes 1 0 ++ leBytes 1 32 ++ leBytes 1 0 ++ a.means)).orphRest d

/-- An arrival at an end: the position takes that end's exact value; a correction above 2 mm is reported to CEn.DOR as
a change from the state to itself (R210, log entry 19). -/
def Slice.arrive (s : Slice) (d : Fin 2) (toOpen : Bool) : Slice :=
  let e := s.endUm d toOpen
  let st := s.doors[d].st
  let s := if 2000 < absI (s.doorUm d - e) then s.dev d st st 0xFF else s
  let s := (s.setPos d e).mapDoor d fun a => { a with
    refd := true, move := none, vel := 0, after := .stay, devGt := none, topGt := none, forceGt := none }
  if toOpen then s.arriveOpen d else s.arriveClosed d

/-- What follows a reversal at rest: the door reopens, or closes where a close waits for it (R213, R224). -/
def Slice.afterReverse (s : Slice) (d : Fin 2) : Slice :=
  match s.doors[d].after with
  | .closes nd => if s.holdOn then s.startOpen d 0 false else s.startClose d nd false
  | _ => s.startOpen d 0 false

/-- A braking door has come to rest (R213, R216, R222, R224, R232). -/
def Slice.brakeDone (s : Slice) (d : Fin 2) : Slice :=
  match s.doors[d].move with
  | none => s
  | some m =>
    if !m.brake then s
    else
      let s := s.mapDoor d fun a => { a with vel := 0, encVel := 0, move := none }
      if s.doors[d].st = DoorSt.reversing then (if s.orphan then s.orphRest d else s.afterReverse d)
      else match s.doors[d].after with
        | .opens => s.startOpen d 0 false
        | .closes nd => s.startClose d nd false
        | .partly =>
          let s := (s.doorTo d DoorSt.open' 0xFF).mapDoor d fun a => { a with part := true, after := .stay }
          s.arriveOpen d
        | .stay => s.mapDoor d fun a => { a with move := some { m with brake := false } }

/-- The end of a braking, once the commanded speed is 0. -/
def Slice.brakeEnds (s : Slice) (d : Fin 2) : Slice := if s.doors[d].vel = 0 then s.brakeDone d else s

/-- OBSTRUCTION: the position and F_est (R222). -/
def Slice.obstruction (s : Slice) (d : Fin 2) : Slice :=
  s.evt .obstruction 10 [pU 16 1 d.val, pU 17 1 (b2n (!s.modeE d)), pI 20 4 (s.doorUm d), pU 24 2 s.doors[d].fEst.natAbs]

/-- The position lies in the last 10 mm before the end approached. -/
def Slice.inEndZone (s : Slice) (d : Fin 2) (toOpen : Bool) : Bool :=
  decide (absI (s.doorUm d - s.endUm d toOpen) ≤ 10000)

/-- A stall stands: in mode E |dev| above DEV_WIN for T_E, in mode B the current at its cap for T_OBS (R218, R219). -/
def Slice.stalled (s : Slice) (d : Fin 2) : Bool :=
  if s.modeE d then heldFor s.doors[d].devGt s.gt (s.dset d Reg.DOR_STALLW_T_E * msNs)
  else heldFor s.doors[d].topGt s.gt (s.dset d Reg.DOR_STALLW_T_OBS * msNs)

/-- An unreferenced door stalls while it brakes: it has arrived at the end it approached (R210), and the movement that the
braking made way for follows from rest (R222). -/
def Slice.brakeArrives (s : Slice) (d : Fin 2) (m : Move) : Slice :=
  let a := s.doors[d]
  let next : AtRest := if a.after != .stay then a.after else if m.toOpen then .opens else .closes (a.st = DoorSt.nudging)
  let s := s.arrive d (decide (0 < a.vel))
  if s.orphan then s
  else match next with
    | .closes nd => if s.doors[d].st = DoorSt.open' then s.closeFromOpen d nd else s
    | .opens => if s.doors[d].st = DoorSt.closed || s.doors[d].st = DoorSt.locked then s.startOpen d m.prof false else s
    | _ => s

/-- What a stall does (R210, R222, R224). -/
def Slice.stallDoor (s : Slice) (d : Fin 2) : Slice :=
  match s.doors[d].move with
  | none => s
  | some m =>
    if m.brake then (if s.doors[d].refd then s.brakeDone d else s.brakeArrives d m)
    else if !s.doors[d].refd || s.inEndZone d m.toOpen then s.arrive d m.toOpen
    else if m.toOpen then
      (s.obstruction d).mapDoor d fun a => { a with after := .partly, move := some { m with brake := true } }
    else (s.obstruction d).reverse d false

/-- STALL, where one stands. -/
def Slice.stallCmd (s : Slice) (d : Fin 2) : Slice := if s.stalled d then s.stallDoor d else s

/-- FORCE_EXCESS: closing or nudging with a valid force model, the excess standing for 5 ms, outside the end zone (R222). -/
def Slice.forceExcess (s : Slice) (d : Fin 2) : Slice :=
  let st := s.doors[d].st
  if (st = DoorSt.closing || st = DoorSt.nudging) && s.doors[d].fmOk && heldFor s.doors[d].forceGt s.gt (5 * msNs)
      && !s.inEndZone d false then
    (s.obstruction d).reverse d false
  else s

/-- DOOR_END_REACHED: the commanded position has come to the end approached, or the door has met its stop there (R214,
R222). -/
def Slice.endReached (s : Slice) (d : Fin 2) : Slice :=
  match s.doors[d].move with
  | some m =>
    let a := s.doors[d]
    let there := a.refd && a.cmd = s.endUm d m.toOpen * 1000000000
    if !m.brake && (there || (s.stalled d && (!a.refd || s.inEndZone d m.toOpen))) then s.arrive d m.toOpen else s
  | none => s

/-! Protective inputs, lock, buttons (R211, R223, R226, R230) -/

/-- The LOCK input against the state; a pushed door closes again where HOLD lets it (R226, R239). -/
def Slice.lockRule (s : Slice) (d : Fin 2) : Slice :=
  let lock := s.din d Reg.DOR_ROLE_LOCK_IN
  if s.doors[d].st = DoorSt.closed && lock then
    (s.doorTo d DoorSt.locked 0xFF).mapDoor d fun a => { a with lockT := .off, retries := 0 }
  else if s.doors[d].st = DoorSt.locked && !lock then
    let t := s.timer
    let s := (s.doorTo d DoorSt.closed 0xFF).mapDoor d fun a => { a with lockT := t }
    if s.doors[d].pushed && !s.orphan && !s.holdOn then s.startClose d false true else s
  else if s.doors[d].st = DoorSt.closed && s.doors[d].pushed && !s.orphan && !s.holdOn then s.startClose d false true
  else s

/-- Constant-pressure buttons (R230), `was` the input values before: an active DOB opens as soon as the permit stands, an active
DCB closes, and a release before the end is reached turns the door. -/
def Slice.buttonRule (s : Slice) (d : Fin 2) (was : Nat) : Slice :=
  let st := s.doors[d].st
  let old := fun (f : Nat → Nat → RF) => let i := s.dset d f; decide (i < 32) && bit was i
  let dob := s.din d Reg.DOR_PROT_DOB
  let dcb := s.din d Reg.DOR_PROT_DCB
  let let' := !dcb && old Reg.DOR_PROT_DCB
  let permit := s.mayOpen (2 ^ d.val)
  let shut := st = DoorSt.free || st = DoorSt.closed || st = DoorSt.locked
  if dob && permit && (st = DoorSt.closing || st = DoorSt.nudging) then s.reverse d true
  else if dob && permit && st = DoorSt.reversing then s.mapDoor d fun a => { a with after := .opens }
  else if dob && permit && shut then s.startOpen d 0 false
  else if !dob && old Reg.DOR_PROT_DOB && (st = DoorSt.opening || st = DoorSt.reversing) then s.closeCmd d false
  else if dcb && !dob && (st = DoorSt.free || st = DoorSt.open' || st = DoorSt.held) then s.closeCmd d false
  else if dcb && !old Reg.DOR_PROT_DCB && (st = DoorSt.opening || st = DoorSt.reversing) then s.closeCmd d false
  else if let' && (st = DoorSt.closing || st = DoorSt.nudging) && permit then s.reverse d false
  else if let' && (st = DoorSt.open' || st = DoorSt.reversing) then
    s.mapDoor d fun a => { a with closeHeld := none, after := if st = DoorSt.reversing then .opens else a.after }
  else s

/-- LC, SE, DOB, DCB and HOLD on one door (R223, R224, R232, R239). -/
def Slice.beamRule (s : Slice) (d : Fin 2) (was : Nat) : Slice :=
  let st := s.doors[d].st
  let dcb := s.dset d Reg.DOR_PROT_DCB
  let press := decide (dcb < 32) && s.input dcb && !bit was dcb
  if (st = DoorSt.closing || st = DoorSt.nudging) && (s.din d Reg.DOR_PROT_SE || s.holdOn) then s.reverse d false
  else if st = DoorSt.closing && (s.lcOn d || (s.dobOn d && !s.ffCp)) then s.reverse d true
  else if st = DoorSt.open' then
    match s.doors[d].closeHeld with
    | some nd => if s.orphan then s else s.closeFromOpen d nd
    | none =>
      if press && s.doors[d].dwellT != .off && !s.orphan && !s.ffCp && s.lse.mode != 1 && s.lse.mode != 3 then
        s.closeFromOpen d false
      else s
  else s

/-- LC, DOB and HOLD seen anew: a change of one restarts the dwell of an OPEN door, and the count of R225 runs while LC or DOB
is active (R223, R225, R239). -/
def Slice.beamSeen (s : Slice) (d : Fin 2) : Slice :=
  let a := s.doors[d]
  let v := b2n (s.lcOn d) + 2 * b2n (s.dobOn d) + 4 * b2n s.holdOn
  let run := a.st = DoorSt.open' && a.dwellT != .off && v != a.beams
  let on := v % 4 != 0 && decide (3 ≤ a.st) && decide (a.st ≤ 7)
  let t := if !on then .off else if a.beamT = .off then s.timer else a.beamT
  let s := if run then s.startDwell d a.dwellMs else s
  s.mapDoor d fun a => { a with beams := v, beamT := t }

/-- PROTECTIVE_INPUT: what a change of inputs, mode or HOLD does on one door. -/
def Slice.doorInputs (s : Slice) (d : Fin 2) (was : Nat) : Slice :=
  if !s.fits d then s
  else
    let s := (s.lockRule d).beamSeen d
    let s := if s.ffCp && !s.orphan then s.buttonRule d was else s
    (s.beamRule d was).beamSeen d

/-- Both doors. -/
def Slice.protect (s : Slice) (was : Nat) : Slice := (s.doorInputs 0 was).doorInputs 1 was

/-! Modes (R228) -/

/-- Entry to RECALL (`entry`), and the arrival of a car at the recall landing, which names its recall doors (`named`), on one
door (R228). -/
def Slice.recallDoor (s : Slice) (d : Fin 2) (entry named : Bool) : Slice :=
  let st := s.doors[d].st
  if !s.fits d then s
  else if bit s.lse.rdoors d.val then
    if !entry && !named then s
    else
      let s := s.mapDoor d fun a => { a with dwell := 0, dwellT := .off, closeHeld := none }
      if st = DoorSt.held then (s.doorTo d DoorSt.open' 0xFF).mapDoor d fun a => { a with holdT := .off } else s
  else if entry && (st = DoorSt.opening || st = DoorSt.open' || st = DoorSt.held) then
    s.closeCmd d (s.setOn Reg.DOR_CTRL_RC_NUDGE)
  else s

/-- The mode and the recall doors of a frame taken over. INSPECTION and FIREFIGHTER ignore the dwell, a close that its end left
held back with it; constant pressure leaves none standing (R228, R230). -/
def Slice.takeMode (s : Slice) (mode rdoors : Nat) : Slice :=
  let old := s.lse.mode
  let was := s.lse.rdoors
  let s := s.mapLse fun l => { l with mode := mode, rdoors := rdoors }
  let s := if mode = 2 then (s.recallDoor 0 (old != 2) (!bit was 0)).recallDoor 1 (old != 2) (!bit was 1) else s
  let keep := fun (a : Door) => if a.heldCmd && !s.ffCp then a.closeHeld else none
  let s := if (mode = 1 || mode = 3) && old != mode then
      (s.mapDoor 0 fun a => { a with closeHeld := keep a }).mapDoor 1 fun a => { a with closeHeld := keep a }
    else s
  if mode = 1 then
    (s.mapDoor 0 fun a => { a with nudge := false }).mapDoor 1 fun a => { a with nudge := false }
  else s

/-! Timers (R211, R225 to R227, R232) -/

/-- DWELL_EXPIRY; INSPECTION and FIREFIGHTER ignore the dwell. -/
def Slice.dwellEnds (s : Slice) (d : Fin 2) : Slice :=
  let a := s.doors[d]
  if a.st = DoorSt.open' && a.dwellT.done s.gt (a.dwellMs * msNs) && !s.orphan && s.lse.mode != 1 && s.lse.mode != 3 then
    s.closeFromOpen d false
  else s

/-- HOLD_EXPIRY: OPEN with DWELL_AFTER. -/
def Slice.holdEnds (s : Slice) (d : Fin 2) : Slice :=
  let a := s.doors[d]
  if a.st = DoorSt.held && a.holdT.done s.gt (a.holdMs * msNs) && !s.orphan then
    let s := (s.doorTo d DoorSt.open' 0xFF).mapDoor d fun a => { a with holdT := .off }
    s.startDwell d (s.dset d Reg.DOR_TIME_DWELL_AFTER * 100)
  else s

/-- A door enters FAULT: bridge off, not referenced (R210, R225, R231). -/
def Slice.enterFault (s : Slice) (d : Fin 2) (cause : Nat) : Slice :=
  (s.doorTo d DoorSt.fault cause).mapDoor d fun a => { a with
    fault := some cause, refd := false, bridge := false, move := none, vel := 0, dwellT := .off, holdT := .off,
    closeHeld := none, heldArr := none, lockT := .off, retry := false, retries := 0, orphT := .off }

/-- LOCK_TIMER_EXPIRY: two retries at creep, then FAULT 4 (R227). -/
def Slice.lockExpires (s : Slice) (d : Fin 2) : Slice :=
  if s.doors[d].st = DoorSt.closed && s.doors[d].lockT.done s.gt (s.dset d Reg.DOR_TIME_T_LOCK * 100 * msNs) && !s.orphan
      && !s.din d Reg.DOR_ROLE_LOCK_IN then
    if s.doors[d].retries < 2 then
      (s.mapDoor d fun a => { a with retries := a.retries + 1, retry := true }).startOpen d 0 true
    else s.enterFault d 4
  else s

/-- NUDGE_S as the mode has it; 0 never (R228). -/
def Slice.nudgeTime (s : Slice) (d : Fin 2) : Nat :=
  if s.lse.mode = 4 && s.setOn Reg.DOR_MODE_NUDGE_EVAC_S then s.set Reg.DOR_MODE_NUDGE_EVAC_S
  else s.dset d Reg.DOR_TIME_NUDGE_S

/-- NUDGE_TIMEOUT (R225). -/
def Slice.nudgeExpires (s : Slice) (d : Fin 2) : Slice :=
  let st := s.doors[d].st
  if s.fits d && (s.lcOn d || s.dobOn d) && 3 ≤ st && st ≤ 7 && s.nudgeTime d != 0 && s.lse.mode != 1 && !s.orphan
      && s.doors[d].beamT.done s.gt (s.nudgeTime d * 1000 * msNs) then
    let s := s.mapDoor d fun a => { a with nudge := true }
    match s.doors[d].closeHeld with
    | some _ => if s.doors[d].st = DoorSt.open' then s.closeFromOpen d true else s
    | none => s
  else s

/-- HAND_PUSH on a mode E door at rest: |dev| has been above DEV_WIN for T_E (R226). A close held back stays held back; an orphan
slice starts no close (R232), and HOLD in force puts it off (R239). -/
def Slice.handPush (s : Slice) (d : Fin 2) : Slice :=
  let st := s.doors[d].st
  let u := s.toU d (s.encUm d)
  let held := s.doors[d].closeHeld
  let cmd := s.doors[d].heldCmd
  let sync := fun (x : Slice) => x.mapDoor d fun a => { a with u := u, cmd := s.encUm d * 1000000000, devGt := none }
  if !s.modeE d || !s.stalled d then s
  else if st = DoorSt.open' || st = DoorSt.held then
    ((sync s).startOpen d 0 true).mapDoor d fun a => { a with closeHeld := held, heldCmd := cmd }
  else if st = DoorSt.closed then
    if s.orphan then sync s
    else if s.holdOn then (sync s).mapDoor d fun a => { a with pushed := true }
    else (sync s).startClose d false true
  else if st = DoorSt.locked then (sync s).mapDoor d fun a => { a with pushed := true }
  else s

/-- DOOR_END_NOT_FOUND: an unreferenced door has crept 1.25 widths (R210). -/
def Slice.endMissing (s : Slice) (d : Fin 2) : Slice :=
  let a := s.doors[d]
  if a.move.isSome && !a.refd && decide (((s.dset d Reg.DOR_GEOM_WIDTH_MM * 1250 : Nat) : Int) * 1000000000 ≤ a.crept) then
    s.enterFault d 5
  else s

/-- A cause of R231 in its DRV_STAT bit. -/
def Slice.drvBit (s : Slice) (d : Fin 2) (cause : Nat) (phase : Fin 2) (on : Bool) : Slice :=
  match cause with
  | 0 => s.flag (fun n => Reg.DRV_STAT_OC n d.val) on
  | 1 => s.flag (fun n => Reg.DRV_STAT_VM_RANGE n d.val) on
  | 2 => s.flag (fun n => if phase = 0 then Reg.DRV_STAT_OPEN_A n d.val else Reg.DRV_STAT_OPEN_B n d.val) on
  | 3 => s.flag (fun n => Reg.DRV_STAT_GATE n d.val) on
  | 6 => s.flag (fun n => Reg.DRV_STAT_THERM n d.val) on
  | _ => s

/-- The current that a shunt voltage of `x` µV shows, mA (DRV_CFG.RSH). -/
def Slice.shuntMa (s : Slice) (x : Int) : Int := truncDiv x (max 1 (s.set Reg.DRV_CFG_RSH) : Nat)

/-- VM in mV is within its range (R231). -/
def Slice.vmOk (s : Slice) (x : Int) : Bool := decide (((s.set Reg.DRV_CFG_VM_UV * 1000 : Nat) : Int) ≤ x) && decide (x ≤ 60000)

/-- The bridge-driver limit of cause 6, °C (spec/20). -/
def drvLimit : Int := 140

/-- Whether what the channel measures makes a cause of R231: `x` is a shunt voltage of a phase in µV (0, 2), VM in mV (1), or
the die temperature in °C (6). -/
def Slice.causeHolds (s : Slice) (d : Fin 2) (cause : Nat) (phase : Fin 2) (x : Int) : Bool :=
  let a := s.doors[d]
  match cause with
  | 0 => decide (((s.set Reg.DRV_CFG_OCP * 100 : Nat) : Int) < absI (s.shuntMa x))
  | 1 => !s.vmOk x
  | 2 =>
    let i := absI (if phase = 0 then a.iA else a.iB)
    decide (((s.dset d Reg.DOR_CUR_I_RUN_MIN * 25 : Nat) : Int) ≤ i) && decide (absI (s.shuntMa x) * 8 < i)
  | 3 => true
  | 6 => decide (drvLimit < x)
  | _ => false

/-- The motor bus voltage as measured (DRV_VM). -/
def Slice.seeVm (s : Slice) (cause : Nat) (x : Int) : Slice :=
  if cause = 1 then s.wr Reg.DRV_VM (min 65535 x.toNat) else s

/-- A cause of R231 that holds: it takes the door to FAULT; in FAULT it is reported where no other is. -/
def Slice.causeOn (s : Slice) (d : Fin 2) (cause : Nat) (phase : Fin 2) : Slice :=
  let s := (s.drvBit d cause phase true).mapDoor d fun a => { a with well := a.well.filter fun c => c.1 != cause }
  let s := if selfClearing cause && !(s.doors[d].causes.any fun c => c.1 = cause) then
      s.mapDoor d fun a => { a with causes := a.causes ++ [(cause, s.gt)] }
    else s
  if s.doors[d].st != DoorSt.fault then s.enterFault d cause
  else if s.doors[d].fault.isNone then
    (s.mapDoor d fun a => { a with fault := some cause }).dev d DoorSt.fault DoorSt.fault cause
  else s

/-- An open winding is a cause once it has measured open for 2 ms; `holds` is what the phase measures now (R231). -/
def Slice.windingOpen (s : Slice) (d : Fin 2) (phase : Fin 2) (holds : Bool) : Slice :=
  let put := fun (o : Option Nat) => s.mapDoor d fun a => { a with openGt := a.openGt.set phase o }
  if !holds then put none
  else match s.doors[d].openGt[phase] with
    | some g => if g + 2 * msNs ≤ s.gt then (put none).causeOn d 2 phase else s
    | none => put (some s.gt)

/-- DOOR_FAULT: a cause of R231 arises; 4 and 5 are those of R227 and R210. The domain of a door not fitted is off (R446). -/
def Slice.doorFails (s : Slice) (d : Fin 2) (cause : Nat) (phase : Fin 2) (x : Int) : Slice :=
  if !s.fits d then s
  else if cause = 4 then (if s.doors[d].retries < 2 then s else s.lockExpires d)
  else if cause = 5 then s.endMissing d
  else
    let s := s.seeVm cause x
    if cause = 2 then s.windingOpen d phase (s.causeHolds d 2 phase x)
    else if s.causeHolds d cause phase x then s.causeOn d cause phase
    else s

/-- Whether a cause that holds clears now: cause 0 after its 100 ms with the bridge off, 1 and 3 once gone for 100 ms, 6 with
the die 10 °C below its limit (R231). -/
def Slice.causeGone (s : Slice) (d : Fin 2) (cause : Nat) (x : Int) : Bool :=
  let past := fun (l : List (Nat × Nat)) => l.any fun c => c.1 = cause && decide (c.2 + 100 * msNs ≤ s.gt)
  (s.doors[d].causes.any fun c => c.1 = cause) &&
    (if cause = 6 then decide (x ≤ drvLimit - 10)
      else if cause = 0 then past s.doors[d].causes
      else past s.doors[d].well && (cause != 1 || s.vmOk x))

/-- What the channel sees of a cause that is to clear: VM in range, or a healthy driver, for the first time since it held; VM
out of range again. -/
def Slice.seeWell (s : Slice) (d : Fin 2) (cause : Nat) (x : Int) : Slice :=
  if cause = 1 && !s.vmOk x then s.mapDoor d fun a => { a with well := a.well.filter fun c => c.1 != 1 }
  else if (cause = 1 || cause = 3) && (s.doors[d].causes.any fun c => c.1 = cause)
      && !(s.doors[d].well.any fun c => c.1 = cause) then
    s.mapDoor d fun a => { a with well := a.well ++ [(cause, s.gt)] }
  else s

/-- DOOR_FAULT_CLEARED: a cause that clears by itself is gone; another that holds is reported in its place (R231). -/
def Slice.doorClears (s : Slice) (d : Fin 2) (cause : Nat) (x : Int) : Slice :=
  if !s.fits d then s
  else
    let s := (s.seeVm cause x).seeWell d cause x
    if !s.causeGone d cause x then s
    else
      let s := (s.drvBit d cause 0 false).mapDoor d fun a => { a with
        causes := a.causes.filter fun c => c.1 != cause
        well := a.well.filter fun c => c.1 != cause }
      if s.doors[d].fault != some cause then s
      else match s.doors[d].causes.head? with
        | some (c, _) => (s.mapDoor d fun a => { a with fault := some c }).dev d DoorSt.fault DoorSt.fault c
        | none => s.mapDoor d fun a => { a with fault := none }

/-- ORPHAN_DOOR_HOLD_END: the hold of 5 s is over and the door goes free (R232). -/
def Slice.orphHoldEnds (s : Slice) (d : Fin 2) : Slice :=
  if s.orphan && s.doors[d].orphT.done s.gt (5000 * msNs) && s.doors[d].st != DoorSt.fault then
    (s.doorTo d DoorSt.free 0xFF).mapDoor d fun a => { a with
      orphT := .off, bridge := false, dwellT := .off, holdT := .off, closeHeld := none, heldArr := none,
      lockT := .off, retry := false, retries := 0, after := .stay }
  else s

/-- The timers of a door stopped, or going on (R232). -/
def Door.timers (a : Door) (f : Timer → Timer) : Door :=
  { a with dwellT := f a.dwellT, holdT := f a.holdT, lockT := f a.lockT, beamT := f a.beamT }

/-- The slice becomes orphan: timers stop, and doors at rest start their hold of 5 s (R232). -/
def Slice.doorsOrphan (s : Slice) : Slice :=
  let one := fun (s : Slice) (d : Fin 2) =>
    let st := s.doors[d].st
    let s := s.mapDoor d fun a => a.timers fun t => t.stop s.gt
    if s.fits d && s.doors[d].move.isNone && st != DoorSt.free && st != DoorSt.fault then
      s.mapDoor d fun a => { a with orphT := .since s.gt }
    else s
  one (one s 0) 1

/-- A grant ends the hold: stopped timers go on, and a reversal that ended at rest is followed by its movement (R211, R232). -/
def Slice.doorsOwned (s : Slice) : Slice :=
  let one := fun (s : Slice) (d : Fin 2) =>
    let s := s.mapDoor d fun a => { a.timers (fun t => t.resume s.gt) with orphT := .off }
    if s.doors[d].st = DoorSt.reversing && s.doors[d].move.isNone then s.afterReverse d else s
  one (one s 0) 1

/-! The door encoder (R171, R234) -/

/-- The deviation of an index pulse of a door encoder from its reference; none for the pulse that sets it (R171). -/
def Slice.idxOf (s : Slice) (d : Fin 2) (count : Int) : Option Int :=
  let cpr := s.dset d Reg.DOR_ENC_CPR
  if cpr = 0 || !s.fits d then none else s.doors[d].zRef.map fun z => idxDev count z cpr

/-- An index pulse of a door encoder, its count taken at the pulse (R171). -/
def Slice.doorIndex (s : Slice) (d : Fin 2) (count : Int) : Slice :=
  let cpr := s.dset d Reg.DOR_ENC_CPR
  if cpr = 0 || !s.fits d then s
  else match s.doors[d].zRef with
    | none => s.mapDoor d fun a => { a with zRef := some (count % (cpr : Int)).toNat }
    | some z =>
      let dv := idxDev count z cpr
      if absI dv ≤ 4 then
        let s := s.mapDoor d fun a => { a with enc := a.enc - dv, consec := 0, good := a.good + 1 }
        if s.doors[d].suspect && 8 ≤ s.doors[d].good then
          (s.mapDoor d fun a => { a with suspect := false }).evt .indexFault 8 [pU 16 1 (1 + d.val), pI 20 4 dv]
        else s
      else
        let s := s.mapDoor d fun a => { a with consec := satInc 255 a.consec, good := 0, suspect := a.suspect || a.consec = 2 }
        s.evt .indexFault 8 [pU 16 1 (1 + d.val), pU 17 1 s.doors[d].consec, pU 18 1 (b2n s.doors[d].suspect), pI 20 4 dv]

/-- DOOR_ENC_LOST, and its clearing after 100 ms of valid counts: the next index pulse sets the reference anew (R171, R234). -/
def Slice.doorEncLost (s : Slice) (d : Fin 2) (lost : Bool) : Slice :=
  if s.dset d Reg.DOR_ROLE_ENC_EN = 0 || !s.fits d then s
  else if lost then s.mapDoor d fun a => { a with encLost := true, lostGt := s.gt }
  else if s.doors[d].encLost && decide (s.doors[d].lostGt + 100 * msNs ≤ s.gt) then
    s.mapDoor d fun a => { a with encLost := false, zRef := none }
  else s

/-! A PWM period (R208, R214 to R221) -/

/-- sin(2π k / 1024) in millionths, by its series over a quarter turn (log entry 15). -/
def sin1024 (k : Int) : Int :=
  let r := k % 1024
  let q : Int := if r ≤ 256 then r else if r ≤ 768 then 512 - r else r - 1024
  let x : Int := truncDiv (q * 6135923151543) 1000000
  let x2 : Int := truncDiv (x * x) 1000000000
  let t := fun (a : Int) (n : Nat) => truncDiv (a * x2) (1000000000 * n)
  let a3 := t x 6
  let a5 := t a3 20
  let a7 := t a5 42
  let a9 := t a7 72
  let a11 := t a9 110
  truncDiv (x - a3 + a5 - a7 + a9 - a11) 1000

/-- √(2 × KE / m) in mm/s, rounded down: KE in 0.1 J, m in kg (R215). -/
def keCap (ke m : Nat) : Nat := isqrt (ke * 200000 / m)

/-- The phase speed cap of a movement, mm/s (R215). -/
def Slice.speedCap (s : Slice) (d : Fin 2) (m : Move) : Nat :=
  let a := s.doors[d]
  let creep := s.dset d Reg.DOR_SPD_V_CREEP
  let mass := s.dset d Reg.DOR_ENERGY_MASS_KG
  let cap :=
    if m.toOpen then s.set fun n => Reg.DOR_OPEN_V_OPEN n d.val m.prof
    else if a.st = DoorSt.nudging then
      min (s.dset d Reg.DOR_SPD_V_NUDGE) (keCap (s.dset d Reg.DOR_ENERGY_KE_NUDGE) mass)
    else min (s.dset d Reg.DOR_CLOSE_V_CLOSE) (keCap (s.dset d Reg.DOR_ENERGY_KE_MAX) mass)
  if !a.refd || a.suspect || a.encLost || m.creep then min creep cap else cap

/-- Acceleration of a movement, mm/s² (R214, R222). -/
def Slice.accel (s : Slice) (d : Fin 2) (m : Move) : Nat :=
  if m.toOpen then s.set fun n => Reg.DOR_OPEN_A_OPEN n d.val m.prof else s.dset d Reg.DOR_CLOSE_A_CLOSE

/-- The commanded speed and position one PWM period on (R214 to R216): phase 3 decelerates at A, a cap that takes effect while the
door moves is reached at A_CLOSE. -/
def Slice.profile (s : Slice) (d : Fin 2) (m : Move) : Slice :=
  let a := s.doors[d]
  let acc := s.accel d m
  let up : Int := ((acc * 25 : Nat) : Int)
  let down : Int := ((s.dset d Reg.DOR_CLOSE_A_CLOSE * 25 : Nat) : Int)
  if m.brake then
    let dv := if a.after = .partly then up else down
    let v := if 0 ≤ a.vel then max 0 (a.vel - dv) else min 0 (a.vel + dv)
    s.mapDoor d fun a => { a with vel := v, cmd := a.cmd + v * 25, crept := a.crept + absI v * 25 }
  else
    let e := s.endUm d m.toOpen * 1000000000
    let dist := (absI (e - a.cmd)).toNat / 1000000000
    let app := s.dset d Reg.DOR_SPD_X_APP * 1000
    let cr := s.dset d Reg.DOR_SPD_V_CREEP * 1000
    let cap := s.speedCap d m * 1000
    let lim := if dist ≤ app then min cap cr else min cap (isqrt (cr * cr + 2000 * acc * (dist - app)))
    let top : Int := ((lim * 1000 : Nat) : Int)
    let w : Int := if m.toOpen then a.vel else -a.vel
    let w := if w < top then min top (w + up) else max top (w - if ((cap * 1000 : Nat) : Int) < w then down else up)
    let c := a.cmd + (if m.toOpen then w else -w) * 25
    s.mapDoor d fun a => { a with
      vel := if m.toOpen then w else -w,
      crept := a.crept + absI w * 25,
      cmd := if !a.refd then c else if m.toOpen then min e c else max e c }

/-- Threshold U_r of the ladder, full steps per second. -/
def Slice.ladU (s : Slice) (d : Fin 2) (r : Nat) : Nat :=
  s.set fun n => if r % 2 = 0 then Reg.DOR_LAD_UEVEN n d.val (r / 2) else Reg.DOR_LAD_UODD n d.val (r / 2)

/-- The ladder rule, and u moved toward the commanded position by at most one microstep (R217). -/
def Slice.ladder (s : Slice) (d : Fin 2) : Slice :=
  let a := s.doors[d]
  let fs := s.dset d Reg.DOR_GEOM_UM_FS
  let v := (absI a.vel).toNat
  let up := decide (a.res < 8) && decide (s.ladU d a.res * 100 * fs < v)
  let dn := decide (0 < a.res) && decide (v * 10 < 9 * (s.ladU d (a.res - 1) * 100 * fs))
  let r := if up then (if a.u % 2 ^ (a.res + 1) = 0 then a.res + 1 else a.res) else if dn then a.res - 1 else a.res
  let want := truncDiv ((a.cmd - a.uOfs * 1000000000) * 2560) (fs * 1000000000)
  let st : Int := 2 ^ r
  let u := if a.u + st ≤ want then a.u + st else if want ≤ a.u - st then a.u - st else a.u
  s.mapDoor d fun a => { a with res := r, u := u }

/-- The effective I_RUN_MAX, mA (R220). -/
def Slice.iCap (s : Slice) (d : Fin 2) : Nat :=
  let st := s.doors[d].st
  let top := s.dset d Reg.DOR_CUR_I_RUN_MAX * 25
  let k := s.dset d Reg.DOR_FORCE_K_F
  if (st = DoorSt.closing || st = DoorSt.nudging || st = DoorSt.reversing) && k != 0 then
    min top (s.dset d Reg.DOR_FORCE_F_LIM * 100000 / k)
  else top

/-- The run current: in mode B adapted every 1 ms of movement to the load angle, in degrees; in mode E the cap (R219, R220, log
entry 15). -/
def Slice.current (s : Slice) (d : Fin 2) (angle : Option Nat) : Slice :=
  let cap := s.iCap d
  let lo := s.dset d Reg.DOR_CUR_I_RUN_MIN * 25
  let hi := s.dset d Reg.DOR_CUR_I_RUN_MAX * 25
  let i := s.doors[d].irun
  let k := s.doors[d].periods + 1
  let due := decide (40 ≤ k) && angle.isSome
  let g := angle.getD 45
  let i' := if s.modeE d then cap
    else if due then (if 60 < g then i + (hi - lo) / 16 else if g < 30 then i - (hi - lo) / 16 else i)
    else i
  let i' := min cap (max lo i')
  s.mapDoor d fun a => { a with irun := i', boost := !s.modeE d && i' = cap, periods := if due then 0 else k }

/-- The thrust estimate, 0.1 N (R220). -/
def Slice.thrust (s : Slice) (d : Fin 2) : Int :=
  let k := s.dset d Reg.DOR_FORCE_K_F
  let i := s.doors[d].irun
  if s.modeE d then truncDiv (((k * i : Nat) : Int) * sin1024 (s.doors[d].u - s.toU d (s.encUm d))) 10000000000
  else ((k * i / 10000 : Nat) : Int)

/-- The bin of the force model at the door's place. -/
def Slice.binOf (s : Slice) (d : Fin 2) : Nat :=
  min 31 ((s.doorUm d).toNat * 32 / (s.dset d Reg.DOR_GEOM_WIDTH_MM * 1000))

/-- One more value of F_est in the bin that a closing crosses at the phase speed (R221). -/
def Slice.binOne (s : Slice) (d : Fin 2) (m : Move) (f : Int) : Slice :=
  if s.doors[d].st = DoorSt.closing && !m.brake && absI s.doors[d].vel = ((s.speedCap d m * 1000000 : Nat) : Int) then
    let b := s.binOf d
    s.mapDoor d fun a => { a with
      bins := match a.bins.find? fun p => p.1 = b with
        | some (_, x, n) => (b, x + f, n + 1) :: a.bins.filter fun p => p.1 != b
        | none => (b, f, 1) :: a.bins }
  else s

/-- What each PWM period finds: |dev| against DEV_WIN, the mode B current at its cap, and the force `along` the movement, 0.1 N,
against the model (R218, R219, R222). -/
def Slice.watchDoor (s : Slice) (d : Fin 2) (along : Int) : Slice :=
  let a := s.doors[d]
  let dev := absI (a.u - s.toU d (s.encUm d))
  let out := s.modeE d && decide (((s.dset d Reg.DOR_STALLW_DEV_WIN : Nat) : Int) < dev)
  let shut := a.st = DoorSt.closing || a.st = DoorSt.nudging
  let ex := shut && a.fmOk
    && decide (((s.dset d Reg.DOR_FORCE_F_OBS * 10 : Nat) : Int) < along - (a.fm.getD (s.binOf d) 0 : Nat))
  s.mapDoor d fun a => { a with
    devGt := heldSince a.devGt out s.gt, topGt := heldSince a.topGt (a.move.isSome && a.boost) s.gt,
    forceGt := heldSince a.forceGt ex s.gt }

/-- The phase setpoints: I sin θ and I cos θ, θ = 2π u / 1,024, reversed where the motor is (R208, MOT_DIR). -/
def Slice.phases (s : Slice) (d : Fin 2) : Slice :=
  s.mapDoor d fun a =>
    let u := if s.dset d Reg.DOR_ROLE_MOT_DIR = 1 then -a.u else a.u
    { a with iA := truncDiv (a.irun * sin1024 u) 1000000, iB := truncDiv (a.irun * sin1024 (u + 256)) 1000000 }

/-- DOOR_PWM_PERIOD: the encoder counts of 25 µs, and the load angle where 1 ms of movement has passed. The protective inputs
are judged in every period (R222). -/
def Slice.pwm (s : Slice) (d : Fin 2) (counts : Int) (angle : Option Nat) : Slice :=
  if !s.fits d then s
  else
    let dc := if s.dset d Reg.DOR_ROLE_ENC_DIR = 1 then -counts else counts
    let s := if s.dset d Reg.DOR_ROLE_ENC_EN = 1 && !s.doors[d].encLost then
        s.mapDoor d fun a => { a with enc := a.enc + dc, encVel := dc * s.dset d Reg.DOR_ENC_UM_CNT * 400 }
      else s
    match s.doors[d].move with
    | none =>
      let hold := if s.doors[d].bridge then s.dset d Reg.DOR_CUR_I_HOLD * 25 else 0
      let s := (s.mapDoor d fun a => { a with irun := hold, boost := false, vel := 0 }).ladder d
      let f := s.thrust d
      let s := (s.mapDoor d fun a => { a with fEst := truncDiv f 10 }).watchDoor d 0
      (s.phases d).doorInputs d (s.rd Reg.FIO_VAL)
    | some m =>
      let s := ((s.profile d m).ladder d).current d angle
      let f := s.thrust d
      let along := if s.modeE d then -f else f
      let s := ((s.binOne d m along).mapDoor d fun a => { a with fEst := truncDiv f 10 }).watchDoor d along
      (s.phases d).doorInputs d (s.rd Reg.FIO_VAL)

/-! Commands -/

def execDoorEndReached (n : Fin 16) (d : Fin 2) (t : Nat) (s : State) : Host.Outcome State Fault Refusal :=
  s.slice n t fun c => c.endReached d
def execStall (n : Fin 16) (d : Fin 2) (t : Nat) (s : State) : Host.Outcome State Fault Refusal :=
  s.slice n t fun c => c.stallCmd d
def execForceExcess (n : Fin 16) (d : Fin 2) (t : Nat) (s : State) : Host.Outcome State Fault Refusal :=
  s.slice n t fun c => c.forceExcess d
def execDoorBrakeDone (n : Fin 16) (d : Fin 2) (t : Nat) (s : State) : Host.Outcome State Fault Refusal :=
  s.slice n t fun c => (c.brakeEnds d).doorInputs d (c.rd Reg.FIO_VAL)
def execDwellExpiry (n : Fin 16) (d : Fin 2) (t : Nat) (s : State) : Host.Outcome State Fault Refusal :=
  s.slice n t fun c => c.dwellEnds d
def execHoldExpiry (n : Fin 16) (d : Fin 2) (t : Nat) (s : State) : Host.Outcome State Fault Refusal :=
  s.slice n t fun c => c.holdEnds d
def execLockTimerExpiry (n : Fin 16) (d : Fin 2) (t : Nat) (s : State) : Host.Outcome State Fault Refusal :=
  s.slice n t fun c => c.lockExpires d
def execNudgeTimeout (n : Fin 16) (d : Fin 2) (t : Nat) (s : State) : Host.Outcome State Fault Refusal :=
  s.slice n t fun c => c.nudgeExpires d
def execHandPush (n : Fin 16) (d : Fin 2) (t : Nat) (s : State) : Host.Outcome State Fault Refusal :=
  s.slice n t fun c => c.handPush d
def execDoorEndNotFound (n : Fin 16) (d : Fin 2) (t : Nat) (s : State) : Host.Outcome State Fault Refusal :=
  s.slice n t fun c => c.endMissing d
def execDoorFault (n : Fin 16) (d : Fin 2) (cause : Fin 7) (phase : Fin 2) (x : Int) (t : Nat) (s : State) :
    Host.Outcome State Fault Refusal :=
  s.slice n t fun c => c.doorFails d cause.val phase x
def execDoorFaultCleared (n : Fin 16) (d : Fin 2) (cause : Fin 7) (x : Int) (t : Nat) (s : State) :
    Host.Outcome State Fault Refusal :=
  s.slice n t fun c => c.doorClears d cause.val x
def execOrphanDoorHoldEnd (n : Fin 16) (d : Fin 2) (t : Nat) (s : State) : Host.Outcome State Fault Refusal :=
  s.slice n t fun c => c.orphHoldEnds d
def execDoorPwmPeriod (n : Fin 16) (d : Fin 2) (counts : Int) (angle : Option Nat) (t : Nat) (s : State) :
    Host.Outcome State Fault Refusal :=
  s.slice n t fun c => c.pwm d counts angle
def execDoorEncLost (n : Fin 16) (d : Fin 2) (t : Nat) (s : State) : Host.Outcome State Fault Refusal :=
  s.slice n t fun c => c.doorEncLost d true
def execDoorEncLostClear (n : Fin 16) (d : Fin 2) (t : Nat) (s : State) : Host.Outcome State Fault Refusal :=
  s.slice n t fun c => c.doorEncLost d false

end Sys2Proof.Machine
end

