-- ==== Sys2Proof/Machine/FieldIo.lean ====
section
/-! DEFINITION. Field inputs and outputs of a slice (R290 to R310): Colander, edges, outputs, the SAFE stages, the common
fault and the probe. -/

namespace Sys2Proof.Machine

/-! Colander (R294 to R297) -/

/-- States of an input (R295). -/
def InSt.normal : Nat := 0
def InSt.stuck : Nat := 1
def InSt.chatter : Nat := 2
def InSt.wireBreak : Nat := 3

/-- The state of an input, as FIO_STUCK, FIO_CHAT and FIO_WBRK hold it. -/
def Slice.inState (s : Slice) (i : Nat) : Nat :=
  if bit (s.rd Reg.FIO_WBRK) i then InSt.wireBreak
  else if bit (s.rd Reg.FIO_STUCK) i then InSt.stuck
  else if bit (s.rd Reg.FIO_CHAT) i then InSt.chatter
  else InSt.normal

/-- A setting of an input, and of its profile. -/
def Slice.inSet (s : Slice) (i : Nat) (f : Nat → Nat → RF) : Nat := s.set fun n => f n i
def Slice.inProf (s : Slice) (i : Nat) (f : Nat → Nat → RF) : Nat :=
  s.set fun n => f n (s.inSet i Reg.FIO_IN_PROF)

/-- The raw level of a physical level (R294); the feedbacks have no POL (R306). -/
def Slice.raw (s : Slice) (i : Nat) (lvl : Bool) : Bool := lvl != (decide (i < 32) && s.inSet i Reg.FIO_IN_POL = 1)

/-- The physical level a current gives; between the thresholds it stays as it was (R291). `c` is in µA. -/
def levelOf (c : Nat) (was : Bool) : Bool := if 2000 ≤ c then true else if c < 1500 then false else was

/-- Low current, as wire-break detection has it (R291). -/
def lowCurrent (c : Nat) : Bool := decide (c < 300)

/-- The scan period T_S, and the sampling period of an input, ns (R292). -/
def Slice.scanNs (s : Slice) : Nat := 125000 * 2 ^ s.set Reg.FIO_CTRL_SCAN
def Slice.sampleNs (s : Slice) (i : Nat) : Nat := if 28 ≤ i ∧ i < 32 then 1000 else s.scanNs

/-- F: samples at a new level until it counts (R294); the feedbacks have a fixed filter of 1 ms (R306). -/
def Slice.samplesF (s : Slice) (i : Nat) : Nat :=
  if i < 32 then s.inSet i Reg.FIO_IN_FILT + 1 else (1000000 + s.scanNs - 1) / s.scanNs

/-- The first multiple of a period at or after an instant, and the last at or before it. -/
def gridUp (p g : Nat) : Nat := (g + p - 1) / p * p
def gridDown (p g : Nat) : Nat := g / p * p

/-- A bin of the chatter window, ns; 0 with chatter detection off (R294). -/
def Slice.binNs (s : Slice) (i : Nat) : Nat := s.inProf i Reg.FIO_PROF_B_CHAT_MS * 62500

/-- Bins of the window that still count at an instant: the bin in progress and the 15 before it (R294). -/
def windowBins (w g : Nat) (bins : List (Nat × Nat)) : List (Nat × Nat) := bins.filter fun b => decide (g / w ≤ b.1 + 15)

/-- A raw edge counted in the bin of its instant. -/
def countEdge (w g : Nat) (bins : List (Nat × Nat)) : List (Nat × Nat) :=
  match windowBins w g bins with
  | b :: l => if b.1 = g / w then (b.1, b.2 + 1) :: l else (g / w, 1) :: b :: l
  | [] => [(g / w, 1)]

/-- window_edges at an instant (R294). -/
def Slice.windowEdges (s : Slice) (i : Fin 34) (g : Nat) : Nat :=
  let w := s.binNs i.val
  if w = 0 then 0 else ((windowBins w g s.fio.ins[i].bins).map fun b => b.2).sum

/-- An input's record rewritten. -/
def Slice.mapIn (s : Slice) (i : Fin 34) (f : Input → Input) : Slice :=
  s.mapFio fun x => { x with ins := x.ins.set i (f x.ins[i]) }

/-- STAMP, always 1 for IN28 to IN31 (R297). -/
def Slice.stamps (s : Slice) (i : Nat) : Bool := decide (28 ≤ i) || s.inSet i Reg.FIO_IN_STAMP = 1

/-- Edges the FIFO holds. -/
def edgeMax : Nat := 256

/-- EDGE_STAMP: an edge queued in stamp order with the GT of the first sample at its level; one that finds the FIFO full is counted
(R297, R298). -/
def Slice.stampEdge (s : Slice) (i : Nat) (level : Bool) (first : Nat) : Slice :=
  if edgeMax ≤ s.fio.edges.length then
    (s.inc Reg.FIO_CNT_EDGELOST).mapFio fun x => { x with lost := x.lost + 1 }
  else
    let put := fun (l : List EdgeRec) =>
      (l.takeWhile fun e => e.gt ≤ first) ++ [{ input := i, level := level, gt := first }] ++ l.dropWhile fun e => e.gt ≤ first
    (s.inc Reg.FIO_CNT_EDGE).mapFio fun x => { x with edges := put x.edges }

/-- The physical level shown in FIO_RAW. -/
def Slice.showRaw (s : Slice) (i : Nat) (lvl : Bool) : Slice := s.wr Reg.FIO_RAW (setBit (s.rd Reg.FIO_RAW) i lvl)

/-- A value put out to every user; the doors act on the change at once (R223, R295). -/
def Slice.setVal (s : Slice) (i : Nat) (v : Bool) : Slice :=
  let was := s.rd Reg.FIO_VAL
  (s.wr Reg.FIO_VAL (setBit was i v)).protect was

/-- An input enters a state with its value: INPUT_STATE is reported (R294 to R296). -/
def Slice.inTo (s : Slice) (i new : Nat) (v : Bool) : Slice :=
  let s := s.wr Reg.FIO_STUCK (setBit (s.rd Reg.FIO_STUCK) i (new = InSt.stuck))
  let s := s.wr Reg.FIO_CHAT (setBit (s.rd Reg.FIO_CHAT) i (new = InSt.chatter))
  let s := s.wr Reg.FIO_WBRK (setBit (s.rd Reg.FIO_WBRK) i (new = InSt.wireBreak))
  (s.evt .inputState 2 [pU 16 1 i, pU 17 1 new]).setVal i v

/-- SAFE value of an input. -/
def Slice.safeVal (s : Slice) (i : Nat) : Bool := s.inSet i Reg.FIO_IN_SAFE = 1

/-- The samples of an input from `from'` to now draw `c` µA: physical and raw level with the raw edge, and how long the
current has been low or not, which is measured at the scan instants for every input (R291, R292, R294). A current that no
sampling instant sees leaves no trace (R293). -/
def Slice.takeSamples (s : Slice) (i : Fin 34) (c from' : Nat) : Slice :=
  let p := s.sampleNs i.val
  let g := gridUp p from'
  if gridDown p s.gt < g then s
  else
    let x := s.fio.ins[i]
    let lvl := levelOf c x.lvl
    let raw := s.raw i.val lvl
    let edge := raw != x.raw
    let m := gridUp s.scanNs from'
    let seen := decide (m ≤ s.gt)
    let since := fun (on : Bool) (o : Option Nat) => if !seen then o else if on then some (o.getD m) else none
    let w := s.binNs i.val
    let s := if i.val < 32 then s.showRaw i.val lvl else s
    s.mapIn i fun y => { y with
      cur := c, lvl := lvl, raw := raw, first := if edge then g else y.first
      low := since (lowCurrent c) y.low, fine := since (!lowCurrent c) y.fine
      bins := if edge && w != 0 then countEdge w g y.bins else y.bins }

/-- A condition that has held at every sample since `o` for `ms` by instant `g`. -/
def sampledFor (o : Option Nat) (ms g : Nat) : Bool := o.any fun a => decide (a + ms * 1000000 ≤ g)

/-- Whether the run of samples at the raw level has reached F at instant `g`, and when it did (R294). -/
def Slice.runDone (s : Slice) (i : Fin 34) (g : Nat) : Bool :=
  decide (s.fio.ins[i].first + (s.samplesF i.val - 1) * s.sampleNs i.val ≤ g)
def Slice.runGt (s : Slice) (i : Fin 34) : Nat := s.fio.ins[i].first + (s.samplesF i.val - 1) * s.sampleNs i.val

/-- A feedback's conditioned level, and the reading it gives (R306). -/
def Slice.sfbRead (s : Slice) (i : Fin 34) : Slice :=
  let x := s.fio.ins[i]
  let deb := if s.runDone i s.gt then x.raw else x.deb
  (s.mapIn i fun y => { y with deb := deb }).sfbShow i

/-- The wire counts as broken: WB_EN, with low current at every sample of the last WB_MS; while VS is below 16 V none is
declared anew (R294, R296). -/
def Slice.broken (s : Slice) (i : Fin 34) (g : Nat) : Bool :=
  s.inSet i.val Reg.FIO_IN_WB_EN = 1 && sampledFor s.fio.ins[i].low (s.inProf i.val Reg.FIO_PROF_B_WB_MS) g
    && (s.inState i.val = InSt.wireBreak || decide (16000 ≤ s.rd Reg.FIO_VS))

/-- The state an input takes at a sample, with `deb` and the active timer as they stand there (R294). -/
def Slice.newState (s : Slice) (i : Fin 34) (deb : Bool) (active g : Nat) : Nat :=
  let x := s.fio.ins[i]
  let st := s.inState i.val
  let stuck := s.inProf i.val Reg.FIO_PROF_A_STUCK_S
  let n := s.inProf i.val Reg.FIO_PROF_B_CHAT_N
  let edges := s.windowEdges i g
  if s.broken i g then InSt.wireBreak
  else if st = InSt.wireBreak then
    if sampledFor x.fine (s.inProf i.val Reg.FIO_PROF_B_WB_MS) g then InSt.normal else st
  else if st = InSt.stuck then if x.raw then st else InSt.normal
  else if stuck != 0 && deb && decide (active + stuck * 1000000000 ≤ g) then InSt.stuck
  else if s.binNs i.val != 0 && decide (n < edges) then InSt.chatter
  else if st = InSt.chatter && decide (2 * edges < n) then InSt.normal
  else st

/-- Colander at the last sample of IN0 to IN31: debounce, state, value, stamp and report (R294 to R297). -/
def Slice.colander (s : Slice) (i : Fin 34) : Slice :=
  let g := gridDown (s.sampleNs i.val) s.gt
  let x := s.fio.ins[i]
  let st := s.inState i.val
  let changed := s.runDone i g && x.raw != x.deb
  let deb := if changed then x.raw else x.deb
  let active := if changed && x.raw then s.runGt i else x.active
  let new := s.newState i deb active g
  let left := decide (new = InSt.normal) && (st = InSt.wireBreak || st = InSt.stuck)
  let deb := if left then x.raw else deb
  let active := if left then g else active
  let value := if new = InSt.wireBreak || new = InSt.stuck then s.safeVal i.val
    else if new = InSt.chatter then s.input i.val else deb
  let s := s.mapIn i fun y => { y with deb := deb, active := active }
  let s := if changed && st = InSt.normal && new = InSt.normal && s.stamps i.val then s.stampEdge i.val deb x.first else s
  if new = st then s.setVal i.val value else s.inTo i.val new value

/-- Samples of an input, and what follows from them: Colander for IN0 to IN31, the reading of SFB_A (32) and SFB_B (33). -/
def Slice.sampled (s : Slice) (i : Fin 34) (c from' : Nat) : Slice :=
  let s := s.takeSamples i c from'
  if i.val < 32 then s.colander i else s.sfbRead i

/-- The first samples at power-up: they set the levels at once; `free` gives the level of a current between the thresholds,
which R291 leaves to a sample before it. -/
def Slice.firstSamples (s : Slice) (cur : List Nat) (free : Nat) : Slice :=
  let t := s.gt
  let lvl := fun (i : Nat) => levelOf (cur.getD i 0) (bit free i)
  let ins := Vector.ofFn fun (i : Fin 34) =>
    let c := cur.getD i.val 0
    let raw := s.raw i.val (lvl i.val)
    ({ cur := c, lvl := lvl i.val, raw := raw, first := t, deb := raw, active := t,
       low := if lowCurrent c then some t else none, fine := if lowCurrent c then none else some t, bins := [] } : Input)
  let mask := fun (f : Nat → Bool) => (List.range 32).foldl (fun (m : Nat) (i : Nat) => if f i then m + 2 ^ i else m) 0
  let s := (s.mapFio fun x => { x with ins := ins }).wr Reg.FIO_RAW (mask lvl)
  let s := s.wr Reg.FIO_VAL (mask fun i => s.raw i (lvl i))
  (s.sfbRead 32).sfbRead 33

/-- EDGE_OVERFLOW: the FIFO holds 64 entries or fewer again (R298). -/
def Slice.edgeOverflow (s : Slice) : Slice :=
  if s.fio.lost != 0 && s.fio.edges.length ≤ 64 then
    (s.evt .edgeOverflow 4 [pU 16 4 s.fio.lost]).mapFio fun x => { x with lost := 0 }
  else s

/-! Outputs (R299 to R304) -/

/-- Action values set where the mask says. -/
def Slice.setAction (s : Slice) (mask values : Nat) : Slice :=
  let old := s.rd Reg.FIO_OUT_CMD_ACTION
  s.wr Reg.FIO_OUT_CMD_ACTION ((old &&& (0xFFFF ^^^ mask)) ||| (values &&& mask))

/-- OUT_SET: the new value applies at once and ends a running pulse (R300). -/
def Slice.outSet (s : Slice) (mask values : Nat) : Slice :=
  (s.mapFio fun x => { x with pulses := x.pulses.filter fun p => !bit mask p.1 }).setAction mask values

/-- OUT_PULSE: the action value is 1 for its width, `ms`; a second pulse restarts the width and keeps the value to restore
(R300, R301). -/
def Slice.outPulse (s : Slice) (i ms : Nat) : Slice :=
  let e := s.gt + ms * 1000000
  let m := s.unit i
  let act := s.rd Reg.FIO_OUT_CMD_ACTION
  let s := s.mapFio fun x => { x with
    pulses := (x.pulses.map fun p => if bit m p.1 then (p.1, p.2.1, e) else p)
      ++ (((List.range 16).filter fun o => bit m o && !x.pulses.any fun p => p.1 = o).map fun o => (o, bit act o, e)) }
  s.setAction m m

/-- PULSE_END: once the width has passed, the value that stood before is restored (R300, R284). -/
def Slice.pulseEnd (s : Slice) (i : Nat) : Slice :=
  let m := s.unit i
  let now := s.gt
  let past := fun (p : Nat × Bool × Nat) => bit m p.1 && decide (p.2.2 ≤ now)
  let ended := s.fio.pulses.filter past
  let s := s.mapFio fun x => { x with pulses := x.pulses.filter fun p => !past p }
  ended.foldl (fun (s : Slice) (p : Nat × Bool × Nat) => s.setAction (2 ^ p.1) (if p.2.1 then 2 ^ p.1 else 0)) s

/-- A condition of output `i` that has stood since an instant, under its present demand, for `ms`. -/
def Slice.outFor (s : Slice) (i : Fin 16) (since ms : Nat) : Bool :=
  decide (max since s.fio.demGt[i] + ms * 1000000 ≤ s.gt)

/-- An output stage's own temperature, °C: thermal shutdown above 165 °C, left 15 °C below (R303, R502). -/
def Slice.stageTemp (s : Slice) (i : Fin 16) (x : Int) : Slice :=
  s.mapFio fun y => { y with heat := setBit y.heat i (decide (165 < x) || (bit y.heat i && decide (150 < x))) }

/-- OUTPUT_LATCH: a stage with demand has been in current limit for 10 ms, and its whole unit latches off (R301, R303); or a
stage's own temperature changes, which latches it where it is in thermal shutdown (`Slice.heatRule`). -/
def Slice.outLatch (s : Slice) (i : Fin 16) (temp : Option Int) (since : Nat) : Slice :=
  match temp with
  | some x => s.stageTemp i x
  | none =>
    if bit s.demand i && !s.fio.vsOff && s.outFor i since 10 then
      let u := s.unit i
      let fresh := s.fio.latch &&& u = 0
      let s := s.mapFio fun x => { x with latch := x.latch ||| u, trip := x.trip ||| 2 ^ i.val }
      if fresh then s.inc Reg.FIO_CNT_LATCH else s
    else s

/-- The stages that are on: demanded, not latched, with VS in range (R303). -/
def Slice.stages (s : Slice) : Nat := if s.fio.vsOff then 0 else s.demand &&& (0xFFFF ^^^ s.fio.latch)

/-- OPEN_LOAD_DETECT: for 50 ms demand 1 with a current below 10 mA, or demand 0 with an output voltage above VS − 3 V; `x` is
the current, µA, or the voltage, mV, that has stood since `since` (R307). -/
def Slice.loadFault (s : Slice) (i : Fin 16) (short : Bool) (x since : Nat) : Slice :=
  let held := s.outFor i since 50
  if short then
    let on := !bit s.demand i && decide (s.rd Reg.FIO_VS < x + 3000) && held && (s.set Reg.FIO_OUT_DIAG_SB_EN).testBit i.val
    s.mapFio fun y => { y with shortV := setBit y.shortV i on }
  else
    let on := bit s.demand i && decide (x < 10000) && held && (s.set Reg.FIO_OUT_DIAG_OL_EN).testBit i.val
    s.mapFio fun y => { y with openL := setBit y.openL i on }

/-- VS measured, mV: VS_OK with channel 18 within 17 V to 33 V (R307); every stage off without latching below 16 V, and back
to its demand above 16.5 V (R303). -/
def Slice.measureVs (s : Slice) (mv : Nat) : Slice :=
  let ok := decide (17000 ≤ mv) && decide (mv ≤ 33000)
  ((s.wr Reg.FIO_VS mv).flag Reg.FIO_STAT_VS_OK ok).mapFio fun x => { x with
    supply := !ok, vsOff := decide (mv < 16000) || (x.vsOff && decide (mv ≤ 16500)) }

/-- OUTPUT_TEMP_WARNING: the die temperature in °C against the warning limit of 130 °C (R307, R502). -/
def Slice.outTemp (s : Slice) (x : Int) : Slice := s.mapFio fun y => { y with hot := decide (130 < x) }

/-! The SAFE outputs (R247 to R249, R305, R306) -/

/-- The trains shown in FIO_SAFE_STAT. -/
def Slice.setTrains (s : Slice) (on : Bool) : Slice :=
  let now := s.gt
  ((s.mapLse fun l => { l with trains := on, trainGt := if l.trains = on then l.trainGt else now }).flag Reg.FIO_SAFE_STAT_TRAIN_A on).flag Reg.FIO_SAFE_STAT_TRAIN_B on

/-- SAFE_DROP: both trains stop together, the latch takes the cause and SAFE_DROP reports it (R247). With the latch set by
another cause, a cause 1 or 3 of its own (R244, R248), or any cause after an orphan drop, takes its place. -/
def Slice.safeDrop (s : Slice) (cause : Nat) : Slice :=
  let takes := match s.lse.latch with
    | none => true
    | some c => c != cause && (c = 0 || cause = 1 || cause = 3)
  let s := s.setTrains false
  if takes then
    (s.mapLse fun l => { l with latch := some cause, lastCause := cause }).evt .safeDrop 2 [pU 16 1 3, pU 17 1 cause]
  else s

/-- SAFE granted under R242, on the slice's own R_s and on the R_e of the holder of the last valid keep (R247). -/
def Slice.safeGranted (s : Slice) : Bool := s.lse.rs.safe && s.lse.reKeep.safe

/-- The trains against the conditions of R247, as the slice stands now; an R_e with its UCM bit gives cause 2 (R246). -/
def Slice.safeRule (s : Slice) : Slice :=
  if s.lse.trains && !s.safeGranted then s.safeDrop (if !s.lse.reKeep.safe && s.lse.reKeep.ucm then 2 else 1) else s

/-- SAFE_ORPHAN_DROP: T_orphan has passed since the last valid keep (R247). -/
def Slice.safeOrphan (s : Slice) : Slice :=
  let late := match s.lse.keep with
    | some g => decide (g + s.set Reg.ILK_SAFE_T_ORPHAN_MS * 1000000 ≤ s.gt)
    | none => true
  if s.lse.trains && late then s.safeDrop 0 else s

/-- SFB_MISMATCH: a feedback has disagreed with its output for longer than SFB_DLY_MS: rule 9 comes into force (R248). -/
def Slice.sfbMismatch (s : Slice) : Slice :=
  if s.lse.sfbSince.any fun g => g + s.set Reg.ILK_SAFE_SFB_DLY_MS * 1000000 < s.gt then
    (s.mapLse fun l => { l with rule9 := true, rs := { l.rs with safe := false } }).safeDrop 3
  else s

/-- What makes a stage mismatch: 0 output above 12 V with its train stopped for longer than the 100 µs of the maximum turn-off
time, 1 below 12 V for 2 ms with its train running, 2 in current limit for 10 ms (R306). The condition has stood since
`since`, the train as it stands since `trainGt`. -/
def Slice.stageBad (s : Slice) (why : Fin 3) (since : Nat) : Bool :=
  let g := max since s.lse.trainGt
  if why = 0 then !s.lse.trains && decide (g + 100000 < s.gt)
  else if why = 1 then s.lse.trains && decide (g + 2000000 ≤ s.gt)
  else decide (since + 10000000 ≤ s.gt)

/-- SAFE_STAGE_MISMATCH of stage A or B (R306). -/
def Slice.stageMismatch (s : Slice) (d : Fin 2) (why : Fin 3) (since : Nat) : Slice :=
  if s.stageBad why since then
    (s.flag (if d = 0 then Reg.FIO_SAFE_STAT_MISM_A else Reg.FIO_SAFE_STAT_MISM_B) true).safeDrop 3
  else s

/-- The slice accepts SAFE_REARM unless a condition of R249 holds. -/
def Slice.rearmRefused (s : Slice) : Bool :=
  !s.safeGranted || s.ports[0].mirror || s.ports[1].mirror || s.rd Reg.FIO_SAFE_STAT_SFB_A = 1 || s.rd Reg.FIO_SAFE_STAT_SFB_B = 1
    || (s.lse.lastCause = 2 && decide (s.set Reg.ILK_ROLE1_UCM_RST < 32) && !s.input (s.set Reg.ILK_ROLE1_UCM_RST))

/-- SAFE_REARM at the slice: the latch and both mismatches clear (R249, R306). -/
def Slice.rearm (s : Slice) : Bool × Slice :=
  if s.rearmRefused then (false, s)
  else
    (true, ((s.mapLse fun l => { l with latch := none }).flag Reg.FIO_SAFE_STAT_MISM_A false).flag
      Reg.FIO_SAFE_STAT_MISM_B false)

/-! The probe (R308) -/

/-- A probe step starts: STATUS returns the common fault at once, CLEAR clears the channel's latch. -/
def Slice.probe (s : Slice) (step chan : Nat) : Slice :=
  let s := (s.wr Reg.FIO_PROBE_STEP step).wr Reg.FIO_PROBE_CHANNEL chan
  if step = 0 then (s.flag Reg.FIO_PROBE_DONE true).flag Reg.FIO_PROBE_RESULT (s.rd Reg.FIO_STAT_FAULT = 0)
  else
    let now := s.gt
    let s := ((s.flag Reg.FIO_PROBE_DONE false).flag Reg.FIO_STAT_PROBE true).mapFio fun x => { x with probeGt := now }
    if step = 2 && chan < 16 then
      let u := 0xFFFF ^^^ s.unit chan
      s.mapFio fun x => { x with latch := x.latch &&& u, trip := x.trip &&& u }
    else s

/-- How long a step takes, ns: TEST 2 ms, CLEAR 10 ms (R308; log entry 108). -/
def probeNs (step : Nat) : Nat := if step = 2 then 10000000 else 2000000

/-- PROBE_STEP_DONE: the channel's condition alone. -/
def Slice.probeDone (s : Slice) : Slice :=
  if s.rd Reg.FIO_STAT_PROBE = 1 && decide (s.fio.probeGt + probeNs (s.rd Reg.FIO_PROBE_STEP) ≤ s.gt) then
    ((s.flag Reg.FIO_STAT_PROBE false).flag Reg.FIO_PROBE_DONE true).flag Reg.FIO_PROBE_RESULT
      (!bit s.faults (s.rd Reg.FIO_PROBE_CHANNEL))
  else s

/-! Commands -/

/-- INPUT_VALUE_CHANGE: from the instant `first` the samples of input `i` draw `c` µA; input 32 is SFB_A, 33 SFB_B. -/
def execInputValueChange (n : Fin 16) (i : Fin 34) (c first t : Nat) (s : State) : Host.Outcome State Fault Refusal :=
  s.slice n t fun x => x.sampled i c first
/-- INPUT_STUCK: an input that goes on as it is reaches STUCK_S. -/
def execInputStuck (n : Fin 16) (i : Fin 32) (t : Nat) (s : State) : Host.Outcome State Fault Refusal :=
  s.slice n t fun x => x.colander (i.castLE (by decide))
/-- INPUT_CHATTER: samples that bring window_edges over CHAT_N, or let it fall below half of it. -/
def execInputChatter (n : Fin 16) (i : Fin 32) (c first t : Nat) (s : State) : Host.Outcome State Fault Refusal :=
  s.slice n t fun x => x.sampled (i.castLE (by decide)) c first
/-- WIRE_BREAK: samples of low current that reach WB_MS. -/
def execWireBreak (n : Fin 16) (i : Fin 32) (c first t : Nat) (s : State) : Host.Outcome State Fault Refusal :=
  s.slice n t fun x => x.sampled (i.castLE (by decide)) c first
/-- WIRE_RESTORED: samples at or above 0.3 mA that reach WB_MS. -/
def execWireRestored (n : Fin 16) (i : Fin 32) (c first t : Nat) (s : State) : Host.Outcome State Fault Refusal :=
  s.slice n t fun x => x.sampled (i.castLE (by decide)) c first
def execEdgeOverflow (n : Fin 16) (t : Nat) (s : State) : Host.Outcome State Fault Refusal :=
  s.slice n t Slice.edgeOverflow
def execPulseEnd (n : Fin 16) (i : Fin 16) (t : Nat) (s : State) : Host.Outcome State Fault Refusal :=
  s.slice n t fun c => c.pulseEnd i.val
/-- OUTPUT_LATCH: a stage's own temperature, or a current limit that has stood since `since`. -/
def execOutputLatch (n : Fin 16) (i : Fin 16) (temp : Option Int) (since t : Nat) (s : State) :
    Host.Outcome State Fault Refusal := s.slice n t fun c => c.outLatch i temp since
def execOpenLoadDetect (n : Fin 16) (i : Fin 16) (short : Bool) (x since t : Nat) (s : State) :
    Host.Outcome State Fault Refusal := s.slice n t fun c => c.loadFault i short x since
/-- FAULT_HOLD_END: by `t` the minimum assertion is over; what every happening does with the common fault clears it
(`Slice.faultRule`). -/
def execFaultHoldEnd (n : Fin 16) (t : Nat) (s : State) : Host.Outcome State Fault Refusal := s.slice n t fun c => c
def execOutputTempWarning (n : Fin 16) (x : Int) (t : Nat) (s : State) : Host.Outcome State Fault Refusal :=
  s.slice n t fun c => c.outTemp x
def execSafeOrphanDrop (n : Fin 16) (t : Nat) (s : State) : Host.Outcome State Fault Refusal :=
  s.slice n t Slice.safeOrphan
def execSfbMismatch (n : Fin 16) (t : Nat) (s : State) : Host.Outcome State Fault Refusal :=
  s.slice n t Slice.sfbMismatch
def execSafeStageMismatch (n : Fin 16) (d : Fin 2) (why : Fin 3) (since t : Nat) (s : State) :
    Host.Outcome State Fault Refusal := s.slice n t fun c => c.stageMismatch d why since
def execProbeStepDone (n : Fin 16) (t : Nat) (s : State) : Host.Outcome State Fault Refusal :=
  s.slice n t Slice.probeDone

end Sys2Proof.Machine
end

