-- ==== Sys2Proof/Machine/Lamps.lean ====
section
/-! DEFINITION. Lamp strings and Helea ports of a slice (R311 to R335). -/

namespace Sys2Proof.Machine

/-! Domains (R24, R446) -/

/-- Domain LSTR is on: the active configuration fits a string. -/
def Slice.lstrOn (s : Slice) : Bool := s.cfg.isSome && s.setOn Reg.LMP_S_CFG_STR_EN

/-- Domain HEL is on: the active configuration enables HC0 or HC1. -/
def Slice.helOn (s : Slice) : Bool := s.cfg.isSome && (s.setOn Reg.HLC_CTRL_EN0 || s.setOn Reg.HLC_CTRL_EN1)

/-- What a string block does happens only while LSTR is on. -/
def Slice.inLstr (s : Slice) (f : Slice → Slice) : Slice := if s.lstrOn then f s else s

/-- LSTR at its start, or off: no setting, no reading; the counters run from the slice's power-up. -/
def Slice.lstrStart (s : Slice) : Slice :=
  let s := (List.range 8).foldl (fun (s : Slice) (k : Nat) =>
    (s.wr (fun n => Reg.LMP_S_SET_DAC n k) 0).wr (fun n => Reg.LMP_S_SET_PWM n k) 0) s
  let now := s.gt
  let s := [Reg.LMP_S_VB, Reg.LMP_S_VB_HEAD, Reg.LMP_S_TEMP_TA, Reg.LMP_S_TEMP_TB, Reg.LMP_S_TEMP_DIE, Reg.LMP_S_FACT_FA,
    Reg.LMP_S_FACT_FB].foldl (fun (s : Slice) (f : Nat → RF) => s.wr f 0) s
  { s with lamps := Lamps.start now }

/-! Strings (R312 to R317) -/

/-- A string is fitted (R312). -/
def Slice.strFits (s : Slice) (k : Nat) : Bool := s.cfg.isSome && bit (s.set Reg.LMP_S_CFG_STR_EN) k

/-- DAC and PWM of a string as set. -/
def Slice.strDac (s : Slice) (k : Nat) : Nat := s.rd fun n => Reg.LMP_S_SET_DAC n k
def Slice.strPwm (s : Slice) (k : Nat) : Nat := s.rd fun n => Reg.LMP_S_SET_PWM n k

/-- A string conducts: fitted, its setting non-zero, not latched, nor waiting for its next LAMP_SET (R312, R317). -/
def Slice.strOn (s : Slice) (k : Fin 8) : Bool :=
  s.strFits k.val && s.strDac k.val != 0 && s.strPwm k.val != 0 && s.lamps.latch[k].isNone && !bit s.lamps.wait k.val

/-- F of a string's group, 0.1 % (R315). -/
def Slice.factor (s : Slice) (temp : Int) (fault : Bool) : Nat :=
  let floor := s.set Reg.LMP_S_DERATE_FLOOR * 10
  if fault then floor
  else
    let f : Int := 1000 - (temp - s.set Reg.LMP_S_DERATE_KNEE) * s.set Reg.LMP_S_DERATE_SLOPE
    (clampI floor 1000 f).toNat

/-- The factor of each group, from its temperature. -/
def Slice.factorA (s : Slice) : Nat := s.factor s.lamps.tempA s.lamps.ntcA
def Slice.factorB (s : Slice) : Nat := s.factor s.lamps.tempB s.lamps.ntcB

/-- The effective DAC code of a string (R315). -/
def Slice.effCode (s : Slice) (k : Nat) : Nat :=
  s.strDac k * ((s.set fun n => Reg.LMP_S_TRIM n (k / 4) (k % 4)) + 1) * (if k < 4 then s.factorA else s.factorB) / 256000

/-- Strings of a mask latched off for a cause, with one LAMP_FAULT where the cause is new to one of them. A string keeps cause 0
or 1 until a LAMP_SET clears it, whether or not cause 2 holds it too (R317). -/
def Slice.latchStr (s : Slice) (mask cause : Nat) : Slice :=
  let new := fun (k : Fin 8) => bit mask k.val && (s.lamps.latch[k].isNone || (cause != 2 && s.lamps.latch[k] = some 2))
  let event := cause = 2 || (List.finRange 8).any new
  let s := s.mapLamps fun l => { l with
    latch := Vector.ofFn fun (k : Fin 8) => if new k then some cause else l.latch[k], wait := l.wait ||| mask }
  if event then s.evt .lampFault 2 [pU 16 1 mask, pU 17 1 cause] else s

/-- Latches cleared by `gone`, except those that the die still holds; when the last one clears, LAMP_FAULT says so with its
cause (R317). -/
def Slice.unlatch (s : Slice) (gone : Fin 8 → Bool) : Slice :=
  let old := s.lamps.latch
  let held := fun (k : Fin 8) => s.lamps.hot && s.strFits k.val
  let s := s.mapLamps fun l => { l with
    latch := Vector.ofFn fun (k : Fin 8) => if gone k then (if held k then some 2 else none) else l.latch[k] }
  let left := (List.finRange 8).any fun k => s.lamps.latch[k].isSome
  match (List.finRange 8).reverse.find? fun k => gone k && old[k].isSome with
  | some k => if left then s else s.evt .lampFault 2 [pU 16 1 0, pU 17 1 (old[k].getD 0)]
  | none => s

/-- LAMP_SET_EFFECT (R313, R317): settings, and a new PWM period for each string named. -/
def Slice.lampSet (s : Slice) (mask dac pwm : Nat) : Slice :=
  let zero := dac = 0 || pwm = 0
  let now := s.gt
  let s := (List.range 8).foldl (fun (s : Slice) (k : Nat) =>
    if bit mask k then (s.wr (fun n => Reg.LMP_S_SET_DAC n k) dac).wr (fun n => Reg.LMP_S_SET_PWM n k) pwm else s) s
  let s := s.mapLamps fun l => { l with
    orphan := false, phGt := Vector.ofFn fun (k : Fin 8) => if bit mask k.val then now else l.phGt[k] }
  let s := if zero then
      s.unlatch fun k => bit mask k.val && (s.lamps.latch[k] = some 0 || s.lamps.latch[k] = some 1)
    else s
  if zero then s
  else
    let free := (List.finRange 8).foldl (fun (m : Nat) (k : Fin 8) =>
      if bit mask k.val && s.lamps.latch[k].isNone then m + 2 ^ k.val else m) 0
    s.mapLamps fun l => { l with wait := l.wait &&& (255 ^^^ free) }

/-- A string's on-time in a PWM period, in thirds of a ns: the period of 1/2,400 s has 1,250,000 of them (R312). -/
def Slice.onTime (s : Slice) (k : Fin 8) : Nat := if s.strOn k then s.strPwm k.val * 1250000 / 4095 else 0

/-- Sink voltages that count: of conducting strings with an on-time of at least 20 µs (R314). -/
def Slice.measured (s : Slice) (sinks : List (Fin 8 × Nat)) : List (Fin 8 × Nat) :=
  sinks.filter fun p => decide (60000 ≤ s.onTime p.1)

/-- The boost target after a PWM period with the sink voltages measured in it, mV (R314); periods below 0.2 V with the target
at VB_MAX counted (R317). -/
def Slice.boost (s : Slice) (sinks : List (Fin 8 × Nat)) : Slice :=
  let seen := s.measured sinks
  let low := (seen.map fun p => p.2).min?
  let t := s.lamps.target
  let top : Int := (s.set Reg.LMP_S_CFG_VB_MAX * 1000 : Nat)
  let t' : Int := match low with
    | none => t
    | some v => if v < 350 then t + 500 else t + clampI (-100) 100 (450 - (v : Int))
  let t' := clampI ((s.rd Reg.FIO_VS : Int) - 500) top t'
  let lows := Vector.ofFn fun (k : Fin 8) =>
    match seen.find? fun p => p.1 = k with
    | some p => if p.2 < 200 && t = top then s.lamps.lows[k] + 1 else 0
    | none => s.lamps.lows[k]
  let s := (s.mapLamps fun l => { l with target := t', lows := lows }).wr Reg.LMP_S_VB t'.toNat
  match low with
  | some v => s.wr Reg.LMP_S_VB_HEAD v
  | none => s

/-- A common off-time of at least 20 µs of strings `k` and `k + 1`: the longest gap that their on-times, each from the start
of its own PWM period, leave in a period (R316). -/
def Slice.offWindow (s : Slice) (k : Fin 7) : Bool :=
  let a := s.onTime k.castSucc
  let b := s.onTime k.succ
  let d := ((3 * (s.lamps.phGt[k.succ] : Int) - 3 * (s.lamps.phGt[k.castSucc] : Int)) % 1250000).toNat
  let gap := if a = 0 then 1250000 - b else if b = 0 then 1250000 - a
    else max (d - max a (d + b - 1250000)) (1250000 - max a (d + b))
  decide (60000 ≤ gap)

/-- The next pair in turn among those tested (R316). -/
def Slice.nextPair (s : Slice) : Nat :=
  let en := s.set Reg.LMP_S_CFG_TEST_EN
  match ((List.range 7).map fun i => (s.lamps.pair + 1 + i) % 7).find? fun k => bit en k with
  | some k => k
  | none => s.lamps.pair

/-- The pair in turn tested in a common off-time: `fall` is the fall at its second string, mV; no window, no test (R316). A short
that has latched both strings is not found again (R317). -/
def Slice.pairTest (s : Slice) (fall : Nat) : Slice :=
  let k : Fin 7 := Fin.ofNat 7 s.lamps.pair
  let now := s.gt
  let s :=
    if bit (s.set Reg.LMP_S_CFG_TEST_EN) k.val && s.offWindow k then
      let s := (s.inc Reg.LMP_S_CNT_TEST).mapLamps fun l => { l with
        untested := setBit l.untested k false, pairGt := l.pairGt.set k now }
      let was := s.lamps.latch[k.castSucc] = some 0 && s.lamps.latch[k.succ] = some 0
      if 2000 < fall && !was then (s.inc Reg.LMP_S_CNT_SHORT).latchStr (3 * 2 ^ k.val) 0 else s
    else s
  s.mapLamps fun l => { l with pair := s.nextPair }

/-- STRING_OPEN: ten measured periods in a row (R317). -/
def Slice.strOpen (s : Slice) (k : Fin 8) : Slice :=
  if s.strFits k.val && s.lamps.latch[k].isNone && decide (10 ≤ s.lamps.lows[k]) then
    ((s.inc Reg.LMP_S_CNT_OPEN).latchStr (2 ^ k.val) 1).mapLamps fun l => { l with lows := l.lows.set k 0 }
  else s

/-- LAMP_THERMAL and its clearing: the die above 135 °C, and 10 °C below (R317, R502). -/
def Slice.lampHot (s : Slice) (x : Int) : Slice :=
  if s.lamps.hot || decide (x ≤ 135) then s
  else (s.mapLamps fun l => { l with hot := true }).latchStr (s.set Reg.LMP_S_CFG_STR_EN) 2
def Slice.lampCool (s : Slice) (x : Int) : Slice :=
  if 125 < x then s
  else (s.mapLamps fun l => { l with hot := false }).unlatch fun k => s.lamps.latch[k] = some 2

/-- PAIR_UNTESTED: no window for 10 s (R316). -/
def Slice.pairUntested (s : Slice) (k : Fin 7) : Slice :=
  if bit (s.set Reg.LMP_S_CFG_TEST_EN) k.val && decide (s.lamps.pairGt[k] + 10000000000 ≤ s.gt) then
    s.mapLamps fun l => { l with untested := setBit l.untested k true }
  else s

/-! Temperatures (R315) -/

/-- A quotient brought into [1, 2) by halving and doubling, scaled by 10¹², with the power of two taken out. -/
def lnNorm (y k : Int) : Nat → Int × Int
  | 0 => (y, k)
  | n + 1 => if 2000000000000 ≤ y then lnNorm (y / 2) (k + 1) n else if y < 1000000000000 then lnNorm (y * 2) (k - 1) n else (y, k)

/-- 2 atanh of z by its series, scaled by 10¹². -/
def atanh2 (z : Int) : Int :=
  let z2 := z * z / 1000000000000
  2 * ((List.range 14).foldl (fun (a : Int × Int) (i : Nat) =>
    (a.1 + truncDiv a.2 (2 * i + 1), truncDiv (a.2 * z2) 1000000000000)) (0, z)).1

/-- ln(a / b) scaled by 10¹² (log entry 15). -/
def lnRatio (a b : Nat) : Int :=
  let (y, k) := lnNorm ((a * 1000000000000 / b : Nat) : Int) 0 128
  k * 693147180560 + atanh2 (truncDiv ((y - 1000000000000) * 1000000000000) (y + 1000000000000).toNat)

/-- The temperature of an NTC in whole °C (R315). -/
def Slice.ntcTemp (s : Slice) (ohm : Nat) : Int :=
  let b : Int := s.set Reg.LMP_S_NTC_B
  let l := lnRatio ohm (s.set Reg.LMP_S_NTC_R25 * 10)
  let den := b * 100000000000000 + 29815 * l
  let mk := truncDiv (298150 * b * 100000000000000) den.toNat
  roundDiv (mk - 273150) 1000

/-- DERATING_UPDATE, every 100 ms: NTC readings in Ω and the die temperature; a group on the die has no use for its NTC
(R315). -/
def Slice.derate (s : Slice) (ohmA ohmB : Nat) (die : Int) : Slice :=
  if s.lamps.derGt.any fun g => decide (s.gt < g + 100000000) then s
  else
    let now := s.gt
    let dieA := s.setOn Reg.LMP_S_CFG_SRC_A
    let dieB := s.setOn Reg.LMP_S_CFG_SRC_B
    let bad := fun (r : Nat) => decide (r < 50) || decide (2000000 < r)
    let ta := if dieA then die else if bad ohmA then s.lamps.tempA else s.ntcTemp ohmA
    let tb := if dieB then die else if bad ohmB then s.lamps.tempB else s.ntcTemp ohmB
    let s := s.mapLamps fun l => { l with
      ntcA := !dieA && bad ohmA, ntcB := !dieB && bad ohmB, derGt := some now, tempA := ta, tempB := tb }
    let s := ((s.wrI Reg.LMP_S_TEMP_DIE die).wrI Reg.LMP_S_TEMP_TA ta).wrI Reg.LMP_S_TEMP_TB tb
    (s.wr Reg.LMP_S_FACT_FA (s.factorA / 10)).wr Reg.LMP_S_FACT_FB (s.factorB / 10)

/-! Helea images and scenes (R323) -/

/-- Word `w` of scene header `i`, or of run `r` as entry 256 + r: the memory behind HLC_SCN_IDX and HLC_SCN_DATA0 to 2,
kept as fields above BAR0. -/
def scnWord (n i w : Nat) : RF := RF.mk' (0x100000 + 0x4000 * n + 16 * i + 4 * w) 0 32 .rwl 0 []

/-- A port is enabled, and its nodes (R312, R323). -/
def Slice.hcOn (s : Slice) (p : Fin 2) : Bool :=
  s.cfg.isSome && s.setOn (if p = 0 then Reg.HLC_CTRL_EN0 else Reg.HLC_CTRL_EN1)
def Slice.nodes (s : Slice) (p : Fin 2) : Nat := s.set fun n => Reg.HLC_PORT_NODES n p.val

/-- The values of a node; a node not listed is dark. -/
def imgAt (img : List (Nat × HVal)) (k : Nat) : HVal :=
  match img.find? fun e => e.1 = k with
  | some e => e.2
  | none => { ch0 := 0, ch1 := 0, ch2 := 0, flags := 0 }

/-- The image a stored scene gives a port (R323). -/
def Slice.scene (s : Slice) (p : Fin 2) (idx : Nat) : List (Nat × HVal) :=
  let h := s.set fun n => scnWord n idx 0
  let first := h / 2 ^ 16 % 512
  (List.range (h % 64)).foldl (fun (img : List (Nat × HVal)) (i : Nat) =>
    let w := fun (k : Nat) => s.set fun n => scnWord n (256 + first + i) k
    let node := w 0 / 2 ^ 16 % 128
    let v : HVal := { ch0 := w 1 % 65536, ch1 := w 1 / 65536, ch2 := w 2 % 65536, flags := w 0 / 256 % 128 }
    ((List.range (w 0 % 256)).filterMap fun k => if node + k < s.nodes p then some (node + k, v) else none) ++ img) []

/-- What a Helea action does to the image of a port. -/
def Slice.imgAct (s : Slice) (p : Fin 2) (a : SAct) (img : List (Nat × HVal)) : List (Nat × HVal) :=
  if a.op = 0x41 then s.scene p (leAt a.param 2 2)
  else
    let k := byteAt a.param 1
    (k, { ch0 := leAt a.param 2 2, ch1 := leAt a.param 4 2, ch2 := leAt a.param 6 2, flags := byteAt a.param 8 % 128 })
      :: img.filter fun e => e.1 != k

/-- Whether a delivered action is a Helea action of a port. -/
def SAct.forPort (a : SAct) (p : Fin 2) : Bool :=
  (a.op = 0x41 && (byteAt a.param 0 = 2 || byteAt a.param 0 = p.val)) || (a.op = 0x42 && byteAt a.param 0 = p.val)

/-- Both ports of an action have carried it (`done` is a mask). -/
def SAct.allDone (a : SAct) (done : Nat) : Bool :=
  (!a.forPort 0 || bit done 0) && (!a.forPort 1 || bit done 1)

/-! Frames (R318, R324, R330) -/

/-- One bit of CRC-8, and one byte (R318). -/
def crc8Bit (c : Nat) : Nat := if bit c 7 then (2 * c % 256) ^^^ 7 else 2 * c
def crc8Byte (c : Nat) (b : Byte) : Nat :=
  crc8Bit (crc8Bit (crc8Bit (crc8Bit (crc8Bit (crc8Bit (crc8Bit (crc8Bit (c ^^^ b.toNat))))))))
def crc8 (l : List Byte) : Nat := l.foldl crc8Byte 0

/-- One output channel of R330: a row of the matrix, the inputs, s. -/
def calChan (m0 m1 m2 : Int) (v : HVal) (sc : Nat) : Nat :=
  let x := (m0 * v.ch0 + m1 * v.ch1 + m2 * v.ch2) * sc + 2 ^ 28
  (clampI 0 65535 (x / 2 ^ 29)).toNat

/-- A node's values corrected against a bank (R330). -/
def Bank.correct (b : Bank) (k : Nat) (v : HVal) : HVal :=
  match b.node.find? fun e => e.1 = k with
  | none => v
  | some (_, nd) =>
    match b.lib.find? fun e => e.1 = byteAt nd 0 with
    | none => v
    | some (_, l) =>
      let m := fun (i : Nat) => toSigned 16 (leAt l (2 * i) 2)
      let sc := leAt l 18 2 * (byteAt nd 1 + 1) / 256
      { ch0 := calChan (m 0) (m 1) (m 2) v sc, ch1 := calChan (m 3) (m 4) (m 5) v sc,
        ch2 := calChan (m 6) (m 7) (m 8) v sc, flags := v.flags }

/-- A share: values, TURN and flags, CRC (R318). -/
def shareBytes (v : HVal) (turn : Bool) : List Byte :=
  let h := beBytes 2 v.ch0 ++ beBytes 2 v.ch1 ++ beBytes 2 v.ch2 ++ leBytes 1 (128 * b2n turn + v.flags % 128)
  h ++ leBytes 1 (crc8 h)

/-- A frame of `m` shares and its tail (R318). -/
def Hel.bytes (h : Hel) (p m : Nat) : List Byte :=
  ((List.range m).map fun k =>
    let v := imgAt h.img k
    shareBytes (match h.bank with | some b => b.correct k v | none => v) (k + 1 = m)).flatten
    ++ leBytes 1 0x5A ++ leBytes 1 p ++ beBytes 2 h.count

/-- Duration of a frame of `m` shares to its latch instant, ns (R319). -/
def helNs (m : Nat) : Nat := (64 * m + 32) * 2000 + 40000

/-- HELEA_ACTION_DECISION: a carried action decided as the frame starts, under the checks of R134 (R325). Its first port
takes its firing room in the tick of its latch instant; without room there it waits for a later frame (R135). DEDUCED (log
entry 120): the frame starts before the fire time, so R132's test is put at that start. -/
def Slice.helAct (s : Slice) (p : Fin 2) (lam : Nat) (a : SAct) : Slice :=
  let late := lam - a.gt
  let own := match s.arb with
    | .held _ e => e = a.epoch
    | _ => false
  let gone := !own || s.lse.fresh + 1000000 < min a.gt s.gt
  let dead := a.tol * 1000 < late
  if !gone && !dead && a.done = 0 && !s.roomLeft (lam / tickNs) then s
  else
    let out := if gone then Outc.discarded else if dead then Outc.expired else if 0 < late then Outc.late else Outc.fired
    let s := if !gone && !dead then
        let s := if a.done = 0 then s.useRoom (lam / tickNs) a else s
        s.mapHel p fun h => { h with img := s.imgAct p a h.img, orphan := false }
      else s
    let s := if out = Outc.late || out = Outc.expired then s.inc fun n => Reg.HLC_CNT_LATE n p.val else s
    let done := a.done ||| 2 ^ p.val
    let worst := max a.worst out
    if a.allDone done then
      { s.report a worst 0 lam with acts := s.acts.filter fun x => x != a }
    else
      { s with acts := s.acts.map fun x => if x = a then { a with done := done, worst := worst } else x }

/-- The shape of a frame that starts now: shares, and whether it is a retest, which latches RETEST_FR grid periods after the one
before; none where no frame leaves (R327). -/
def Slice.helShape (s : Slice) (p : Fin 2) : Option (Nat × Bool) :=
  let h := s.hels[p]
  let m := s.nodes p
  if h.state = 2 then some (((h.lo + h.hi) / 2 + 1).toNat, false)
  else if h.state = 3 then
    if h.retest ≤ s.gt + helNs m then some (m, true) else if h.reach = 0 then none else some (h.reach, false)
  else some (m, false)

/-- CHAIN_BREAK: shares consumed and bits returned (R327). -/
def Slice.chainBreak (s : Slice) (p : Fin 2) (shares bits : Nat) : Slice :=
  s.evt .chainBreak 8 [pU 16 1 p.val, pU 17 1 shares, pU 20 4 bits]

/-- The latch instant of the retest that is due RETEST_FR grid periods after a frame that latched at `lam` (R327). -/
def Slice.retestAt (s : Slice) (p : Fin 2) (lam : Nat) : Nat :=
  let per := s.set Reg.HLC_CTRL_PERIOD_US * 1000
  (if per = 0 then lam else lam / per * per) + per * s.set fun n => Reg.HLC_PORT_RETEST_FR n p.val

/-- A locate that has narrowed to one node ends (R327). -/
def Slice.locateEnd (s : Slice) (p : Fin 2) : Slice :=
  let h := s.hels[p]
  if h.state = 2 && h.hi - h.lo = 1 then
    let r := (h.lo + 1).toNat
    let lam := match h.frame with
      | some f => f.lam
      | none => s.gt
    let due := s.retestAt p lam
    let s := s.mapHel p fun h => { h with reach := r, state := 3, passes := 0, retest := due }
    (s.inc fun n => Reg.HLC_CNT_LOCATE n p.val).chainBreak p r h.bits
  else s

/-- CHAIN_CHECK: how many bits returned, and those bits as a number, compared with the frame's tail (R326, R327). -/
def Slice.chainCheck (s : Slice) (p : Fin 2) (bits word : Nat) : Slice :=
  match s.hels[p].frame with
  | none => s
  | some f =>
    if f.checked then s
    else
    let pass := bits = 32 && word = f.tail
    let h := s.hels[p]
    let top : Int := (s.nodes p : Int) - 1
    let s := (if pass then s else s.inc fun n => Reg.HLC_CNT_BADRET n p.val).mapHel p fun h => { h with
      frame := some { f with checked := true } }
    let s :=
      if h.state = 1 then
        if pass then s.mapHel p fun h => { h with fails := 0 }
        else if h.fails + 1 = 2 then s.mapHel p fun h => { h with fails := 2, lo := -1, hi := top, state := 2, bits := bits }
        else s.mapHel p fun h => { h with fails := h.fails + 1 }
      else if h.state = 2 then
        s.mapHel p fun h => if pass then { h with lo := (f.m : Int) - 1 } else { h with hi := (f.m : Int) - 1 }
      else if f.retest then
        if pass && h.passes + 1 = 3 then
          (s.mapHel p fun h => { h with state := 1, reach := s.nodes p, fails := 0, passes := 0 }).chainBreak p (s.nodes p) 32
        else s.mapHel p fun h => { h with passes := if pass then h.passes + 1 else 0 }
      else if !pass then s.mapHel p fun h => { h with lo := -1, hi := (h.reach : Int) - 1, state := 2, bits := bits }
      else s
    s.locateEnd p

/-- The checked shadow bank becomes active for the frame that starts (R331). -/
def Slice.helSwap (s : Slice) (p : Fin 2) (lam : Nat) : Slice :=
  if s.hels[p].swap then
    let b := s.hels[p].shadow
    let s := s.mapHel p fun h => { h with bank := b, shadow := none, swap := false }
    let s := { s with board := { s.board with bank := s.board.bank.set p b } }
    s.evt .calSwapped 8 [pU 16 1 p.val, pU 20 4 lam]
  else s

/-- A frame that starts now latches at `lam`, where that is a grid point or the fire time of a held action of the port
that no frame has carried (R324). -/
def Slice.latchesAt (s : Slice) (p : Fin 2) (lam : Nat) : Bool :=
  lam % (s.set Reg.HLC_CTRL_PERIOD_US * 1000) = 0
    || s.acts.any fun a => a.forPort p && !bit a.done p.val && decide (a.gt = lam)

/-- The last 32 bits of a port's next frame (R318). -/
def Hel.tail (h : Hel) (p : Nat) : Nat := 0x5A000000 + p * 2 ^ 16 + h.count

/-- HELEA_FRAME_START on a port (R324). It ends the check of the frame before: no CHAIN_CHECK came, so no bit has returned
(R326). -/
def Slice.helStart (s : Slice) (p : Fin 2) : Slice :=
  let idle := match s.hels[p].frame with
    | some f => decide (f.lam ≤ s.gt)
    | none => true
  if !s.hcOn p || !idle then s
  else
    let was := s
    let s := s.chainCheck p 0 0
    match s.helShape p with
    | none => was
    | some (m, retest) =>
      let lam := s.gt + helNs m
      if !s.latchesAt p lam then was
      else
        let due := sortBy (fun (a b : SAct) => a.gt ≤ b.gt)
          (s.acts.filter fun a => a.forPort p && !bit a.done p.val && decide (a.gt ≤ lam))
        let s := s.helSwap p lam
        let s := due.foldl (fun (s : Slice) (a : SAct) => s.helAct p lam a) s
        let next := s.retestAt p lam
        let s := (s.emit (.helea p.val (s.hels[p].bytes p.val m))).inc fun n => Reg.HLC_CNT_FRAME n p.val
        s.mapHel p fun h => { h with
          frame := some { m := m, retest := retest, lam := lam, latched := false, checked := false, tail := h.tail p.val },
          count := (h.count + 1) % 65536, retest := if retest then next else h.retest }

/-- HELEA_LATCH: the line has been low for 40 µs (R319). -/
def Slice.helLatch (s : Slice) (p : Fin 2) : Slice :=
  let now := s.gt
  s.mapHel p fun h => { h with frame := h.frame.map fun f => { f with latched := decide (f.lam ≤ now) } }

/-! Calibration banks (R328, R331, R333) -/

/-- Entries of a table put together: library, then nodes; none where one is missing. -/
def Bank.table (b : Bank) (nl nn : Nat) : Option (List Byte) :=
  let get := fun (l : List (Nat × List Byte)) (i : Nat) => (l.find? fun e => e.1 = i).map fun e => e.2
  let ls := (List.range nl).map (get b.lib)
  let ns := (List.range nn).map (get b.node)
  if ls.all Option.isSome && ns.all Option.isSome then some ((ls ++ ns).filterMap id).flatten else none

/-- Entries of a section put into a bank. -/
def putEntries (l : List (Nat × List Byte)) (first size : Nat) (data : List Byte) (count : Nat) : List (Nat × List Byte) :=
  (List.range count).foldl (fun (l : List (Nat × List Byte)) (i : Nat) =>
    (first + i, (data.drop (size * i)).take size) :: l.filter fun e => e.1 != first + i) l

/-- A HEL section of the holder (R331, R333): a new tag discards the shadow bank; a reserved OP or port does nothing (R16). -/
def Slice.helSection (s : Slice) (b : List Byte) : Slice :=
  let op := byteAt b 0
  if !s.helOn || op = 0 || 3 < op || 1 < byteAt b 1 then s
  else
    let p : Fin 2 := Fin.ofNat 2 (byteAt b 1)
    let tag := byteAt b 2 * 256 + byteAt b 3
    let old := s.hels[p].shadow.filter fun x => x.tag = tag
    let sh := old.getD { tag := tag, lib := [], node := [] }
    if op = 1 then
      let x := { sh with lib := putEntries sh.lib (byteAt b 4) 20 (b.drop 6) (byteAt b 5) }
      s.mapHel p fun h => { h with mism := none, swap := false, shadow := some x }
    else if op = 2 then
      let x := { sh with node := putEntries sh.node (byteAt b 4) 2 (b.drop 6) (byteAt b 5) }
      s.mapHel p fun h => { h with mism := none, swap := false, shadow := some x }
    else
      match old with
      | none => s.mapHel p fun h => { h with mism := h.mism.filter fun t => t = tag, shadow := none, swap := false }
      | some x =>
        if s.hels[p].swap then s
        else if ((x.table (byteAt b 4) (byteAt b 5)).map crc32) = some (beAt b 6 4) then
          s.mapHel p fun h => { h with swap := true }
        else s.mapHel p fun h => { h with shadow := none, mism := some tag }

/-- ORPHAN_LAMP_HOLD_END: 2 s after the entry to GUARD, which a power-up is too (R279, R284, R332). -/
def Slice.lampsOrphan (s : Slice) : Slice :=
  if !s.orphan || decide (s.gt < s.guardGt + 2000000000) then s
  else
    let mask := s.set Reg.LMP_S_ORPH_MASK
    let strings := fun (s : Slice) => (List.range 8).foldl (fun (s : Slice) (k : Nat) =>
      let on := bit mask k
      (s.wr (fun n => Reg.LMP_S_SET_DAC n k) (if on then s.set Reg.LMP_S_ORPH_DAC else 0)).wr
        (fun n => Reg.LMP_S_SET_PWM n k) (if on then s.set Reg.LMP_S_ORPH_PWM else 0))
      (s.mapLamps fun l => { l with orphan := true })
    let s := s.inLstr strings
    let one := fun (s : Slice) (p : Fin 2) =>
      if s.hcOn p then
        s.mapHel p fun h => { h with img := s.scene p (s.set fun n => Reg.HLC_PORT_ORPH_SCENE n p.val), orphan := true }
      else s
    one (one s 0) 1

/-- The LMT payload (R334). DEDUCED (log entry 127): after a CRC mismatch SH_TAG is the tag of the bank discarded. -/
def Slice.lmt (s : Slice) : List Byte :=
  let mask := fun (f : Fin 8 → Bool) =>
    (List.finRange 8).foldl (fun (m : Nat) (k : Fin 8) => if f k then m + 2 ^ k.val else m) 0
  let latched := mask fun k => s.lamps.latch[k].isSome
  let flags := b2n (latched != 0 || s.lamps.ntcA || s.lamps.ntcB) + 2 * b2n s.lamps.ntcA + 4 * b2n s.lamps.ntcB
    + 8 * b2n s.lamps.hot + 16 * b2n s.lamps.orphan + 32 * b2n s.hels[0].orphan + 64 * b2n s.hels[1].orphan
  let port := fun (p : Fin 2) =>
    let h := s.hels[p]
    let sh := h.shadow
    leBytes 1 (if s.hcOn p then h.state else 0) ++ leBytes 1 (if s.hcOn p then h.reach else 0)
      ++ beBytes 2 (match sh with | some b => b.tag | none => h.mism.getD 0)
      ++ leBytes 1 (if h.mism.isSome then 0xFF else match sh with | some b => b.lib.length | none => 0)
      ++ leBytes 1 (match sh with | some b => b.node.length | none => 0)
  leBytes 1 (mask s.strOn) ++ leBytes 1 latched ++ leBytes 1 s.lamps.untested ++ leBytes 1 flags
    ++ beBytes 2 (s.rd Reg.LMP_S_VB) ++ beBytes 2 (s.rd Reg.LMP_S_VB_HEAD)
    ++ leBytes 1 (s.rd Reg.LMP_S_TEMP_TA) ++ leBytes 1 (s.rd Reg.LMP_S_TEMP_TB) ++ leBytes 1 (s.rd Reg.LMP_S_TEMP_DIE)
    ++ leBytes 1 (s.rd Reg.LMP_S_FACT_FA) ++ leBytes 1 (s.rd Reg.LMP_S_FACT_FB) ++ leBytes 3 0
    ++ port 0 ++ port 1

/-! Commands -/

def execLampPwmPeriod (n : Fin 16) (sinks : List (Fin 8 × Nat)) (fall : Nat) (t : Nat) (s : State) :
    Host.Outcome State Fault Refusal := s.slice n t fun c => c.inLstr fun c => (c.boost sinks).pairTest fall
def execPairUntested (n : Fin 16) (k : Fin 7) (t : Nat) (s : State) : Host.Outcome State Fault Refusal :=
  s.slice n t fun c => c.inLstr fun c => c.pairUntested k
def execStringOpen (n : Fin 16) (k : Fin 8) (t : Nat) (s : State) : Host.Outcome State Fault Refusal :=
  s.slice n t fun c => c.inLstr fun c => c.strOpen k
def execLampThermal (n : Fin 16) (x : Int) (t : Nat) (s : State) : Host.Outcome State Fault Refusal :=
  s.slice n t fun c => c.inLstr fun c => c.lampHot x
def execLampThermalClear (n : Fin 16) (x : Int) (t : Nat) (s : State) : Host.Outcome State Fault Refusal :=
  s.slice n t fun c => c.inLstr fun c => c.lampCool x
def execDeratingUpdate (n : Fin 16) (ohmA ohmB : Nat) (die : Int) (t : Nat) (s : State) :
    Host.Outcome State Fault Refusal := s.slice n t fun c => c.inLstr fun c => c.derate ohmA ohmB die
def execHeleaFrameStart (n : Fin 16) (p : Fin 2) (t : Nat) (s : State) : Host.Outcome State Fault Refusal :=
  s.sliceFire n t fun c => c.helStart p
def execHeleaLatch (n : Fin 16) (p : Fin 2) (t : Nat) (s : State) : Host.Outcome State Fault Refusal :=
  s.slice n t fun c => c.helLatch p
def execChainCheck (n : Fin 16) (p : Fin 2) (bits word t : Nat) (s : State) :
    Host.Outcome State Fault Refusal := s.slice n t fun c => c.chainCheck p bits word
def execOrphanLampHoldEnd (n : Fin 16) (t : Nat) (s : State) : Host.Outcome State Fault Refusal :=
  s.slice n t Slice.lampsOrphan

end Sys2Proof.Machine
end

