-- ==== Sys2Proof/Machine/LinkCode.lean ====
section
/-! DEFINITION. Frames of the slice link as both ends read and build them: header fields, sections, CRC (R262 to R271). -/

namespace Sys2Proof.Machine

/-- `a` is newer than `b` modulo 2^16 (R201). -/
def newer16 (a b : Nat) : Bool :=
  let d := (a + 65536 - b % 65536) % 65536
  decide (1 ≤ d) && decide (d ≤ 32767)

/-- The newer of two 16-bit numbers. -/
def newest16 (a b : Nat) : Nat := if newer16 a b then a else b

/-- A section: its type and its payload (R266). -/
abbrev Section := Nat × List Byte

/-- Sections read back to back; none where one overruns the frame or has a reserved type. `fuel` bounds their number. -/
def readSections (known : Nat → Bool) (l : List Byte) : Nat → Option (List Section)
  | 0 => none
  | n + 1 =>
    match l with
    | [] => some []
    | [_] => none
    | t :: k :: rest =>
      let len := k.toNat
      if !known t.toNat || rest.length < len then none
      else
        match readSections known (rest.drop len) n with
        | some more => some ((t.toNat, rest.take len) :: more)
        | none => none

/-- Section types of each direction (R267, R268); 0x00 is padding. -/
def downType (t : Nat) : Bool := decide (t ≤ 6)
def upType (t : Nat) : Bool := t = 0 || (decide (0x81 ≤ t) && decide (t ≤ 0x8B))

/-- A section as sent. -/
def sectionBytes (s : Section) : List Byte := leBytes 1 s.1 ++ leBytes 1 s.2.length ++ s.2

/-- A frame closed: padding to a multiple of 4 bytes, LEN, the CRC (R262, R263, R266). `head` has LEN at byte 3. -/
def closeFrame (head body : List Byte) : List Byte :=
  let n := head.length + body.length
  let gap := (4 - n % 4) % 4
  let pad := if gap = 0 then [] else if gap = 1 then sectionBytes (0, leBytes 3 0) else sectionBytes (0, leBytes (gap - 2) 0)
  let words := (n + pad.length + 4) / 4
  let b := head.take 3 ++ leBytes 1 words ++ head.drop 4 ++ body ++ pad
  b ++ beBytes 4 (crc32 b)

/-- The parts of R271 both ends check alike: line errors, LEN against the length, its range, the CRC, KIND. -/
def frameOk (bytes : List Byte) (bad : Bool) (kind maxWords : Nat) : Bool :=
  let n := bytes.length
  !bad && byteAt bytes 0 = kind && n = 4 * byteAt bytes 3 && decide (8 ≤ byteAt bytes 3) && decide (byteAt bytes 3 ≤ maxWords)
    && beAt bytes (n - 4) 4 = crc32 (bytes.take (n - 4))

/-- Sections of a frame between its header and its CRC. -/
def frameSections (bytes : List Byte) (header : Nat) (known : Nat → Bool) : Option (List Section) :=
  readSections known ((bytes.take (bytes.length - 4)).drop header) 512

/-- Records acknowledged by the number `ack` leave the queue: those sent with a number at or before it (R270). -/
def ackQueue (q : List LinkRec) (ack : Nat) : List LinkRec :=
  q.filter fun r => match r.num with
    | some k => newer16 k ack
    | none => true

/-- Records sent again (R270): the first whose last sending lies 3 ticks before tick `k`, and every later one, in order. -/
def redue (k : Nat) : List LinkRec → List LinkRec
  | [] => []
  | r :: l =>
    if r.num.isSome && !r.due && decide (r.sent + 3 ≤ k) then
      { r with due := true } :: l.map fun x => if x.num.isSome then { x with due := true } else x
    else r :: redue k l

/-- Numbering restarts at 0: the records sent and not acknowledged keep their order, each to be sent again (R270). -/
def renumber : Nat → List LinkRec → List LinkRec
  | _, [] => []
  | i, r :: l =>
    if r.num.isSome then { r with num := some i, due := true } :: renumber ((i + 1) % 65536) l else r :: renumber i l

/-- The number after those that `renumber 0` gives. -/
def sentCount (l : List LinkRec) : Nat := (l.filter fun r => r.num.isSome).length % 65536

/-- Bytes of sections that fit every frame: 256 and 512 bytes less header and CRC, and less what its padding may take
(R262, R266). -/
def downRoom : Nat := 222
def upRoom : Nat := 474

/-- Action records of one frame at most (R131). -/
def actsPerFrame : Nat := 8

/-- Where the filling of a frame stands: records left in the queue, records sent, bytes and action records used, whether
the frame takes no more. -/
structure Fill where
  kept : List LinkRec
  put  : List LinkRec
  used : Nat
  acts : Nat
  shut : Bool
  deriving DecidableEq, Repr

/-- Bytes of a record on the line: an action record carries DT in the place of its fire time (R269). -/
def LinkRec.size (r : LinkRec) : Nat := 4 + (if r.ty = 1 then 20 else r.body.length)

/-- One record: sent where it is due and the frame takes it. -/
def Fill.take (x : Fill) (room : Nat) (r : LinkRec) : Fill :=
  let size := r.size
  if !r.due then { x with kept := x.kept ++ [r] }
  else if x.shut || room < x.used + size || (r.ty = 1 && actsPerFrame ≤ x.acts) then { x with kept := x.kept ++ [r], shut := true }
  else { x with put := x.put ++ [r], used := x.used + size, acts := x.acts + b2n (r.ty = 1) }

/-- A record as it stands in the queue once it has been sent in tick `k`. -/
def LinkRec.out (r : LinkRec) (k : Nat) : LinkRec := { r with due := false, sent := k }

/-- A record as a section, its number first. -/
def LinkRec.section (r : LinkRec) : Section := (r.ty, beBytes 2 (r.num.getD 0) ++ r.body)

/-- New records numbered from `next`, and the number after them. -/
def numberFrom : Nat → List LinkRec → List LinkRec × Nat
  | next, [] => ([], next)
  | next, r :: l =>
    let (l, n) := numberFrom ((next + 1) % 65536) l
    ({ r with num := some next } :: l, n)

/-- Records of a queue placed in a frame of tick `k` with `room` bytes: those sent before first, in their order, then new
ones as they came, as many as fit, laid out by their section types and numbered so (R131, R266, R270, log entry 20): the
queue, the next number, the records sent again and the new ones. -/
def placeRecs (q : List LinkRec) (next room k : Nat) : List LinkRec × Nat × List LinkRec × List LinkRec :=
  let old := q.filter fun r => r.num.isSome
  let a := old.foldl (fun (x : Fill) (r : LinkRec) => x.take room r) { kept := [], put := [], used := 0, acts := 0, shut := false }
  let b := (q.filter fun r => r.num.isNone).foldl (fun (x : Fill) (r : LinkRec) => x.take room r) { a with kept := [], put := [] }
  let (new, n) := numberFrom next (sortBy (fun (x y : LinkRec) => x.ty ≤ y.ty) b.put)
  let back := old.map fun r => if a.put.contains r then r.out k else r
  (back ++ new.map (fun r => r.out k) ++ b.kept, n, a.put, new)

end Sys2Proof.Machine
end

