-- ==== Sys2Proof/Machine/SliceLink.lean ====
section
/-! DEFINITION. The slice's side of its link (spec/10): downstream frames, the mirror (R242 to R249), the lease arbiter
(R279, R280), delivered actions (R131 to R136), upstream frames, power (R461). -/

namespace Sys2Proof.Machine

/-! Registers read through the proxy (R277) -/

/-- The register of the slice's window at an offset: settings from the configuration, the rest from the slice. -/
def Slice.window (s : Slice) (off : Nat) : Nat :=
  (Reg.fieldsAt (0x40000 + off)).foldl (fun (a : Nat) (f : RF) =>
    a + (if f.acc = .rwl then s.set fun _ => f else s.regs.rd f) * 2 ^ f.lsb) 0

/-- A register that shows live state brought up to date before it is read. -/
def Slice.refresh (s : Slice) : Slice :=
  let l := s.lmt
  let s := s.wr Reg.FIO_STAT_EDGE_PEND s.fio.edges.length
  let s := (s.wr Reg.LMP_S_STAT_ON (byteAt l 0)).wr Reg.LMP_S_STAT_LATCH (byteAt l 1)
  let s := (s.wr Reg.LMP_S_STAT_UNTESTED (byteAt l 2)).wr Reg.LMP_S_STAT_FLAGS (byteAt l 3)
  let port := fun (s : Slice) (p : Nat) =>
    let i := 16 + 6 * p
    let s := (s.wr (fun n => Reg.HLC_STAT_STATE n p) (byteAt l i)).wr (fun n => Reg.HLC_STAT_REACH n p) (byteAt l (i + 1))
    let s := s.wr (fun n => Reg.HLC_STAT_SH_TAG n p) (beAt l (i + 2) 2)
    (s.wr (fun n => Reg.HLC_SHD_SH_LIB n p) (byteAt l (i + 4))).wr (fun n => Reg.HLC_SHD_SH_NODE n p) (byteAt l (i + 5))
  let s := port (port s 0) 1
  let en := fun (s : Slice) (d : Fin 2) => s.flag (fun n => Reg.DRV_STAT_EN n d.val) s.doors[d].bridge
  en (en s 0) 1

/-- The answer to a proxy record, on the port it came from (R268, R276). -/
def Slice.pxr (s : Slice) (p : Fin 2) (num status data : Nat) : Slice :=
  s.queueTo p 0x85 (beBytes 2 num ++ leBytes 1 status ++ leBytes 1 0 ++ beBytes 4 data)

/-- A proxy write of the holder: a probe step, or SAFE_REARM carried as a write of FIO_SAFE_STAT (R249, R308, log entry
18); any other offset holds nothing a write may change. -/
def Slice.proxyWrite (s : Slice) (p : Fin 2) (num off data : Nat) : Slice :=
  if off = 0x4E8 then
    let step := data % 4
    let chan := data / 256 % 32
    if s.rd Reg.FIO_STAT_PROBE = 1 || step = 3 || 19 < chan || (step = 0 && chan != 0) then s.pxr p num 1 0
    else
      let s := s.probe step chan
      s.pxr p num 0 (s.window 0x4E8)
  else if off = 0x4E4 then
    let (ok, s) := s.rearm
    s.pxr p num (if ok then 0 else 1) 0
  else s.pxr p num 1 0

/-! Configuration (R276) -/

/-- The bytes of a configuration: its car, then each setting as key and value (log entry 21). -/
def SliceCfg.bytes (c : SliceCfg) : List Byte :=
  leBytes 1 c.car ++ c.regs.flatMap fun e => beBytes 4 e.1 ++ beBytes 4 e.2

/-- Settings read back from those bytes. -/
def readPairs (b : List Byte) : Nat → RegMap
  | 0 => []
  | n + 1 => if b.length < 8 then [] else RegMap.set (readPairs (b.drop 8) n) (beAt b 0 4) (beAt b 4 4)
def readCfg (b : List Byte) : SliceCfg := { car := byteAt b 0, regs := readPairs b.tail (b.length / 8) }

/-- The hash a slice reports: all zero without a configuration (R275). -/
def Slice.hash (s : Slice) : List Byte :=
  match s.cfg with
  | some c => Config.sha256 c.bytes
  | none => leBytes 32 0

/-- A byte received for the configuration. -/
def putBytes (l : List (Nat × Byte)) (ofs : Nat) : List Byte → List (Nat × Byte)
  | [] => l
  | b :: r => putBytes ((ofs, b) :: l.filter fun e => e.1 != ofs) (ofs + 1) r

/-- CFG_COMMIT: the hash checked over the bytes received; a match is written to the non-volatile memory and becomes active
at the next tick boundary (R276). -/
def Slice.commit (s : Slice) (p : Fin 2) (num : Nat) (b : List Byte) : Slice :=
  let len := beAt b 0 2
  let img := (List.range len).map fun i => match s.cfgRx.find? fun e => e.1 = i with
    | some e => e.2
    | none => 0
  if Config.sha256 img = (b.drop 2).take 32 then
    let c := readCfg img
    { s.pxr p num 0 0 with cfgNext := some c, cfgGt := s.gt, cfgRx := [], board := { s.board with cfg := some c } }
  else { s.pxr p num 1 0 with cfgRx := [] }

/-- A door channel at the start of its domain: a door that reads locked stands referenced at the closed end (R210, R211). -/
def Slice.doorStart (s : Slice) (d : Fin 2) : Slice :=
  let s := s.mapDoor d fun _ => Door.start
  if s.fits d && s.din d Reg.DOR_ROLE_LOCK_IN then (s.setPos d 0).mapDoor d fun a => { a with refd := true } else s

/-- SLICE_CONFIG_ACTIVE: at the first tick boundary after the commit the configuration becomes active, and the domains it turns
off or on start anew; a domain that stays on goes on as it is, and the feedbacks read by the new SFB_INV (R276, R306, R446). -/
def Slice.cfgActive (s : Slice) : Slice :=
  match s.cfgNext with
  | none => s
  | some c =>
    if s.gt / tickNs ≤ s.cfgGt / tickNs then s
    else
      let was := s
      let s := ({ s with cfg := some c, cfgNext := none }.sfbShow 32).sfbShow 33
      let door := fun (s : Slice) (d : Fin 2) => if s.fits d = was.fits d then s else s.doorStart d
      let s := if s.lstrOn = was.lstrOn then s else s.lstrStart
      let hel := fun (s : Slice) (p : Fin 2) =>
        if s.helOn = was.helOn then s.mapHel p fun h => if h.state = 1 then { h with reach := s.nodes p } else h
        else s.mapHel p fun _ => Hel.start (if s.helOn then s.nodes p else 0) s.board.bank[p]
      hel (hel (door (door s 0) 1) 0) 1

/-! The mirror (R237 to R244) -/

/-- What the mirror's evaluation reads. -/
def Slice.ruleIn (s : Slice) (p : Snap) : RuleIn :=
  { rd := fun f => s.set f, sig := signals p (s.fits 0) (s.fits 1) s.lse.evals, mode := s.lse.mode,
    latch := s.lse.latch.isSome, state := fun d => p.states / 16 ^ d % 16, slow := true }

/-- MIRROR_EVALUATION on the snapshot the frame names; two copies run, `flip` is what disturbs the second (R244). -/
def Slice.mirror (s : Slice) (p : Snap) (flip : Nat) : Slice :=
  let x := s.ruleIn p
  let va := x.runs s.lse.runsA
  let vb := x.runs s.lse.runsB
  let a := x.result va
  let same := a.code = (x.result vb).code ^^^ flip
  let sfb := fun (c : Bool) => c == s.lse.trains
  let r9 := s.lse.rule9
    && !(sfb (s.rd Reg.FIO_SAFE_STAT_SFB_A = 1) && sfb (s.rd Reg.FIO_SAFE_STAT_SFB_B = 1))
  let s := s.mapLse fun l => { l with
    rs := { a with safe := a.safe && !r9 }, rsc := a, rsSnap := p.seq % 256, runsA := va, runsB := vb, rule9 := r9,
    ovl := x.rule7 }
  let flag := fun (q : SPort) => { q with mirror := true }
  if same then s else ((s.mapPort 0 flag).mapPort 1 flag).safeDrop 1

/-- What the interlock part of a frame of the holder on port `p` under epoch `e` does: R_e, E, mode, the mirror, SAFE and the
doors (R242, R246). For SAFE a new holder's R_e counts from its first valid keep on (R247). -/
def Slice.takeIlk (s : Slice) (p : Fin 2) (e : Nat) (b : List Byte) (flip : Nat) : Slice :=
  let was := s.rd Reg.FIO_VAL
  let re := IlkRes.ofCode (byteAt b 20)
  let rules := bit (byteAt b 1) 3 || s.lse.keepBy = some (p, e)
  let s := s.mapLse fun l => { l with
    re := re, evals := beAt b 22 2, reKeep := if rules then re else l.reKeep,
    keepBy := if rules then some (p, e) else l.keepBy }
  let s := s.takeMode (byteAt b 26 % 16) (byteAt b 26 / 16 % 4)
  let s := match s.ports[p].snaps.find? fun x => x.seq % 256 = byteAt b 21 with
    | some x => s.mirror x flip
    | none => s
  (s.safeRule).protect was

/-- A valid keep (R247, R249): the count of T_orphan starts anew; a latch of cause 0 clears with AUTO_ORPHAN; the trains
run while SAFE is granted and the latch is clear. -/
def Slice.keep (s : Slice) : Slice :=
  let s := s.mapLse fun l => { l with keep := some s.gt }
  let s := if s.lse.latch = some 0 && s.setOn Reg.ILK_CTRL_AUTO_ORPHAN && s.safeGranted then
      s.mapLse fun l => { l with latch := none }
    else s
  if s.safeGranted && s.lse.latch.isNone then s.setTrains true else s

/-! The lease (R279, R280) -/

/-- Entry to GUARD: delivered actions are discarded, shadow banks dropped, the doors turn orphan (R232, R279, R331). -/
def Slice.toGuard (s : Slice) : Slice :=
  let s := s.acts.foldl (fun (s : Slice) (a : SAct) => s.discard a) s
  let drop := fun (s : Slice) (p : Fin 2) => s.mapHel p fun h => { h with mism := none, shadow := none, swap := false }
  let s := drop (drop s 0) 1
  let quiet := fun (q : SPort) => { q with claim := none, told := false }
  let s := ((s.mapPort 0 quiet).mapPort 1 quiet)
  ({ s with arb := .guard, grant := none, guardGt := s.gt }).doorsOrphan

/-- LEASE_EXPIRY: L has passed since the last valid frame of the holder, or since entry to HELD (R278, R279). -/
def Slice.expire (s : Slice) : Slice :=
  match s.arb with
  | .held _ _ => if s.lse.lastHold + s.set Reg.SLP_LEASE_L_MS * 1000000 ≤ s.gt then s.toGuard else s
  | _ => s

/-- GUARD_ELAPSED: G has passed since entry to GUARD. -/
def Slice.guardEnds (s : Slice) : Slice :=
  match s.arb with
  | .guard => if s.guardGt + s.set Reg.SLP_LEASE_G_MS * 1000000 ≤ s.gt then { s with arb := .free } else s
  | _ => s

/-- ALIGNED_LOST: 10 ms without a usable marker of a holder (R56, R284). -/
def Slice.alignedLost (s : Slice) : Slice := if s.markGt + 10000000 ≤ s.gt then { s with aligned := false } else s

/-- The claim that wins in this tick: DUTY, else port X (R280). -/
def Slice.winner (s : Slice) : Option (Fin 2 × Nat) :=
  match s.ports[0].claim, s.ports[1].claim with
  | some (dx, sx), some (dy, sy) => if dy && !dx then some (1, sy) else some (0, sx)
  | some (_, sx), none => some (0, sx)
  | none, some (_, sy) => some (1, sy)
  | none, none => none

/-- SLICE_TICK, the arbiter's part: a written grant enters HELD; in FREE the winning claim is granted the epoch one above
the newer of the stored one and its SEED, whose write begins (R280). -/
def Slice.arbTick (s : Slice) : Slice :=
  let s := match s.grant with
    | some (p, e) =>
      if s.board.epoch = e && s.arb = Arb.free then
        let s := { s with arb := .held p e, grant := none }
        ((s.mapLse fun l => { l with lastHold := s.gt }).mapPort p fun q => { q with told := false }).doorsOwned
      else s
    | none =>
      if s.arb = Arb.free then
        match s.winner with
        | some (p, seed) =>
          { s.inc Reg.SLP_CNT_GRANT with grant := some (p, (newest16 s.board.epoch seed + 1) % 65536) }
        | none => s
      else s
  let clear := fun (q : SPort) => { q with claim := none }
  (s.mapPort 0 clear).mapPort 1 clear

/-- EPOCH_WRITE_DONE. -/
def Slice.epochDone (s : Slice) : Slice :=
  match s.grant with
  | some (_, e) => { s with board := { s.board with epoch := e } }
  | none => s

/-- The slew of one tick: at most 500 ppm, 50 ns (R56); the replica never falls below its reading `low` before the tick
(R19). -/
def Slice.slewTick (s : Slice) (low : Nat) : Slice :=
  let d := clampI (-50) 50 s.slew
  { s with gt := max low ((s.gt : Int) + d).toNat, slew := s.slew - d }

/-! Delivered actions (R131 to R136) -/

/-- Actions a slice holds at most. -/
def sliceActMax : Nat := 128

/-- An ACT section of the holder: due at the frame's GT plus DT (R269). DESIGN CHOICE (log entry 103): an action that arrives
at a slice with 128 of them is reported discarded. -/
def Slice.deliver (s : Slice) (p : Fin 2) (frameGt : Nat) (b : List Byte) : Slice :=
  let g := frameGt + beAt b 5 3
  let a : SAct :=
    { port := p, slot := beAt b 0 2, op := byteAt b 2, epoch := beAt b 3 2, gt := g, tol := beAt b 8 2,
      param := b.drop 10, found := decide (g ≤ s.gt), late := s.gt - g, done := 0, worst := 0 }
  if sliceActMax ≤ s.acts.length then s.report a Outc.discarded 0 s.gt else { s with acts := s.acts ++ [a] }

/-- A REV section: each slot named loses its delivered action (R269). -/
def Slice.revoke (s : Slice) (b : List Byte) : Slice :=
  (List.range (b.length / 2)).foldl (fun (s : Slice) (i : Nat) =>
    match s.acts.find? fun a => a.slot = beAt b (2 * i) 2 with
    | some a => s.discard a
    | none => s) s

/-- A fired action's effect, with the byte INFO1 carries. -/
def Slice.fire (s : Slice) (a : SAct) : Nat × Slice :=
  let p := a.param
  if a.op = 0x30 || a.op = 0x31 || a.op = 0x32 then
    let s := s.doorAct a.op p
    (s.doorInfo (byteAt p 0), s.protect (s.rd Reg.FIO_VAL))
  else if a.op = 0x40 then
    (0, s.inLstr fun s => s.lampSet (byteAt p 0) (leAt p 2 2) (leAt p 4 2))
  else if a.op = 0x50 then (0, s.outSet (leAt p 0 2) (leAt p 2 2))
  else if a.op = 0x51 then (0, s.outPulse (byteAt p 0) (leAt p 2 2))
  else if a.op = 0x53 then (0, s.safeDrop 4)
  else (0, s)

/-- One due action at the slice (R132, R134). -/
def Slice.judgeAct (s : Slice) (a : SAct) : Slice :=
  let own := match s.arb with
    | .held _ e => e = a.epoch
    | _ => false
  let gone := { s with acts := s.acts.filter fun x => x != a }
  if !own || s.lse.fresh + 1000000 < a.gt then s.discard a
  else if a.tol * 1000 < a.late then gone.report a Outc.expired 0 s.gt
  else if !s.roomLeft (s.gt / tickNs) then
    { s with acts := s.acts.map fun x =>
      if x = a then { a with found := true, late := (s.gt / tickNs + 1) * tickNs - a.gt } else x }
  else
    let isDoor := a.op = 0x30 || a.op = 0x31 || a.op = 0x32
    let (no, s) := if isDoor then gone.doorRefused a.op (byteAt a.param 0) else (false, gone)
    if no then s.report a Outc.refused 0 s.gt
    else
      let (info, s) := (s.useRoom (s.gt / tickNs) a).fire a
      s.report a (if a.found then Outc.late else Outc.fired) info s.gt

/-- SLICE_ACTION_FIRE: every delivered action whose time has come, but for Helea actions, which their frames decide
(R325), in order of fire time, then of admission (R136). -/
def Slice.fireDue (s : Slice) : Slice :=
  let due := sortBy (fun (a b : SAct) => a.gt ≤ b.gt)
    (s.acts.filter fun a => decide (a.gt ≤ s.gt) && a.op != 0x41 && a.op != 0x42)
  due.foldl (fun (s : Slice) (a : SAct) => s.judgeAct a) s

/-! Downstream frames (R264, R267, R271) -/

/-- A section the arbiter accepts only from the holder. -/
def commandSection (x : Section) : Bool :=
  x.1 = 1 || x.1 = 2 || x.1 = 4 || x.1 = 5 || x.1 = 6 || (x.1 = 3 && byteAt x.2 2 = 1)

/-- The force model of an FM section kept for the next closing; bit 7 of its door byte carries FM_VALID (R221, log entry
22). -/
def Slice.takeFm (s : Slice) (b : List Byte) : Slice :=
  let d : Fin 2 := Fin.ofNat 2 (byteAt b 0 % 128)
  let new := (List.range (byteAt b 2)).map fun i => (byteAt b 1 + i, beAt b (4 + 2 * i) 2)
  s.mapDoor d fun a => { a with
    fmNext := new ++ a.fmNext.filter (fun e => !new.any fun x => x.1 = e.1), fmOk := bit (byteAt b 0) 7 }

/-- What an accepted section does; `own` holds for the holder under its epoch, once the grant has been reported. -/
def Slice.doSection (s : Slice) (p : Fin 2) (own : Bool) (frameGt : Nat) (x : Section) : Slice :=
  if commandSection x && !own then s.inc Reg.SLP_CNT_FOREIGN
  else
    let b := if x.1 = 2 || x.1 = 6 then x.2 else x.2.drop 2
    match x.1 with
    | 1 => s.deliver p frameGt b
    | 2 => s.revoke b
    | 3 =>
      let num := beAt x.2 0 2
      if byteAt b 0 = 1 then s.proxyWrite p num (beAt b 2 2) (beAt b 4 4)
      else
        let s := s.refresh
        s.pxr p num 0 (s.window (beAt b 2 2))
    | 4 =>
      if beAt b 0 2 = 0xFFFF then s.commit p (beAt x.2 0 2) (b.drop 2)
      else { s with cfgRx := putBytes s.cfgRx (beAt b 0 2) (b.drop 2) }
    | 5 => s.takeFm b
    | 6 => s.helSection b
    | _ => s

/-- One section: a reliable one counts only where its number is the next (R270). -/
def Slice.takeSection (s : Slice) (p : Fin 2) (own : Bool) (frameGt : Nat) (x : Section) : Slice :=
  if x.1 = 1 || x.1 = 3 || x.1 = 4 || x.1 = 5 then
    if beAt x.2 0 2 = s.ports[p].drNext then
      (s.mapPort p fun q => { q with drNext := (q.drNext + 1) % 65536 }).doSection p own frameGt x
    else s
  else if x.1 = 0 then s
  else s.doSection p own frameGt x

/-- The replica stepped ahead to `g`: a delivered action whose time it steps over is found late (R47, R134). -/
def Slice.stepTo (s : Slice) (g : Nat) : Slice :=
  let now := s.gt
  { s with gt := g, slew := 0, acts := s.acts.map fun a => if now < a.gt && a.gt < g then { a with late := g - a.gt } else a }

/-- SLICE_REPLICA_CORRECTION at a holder's marker; one without a valid delay is not usable: it corrects nothing and does not
keep ALIGNED (R56, R284). -/
def Slice.marker (s : Slice) (frameGt delay : Nat) : Slice :=
  if delay = 0xFFFF then s
  else
    let g := frameGt + delay
    let e : Int := (g : Int) - s.gt
    let ok := decide (absI e ≤ 200)
    if 1000 < e then { s.stepTo g with aligned := ok, markGt := g } else { s with slew := e, aligned := ok, markGt := s.gt }

/-- A valid frame of the lease holder: it renews the lease and disciplines the replica; REL ends the lease (R56, R279). -/
def Slice.fromHolder (s : Slice) (p : Fin 2) (e : Nat) (b : List Byte) (flip : Nat) : Slice × Bool :=
  let g := beAt b 8 8
  let s := s.marker g (beAt b 16 2)
  let s := s.mapLse fun l => { l with fresh := max l.fresh g, lastHold := s.gt }
  let own := s.ports[p].told && beAt b 4 2 = e
  let s := if own then
      let s := s.takeIlk p e b flip
      if bit (byteAt b 1) 3 then s.keep else s
    else s
  if bit (byteAt b 1) 4 then (s.toGuard, false) else (s, own)

/-- A valid downstream frame (R264): acknowledgements, the holder's part or a claim, then the sections. -/
def Slice.takeDown (s : Slice) (p : Fin 2) (b : List Byte) (secs : List Section) (flip : Nat) : Slice :=
  let s := s.mapPort p fun q => { q with lastDn := some (beAt b 6 2), queue := ackQueue q.queue (beAt b 18 2) }
  let (s, own) := match s.arb with
    | .held h e => if h = p then s.fromHolder p e b flip else (s, false)
    | .free =>
      (if bit (byteAt b 1) 5 then
        s.mapPort p fun q => { q with claim := some (bit (byteAt b 1) 6, beAt b 24 2) }
       else s, false)
    | .guard => (s, false)
  secs.foldl (fun (s : Slice) (x : Section) => s.takeSection p own (beAt b 8 8) x) s

/-- DOWNSTREAM_FRAME on a port: its marker calls for an upstream frame; a frame R271 discards is counted. -/
def Slice.downFrame (s : Slice) (p : Fin 2) (b : List Byte) (bad : Bool) (flip : Nat) : Slice :=
  let s := s.mapPort p fun q => { q with marked := true }
  let other := match s.cfg with
    | some c => byteAt b 2 % 16 != c.car
    | none => false
  if !frameOk b bad 0xA1 64 || other || s.ports[p].lastDn = some (beAt b 6 2) then s.inc Reg.SLP_CNT_DN_ERR
  else match frameSections b 28 downType with
    | none => s.inc Reg.SLP_CNT_DN_ERR
    | some secs => s.takeDown p b secs flip

/-! Upstream frames (R265, R268) -/

/-- DOORS of the upstream header. -/
def Slice.doorBits (s : Slice) : Nat :=
  let st := fun (d : Fin 2) => s.doors[d].st
  b2n (st 0 = 1) + 2 * b2n (st 1 = 1) + 4 * b2n (st 0 = 1 || st 0 = 2) + 8 * b2n (st 1 = 1 || st 1 = 2)
    + 16 * s.rd Reg.FIO_SAFE_STAT_SFB_A + 32 * s.rd Reg.FIO_SAFE_STAT_SFB_B

/-- ORPH_MS: ms since the last valid frame of a holder; 0 while HELD. -/
def Slice.orphMs (s : Slice) : Nat := if s.orphan then min 65535 ((s.gt - s.lse.lastHold) / 1000000) else 0

/-- HOLDER and LSTATE (R265). -/
def Slice.holderBits (s : Slice) : Nat :=
  match s.arb with
  | .held h _ => h.val * 64
  | .guard => 3 * 64 + 16
  | .free => 3 * 64 + 32

/-- The fixed turnaround of a slice, 2,000 ns to 3,000 ns (R262; log entry 1). -/
def turnNs (n : Nat) : Nat := 2000 + Config.sliceNat n 0 % 1001

/-- The DRT section: state, flags, position, speed, thrust, current. DEDUCED (log entry 124): the STATE byte is laid out as
DOR_d_STAT[31:24], the door state above the ladder resolution, as FLAGS is as its bits [23:8]. -/
def Slice.drt (s : Slice) : List Byte :=
  let door := fun (d : Fin 2) =>
    let a := s.doors[d]
    let flags := 32768 * b2n a.refd + 16384 * b2n a.part + 8192 * b2n a.nudge + 4096 * b2n a.suspect
      + 2048 * b2n a.encLost + 1024 * b2n (s.din d Reg.DOR_ROLE_LOCK_IN) + 512 * b2n (s.din d Reg.DOR_PROT_LC)
      + 256 * b2n (s.din d Reg.DOR_PROT_SE) + 128 * b2n a.boost + 64 * b2n a.fmOk + 4 * a.rev
    let vel := if s.dset d Reg.DOR_ROLE_ENC_EN = 1 then a.encVel else truncDiv a.vel 1000
    if s.fits d then
      leBytes 1 d.val ++ leBytes 1 (16 * a.st + a.res) ++ beBytes 2 flags ++ beBytes 4 (ofSigned 32 (s.doorUm d))
        ++ beBytes 4 (ofSigned 32 vel) ++ beBytes 2 (ofSigned 16 a.fEst) ++ beBytes 2 a.irun
    else []
  door 0 ++ door 1

/-- The FIT payload (R309). -/
def Slice.fit (s : Slice) : List Byte :=
  beBytes 4 (s.rd Reg.FIO_RAW) ++ beBytes 4 (s.rd Reg.FIO_STUCK) ++ beBytes 4 (s.rd Reg.FIO_CHAT)
    ++ beBytes 4 (s.rd Reg.FIO_WBRK) ++ beBytes 2 s.demand ++ beBytes 2 (s.rd Reg.FIO_VS) ++ beBytes 2 s.fio.edges.length
    ++ leBytes 1 (b2n s.lse.trains * 3 + 4 * s.rd Reg.FIO_SAFE_STAT_SFB_A + 8 * s.rd Reg.FIO_SAFE_STAT_SFB_B) ++ leBytes 1 0

/-- The IDN payload. -/
def Slice.idn (s : Slice) : List Byte :=
  beBytes 8 s.board.serial ++ leBytes 1 s.board.step
    ++ leBytes 1 (match s.cfg with | some c => c.car | none => 0xF) ++ leBytes 2 0 ++ s.hash

/-- IDN leaves with every frame while the port is in MEASURE or IDENT_PEND, and with every 100th (R268). -/
def Slice.idnDue (s : Slice) (p : Fin 2) (ident : Bool) : Bool := ident || s.ports[p].seq % 100 = 0

/-- Whether the controller on port `p` of slice `n` is in MEASURE or IDENT_PEND. DESIGN CHOICE (log entry 23): the partner's
port state is not part of this model; a slice takes its port to be so for 100 frames after it trained. -/
def State.identifying (s : State) (n : Fin 16) (p : Fin 2) : Bool :=
  if p.val = s.dev.xy then
    let k := s.dev.rd (Reg.SLP_STAT_LINK n.val)
    k = 2 || k = 3
  else decide (s.slices[n].ports[p].since < 100)

/-- A sample of the load bridge (LWT_STAT, LWT_EXC): its 24-bit code and the excitation, mV, in range from 4.50 V to 5.50 V
(R499). A bridge without excitation measures none (log entry 111). -/
def Slice.loadConv (s : Slice) (code : Int) (mv : Nat) : Slice :=
  let mv := if s.setOn Reg.LWT_CFG_EXC_EN then min mv 65535 else 0
  let code := clampI (-8388608) 8388607 code
  (((s.wrI Reg.LWT_STAT_RAW code).flag Reg.LWT_STAT_LIMIT (code = 8388607 || code = -8388608)).flag Reg.LWT_STAT_EXC_OK
    (decide (4500 ≤ mv) && decide (mv ≤ 5500))).wr Reg.LWT_EXC_EXC_MV mv

/-- Unreliable sections of a frame; `due` tells that a load sample fell due. -/
def Slice.telemetry (s : Slice) (p : Fin 2) (ident due : Bool) : List Section :=
  let q := s.ports[p]
  let tenth := q.seq % 10 = 0
  let l := s.lmt
  let moved := l.take 4 ++ l.drop 13 != q.lmt.take 4 ++ q.lmt.drop 13
  let f := s.fit
  let fmoved := cut f 4 14 ++ cut f 22 1 != cut q.fit 4 14 ++ cut q.fit 22 1
  (if due then [(0x87, beBytes 3 (s.rd Reg.LWT_STAT_RAW) ++ leBytes 1 (s.rd Reg.LWT_STAT_EXC_OK))] else [])
    ++ (if s.idnDue p ident then [(0x88, s.idn)] else []) ++ [(0x89, s.drt)]
    ++ (if tenth || moved then [(0x8A, l)] else []) ++ (if tenth || fmoved then [(0x8B, f)] else [])

/-- EDG records for which the next upstream frame of a port has room, after the records before them and the telemetry (R266,
R298). -/
def Slice.edgeRoom (s : Slice) (p : Fin 2) : Nat :=
  let tele := ((s.telemetry p false false).flatMap sectionBytes).length
  let first := (s.ports[p].queue.filter fun r => r.due || (r.num.isNone && r.ty ≤ 0x82)).map fun r => (sectionBytes r.section).length
  (upRoom - tele - first.sum) / 14

/-- Edges moved from the FIFO into records, oldest first: at most 16 a tick, as room allows. DESIGN CHOICE (log entry 125): room
on either port is room (R298). -/
def Slice.edgeTick (s : Slice) : Slice :=
  let k := min 16 (max (s.edgeRoom 0) (s.edgeRoom 1))
  let l := s.fio.edges.take k
  let s := l.foldl (fun (s : Slice) (e : EdgeRec) =>
    s.queueAll 0x82 (leBytes 1 (e.input + 128 * b2n e.level) ++ leBytes 1 0 ++ beBytes 8 e.gt)) s
  s.mapFio fun x => { x with edges := x.edges.drop k }

/-- The header of an upstream frame (R265); LEN is filled in when the frame is closed. -/
def Slice.upHeader (s : Slice) (n : Nat) (p : Fin 2) : List Byte :=
  let q := s.ports[p]
  let epoch := match s.arb with
    | .held _ e => e
    | _ => s.board.epoch
  leBytes 1 0xA2
    ++ leBytes 1 (128 * p.val + 64 * b2n s.aligned + 32 * b2n q.mirror + 16 * s.rd Reg.FIO_STAT_FAULT
        + 8 * b2n s.cfg.isSome)
    ++ leBytes 1 (s.holderBits + (match s.cfg with | some c => c.car % 16 | none => 15)) ++ leBytes 1 0
    ++ beBytes 2 epoch ++ beBytes 2 q.seq ++ beBytes 2 (q.lastDn.getD 0) ++ beBytes 2 (q.drNext + 65535)
    ++ beBytes 2 (turnNs n) ++ beBytes 2 s.orphMs ++ leBytes 1 s.lse.rs.code ++ leBytes 1 s.lse.rsSnap
    ++ beBytes 2 s.board.boot ++ beBytes 4 (s.rd Reg.FIO_VAL) ++ leBytes 1 s.doorBits ++ leBytes 1 s.lse.rsc.code
    ++ leBytes 6 0

/-- UPSTREAM_FRAME_SEND on a port on which a marker has arrived (R262, R265, R270): the snapshot it carries is kept, and
a grant is reported with it. `lws` is a load sample that fell due: its code and the excitation, mV. -/
def Slice.upFrame (s : Slice) (n : Nat) (p : Fin 2) (ident : Bool) (lws : Option (Int × Nat)) : Slice :=
  if !s.ports[p].marked then s
  else
    let s := (lws.map fun x => s.loadConv x.1 x.2).getD s
    let q := s.ports[p]
    let tele := s.telemetry p ident lws.isSome
    let used := (tele.flatMap sectionBytes).length
    let (queue, next, again, new) := placeRecs q.queue q.rNext (upRoom - used) (s.gt / tickNs)
    let snap : Snap := { seq := q.seq, inputs := s.rd Reg.FIO_VAL, doors := s.doorBits,
                         states := s.doors[0].st + 16 * s.doors[1].st }
    let mine := match s.arb with
      | .held h _ => h = p
      | _ => false
    let sent := fun (code : Nat) (old : List Byte) => match tele.find? fun x => x.1 = code with
      | some x => x.2
      | none => old
    let s := s.emit (.frame p.val (closeFrame (s.upHeader n p) (((again ++ new).map LinkRec.section ++ tele).flatMap sectionBytes)))
    s.mapPort p fun q => { q with
      marked := false, seq := (q.seq + 1) % 65536, queue := queue, rNext := next, snaps := (snap :: q.snaps).take 4,
      told := q.told || mine, fit := sent 0x8B q.fit, lmt := sent 0x8A q.lmt, since := q.since + 1 }

/-- The slice's port trains: both numberings restart, what is unacknowledged is sent again (R270); MIRROR_FAULT ends
on it at its reinsertion (R244). -/
def Slice.train (s : Slice) (p : Fin 2) : Slice :=
  s.mapPort p fun q => { q with
    drNext := 0, rNext := sentCount q.queue, queue := renumber 0 q.queue, lastDn := none, marked := false, since := 0, snaps := [], mirror := false }

/-! Power (R304, R461) -/

/-- SLICE_POWER_UP: reset released on this board. `cur` holds the currents of the first samples, µA, IN0 to IN31 then SFB_A and
SFB_B, `mv` is VS, which has risen from below 16 V, and `free` a free value (R291, R294, R303). -/
def Slice.powerUp (s : Slice) (board : Option Board) (cur : List Nat) (mv t free : Nat) : Slice :=
  let b := board.getD s.board
  let s := Slice.cold s.tx (s.free + 1) { b with boot := (b.boot + 1) % 65536 }
  let s := { s with on := true, gt := t, cfg := b.cfg, doors := Vector.replicate 2 Door.start }
  let s := { s with hels := Vector.ofFn fun (p : Fin 2) => Hel.start (s.nodes p) b.bank[p] }
  let s := ((s.firstSamples cur free).mapFio fun x => { x with vsOff := true }).measureVs mv
  let s := s.wr Reg.FIO_OUT_CMD_ACTION (s.set Reg.FIO_OUT_INIT)
  let s := { s.mapLse fun l => { l with lastHold := t, trainGt := t } with guardGt := t, markGt := t }
  ((s.doorStart 0).doorStart 1).lstrStart.settle

/-- SLICE_RESET: every output, both trains, both bridges and every string off; the board's memory stays. -/
def Slice.reset (s : Slice) : Slice := Slice.cold s.tx s.free s.board

/-- VS measured at a slice in operation: below 13.5 V it resets (R461). -/
def Slice.seeVs (s : Slice) (mv : Nat) : Slice := if mv < 13500 then s.reset else s.measureVs mv

/-! Commands -/

/-- SLICE_CONFIG_ACTIVE. -/
def execSliceConfigActive (n : Fin 16) (t : Nat) (s : State) : Host.Outcome State Fault Refusal :=
  s.slice n t Slice.cfgActive
/-- DOWNSTREAM_FRAME: the bytes between marker and end symbol, whether a code violation spoilt them, what disturbs the
mirror's second copy, the replica's reading at the marker. -/
def execDownstreamFrame (n : Fin 16) (p : Fin 2) (b : List Byte) (bad : Bool) (flip t : Nat) (s : State) :
    Host.Outcome State Fault Refusal := s.slice n t fun c => c.downFrame p b bad flip
def execUpstreamFrameSend (n : Fin 16) (p : Fin 2) (lws : Option (Int × Nat)) (t : Nat) (s : State) :
    Host.Outcome State Fault Refusal := s.slice n t fun c => c.upFrame n.val p (s.identifying n p) lws
/-- SLICE_TICK at its boundary `t`. -/
def execSliceTick (n : Fin 16) (t : Nat) (s : State) : Host.Outcome State Fault Refusal :=
  s.runS n fun c => if c.on then ((c.at t).slewTick c.gt).edgeTick.arbTick.settle else c
def execEpochWriteDone (n : Fin 16) (t : Nat) (s : State) : Host.Outcome State Fault Refusal := s.slice n t Slice.epochDone
def execLeaseExpiry (n : Fin 16) (t : Nat) (s : State) : Host.Outcome State Fault Refusal := s.slice n t Slice.expire
def execGuardElapsed (n : Fin 16) (t : Nat) (s : State) : Host.Outcome State Fault Refusal := s.slice n t Slice.guardEnds
def execAlignedLost (n : Fin 16) (t : Nat) (s : State) : Host.Outcome State Fault Refusal :=
  s.slice n t Slice.alignedLost
def execSliceActionFire (n : Fin 16) (t : Nat) (s : State) : Host.Outcome State Fault Refusal :=
  s.sliceFire n t Slice.fireDue
def execSlicePowerUp (n : Fin 16) (board : Option Board) (cur : List Nat) (mv t : Nat) (s : State) :
    Host.Outcome State Fault Refusal :=
  s.runS n fun c => if c.on || decide (mv ≤ 14500) then c else c.powerUp board cur mv t (Config.sliceNat n.val (c.free + 1))
def execSliceReset (n : Fin 16) (s : State) : Host.Outcome State Fault Refusal := s.runS n Slice.reset
def execVsLow (n : Fin 16) (mv t : Nat) (s : State) : Host.Outcome State Fault Refusal :=
  s.slice n t fun c => c.seeVs mv
def execVsRestored (n : Fin 16) (mv t : Nat) (s : State) : Host.Outcome State Fault Refusal :=
  s.slice n t fun c => c.seeVs mv
def execFieldSupplyRange (n : Fin 16) (mv t : Nat) (s : State) : Host.Outcome State Fault Refusal :=
  s.slice n t fun c => c.seeVs mv

end Sys2Proof.Machine
end

