-- ==== Sys2Proof/Machine/LinkUp.lean ====
section
/-! DEFINITION. The controller's side of a slice link, receiving (spec/10): link states, the lease as the controller sees
it, upstream frames and their sections (R265, R268, R270 to R288). -/

namespace Sys2Proof.Machine

/-! Link states (R273) -/

def Lk.off : Nat := 0
def Lk.search : Nat := 1
def Lk.measure : Nat := 2
def Lk.identPend : Nat := 3
def Lk.sync : Nat := 4
def Lk.up : Nat := 5
def Lk.retry : Nat := 6
def Lk.lost : Nat := 7

/-- A slice link, and its state as SLP_STAT.LINK shows it. -/
abbrev Dev.lnk (s : Dev) (n : Fin 16) : CLink := s.links[n]
def Dev.lk (s : Dev) (n : Fin 16) : Nat := s.rd (Reg.SLP_STAT_LINK n.val)

/-- A port that exchanges frames. -/
def Dev.framing (s : Dev) (n : Fin 16) : Bool := decide (2 ≤ s.lk n) && decide (s.lk n ≤ 5)

/-- This controller holds the car's lease (R282). -/
def Dev.own (s : Dev) (n : Fin 16) : Bool := s.on (Reg.SLP_STAT_OWN n.val)

/-- A link's state as SLP_STAT shows it; the shadows are stale while the port is not UP (R277). -/
def Dev.showLink (s : Dev) (n : Fin 16) (st : Nat) : Dev :=
  (s.wr (Reg.SLP_STAT_LINK n.val) st).flag (Reg.SLP_STAT_STALE n.val) (st != Lk.up)

/-- SLICE_LINK with the state and the attempts shown (R273). -/
def Dev.linkEvent (s : Dev) (n : Fin 16) : Dev :=
  s.raise .sliceLink n.val [pU 16 1 s.xy, pU 17 1 (s.lk n), pU 18 1 (s.rd (Reg.SLP_RETRY_STAT_ATTEMPTS n.val))]

/-- The fields of the SLP block that the slice's frames carry (R265, R277). -/
def heldShadows (n : Nat) : List RF :=
  [Reg.SLP_STAT_HOLDER n, Reg.SLP_STAT_LSTATE n, Reg.SLP_STAT_EPOCH n, Reg.SLP_TURN n, Reg.SLP_LEASE_STAT_ORPH_MS n,
   Reg.SLP_BOOT n]

/-- A link put to a state; every change except to or from OFF posts SLICE_LINK; what the window shows of the slice stands as
it was while the port was UP (R273, R277). -/
def Dev.setLink (s : Dev) (n : Fin 16) (st : Nat) : Dev :=
  let old := s.lk n
  let s := if old = Lk.up && st != Lk.up then
      let v := (heldShadows n.val).map s.rd
      s.mapLink n fun l => { l with still := v }
    else s
  if old = st then s
  else if old = 0 || st = 0 then s.showLink n st
  else (s.showLink n st).linkEvent n

/-- An event raised with the GT at which it occurred (R117, R212). -/
def Dev.raiseGt (s : Dev) (e : Ev) (u : Nat) (pay : List Part) (g : Nat) : Dev :=
  let v := { s.mkEvt e e.sev u pay with gt := g }
  ((s.countEvt v).recEvt v []).steer v

/-! The lease (R281 to R283) -/

/-- An epoch observed: SEED is the highest one (R281). -/
def Dev.seeEpoch (s : Dev) (n : Fin 16) (e : Nat) : Dev :=
  s.wr (Reg.SLP_SEED n.val) (newest16 (s.rd (Reg.SLP_SEED n.val)) e)

/-- LEASE_CHANGE; SEED is written to the persistent tier with it (R281). -/
def Dev.leaseChange (s : Dev) (n : Fin 16) (holder epoch cause : Nat) : Dev :=
  let seed := s.rd (Reg.SLP_SEED n.val)
  let s := s.mapNv fun v => { v with seed := v.seed.set n seed }
  s.raise .leaseChange n.val [pU 16 1 holder, pU 18 2 epoch, pU 20 1 cause]

/-- OWN as SLP_STAT and PBX_HELD show it. -/
def Dev.showOwn (s : Dev) (n : Fin 16) (b : Bool) : Dev :=
  (s.flag (Reg.SLP_STAT_OWN n.val) b).wr Reg.PBX_HELD_OWN (setBit (s.rd Reg.PBX_HELD_OWN) n.val b)

/-- A running or waiting calibration transfer of a car ends with a status (R331). -/
def Dev.calEnd (s : Dev) (n : Fin 16) (p : Fin 2) (st : Nat) : Dev :=
  match (s.lnk n).cal[p] with
  | none => s
  | some r =>
    let s := s.mapLink n fun l => { l with cal := l.cal.set p none }
    let s := s.flag (if p = 0 then Reg.LMP_STAT_PEND0 n.val else Reg.LMP_STAT_PEND1 n.val) false
    if r.fired then s.completeAct r.act st r.act.gt 0 else s

/-- Calibration transfers of a car that have fired and not ended. -/
def Dev.calFired (s : Dev) (n : Fin 16) : Nat :=
  ((List.finRange 2).filter fun (p : Fin 2) => ((s.lnk n).cal[p].map (·.fired)).getD false).length

/-- Fired transfers of both ports end. -/
def Dev.calEndFired (s : Dev) (n : Fin 16) (st : Nat) : Dev :=
  let one := fun (s : Dev) (p : Fin 2) =>
    if ((s.lnk n).cal[p].map (·.fired)).getD false then s.calEnd n p st else s
  one (one s 0) 1

/-- The answer to a descriptor that waits for its admission result. -/
def Dev.answer (s : Dev) (sq dn : Nat) (r : AdmRes) : Dev := s.admSet sq dn r

/-- Descriptors that wait for a proxy record of a car end with a status (R288, R282). -/
def Dev.waitsEnd (s : Dev) (n : Fin 16) (st : Nat) (all : Bool) : Dev :=
  let l := (s.lnk n).waits
  let s := s.mapLink n fun x => { x with waits := l.filter fun w =>
    match w.kind with
    | .probeWrite _ _ | .probeRead _ _ | .rearm => false
    | _ => !all }
  l.foldl (fun (s : Dev) (w : Wait) =>
    match w.kind with
    | .probeWrite q d | .probeRead q d => s.answer q d (AdmRes.refuse st)
    | _ => s) s

/-- The controller stops holding a lease (R282): `holder` and `cause` as LEASE_CHANGE reports them. -/
def Dev.leaseLose (s : Dev) (n : Fin 16) (holder cause : Nat) : Dev :=
  if !s.own n then s.mapLink n fun l => { l with rel := false }
  else
    let s := (s.showOwn n false).mapLink n fun l => { l with rel := false, resync := false }
    let s := (s.mapMot n fun m => { m with rel := false }).learnDrop n
    let s := s.leaseChange n holder (s.rd (Reg.SLP_STAT_EPOCH n.val)) cause
    let s := s.calEndFired n (if bit (s.rd Reg.CTN_ISO_CE) n.val then Stat.engineLost else Stat.noLease)
    (s.waitsEnd n Stat.noLease false).flushAdm

/-- State of a domain apart from the test that may run on it (R443). -/
def Dev.domUnder (s : Dev) (d : Nat) : Nat := if s.dom d = Dom.test then s.whk.before else s.dom d

/-- A cold engine domain of an enabled car (R393, R425). -/
def Dev.coldDomain (s : Dev) (d : Nat) : Bool :=
  decide (d < 80) && s.carOn (d / 5) && !s.own (Fin.ofNat 16 (d / 5)) && s.domUnder d = Dom.off

/-- A domain Whisk may test in service (R425). -/
def Dev.testable (s : Dev) (d : Nat) : Bool := s.coldDomain d || decide (d < 103) && s.domUnder d = Dom.isolated

/-- A test begins: the domain is clamped and powered (R426). -/
def Dev.testBegin (s : Dev) (t : Test) : Dev :=
  let st := s.domUnder t.domain
  (s.setDom t.domain Dom.test).mapWhk fun w => { w with run := some t, before := st, since := s.gt }

/-- The first queued request whose domain is still testable begins; those before it are dropped (R436). -/
def Dev.testPick (s : Dev) : List Test → Dev
  | [] => s.mapWhk fun w => { w with queue := [] }
  | t :: l =>
    if s.testable t.domain then (s.mapWhk fun w => { w with queue := l }).testBegin t
    else Dev.testPick (s.inc Reg.WHK_CNT_ABANDON) l

/-- The next queued request, where no test runs. -/
def Dev.testNext (s : Dev) : Dev := if s.whk.run.isSome then s else s.testPick s.whk.queue

/-- Domains that stop being testable (R393, R434, R436, R445): a test under way there is abandoned without a result, a rolling step
being over with it; requests that wait for them are dropped. -/
def Dev.abandonTests (s : Dev) (lo len : Nat) : Dev :=
  let here := fun (t : Test) => decide (lo ≤ t.domain) && decide (t.domain < lo + len)
  let s := (s.incBy Reg.WHK_CNT_ABANDON (s.whk.queue.filter here).length).mapWhk fun w =>
    { w with queue := w.queue.filter fun t => !here t }
  match s.whk.run with
  | some t =>
    if here t then
      let gap := s.gt + s.rd Reg.WHK_CTRL_GAP_MS * 1000000
      ((s.inc Reg.WHK_CNT_ABANDON).setDom t.domain s.whk.before).mapWhk fun w =>
        if t.asked then { w with run := none } else { w with run := none, last := some t.domain, gapGt := gap }
    else s
  | none => s

/-- An engine that is off begins to start, all five domains together (R445). -/
def Dev.startEngine (s : Dev) (n : Fin 16) : Dev :=
  let s := s.abandonTests (5 * n.val) 5
  (if s.dom (5 * n.val) = Dom.off then s.setEngine n.val Dom.starting else s).testNext

/-- A field of the register map by its key. -/
def Reg.find (key : Nat) : Option RF := (Reg.fieldsAt (key / 32)).find? fun f => f.key = key

/-- Fields of a block of registers that the chip itself drives, back at their reset values; settings and index registers stay
(R466). -/
def Dev.blockCold (s : Dev) (base len : Nat) : Dev :=
  { s with regs := s.regs.filter fun e =>
      e.1 < base * 32 || (base + len) * 32 ≤ e.1
        || (match Reg.find e.1 with
            | some f => f.acc = .rwl || f.acc = .rwt || f.acc = .rw
            | none => true) }

/-- The engine released to OFF keeps no car state (R384, R393): its settings, its preset table and its force model
stay. -/
def Dev.coldEngine (s : Dev) (n : Fin 16) : Dev :=
  if s.dom (5 * n.val) = Dom.on || s.dom (5 * n.val) = Dom.starting then
    let own := s.rd (Reg.SLP_SEED n.val)
    let s := if (s.ilk n).evr.isSome then s.evrLeave n false else s
    let s := (s.blockCold (0x20000 + 0x1000 * n.val) 0x1000).wr (Reg.SLP_SEED n.val) own
    let s := s.mapCar n fun c => Car.start c.trk.ltab c.fm
    s.setEngine n.val Dom.off
  else s

/-- The first upstream frame that reports this controller as holder under a new epoch (R282, R286). -/
def Dev.leaseGain (s : Dev) (n : Fin 16) (e : Nat) : Dev :=
  let fit := s.fitted n.val
  let s := (s.showOwn n true).mapLink n fun l => { l with lastEp := some e, rel := false, fmDue := fit }
  let s := s.leaseChange n s.xy e 0
  let s := (s.startEngine n).mapPbx fun p => { p with take := setBit p.take n.val true }
  if s.lk n = Lk.up then s.setLink n Lk.sync
  else if s.lk n = Lk.measure then s.mapLink n fun l => { l with resync := true }
  else s

/-! Drops and training (R272 to R274, R285, R286, R288) -/

/-- A SLICE_CONFIRM under way ends: its descriptor completes OK (log entry 24). -/
def Dev.confirmEnd (s : Dev) (n : Fin 16) : Dev :=
  match (s.lnk n).confirm with
  | some (q, d) => (s.mapLink n fun l => { l with confirm := none, tries := 0 }).answer q d (AdmRes.done 0 0)
  | none => s

/-- A configuration push ends with its descriptor; no answer to its commit is awaited any more (R359, R362). -/
def Dev.pushEnd (s : Dev) (n : Fin 16) : Dev :=
  ((s.flag (Reg.SLP_STAT_PUSH n.val) false).mapLink n fun l => { l with
    pushed := false, waits := l.waits.filter fun w => w.kind != .commit }).confirmEnd n

/-- A drop, counted once: RETRY with its timer; from a MEASURE that followed SEARCH back to SEARCH (R273, R285). -/
def Dev.linkDrop (s : Dev) (n : Fin 16) : Dev :=
  if !s.framing n then s
  else
    let s := (s.flag (Reg.SLP_STAT_PUSH n.val) false).confirmEnd n
    let s := s.mapLink n fun l => { l with got := false, miss := 0, pushed := false, tries := 0 }
    let s := s.inc (Reg.SLP_CNT_DROP n.val)
    if s.lk n = Lk.measure && (s.lnk n).fresh then s.setLink n Lk.search
    else
      let t := s.gt + s.rd (Reg.SLP_RETRY_T_MS n.val) * 1000000
      let s := s.wr (Reg.SLP_RETRY_STAT_ATTEMPTS n.val) 0
      (s.mapLink n fun l => { l with retry := some t }).setLink n Lk.retry

/-- A training attempt begins and is counted: one every 20 ms (R274); an isolated port makes none (R362). -/
def Dev.attempt (s : Dev) (n : Fin 16) : Dev :=
  let g := s.gt
  let due := match (s.lnk n).attGt with
    | some x => decide (x + 20000000 ≤ g)
    | none => true
  if (s.lk n = Lk.search || s.lk n = Lk.retry || s.lk n = Lk.lost) && !bit (s.rd Reg.CTN_ISO_SP) n.val && due then
    (s.incSat (Reg.SLP_RETRY_STAT_ATTEMPTS n.val)).mapLink n fun l => { l with attGt := some g }
  else s

/-- Symbol lock: the retry timer ends, both numberings restart, MEASURE (R270, R273, R286). -/
def Dev.linkTrain (s : Dev) (n : Fin 16) : Dev :=
  if (s.lk n = Lk.search || s.lk n = Lk.retry || s.lk n = Lk.lost) && !bit (s.rd Reg.CTN_ISO_SP) n.val then
    let first := decide (s.lk n = Lk.search)
    (s.mapLink n fun l => { l with
      fresh := first, first := true, foreign := false, retry := none, attGt := none, resync := false, rNext := 0, drNext := sentCount l.queue,
      queue := renumber 0 l.queue, got := false, miss := 0, sent := [],
      waits := l.waits.map fun w => if l.queue.any (fun r => r.tag = w.tag) then { w with num := none } else w }).setLink n
        Lk.measure
  else s

/-- The actions of a list named by SQ and CMD_ID. -/
def actNames (l : List Act) : List (Nat × Nat) := l.map fun a => (a.sq, a.cmd)

/-- ACTION_LIST records, six actions each, the parts of one list numbered (R404, R406). -/
def Dev.actionList (s : Dev) (reason sev src cls idx : Nat) (l : List (Nat × Nat)) : Dev :=
  let parts := (l.length + 5) / 6
  (List.range parts).foldl (fun (s : Dev) (i : Nat) =>
    let six := (l.drop (6 * i)).take 6
    let names := (List.range six.length).flatMap fun k =>
      [pU (30 + 4 * k) 1 (six.getD k (0, 0)).1, pU (32 + 4 * k) 2 (six.getD k (0, 0)).2]
    s.record { s.mkRec 0x8005 sev src cls idx (pU 28 1 reason :: names) with part := i, parts := parts }) s

/-- The retry timer expires: the link is declared lost, and reports outstanding complete NO_LEASE with an S4 record
(R133, R288). DESIGN CHOICE (log entry 103): so does the report of an action that a cancel has reached (R138). -/
def Dev.linkLost (s : Dev) (n : Fin 16) : Dev :=
  if s.lk n != Lk.retry || !((s.lnk n).retry.any fun t => t ≤ s.gt) then s
  else
    let s := (s.mapLink n fun l => { l with retry := none }).setLink n Lk.lost
    let out := s.ladle.acts.filter fun a => a.kind = .s && a.place = .delivered && a.car = some n.val
    let s := s.resolveAll Stat.noLease fun a => a.kind = .s && a.place = .delivered && a.car = some n.val
    let s := s.actionList 0 4 (64 + n.val) 2 n.val (actNames out)
    s.waitsEnd n Stat.noLease true

/-! Downstream records the controller queues (R267, R270, R277) -/

/-- A record queued with a tag of its own. -/
def Dev.queueDn (s : Dev) (n : Fin 16) (ty : Nat) (body : List Byte) : Dev :=
  s.mapLink n fun l => { l with
    queue := l.queue ++ [{ ty := ty, body := body, tag := l.tag, num := none, sent := 0, due := true }], tag := l.tag + 1 }

/-- The same with an answer to wait for. -/
def Dev.queueWait (s : Dev) (n : Fin 16) (ty : Nat) (body : List Byte) (k : WaitKind) : Dev :=
  let s := s.mapLink n fun l => { l with waits := l.waits ++ [{ tag := l.tag, num := none, kind := k }] }
  s.queueDn n ty body

/-- Proxy records: a write, a read. -/
def Dev.pxyWrite (s : Dev) (n : Fin 16) (off data : Nat) (k : WaitKind) : Dev :=
  s.queueWait n 3 (leBytes 1 1 ++ leBytes 1 0 ++ beBytes 2 off ++ beBytes 4 data) k
def Dev.pxyRead (s : Dev) (n : Fin 16) (off : Nat) (k : WaitKind) : Dev :=
  s.queueWait n 3 (leBytes 1 0 ++ leBytes 1 0 ++ beBytes 2 off ++ beBytes 4 0) k

/-- Shadows of one register of the slice written with the slice's value; of the SLP block only the slice's own counters
are shadows (R277). -/
def Dev.shadow (s : Dev) (n : Fin 16) (off v : Nat) : Dev :=
  if s.lk n != Lk.up || (off < 0x100 && !([0x50, 0x58, 0x5C, 0x60].contains off)) then s
  else
    (Reg.fieldsAt (0x40000 + 0x4000 * n.val + off)).foldl (fun (s : Dev) (f : RF) =>
      if f.acc = .rwl then s else s.wr f (f.cut v)) s

/-! The slice's configuration (R275, R276) -/

/-- A setting of the slice configuration: an RWL field of the window of car 0 or of the door and interlock blocks of its
engine, or a word of a stored scene. -/
def cfgKey (k : Nat) : Bool :=
  let off := k / 32
  if 0x100000 ≤ off then decide (off < 0x104000)
  else ((0x40000 ≤ off && off < 0x44000) || (0x20300 ≤ off && off < 0x20600))
    && (match Reg.find k with
        | some f => f.acc = .rwl
        | none => false)

/-- A key of car `n` moved to the windows of car 0; none where it lies in no window of that car. -/
def carKey (n k : Nat) : Option Nat :=
  let off := k / 32
  if 0x20000 + 0x1000 * n ≤ off && off < 0x21000 + 0x1000 * n then some (k - 0x1000 * n * 32)
  else if 0x40000 + 0x4000 * n ≤ off && off < 0x44000 + 0x4000 * n then some (k - 0x4000 * n * 32)
  else if 0x100000 + 0x4000 * n ≤ off && off < 0x104000 + 0x4000 * n then some (k - 0x4000 * n * 32)
  else none

/-- The controller's copy of a slice configuration. -/
def Dev.ownCfg (s : Dev) (n : Nat) : SliceCfg :=
  { car := n,
    regs := s.regs.foldl (fun (m : RegMap) (e : Nat × Nat) =>
      match carKey n e.1 with
      | some k => if cfgKey k then m.set k e.2 else m
      | none => m) [] }

def Dev.ownHash (s : Dev) (n : Nat) : List Byte := Config.sha256 (s.ownCfg n).bytes

/-- A push begun: the configuration in sections of 128 bytes, then the commit. -/
def Dev.pushCfg (s : Dev) (n : Fin 16) : Dev :=
  let b := (s.ownCfg n.val).bytes
  let s := (List.range ((b.length + 127) / 128)).foldl (fun (s : Dev) (i : Nat) =>
    s.queueDn n 4 (beBytes 2 (128 * i) ++ (b.drop (128 * i)).take 128)) s
  let s := s.queueWait n 4 (beBytes 2 0xFFFF ++ beBytes 2 b.length ++ Config.sha256 b) .commit
  (s.flag (Reg.SLP_STAT_PUSH n.val) true).mapLink n fun l => { l with pushed := false }

/-- SLICE_IDENTITY with the values the slice reported (R118). -/
def Dev.identEvent (s : Dev) (n : Fin 16) (reason : Nat) : Dev :=
  let k := n.val
  s.raise .sliceIdentity k [pU 16 4 (s.rd (Reg.SLP_SER_LO k)), pU 20 4 (s.rd (Reg.SLP_SER_HI k)),
    pU 24 1 (s.rd (Reg.SLP_CHIPID_STEP k)), pU 25 1 reason, pU 26 4 (s.rd (Reg.SLP_HASH_LO k))]

/-- Serial number the slice reports. -/
def Dev.sliceSerial (s : Dev) (n : Nat) : Nat := s.rd (Reg.SLP_SER_HI n) * 2 ^ 32 + s.rd (Reg.SLP_SER_LO n)

/-- The identity on record set to what the slice reports; a port in IDENT_PEND goes to UP (R276). -/
def Dev.setRecord (s : Dev) (n : Fin 16) : Dev :=
  let k := n.val
  let hash := (s.lnk n).hash
  let ser := s.sliceSerial k
  let s := s.mapNv fun v => { v with idRec := v.idRec.set n (some (ser, hash)) }
  let s := (s.wr (Reg.SLP_REC_SER_LO k) (s.rd (Reg.SLP_SER_LO k))).wr (Reg.SLP_REC_SER_HI k) (s.rd (Reg.SLP_SER_HI k))
  let s := (s.wr (Reg.SLP_REC_HASH_LO k) (s.rd (Reg.SLP_HASH_LO k))).wr (Reg.SLP_REC_HASH_HI k) (s.rd (Reg.SLP_HASH_HI k))
  let s := ((s.flag (Reg.SLP_STAT_PUSH k) false).flag (Reg.SLP_STAT_CFG_PEND k) false).flag (Reg.SLP_STAT_ID_PEND k) false
  let s := s.mapLink n fun l => { l with pushed := false, tries := 0 }
  (if s.lk n = Lk.identPend then s.setLink n Lk.up else s).confirmEnd n

/-- A commit answered (R276): accepted, the new hash is awaited; refused, the push starts again, up to three times, then
SLICE_IDENTITY once more. -/
def Dev.commitDone (s : Dev) (n : Fin 16) (ok : Bool) : Dev :=
  if ok then s.mapLink n fun l => { l with pushed := true }
  else if (s.lnk n).tries < 3 then (s.mapLink n fun l => { l with tries := l.tries + 1 }).pushCfg n
  else
    let s := (s.flag (Reg.SLP_STAT_PUSH n.val) false).identEvent n 1
    (s.mapLink n fun l => { l with tries := 0 }).confirmEnd n

/-- The push that is due, or shown as pending (R276): the holder pushes to a slice being confirmed, and to a confirmed one
only while the car is OUT_OF_SERVICE. -/
def Dev.pushTick (s : Dev) (n : Fin 16) : Dev :=
  let l := s.lnk n
  if !s.locked || !s.own n || s.on (Reg.SLP_STAT_PUSH n.val) || !(s.lk n = Lk.up || (s.lk n = Lk.identPend && l.confirm.isSome))
  then s
  else if s.ownHash n.val = l.hash then
    let s := s.flag (Reg.SLP_STAT_CFG_PEND n.val) false
    if l.confirm.isSome then s.setRecord n else s
  else if l.confirm.isSome || s.mode n.val = 5 then (s.flag (Reg.SLP_STAT_CFG_PEND n.val) false).pushCfg n
  else s.flag (Reg.SLP_STAT_CFG_PEND n.val) true

/-! Identity (R275) -/

/-- An IDN judged in MEASURE. -/
def Dev.judgeId (s : Dev) (n : Fin 16) : Dev :=
  let k := n.val
  let out := fun (s : Dev) => s.mapIlk n fun i => { i with modeEff := true }
  if s.lk n != Lk.measure then s
  else if s.rd (Reg.SLP_CHIPID_STEP k) != 0xB1 then
    let s := if (s.lnk n).foreign then s
      else out ((s.mapLink n fun l => { l with foreign := true }).identEvent n 0)
    if s.on (Reg.TSP_SLDLY_VALID k) then s.setLink n Lk.up else s
  else if s.nv.idRec[n] = some (s.sliceSerial k, (s.lnk n).hash) then
    if s.on (Reg.TSP_SLDLY_VALID k) then
      let st := if (s.lnk n).resync then Lk.sync else Lk.up
      ((s.flag (Reg.SLP_STAT_ID_PEND k) false).mapLink n fun l => { l with resync := false }).setLink n st
    else s
  else out (((s.flag (Reg.SLP_STAT_ID_PEND k) true).setLink n Lk.identPend).identEvent n 1)

/-- An IDN section: the slice's serial, stepping and hash. -/
def Dev.idnRx (s : Dev) (n : Fin 16) (b : List Byte) : Dev :=
  let k := n.val
  let hash := cut b 12 32
  let s := (s.wr (Reg.SLP_CHIPID_PART k) 0x1644).wr (Reg.SLP_CHIPID_STEP k) (byteAt b 8)
  let s := (s.wr (Reg.SLP_SER_HI k) (beAt b 0 4)).wr (Reg.SLP_SER_LO k) (beAt b 4 4)
  let s := (s.wr (Reg.SLP_HASH_LO k) (leAt hash 0 4)).wr (Reg.SLP_HASH_HI k) (leAt hash 4 4)
  let s := (s.mapLink n fun l => { l with hash := hash }).judgeId n
  if (s.lnk n).pushed && hash = s.ownHash k then s.setRecord n else s

/-! Reliable sections (R268) -/

/-- The lowest-numbered rule that withdraws an opening or a closing of the doors of a mask (R238, R240): 13 takes both, the
door permits and rule 12 an opening only; 0 where no rule does. -/
def Dev.doorRule (s : Dev) (n : Fin 16) (op mask : Nat) : Nat :=
  let ff := s.rule13 n.val
  if op = 0x31 then (if ff then 13 else 0)
  else
    let low := ((List.range 2).filterMap fun d =>
      let r := s.lowestRule n (d + 1)
      if bit mask d && r != 0 then some r else none).min?
    if low = some 3 then 3
    else if s.rule12 n.val mask then 12
    else if ff then 13
    else low.getD 0

/-- A refused opening or door action posts INTERLOCK with the rule that withdraws its permit (R240). -/
def Dev.doorRefused (s : Dev) (n : Fin 16) (op mask : Nat) : Dev := s.ilkEvent n.val (s.doorRule n op mask) 0

/-- Status of an outcome of a delivered action (R133, R138, R357). -/
def Dev.outStatus (s : Dev) (a : Act) (o : Nat) : Nat :=
  if o = 0 then Stat.ok
  else if o = 1 then Stat.lateFired
  else if (a.car.map fun c => bit (s.rd Reg.CTN_ISO_CE) c).getD false then Stat.engineLost
  else if o = 2 then Stat.expired
  else if o = 3 then Stat.refused
  else if a.revoked then Stat.cancelled
  else Stat.noLease

/-- OUT: the final completion of a delivered action; one that belongs to no action held here is remembered (R397). -/
def Dev.outRx (s : Dev) (n : Fin 16) (b : List Byte) : Dev :=
  let slot := beAt b 0 2
  let o := byteAt b 2
  let g := beAt b 4 8
  if slot = 0xFFFF then
    match (s.lnk n).orders with
    | [] => s
    | (op, mask) :: l =>
      let s := s.mapLink n fun x => { x with orders := l }
      if o = 3 && s.engineOn n.val then s.doorRefused n op mask else s
  else
    match s.ladle.acts.find? fun a => a.slot = slot && a.place = .delivered && a.car = some n.val with
    | some a =>
      let st := s.outStatus a o
      let s := if st = Stat.refused then s.doorRefused n a.op (byteAt a.param 0) else s
      ((s.freeAct a).logAct a st).completeAt a st a.gt (if o ≤ 1 then byteAt b 3 else 0) g
    | none => s.mapLink n fun l => { l with outs := ((slot, o, byteAt b 3, g) :: l.outs).take 128 }

/-- EDG: a stamped edge (R163, R297). -/
def Dev.edgRx (s : Dev) (n : Fin 16) (b : List Byte) : Dev :=
  let i := byteAt b 0 % 32
  let g := beAt b 2 8
  if !s.engineOn n.val then (if 28 ≤ i then s.mapTrk n fun t => { t with lastEdge := max t.lastEdge g } else s)
  else if i = 28 || i = 29 then s.vaneEdge n (i = 29) (bit (byteAt b 0) 7) g
  else if 28 ≤ i then s.mapTrk n fun t => { t with lastEdge := max t.lastEdge g }
  else s

/-- A closing that began from OPEN or HELD stays clean until it reverses or nudges (R221). -/
def cleanNow (was : Bool) (old new : Nat) : Bool :=
  if new = 6 then old = 4 || old = 5
  else if new = 7 || new = 8 || new = 9 || new = 3 then false
  else was

/-- DEV: DOOR_STATE for every change, DOOR_FAULT on entry to FAULT or on a new cause, the door counters (R212, R231). -/
def Dev.devRx (s : Dev) (n : Fin 16) (b : List Byte) : Dev :=
  let d : Fin 2 := Fin.ofNat 2 (byteAt b 0)
  let k := n.val
  let old := byteAt b 1
  let new := byteAt b 2
  let g := beAt b 4 8
  if !s.engineOn k then s
  else if old = new then
    if new = 9 then
      (s.wr (Reg.DOR_STAT_FAULT k d.val) (byteAt b 3)).raiseGt .doorFault k [pU 16 1 d.val, pU 17 1 (byteAt b 3)] g
    else s.inc (Reg.DOR_CNT_FAULT k d.val)
  else
    let s := s.raiseGt .doorState k [pU 16 1 d.val, pU 17 1 old, pU 18 1 new] g
    let s := s.mapCar n fun c => { c with fm := c.fm.set d { c.fm[d] with clean := cleanNow c.fm[d].clean old new } }
    let s := s.wr (Reg.DOR_STAT_STATE k d.val) new
    let s := if (new = 1 || new = 2) && !(old = 1 || old = 2) then s.inc (Reg.DOR_CNT_CYC k d.val) else s
    let s := if new = 7 then s.inc (Reg.DOR_CNT_REV k d.val) else if new = 8 then s.inc (Reg.DOR_CNT_NUDGE k d.val) else s
    let s := s.wr (Reg.DOR_STAT_FAULT k d.val) (if new = 9 then byteAt b 3 else 0xFF)
    if new = 9 then (s.inc (Reg.DOR_CNT_FAULT k d.val)).raiseGt .doorFault k [pU 16 1 d.val, pU 17 1 (byteAt b 3)] g
    else s

/-- The events a slice sends, by their codes. -/
def sliceEv (code : Nat) : Option Ev :=
  [Ev.indexFault, .obstruction, .safeDrop, .ioFault, .inputState, .edgeOverflow, .lampFault, .chainBreak,
    .calSwapped].find? fun e => e.code = code

/-- CAL_SWAPPED: the transfer of its port completes (R331). -/
def Dev.calSwapped (s : Dev) (n : Fin 16) (pay : List Byte) : Dev :=
  let p : Fin 2 := Fin.ofNat 2 (byteAt pay 0)
  match (s.lnk n).cal[p] with
  | none => s
  | some r =>
    if !r.fired then s
    else
      let k := n.val
      let s := s.mapLink n fun l => { l with cal := l.cal.set p none }
      let s := s.flag (if p = 0 then Reg.LMP_STAT_PEND0 k else Reg.LMP_STAT_PEND1 k) false
      let s := s.wr (if p = 0 then Reg.LMP_TAG_TAG0 k else Reg.LMP_TAG_TAG1 k) r.tag
      let s := (s.wr (Reg.LMP_TID k p.val) (leAt r.table 8 4)).inc (Reg.LMP_CNT_SWAP k)
      s.completeAct r.act (firedStatus r.act.late) r.act.gt (leAt pay 4 4)

/-- EVT: an event the slice raised. -/
def Dev.evtRx (s : Dev) (n : Fin 16) (b : List Byte) : Dev :=
  let pay := b.drop 2
  match sliceEv (beAt b 0 2) with
  | none => s
  | some e =>
    let s := s.raise e n.val [(16, pay)]
    if e = .safeDrop then (if s.engineOn n.val then s.safeDropped n (byteAt pay 1) else s)
    else if e = .obstruction then (if s.engineOn n.val then s.inc (Reg.DOR_CNT_OBS n.val (byteAt pay 0 % 2)) else s)
    else if e = .calSwapped then s.calSwapped n pay
    else s

/-- PXR: the answer to a proxy record or a commit (R249, R276, R277, R308). -/
def Dev.pxrRx (s : Dev) (n : Fin 16) (b : List Byte) : Dev :=
  let num := beAt b 0 2
  let ok := decide (byteAt b 2 = 0)
  let v := beAt b 4 4
  match (s.lnk n).waits.find? fun w => w.num = some num with
  | none => s
  | some w =>
    let s := s.mapLink n fun l => { l with waits := l.waits.filter fun x => x != w }
    match w.kind with
    | .commit => s.commitDone n ok
    | .write off => if ok then s.shadow n off v else s
    | .refresh off => s.shadow n off v
    | .probeWrite q d =>
      if ok then (s.shadow n 0x4E8 v).pxyRead n 0x4E8 (.probeRead q d) else s.answer q d (AdmRes.refuse Stat.busy)
    | .probeRead q d =>
      let s := s.shadow n 0x4E8 v
      if bit v 31 then (s.flag (Reg.FIO_STAT_PROBE n.val) false).answer q d (AdmRes.done 0 (v / 2 ^ 24 % 2)) else s.pxyRead n 0x4E8 (.probeRead q d)
    | .rearm => if ok then s.flag (Reg.ILK_STAT_SAFE_LATCH n.val) false else s

/-- FMM: the means of a closing; a clean one updates the model of that door (R221). -/
def Dev.fmmRx (s : Dev) (n : Fin 16) (b : List Byte) : Dev :=
  let d : Fin 2 := Fin.ofNat 2 (byteAt b 0)
  let m := s.cars[n].fm[d]
  if !s.engineOn n.val || !s.on (Reg.DOR_CTRL_FM_EN n.val) || !m.clean then s
  else
    let mean := fun (i : Nat) => if byteAt b 1 ≤ i && i < byteAt b 1 + byteAt b 2 then beAt b (4 + 2 * (i - byteAt b 1)) 2
      else 0xFFFF
    let fric := (List.range 32).map fun i =>
      let f := m.fric.getD i 0
      if mean i = 0xFFFF then f else ((f : Int) + truncDiv ((mean i : Int) - f) 8).toNat
    let m := { m with fric := fric, cycles := m.cycles + 1, clean := false }
    let s := s.mapCar n fun c => { c with fm := c.fm.set d m }
    let s := s.mapNv fun v => { v with force := v.force.set (Fin.ofNat 32 (2 * n.val + d.val)) (some m) }
    s.mapLink n fun l => { l with fmDue := setBit l.fmDue d.val true }

/-- One reliable record in order (R270). -/
def Dev.upRecord (s : Dev) (n : Fin 16) (ty : Nat) (b : List Byte) : Dev :=
  match ty with
  | 0x81 => s.outRx n b
  | 0x82 => s.edgRx n b
  | 0x83 => s.devRx n b
  | 0x84 => s.evtRx n b
  | 0x85 => s.pxrRx n b
  | 0x86 => s.fmmRx n b
  | _ => s

/-! Unreliable sections -/

/-- DRT: the engine's mirrors of its doors. -/
def Dev.drtRx (s : Dev) (n : Fin 16) (b : List Byte) : Dev :=
  let one := fun (s : Dev) (i : Nat) =>
    let c := (b.drop (16 * i)).take 16
    let k := n.val
    let d := byteAt c 0 % 2
    let f := beAt c 2 2
    let bits : List (RF × Nat) :=
      [(Reg.DOR_STAT_STATE k d, byteAt c 1 / 16), (Reg.DOR_STAT_RES k d, byteAt c 1 % 16),
       (Reg.DOR_STAT_REFD k d, f / 2 ^ 15), (Reg.DOR_STAT_PARTIAL k d, f / 2 ^ 14), (Reg.DOR_STAT_NUDGE k d, f / 2 ^ 13),
       (Reg.DOR_STAT_SUSPECT k d, f / 2 ^ 12), (Reg.DOR_STAT_ENC_LOST k d, f / 2 ^ 11), (Reg.DOR_STAT_LOCK k d, f / 2 ^ 10),
       (Reg.DOR_STAT_LC k d, f / 2 ^ 9), (Reg.DOR_STAT_SE k d, f / 2 ^ 8), (Reg.DOR_STAT_BOOST k d, f / 2 ^ 7),
       (Reg.DOR_STAT_FM_VALID k d, f / 2 ^ 6), (Reg.DOR_STAT_REV k d, f / 4), (Reg.DOR_POS k d, beAt c 4 4),
       (Reg.DOR_VEL k d, beAt c 8 4), (Reg.DOR_EST_F_EST k d, beAt c 12 2), (Reg.DOR_EST_IRUN k d, beAt c 14 2)]
    if c.length = 16 then bits.foldl (fun (s : Dev) (p : RF × Nat) => s.wr p.1 (p.2 % 2 ^ p.1.w)) s else s
  let s := if s.engineOn n.val then one (one s 0) 1 else s
  let st := fun (d : Nat) => s.rd (Reg.DOR_STAT_STATE n.val d)
  s.mapLink n fun l => { l with states := st 0 + 16 * st 1 }

/-- Shadows written where the port is UP: while it is not, every shadow keeps its last value (R277). -/
def Dev.shadows (s : Dev) (n : Fin 16) (l : List (RF × Nat)) : Dev :=
  if s.lk n = Lk.up then l.foldl (fun (s : Dev) (p : RF × Nat) => s.wr p.1 (p.2 % 2 ^ p.1.w)) s else s

/-- A port whose telemetry the engine mirrors (R287). -/
def Dev.mirrors (s : Dev) (n : Fin 16) : Bool := s.lk n = Lk.up || s.lk n = Lk.sync

/-- LMT: lamp and Helea shadows, and how far a calibration transfer has come (R331, R334). -/
def Dev.lmtRx (s : Dev) (n : Fin 16) (b : List Byte) : Dev :=
  let k := n.val
  let s := if s.mirrors n then s.mapLink n fun l => { l with lmt := b } else s
  let s := s.shadows n [(Reg.LMP_S_STAT_ON k, byteAt b 0), (Reg.LMP_S_STAT_LATCH k, byteAt b 1), (Reg.LMP_S_STAT_UNTESTED k, byteAt b 2),
    (Reg.LMP_S_STAT_FLAGS k, byteAt b 3), (Reg.LMP_S_VB k, beAt b 4 2), (Reg.LMP_S_VB_HEAD k, beAt b 6 2),
    (Reg.LMP_S_TEMP_TA k, byteAt b 8), (Reg.LMP_S_TEMP_TB k, byteAt b 9), (Reg.LMP_S_TEMP_DIE k, byteAt b 10),
    (Reg.LMP_S_FACT_FA k, byteAt b 11), (Reg.LMP_S_FACT_FB k, byteAt b 12)]
  let port := fun (s : Dev) (p : Fin 2) =>
    let i := 16 + 6 * p.val
    let s := s.shadows n [(Reg.HLC_STAT_STATE k p.val, byteAt b i), (Reg.HLC_STAT_REACH k p.val, byteAt b (i + 1)),
      (Reg.HLC_STAT_SH_TAG k p.val, beAt b (i + 2) 2), (Reg.HLC_SHD_SH_LIB k p.val, byteAt b (i + 4)),
      (Reg.HLC_SHD_SH_NODE k p.val, byteAt b (i + 5))]
    match (s.lnk n).cal[p] with
    | none => s
    | some r =>
      if !r.fired then s
      else if byteAt b (i + 4) = 0xFF && beAt b (i + 2) 2 = r.tag then
        (s.inc (Reg.LMP_CNT_RESTART k)).mapLink n fun l => { l with
          calTag := (l.calTag + 1) % 65536,
          cal := l.cal.set p (some { r with tag := (l.calTag + 1) % 65536, lib := 0, node := 0, turn := 0 }) }
      else if beAt b (i + 2) 2 = r.tag then
        s.mapLink n fun l => { l with cal := l.cal.set p (some { r with lib := byteAt b (i + 4), node := byteAt b (i + 5) }) }
      else s
  port (port s 0) 1

/-- FIT: field I/O shadows; the vane inputs' faults, and SAFE as the slice drives it (R166, R309). -/
def Dev.fitRx (s : Dev) (n : Fin 16) (b : List Byte) : Dev :=
  let k := n.val
  let s := if s.mirrors n then s.mapLink n fun l => { l with fit := b } else s
  let s := s.shadows n [(Reg.FIO_RAW k, beAt b 0 4), (Reg.FIO_STUCK k, beAt b 4 4), (Reg.FIO_CHAT k, beAt b 8 4),
    (Reg.FIO_WBRK k, beAt b 12 4), (Reg.FIO_VS k, beAt b 18 2), (Reg.FIO_STAT_EDGE_PEND k, beAt b 20 2),
    (Reg.FIO_SAFE_STAT_TRAIN_A k, byteAt b 22), (Reg.FIO_SAFE_STAT_TRAIN_B k, byteAt b 22 / 2)]
  let on := byteAt b 22 % 4 = 3
  let bad := beAt b 4 4 ||| beAt b 8 4 ||| beAt b 12 4
  if s.engineOn k then
    let s := s.flag (Reg.ILK_STAT_SAFE_ON k) on
    let s := if on then s.flag (Reg.ILK_STAT_SAFE_LATCH k) false else s
    s.dzMarks n (bit bad 28) (bit bad 29)
  else s

/-- One unreliable section. -/
def Dev.upTele (s : Dev) (n : Fin 16) (ty : Nat) (b : List Byte) : Dev :=
  match ty with
  | 0x87 =>
    let code := toSigned 24 (beAt b 0 3)
    let s := s.shadows n [(Reg.LWT_STAT_RAW n.val, beAt b 0 3), (Reg.LWT_STAT_EXC_OK n.val, byteAt b 3),
      (Reg.LWT_STAT_LIMIT n.val, b2n (code = 8388607 || code = -8388608))]
    if s.engineOn n.val then s.loadSample n code (bit (byteAt b 3) 0) else s
  | 0x88 => s.idnRx n b
  | 0x89 => s.drtRx n b
  | 0x8A => s.lmtRx n b
  | 0x8B => s.fitRx n b
  | _ => s

/-- A section of a valid upstream frame: a reliable one counts only where its number is the next (R270). -/
def Dev.upSection (s : Dev) (n : Fin 16) (x : Section) : Dev :=
  if 0x81 ≤ x.1 && x.1 ≤ 0x86 then
    if beAt x.2 0 2 = (s.lnk n).rNext then
      (s.mapLink n fun l => { l with rNext := (l.rNext + 1) % 65536 }).upRecord n x.1 (x.2.drop 2)
    else s.inc (Reg.SLP_CNT_RESEND n.val)
  else s.upTele n x.1 x.2

/-! Upstream frames (R55, R265, R271, R282) -/

/-- A round trip joins the mean of 64 (R55, R274): VALID within 2,000 ns; in MEASURE a longer delay drops the link. -/
def Dev.roundTrip (s : Dev) (n : Fin 16) (trip : Nat) : Dev :=
  let k := n.val
  let s := s.mapLink n fun l => { l with trips := (trip :: l.trips).take 64 }
  let t := (s.lnk n).trips
  let d := t.sum / 128
  if t.length < 64 then s
  else if d ≤ 2000 then
    ((s.wr (Reg.TSP_SLDLY_DELAY_NS k) d).flag (Reg.TSP_SLDLY_VALID k) true).flag (Reg.SLP_STAT_DLY_FAIL k) false
  else
    let s := (s.wr (Reg.TSP_SLDLY_DELAY_NS k) d).flag (Reg.TSP_SLDLY_VALID k) false
    if s.lk n = Lk.measure then
      (((s.flag (Reg.SLP_STAT_DLY_FAIL k) true).linkDrop n).incSat (Reg.SLP_RETRY_STAT_ATTEMPTS k)).mapLink n fun l =>
        { l with trips := [] }
    else s

/-- The delay mean restarts with a slice that has restarted (R274); what it had not reported is gone. -/
def Dev.delayRestart (s : Dev) (n : Fin 16) : Dev :=
  (s.flag (Reg.TSP_SLDLY_VALID n.val) false).mapLink n fun l => { l with trips := [], orders := [] }

/-- The header's acknowledgements: the newest frame acknowledged renews the lease view; a frame that answers the newest
one sent gives a round trip; records acknowledged leave the queue (R55, R270, R282). -/
def Dev.upAck (s : Dev) (n : Fin 16) (b : List Byte) (arr : Nat) : Dev :=
  let l := s.lnk n
  let ack := beAt b 8 2
  let hit := l.sent.find? fun p => p.1 = ack
  let s := s.mapLink n fun x => { x with
    dep := match hit with
      | some (_, g) => some (max g (x.dep.getD 0))
      | none => x.dep
    queue := ackQueue x.queue (beAt b 10 2) }
  match l.sent.head? with
  | some (q, g) => if q = ack then s.roundTrip n (arr - g - beAt b 12 2) else s
  | none => s

/-- The lease as the frame reports it (R281, R282). -/
def Dev.upLease (s : Dev) (n : Fin 16) (b : List Byte) : Dev :=
  let h := byteAt b 2 / 64
  let held := decide (byteAt b 2 / 16 % 4 = 0)
  let e := beAt b 4 2
  let s := s.seeEpoch n e
  if h = s.xy && held then
    if s.own n then
      if (s.lnk n).lastEp = some e then s else (s.leaseLose n 0xFF 1).leaseGain n e
    else if (s.lnk n).lastEp = some e || bit (s.rd Reg.CTN_ISO_CE) n.val || !s.locked then s
    else s.leaseGain n e
  else
    let s := s.leaseLose n (if h = 3 then 0xFF else h) (if (s.lnk n).rel then 2 else 1)
    if h = 1 - s.xy && held then s.coldEngine n else s

/-- What the header shows of the slice: registers, the snapshot, R_s and RC_s for the engine (R237, R243, R244). -/
def Dev.upShow (s : Dev) (n : Fin 16) (b : List Byte) : Dev :=
  let k := n.val
  let f := byteAt b 1
  let drs := byteAt b 24
  let s := [(Reg.SLP_STAT_HOLDER k, byteAt b 2 / 64), (Reg.SLP_STAT_LSTATE k, byteAt b 2 / 16 % 4),
    (Reg.SLP_STAT_EPOCH k, beAt b 4 2), (Reg.SLP_TURN k, beAt b 12 2), (Reg.SLP_LEASE_STAT_ORPH_MS k, beAt b 14 2),
    (Reg.SLP_BOOT k, beAt b 18 2), (Reg.TSP_SLDLY_ALIGNED k, f / 64)].foldl
      (fun (s : Dev) (p : RF × Nat) => s.wr p.1 (p.2 % 2 ^ p.1.w)) s
  let s := s.shadows n [(Reg.FIO_VAL k, beAt b 20 4), (Reg.FIO_STAT_FAULT k, f / 16), (Reg.FIO_SAFE_STAT_SFB_A k, drs / 16),
    (Reg.FIO_SAFE_STAT_SFB_B k, drs / 32)]
  let free := decide (byteAt b 2 / 16 % 4 != 0)
  let s := if free then s.mapPbx fun p => { p with gone := setBit p.gone k true } else s
  if !s.engineOn k then s
  else
    let p : Snap := { seq := beAt b 6 2, inputs := beAt b 20 4, doors := drs, states := (s.lnk n).states }
    let s := s.mapIlk n fun i => { i with
      snap := some p, rs := IlkRes.ofCode (byteAt b 16), rcGot := some (byteAt b 17, IlkRes.ofCode (byteAt b 25)) }
    if bit f 5 then s.mirrorFault n else s.flag (Reg.ILK_STAT_MIRROR_FAULT k) false

/-- A valid upstream frame; one with another BOOT is a drop and a reinsertion at once (R272). In the first frame after
symbol lock another BOOT only restarts the delay mean: that drop has been declared (R274, the example of R288). -/
def Dev.upValid (s : Dev) (n : Fin 16) (b : List Byte) (secs : List Section) (arr : Nat) : Dev :=
  let boot := beAt b 18 2
  let other := (s.lnk n).boot.isSome && (s.lnk n).boot != some boot
  let first := (s.lnk n).first
  let s := s.mapLink n fun l => { l with boot := some boot, first := false }
  let s := s.wr (Reg.SLP_BOOT n.val) boot
  if other && !first then ((s.delayRestart n).linkDrop n).linkTrain n
  else
    let s := if other then s.delayRestart n else s
    let s := (s.mapLink n fun l => { l with got := true, miss := 0 }).upAck n b arr
    let s := (secs.filter fun x => x.1 = 0x89).foldl (fun (s : Dev) (x : Section) => s.drtRx n x.2) s
    let s := (s.upShow n b).upLease n b
    secs.foldl (fun (s : Dev) (x : Section) => s.upSection n x) s

/-- UPSTREAM_FRAME on the port of slice `n` at `arr`: the bytes between marker and end symbol, whether the line spoilt
them (R271). -/
def Dev.upFrame (s : Dev) (n : Fin 16) (b : List Byte) (bad : Bool) (arr : Nat) : Dev :=
  if !s.framing n || bit (s.rd Reg.CTN_ISO_SP) n.val then s
  else
    let s := s.at arr
    match frameSections b 32 upType with
    | some secs => if frameOk b bad 0xA2 128 then s.upValid n b secs arr else s.inc (Reg.SLP_CNT_UP_ERR n.val)
    | none => s.inc (Reg.SLP_CNT_UP_ERR n.val)

def execUpstreamFrame (n : Fin 16) (b : List Byte) (bad : Bool) (arr : Nat) (s : State) :
    Host.Outcome State Fault Refusal := s.run fun d => d.upFrame n b bad arr
/-- LINK_DROP: loss of signal or of symbol lock, or 8 ticks without a valid frame. -/
def execLinkDrop (n : Fin 16) (s : State) : Host.Outcome State Fault Refusal := s.run fun d => d.linkDrop n
def execTrainingAttempt (n : Fin 16) (s : State) : Host.Outcome State Fault Refusal := s.run fun d => d.attempt n
/-- LINK_LOST: the retry timer expires. -/
def execLinkLost (n : Fin 16) (s : State) : Host.Outcome State Fault Refusal := s.run fun d => d.linkLost n
/-- LEASE_LAPSE: L has passed since the departure of the last frame acknowledged (R282). -/
def Dev.leaseLapse (s : Dev) (n : Fin 16) : Dev :=
  let until' := ((s.lnk n).dep.getD 0) + s.rd (Reg.SLP_LEASE_L_MS n.val) * 1000000
  if until' ≤ s.gt then s.leaseLose n 0xFF (if (s.lnk n).rel then 2 else 1) else s

def execLeaseLapse (n : Fin 16) (s : State) : Host.Outcome State Fault Refusal := s.run fun d => d.leaseLapse n

end Sys2Proof.Machine
end

