-- ==== Sys2Proof/Machine/LinkDn.lean ====
section
/-! DEFINITION. The controller's side of a slice link, sending (spec/10): claims, delivery of slice-side actions,
downstream frames (R131, R264, R267, R269, R270, R383); calibration transfers (R329, R331, R333); the descriptors and
register writes that travel over the link. -/

namespace Sys2Proof.Machine

/-! Roles and claims (R380, R383) -/

/-- This controller acts as Duty: in role Duty, or simplex (R21). -/
def Dev.isDuty (s : Dev) : Bool := !s.on Reg.PBX_CTRL_EN || s.rd Reg.PBX_STAT_ROLE = 0

/-- The Pebex port is UP (R376). -/
def Dev.pbxUp (s : Dev) : Bool := s.rd Reg.PBX_STAT_LINK = 4

/-- The role permits a claim of car `n`. DEDUCED (log entry 128): a car handed over is left to the partner until the partner has
held it or the link has dropped (R384). -/
def Dev.roleClaims (s : Dev) (n : Nat) : Bool :=
  !bit s.pbx.away n && (s.isDuty || (s.rd Reg.PBX_STAT_ROLE = 1 && (!s.pbxUp || (!bit s.pbx.busy n && !bit s.pbx.busy0 n))))

/-- CLAIM for a car (R273, R275, R383). -/
def Dev.claims (s : Dev) (n : Fin 16) : Bool :=
  let k := n.val
  s.locked && s.roleClaims k && !s.own n && s.rd (Reg.SLP_STAT_LSTATE k) = 2 && !bit (s.rd Reg.CTN_ISO_CE) k
    && s.rd (Reg.SLP_CHIPID_STEP k) = 0xB1
    && (s.lk n = Lk.up || s.lk n = Lk.identPend)

/-- What a claim brings: the engine starts, RELEASED and HANDED end (R372, R445). -/
def Dev.claimTick (s : Dev) (n : Fin 16) : Dev :=
  if s.claims n then
    (s.startEngine n).mapPbx fun p => { p with rel := setBit p.rel n.val false, hand := setBit p.hand n.val false }
  else s

/-! Delivery (R130, R131, R134) -/

/-- An ACT record as queued: slot, opcode, epoch, late tolerance, parameters, fire GT. DT is computed where it is sent. -/
def actBody (slot op epoch tol : Nat) (param : List Byte) (g : Nat) : List Byte :=
  beBytes 2 slot ++ leBytes 1 op ++ beBytes 2 epoch ++ beBytes 2 tol ++ cut param 0 10 ++ beBytes 8 g

/-- The same as it travels in a frame that marks GT `f`; an action already late has DT 0 and the rest of its tolerance. -/
def actWire (f : Nat) (b : List Byte) : List Byte :=
  let g := beAt b 17 8
  b.take 5 ++ beBytes 3 (g - f) ++ beBytes 2 (beAt b 5 2 - (f - g) / 1000) ++ (b.drop 7).take 10

/-- Slice-side actions of a car whose delivery tick has come, in due order. -/
def Dev.deliveries (s : Dev) (n : Fin 16) : List Act :=
  (s.waiting n.val).filter fun a => a.kind = .s && decide (s.due a ≤ s.tickStart)

/-- Delivery of a tick: an action whose engine is isolated or whose lease is gone ends; up to eight leave while the port is
UP. -/
def Dev.deliverTick (s : Dev) (n : Fin 16) : Dev :=
  let l := s.deliveries n
  let lost := fun (s : Dev) (a : Act) => !s.own n || (!a.restored && s.rd (Reg.SLP_STAT_EPOCH n.val) != a.epoch)
  if bit (s.rd Reg.CTN_ISO_CE) n.val then l.foldl (fun (s : Dev) (a : Act) => s.resolve a Stat.engineLost 0) s
  else
    let s := (l.filter fun a => lost s a).foldl (fun (s : Dev) (a : Act) => s.resolve a Stat.noLease 0) s
    if s.lk n != Lk.up then s
    else
      let e := s.rd (Reg.SLP_STAT_EPOCH n.val)
      ((l.filter fun a => !lost s a).take 8).foldl (fun (s : Dev) (a : Act) =>
        (s.setAct { a with place := .delivered }).queueDn n 1 (actBody a.slot a.op e a.tol a.param a.gt)) s

/-- Openings and scenes the engine orders, as ACT records of slot 0xFFFF (R30, R187, R228, log entry 17). -/
def Dev.openTick (s : Dev) (n : Fin 16) : Dev :=
  let m := s.mot n
  if (m.openReq.isEmpty && m.sceneReq.isEmpty) || s.lk n != Lk.up || !s.own n then s
  else
    let e := s.rd (Reg.SLP_STAT_EPOCH n.val)
    let ports := s.rd (Reg.HLC_CTRL_EN0 n.val) + 2 * s.rd (Reg.HLC_CTRL_EN1 n.val)
    let doors := m.openReq.map fun r => (0x30, r.1, leBytes 1 r.1 ++ leBytes 1 r.2.1 ++ leBytes 2 r.2.2)
    let scenes := if ports = 0 then [] else m.sceneReq.map fun x => (0x41, 0, leBytes 1 (ports - 1) ++ leBytes 1 0 ++ leBytes 2 x)
    (doors ++ scenes).foldl (fun (s : Dev) (r : Nat × Nat × List Byte) =>
      (s.queueDn n 1 (actBody 0xFFFF r.1 e 0xFFFF r.2.2 s.tickStart)).mapLink n fun l => { l with
        orders := l.orders ++ [(r.1, r.2.1)] })
      (s.mapMot n fun m => { m with openReq := [], sceneReq := [] })

/-- Revoked actions whose fire time has passed complete CANCELLED (R138). -/
def Dev.revokeTick (s : Dev) : Dev :=
  s.resolveAll Stat.cancelled fun a => a.revoked && a.place = .delivered && decide (a.gt < s.tickStart)

/-- Force models that are due, in FM sections (R221, R287); bit 7 of DOOR carries FM_VALID (log entry 22). -/
def Dev.fmTick (s : Dev) (n : Fin 16) : Dev :=
  if !s.own n || !(s.lk n = Lk.up || s.lk n = Lk.sync) then s
  else
    let one := fun (s : Dev) (d : Fin 2) =>
      let m := s.cars[n].fm[d]
      if bit (s.lnk n).fmDue d.val then
        s.queueDn n 5 (leBytes 1 (d.val + 128 * b2n (m.preset || decide (8 ≤ m.cycles))) ++ leBytes 1 0 ++ leBytes 1 32
          ++ leBytes 1 0 ++ (List.range 32).flatMap fun i => beBytes 2 (m.fric.getD i 0))
      else s
    (one (one s 0) 1).mapLink n fun l => { l with fmDue := 0 }

/-! Calibration transfers (R331, R333) -/

/-- Library entries and nodes of a stored table. -/
def CalRun.libs (r : CalRun) : Nat := byteAt r.table 3
def CalRun.nodes (r : CalRun) : Nat := leAt r.table 4 2

/-- The HEL section a transfer sends next on its port: library and node entries in turn, SWAP once all are there. -/
def CalRun.section (r : CalRun) (p : Fin 2) : List Byte :=
  let head := fun (op : Nat) => leBytes 1 op ++ leBytes 1 p.val ++ beBytes 2 r.tag
  if r.lib = r.libs && r.node = r.nodes then
    head 3 ++ leBytes 1 r.libs ++ leBytes 1 r.nodes ++ beBytes 4 (crc32 (r.table.drop 16))
  else
    let nl := (r.libs + 1) / 2
    let nn := (r.nodes + 19) / 20
    let i := r.turn % (nl + nn)
    if i < nl then
      let c := min 2 (r.libs - 2 * i)
      head 1 ++ leBytes 1 (2 * i) ++ leBytes 1 c ++ cut r.table (16 + 40 * i) (20 * c)
    else
      let j := i - nl
      let c := min 20 (r.nodes - 20 * j)
      head 2 ++ leBytes 1 (20 * j) ++ leBytes 1 c ++ cut r.table (16 + 20 * r.libs + 40 * j) (2 * c)

/-- HEL sections of a frame and the transfers moved on. -/
def Dev.helTick (s : Dev) (n : Fin 16) : List Section × Dev :=
  if !s.own n || s.lk n != Lk.up then ([], s)
  else
    let one := fun (x : List Section × Dev) (p : Fin 2) =>
      match (x.2.lnk n).cal[p] with
      | some r =>
        if r.fired then
          (x.1 ++ [(6, r.section p)], x.2.mapLink n fun l => { l with cal := l.cal.set p (some { r with turn := r.turn + 1 }) })
        else x
      | none => x
    one (one ([], s) 0) 1

/-! Frames (R264, R266, R270) -/

/-- The header of a downstream frame; LEN is filled in when the frame is closed. -/
def Dev.downHeader (s : Dev) (n : Fin 16) : List Byte :=
  let k := n.val
  let l := s.lnk n
  let own := s.own n
  let on := s.engineOn k
  let i := s.ilk n
  let mode := s.mode k
  let rd := if on && mode = 2 && s.restAt n i.rclLand then i.rclDoors % 4 else 0
  leBytes 1 0xA1
    ++ leBytes 1 (128 * s.xy + 64 * b2n s.isDuty + 32 * b2n (s.claims n) + 16 * b2n l.rel
        + 8 * b2n (own && on && s.lk n = Lk.up) + 4 * b2n (s.lk n = Lk.sync))
    ++ leBytes 1 k ++ leBytes 1 0 ++ beBytes 2 (if own || l.rel then l.lastEp.getD 0 else 0) ++ beBytes 2 l.seq
    ++ beBytes 8 s.tickStart
    ++ beBytes 2 (if s.on (Reg.TSP_SLDLY_VALID k) then s.rd (Reg.TSP_SLDLY_DELAY_NS k) else 0xFFFF)
    ++ beBytes 2 (l.rNext + 65535)
    ++ leBytes 1 (if on then i.re.code else 0) ++ leBytes 1 (if on then i.snapUsed % 256 else 0)
    ++ beBytes 2 (if on then i.ev else 0) ++ beBytes 2 (s.rd (Reg.SLP_SEED k)) ++ leBytes 1 (mode + 16 * rd) ++ leBytes 1 0

/-- REV: slots revoked whose fire time has not passed, at most eight, the earliest first (R132, R269). -/
def Dev.revSection (s : Dev) (n : Fin 16) : List Section :=
  let l := sortBy (fun (a b : Act) => a.gt ≤ b.gt)
    (s.ladle.acts.filter fun a => a.revoked && a.place = .delivered && a.car = some n.val)
  if l.isEmpty || !s.own n then [] else [(2, (l.take 8).flatMap fun a => beBytes 2 a.slot)]

/-- Sections kept while they fit in `room` bytes. -/
def fitSections (l : List Section) (room : Nat) : List Section :=
  (l.foldl (fun (x : List Section × Nat) (c : Section) =>
    let n := 2 + c.2.length
    if x.2 < n then x else (x.1 ++ [c], x.2 - n)) ([], room)).1

/-- A downstream record as it travels in a frame that marks GT `f`. -/
def LinkRec.wire (f : Nat) (r : LinkRec) : Section :=
  LinkRec.section (if r.ty = 1 then { r with body := actWire f r.body } else r)

/-- The reliable records of a frame of tick `k` that marks GT `f`, with `room` bytes, and the link with them placed; a
record's answer is awaited under its number. -/
def CLink.place (l : CLink) (f room k : Nat) : List Section × List Section × CLink :=
  let (queue, next, again, new) := placeRecs l.queue l.drNext room k
  let waits := l.waits.map fun w =>
    match queue.find? fun r => r.tag = w.tag with
    | some r => if w.num.isNone then { w with num := r.num } else w
    | none => w
  (again.map (LinkRec.wire f), new.map (LinkRec.wire f), { l with queue := queue, drNext := next, waits := waits })

/-- DOWNSTREAM_SEND: the frame of this tick; its marker departs 8 ns after the tick's start (R55, R60, R262). -/
def Dev.sendDown (s : Dev) (n : Fin 16) : Dev :=
  if !s.framing n || bit (s.rd Reg.CTN_ISO_SP) n.val then s.deliverTick n
  else
    let s := (((s.claimTick n).deliverTick n).openTick n).fmTick n
    let head := s.downHeader n
    let rev := s.revSection n
    let used := (rev.map fun c => 2 + c.2.length).sum
    let (again, new, l) := (s.lnk n).place s.tickStart (downRoom - used) (s.tickStart / tickNs)
    let used := used + ((again ++ new).map fun c => 2 + c.2.length).sum
    let (hel, s) := (s.mapLink n fun _ => l).helTick n
    let body := again ++ sortBy (fun (a b : Section) => a.1 ≤ b.1) (new ++ rev ++ fitSections hel (downRoom - used))
    let s := s.emit (.down n.val (closeFrame head (body.flatMap sectionBytes)))
    let dep := s.tickStart + 8
    (s.incBy (Reg.SLP_CNT_RESEND n.val) again.length).mapLink n fun l => { l with
      seq := (l.seq + 1) % 65536, sent := ((l.seq, dep) :: l.sent).take 64 }

/-- A tick on the link: a frame missed is counted, and the eighth in a row is a drop (R272). -/
def Dev.missLink (s : Dev) (n : Fin 16) : Dev :=
  if !s.framing n then s
  else if (s.lnk n).got then s.mapLink n fun l => { l with got := false, miss := 0 }
  else
    let s := s.mapLink n fun l => { l with miss := l.miss + 1 }
    if 8 ≤ (s.lnk n).miss then s.linkDrop n else s

/-! Descriptors of the link (R111) -/

/-- A probe step that has not answered. -/
def Dev.probing (s : Dev) (n : Fin 16) : Bool :=
  s.on (Reg.FIO_STAT_PROBE n.val) || (s.lnk n).waits.any fun w =>
    match w.kind with
    | .probeWrite _ _ | .probeRead _ _ => true
    | .write off => off = 0x4E8
    | _ => false

/-- IO_PROBE (R308): a proxy write of the step, then reads of its result. -/
def Dev.opIoProbe (s : Dev) (sq : Nat) (b : List Byte) : Dev :=
  s.tryAdmit 0x52 sq b fun s dn =>
    let n := Fin.ofNat 16 (dIndex b)
    if s.lk n != Lk.up || s.probing n then s.refuse Stat.busy
    else match s.ownership 0x52 b with
      | some st => s.refuse st
      | none => (s.pxyWrite n 0x4E8 (byteAt b 16 + 256 * byteAt b 17) (.probeWrite sq dn), none)

def execIoProbe (sq : Fin 32) (d : List Byte) (s : State) : Host.Outcome State Fault Refusal :=
  s.run fun v => v.opIoProbe sq.val d

/-- SAFE_REARM (R249): what the engine does not refuse completes OK and is carried to the slice, whose latch clears unless a
rule has withdrawn SAFE by then (log entry 18). -/
def Dev.opSafeRearm (s : Dev) (sq : Nat) (b : List Byte) : Dev :=
  s.tryAdmit 0x54 sq b fun s _ =>
    let n := Fin.ofNat 16 (dIndex b)
    match s.ownership 0x54 b with
    | some st => s.refuse st
    | none =>
      match s.rearmBar n with
      | some r => s.refuseIlk n.val r
      | none => (s.pxyWrite n 0x4E4 0 .rearm, some (AdmRes.done 0 0))

def execSafeRearm (sq : Fin 32) (d : List Byte) (s : State) : Host.Outcome State Fault Refusal :=
  s.run fun v => v.opSafeRearm sq.val d

/-- SLICE_CONFIRM (R276): a car that the partner holds is refused (R109); one that nobody holds is claimed. -/
def Dev.opSliceConfirm (s : Dev) (sq : Nat) (b : List Byte) : Dev :=
  s.tryAdmit 0xA2 sq b fun s dn =>
    let n := Fin.ofNat 16 (dIndex b)
    if leAt b 16 8 != s.sliceSerial n.val then s.refuse Stat.badDesc
    else if (s.lnk n).confirm.isSome then s.refuse Stat.busy
    else if s.notOwned n.val = some Stat.foreignOwner then s.refuse Stat.foreignOwner
    else
      let s := s.mapLink n fun l => { l with confirm := some (sq, dn), tries := 0 }
      (if (s.lnk n).hash = s.ownHash n.val then s.setRecord n else s, none)

def execSliceConfirm (sq : Fin 32) (d : List Byte) (s : State) : Host.Outcome State Fault Refusal :=
  s.run fun v => v.opSliceConfirm sq.val d

/-- What R329 asks of a calibration table named by descriptor `b`. -/
def Dev.tableOk (s : Dev) (b t : List Byte) : Bool :=
  let libs := byteAt t 3
  let nodes := leAt t 4 2
  leAt t 0 2 = 0x4C48 && byteAt t 2 = 1 && 1 ≤ libs && libs ≤ 64 && 1 ≤ nodes && nodes ≤ 128
    && t.length = leAt b 32 4 && t.length = 16 + 20 * libs + 2 * nodes
    && nodes = leAt b 22 2 && nodes ≤ s.rd (Reg.HLC_PORT_NODES (dIndex b) (byteAt b 20))
    && zeros t 6 2 && zeros t 12 4
    && ((List.range nodes).all fun k => byteAt t (16 + 20 * libs + 2 * k) < libs || byteAt t (16 + 20 * libs + 2 * k) = 0xFF)
    && ((List.range libs).all fun i => leAt t (16 + 20 * i + 18) 2 ≤ 32768)

/-- CAL_SWAP (R329): the host island reads the table before the admission completion; `mem` is what it reads, none where it
cannot be read after one repeat. DESIGN CHOICE (log entry 103): a table that is not as R329 has it is judged after SETUP_LOCK
and GT_VALID, before the busy condition. -/
def Dev.opCalSwap (s : Dev) (sq : Nat) (b : List Byte) (mem : Option (List Byte)) : Dev :=
  s.tryAdmit 0x43 sq b fun s dn =>
    let n := Fin.ofNat 16 (dIndex b)
    let p := Fin.ofNat 2 (byteAt b 20)
    let (mem, s) := s.readHost (leAt b 24 8) (leAt b 32 4) mem
    match mem with
    | none => s.refuse Stat.badDesc
    | some t =>
      if !s.tableOk b t then s.refuse Stat.badDesc
      else
        let ord := s.ladle.ord
        let r := s.admitAction 0x43 sq dn b .c ((s.lnk n).cal[p]).isSome
        match r.1.ladle.acts.find? fun a => a.ord = ord with
        | none => r
        | some a =>
          let run : CalRun := { act := a, table := t, fired := false, tag := 0, lib := 0, node := 0, turn := 0 }
          let s := r.1.mapLink n fun l => { l with cal := l.cal.set p (some run) }
          (s.flag (if p = 0 then Reg.LMP_STAT_PEND0 n.val else Reg.LMP_STAT_PEND1 n.val) true, r.2)

def execCalSwap (sq : Fin 32) (d : List Byte) (mem : Option (List Byte)) (s : State) :
    Host.Outcome State Fault Refusal := s.run fun v => v.opCalSwap sq.val d mem

/-- A CAL_SWAP fires: its slot is free, its port has a new tag, the transfer begins (R331). -/
def Dev.calFire (s : Dev) (a : Act) : Dev :=
  let n := Fin.ofNat 16 a.tindex
  let p := Fin.ofNat 2 (byteAt a.param 0)
  match (s.lnk n).cal[p] with
  | none => s
  | some r =>
    let s := s.mapLink n fun l => { l with
      calTag := (l.calTag + 1) % 65536, cal := l.cal.set p (some { r with act := a, fired := true, tag := (l.calTag + 1) % 65536 }) }
    ((s.useRoom a.pool).freeAct a).logAct a (firedStatus a.late)

/-! Register windows (R277) -/

/-- A host write to a field of the slice window that the slice holds: a proxy write by the holder, ignored elsewhere. -/
def Dev.slnWrite (s : Dev) (n : Fin 16) (off v : Nat) : Dev :=
  if !s.own n then s else s.pxyWrite n off v (.write off)

/-- FIO_PROBE_WRITE (R308): a reserved step or channel is ignored (R15). -/
def Dev.probeWr (s : Dev) (n : Fin 16) (v : Nat) : Dev :=
  if v % 4 = 3 || 19 < v / 256 % 32 then s else s.slnWrite n 0x4E8 v

/-- PROXY_WRITE: RW and W1C fields of the window become proxy records; of the slice's own registers FIO_PROBE is the one
that has such a field, and HLC_SCN_IDX is the controller's. -/
def Dev.proxyWr (s : Dev) (n : Fin 16) (off v : Nat) : Dev :=
  if off = 0x4E8 then s.probeWr n v
  else if (Reg.fieldsAt (0x40000 + 0x4000 * n.val + off)).any (fun f => f.acc = .rw || f.acc = .w1c) && off != 0xA40 then
    s.slnWrite n off v
  else s

/-- SHADOW_REFRESH_READ: the rotation reads one register of the slice while the port is UP. -/
def Dev.refreshRead (s : Dev) (n : Fin 16) (off : Nat) : Dev :=
  if s.lk n = Lk.up then s.pxyRead n off (.refresh off) else s

def execProxyWrite (n : Fin 16) (off : Nat) (v : BitVec 32) (s : State) : Host.Outcome State Fault Refusal :=
  s.run fun d => d.proxyWr n (off % 0x4000) v.toNat
def execFioProbeWrite (n : Fin 16) (v : BitVec 32) (s : State) : Host.Outcome State Fault Refusal :=
  s.run fun d => d.probeWr n v.toNat
def execShadowRefreshRead (n : Fin 16) (off : Nat) (s : State) : Host.Outcome State Fault Refusal :=
  s.run fun d => d.refreshRead n (off % 0x4000)

/-! Training and resending -/

/-- SYMBOL_LOCK on port `p` of slice `n`: the slice's port trains, and this controller's where the port is its own
(R270, R273). -/
def symbolLock (n : Fin 16) (p : Fin 2) (s : State) : State :=
  let d := if p.val = s.dev.xy then s.dev.linkTrain n else s.dev
  { s with dev := d, slices := s.slices.set n (s.slices[n].train p) }

def execSymbolLock (n : Fin 16) (p : Fin 2) (s : State) : Host.Outcome State Fault Refusal := .next (symbolLock n p s)

/-- RECORD_RESEND: where an acknowledgement has not covered a record 3 ticks after its last sending, it and those after it
are due again, in order (R270). `up` names the slice's side of port `p`. -/
def recordResend (n : Fin 16) (up : Bool) (p : Fin 2) (s : State) : State :=
  if up then
    let c := s.slices[n]
    { s with slices := s.slices.set n (c.mapPort p fun q => { q with queue := redue (c.gt / tickNs) q.queue }) }
  else
    let k := s.dev.tickStart / tickNs
    { s with dev := s.dev.mapLink n fun l => { l with queue := redue k l.queue } }

def execRecordResend (n : Fin 16) (up : Bool) (p : Fin 2) (s : State) : Host.Outcome State Fault Refusal :=
  .next (recordResend n up p s)

/-- SYNC_DONE (R287, R394): the resync is done; the port is UP once the engine has started. -/
def Dev.syncDone (s : Dev) (n : Fin 16) : Dev :=
  if s.lk n = Lk.sync && s.engineOn n.val then s.setLink n Lk.up else s

def execSyncDone (n : Fin 16) (s : State) : Host.Outcome State Fault Refusal := s.run fun d => d.syncDone n

/-- A correction or fault of a door encoder's index counted on the car's engine (R171). -/
def Dev.doorIdxCount (s : Dev) (n : Fin 16) (dv : Option Int) : Dev :=
  match dv with
  | none => s
  | some x =>
    if !s.carOn n.val || !s.engineOn n.val then s
    else s.inc (if absI x ≤ 4 then Reg.TRK_CNT_IDXCOR n.val else Reg.TRK_CNT_IDXFLT n.val)

/-- INDEX_PULSE (R171): the drive encoder's Z input on the controller (`enc` 0), those of the doors on the slice. The
engine's counters count a door's pulse at the pulse (log entry 105). -/
def indexPulse (n : Fin 16) (enc : Fin 3) (count : Int) (stamp : Nat) (s : State) : State :=
  if enc = 0 then { s with dev := s.dev.driveIndex n count }
  else
    let c := s.slices[n]
    let d : Fin 2 := Fin.ofNat 2 (enc.val - 1)
    if c.on then
      { s with dev := s.dev.doorIdxCount n (c.idxOf d count),
               slices := s.slices.set n ((c.at stamp).doorIndex d count).settle }
    else s

def execIndexPulse (n : Fin 16) (enc : Fin 3) (count : Int) (stamp : Nat) (s : State) :
    Host.Outcome State Fault Refusal := .next (indexPulse n enc count stamp s)

end Sys2Proof.Machine
end

