-- ==== Sys2Proof/Machine/Bus.lean ====
section
/-! DEFINITION. The shaft bus (R336 to R353): classes, mailboxes, transmission, reception, error states, redundant pairs. -/

namespace Sys2Proof.Machine

/-! Channels and classes (R337, R344) -/

/-- States of a channel (R347). -/
def Ch.active : Nat := 0
def Ch.warning : Nat := 1
def Ch.preBusOff : Nat := 2
def Ch.busOff : Nat := 3

/-- A channel, its state, whether it is enabled and paired, and its partner in the pair. -/
abbrev Dev.chan (s : Dev) (c : Fin 4) : Chan := s.bus[c]
def Dev.chSt (s : Dev) (c : Fin 4) : Nat := s.rd (Reg.SBC_CH_STAT_STATE c.val)
def Dev.chEn (s : Dev) (c : Fin 4) : Bool := bit (s.rd Reg.SBC_CTRL_EN) c.val
def Dev.paired (s : Dev) (c : Fin 4) : Bool := s.on (if c.val < 2 then Reg.SBC_CTRL_PAIR_A else Reg.SBC_CTRL_PAIR_B)
def partner (c : Fin 4) : Fin 4 := if c.val % 2 = 0 then c + 1 else c - 1

/-- An enabled range that takes in an identifier. -/
def Dev.inRange (s : Dev) (c r : Nat) (ide : Bool) (id : Nat) : Bool :=
  s.on (Reg.SBC_CLS_LO_EN c r) && s.on (Reg.SBC_CLS_LO_IDE c r) == ide
    && decide (s.rd (Reg.SBC_CLS_LO_ID_LO c r) ≤ id) && decide (id ≤ s.rd (Reg.SBC_CLS_HI_ID_HI c r))

/-- The class of a frame (R337). -/
def Dev.frameClass (s : Dev) (f : CanFrame) : Nat :=
  match (List.range 5).find? fun c => s.inRange c 0 f.ide f.id || s.inRange c 1 f.ide f.id with
  | some c => c
  | none => s.rd Reg.SBC_CTRL_DEF_CLASS

/-- Frames that take the reserved mailboxes 0 to 7 as well. -/
def urgent (cls : Nat) : Bool := decide (cls ≤ 1)

/-! Mailboxes (R338) -/

/-- The lowest free mailbox from `lo` to `hi` − 1. -/
def Dev.mbxFree (s : Dev) (c : Fin 4) (lo hi : Nat) : Option Nat :=
  (List.range hi).find? fun i => decide (lo ≤ i) && (s.chan c).mbx.all fun m => m.num != i

/-- The lowest free mailbox a class may use. -/
def Dev.mbxFor (s : Dev) (c : Fin 4) (cls : Nat) : Option Nat := s.mbxFree c (if urgent cls then 0 else 8) 64

/-- A frame put into mailbox `i`. -/
def Dev.mbxPut (s : Dev) (c : Fin 4) (i : Nat) (m : Mbx) : Dev :=
  let g := s.gt
  s.mapChan c fun h => { h with mbx := h.mbx ++ [{ m with num := i, gt := g, ord := h.ord }], ord := h.ord + 1 }

/-- Frames that the migration queue toward a channel holds at most (R349). -/
def migMax : Nat := 64

/-- The migration queue toward a channel has room. -/
def Dev.migRoom (s : Dev) (c : Fin 4) : Bool := decide ((s.chan c).mig.length < migMax)

/-- A frame put at the end of the migration queue toward a channel. -/
def Dev.migPut (s : Dev) (c : Fin 4) (m : Mbx) : Dev := s.mapChan c fun h => { h with mig := h.mig ++ [m] }

/-- Another copy of a frame waits on a channel, in a mailbox or in the migration queue toward it. -/
def Dev.hasCopy (s : Dev) (c : Fin 4) (m : Mbx) : Bool :=
  ((s.chan c).mbx ++ (s.chan c).mig).any fun x => x.act.ord = m.act.ord

/-- The copy of a FIRE or SAFETY frame onto the partner (R348); a copy is not copied back, and none is made where neither a
mailbox nor the queue has room (log entry 62). -/
def Dev.duplicate (s : Dev) (c : Fin 4) (m : Mbx) : Dev :=
  let p := partner c
  if !urgent m.cls || s.hasCopy p m then s
  else
    let m := { m with copy := true }
    match s.mbxFree p 0 8 with
    | some i => (s.inc (Reg.SBC_CNT_DUP c.val)).mbxPut p i m
    | none => if s.migRoom p then (s.inc (Reg.SBC_CNT_DUP c.val)).migPut p m else s

/-- A frame enters a mailbox; in PRE_BUS_OFF the partner gets its copy. -/
def Dev.mbxEnter (s : Dev) (c : Fin 4) (i : Nat) (m : Mbx) : Dev :=
  let s := s.mbxPut c i m
  if s.chSt c = Ch.preBusOff then s.duplicate c m else s

/-- An identifier as arbitration compares it (R338). -/
def arbKey (f : CanFrame) : Nat := if f.ide then 2 * f.id + 1 else 2 * (f.id * 2 ^ 18)

/-- The order of R338: identifier, then entry. -/
def Mbx.before (a b : Mbx) : Bool :=
  decide (arbKey a.f < arbKey b.f) || (arbKey a.f = arbKey b.f && decide (a.ord ≤ b.ord))

/-- The frame a channel offered at the arbitration that began at `sof`. -/
def Dev.offered (s : Dev) (c : Fin 4) (sof : Nat) : Option Mbx :=
  (sortBy Mbx.before ((s.chan c).mbx.filter fun m => decide (m.gt ≤ sof))).head?

/-! Firing (R339) -/

/-- The frame of a BUS_TX (R111). -/
def Act.frame (a : Act) : CanFrame :=
  let w := leAt a.param 0 4
  { ide := bit w 31, fdf := bit w 30, brs := bit w 29, id := w % 2 ^ 29, data := a.extra.take (byteAt a.param 4) }

/-- A BUS_TX fired: its frame enters a mailbox and its slot is free; without a mailbox it is examined again. -/
def Dev.busFire (s : Dev) (a : Act) : Dev :=
  let c := Fin.ofNat 4 a.tindex
  let off := decide (s.chSt c = Ch.busOff)
  if off && !s.paired c then s.resolve a Stat.busOff 0
  else
    let c := if off then partner c else c
    let f := a.frame
    let cls := s.frameClass f
    let st := firedStatus a.late
    match s.mbxFor c cls with
    | none => s.setAct { a with late := true }
    | some i =>
      let m : Mbx := { num := i, f := f, cls := cls, gt := s.gt, ord := 0, act := a, st := st, fired := s.gt,
                       copy := false, done := false }
      (((s.useRoom a.pool).freeAct a).logAct a st).mbxEnter c i m

/-- One due controller-side action judged and fired, put off or ended (R134). -/
def Dev.fireOne (s : Dev) (a : Act) : Dev :=
  match s.judge a with
  | .ends st => s.resolve a st 0
  | .defer => s.setAct { a with late := true }
  | .fires => if a.op = 0x43 then s.calFire a else s.busFire a

/-- CONTROLLER_ACTION_FIRE at instant `t`; an island whose replica waits for its reload compares nothing (R54). -/
def Dev.fireDue (s : Dev) (t : Nat) : Dev :=
  let s := s.at t
  ((s.dueNow .c).filter fun a => a.op != 0x60 || !bit s.time.reload 20).foldl Dev.fireOne s

def execControllerActionFire (t : Nat) (s : State) : Host.Outcome State Fault Refusal := s.run fun d => d.fireDue t

/-! Error states (R347 to R352) -/

/-- BUS_STATE with the counters and a number of frames. -/
def Dev.busEvent (s : Dev) (c : Fin 4) (code n : Nat) : Dev :=
  s.raiseSev .busState (if code = 3 then 6 else 4) c.val
    [pU 16 1 code, pU 17 1 (s.rd (Reg.SBC_CH_ERR_TEC c.val)), pU 18 1 (s.rd (Reg.SBC_CH_ERR_REC c.val)), pU 20 2 n] []

/-- A channel put to a state. -/
def Dev.setCh (s : Dev) (c : Fin 4) (st : Nat) : Dev := s.wr (Reg.SBC_CH_STAT_STATE c.val) st

/-- How far a counter has come since it read `old`. -/
def Dev.counted (s : Dev) (f : RF) (old : Nat) : Nat := (s.rd f + 2 ^ 32 - old) % 2 ^ 32

/-- PRE_BUS_OFF entered: every FIRE and SAFETY frame waiting is copied (R348). -/
def Dev.preBusOff (s : Dev) (c : Fin 4) : Dev :=
  let s := s.setCh c Ch.preBusOff
  let n := s.rd (Reg.SBC_CNT_DUP c.val)
  let s := (s.chan c).mbx.foldl (fun (s : Dev) (m : Mbx) => s.duplicate c m) s
  s.busEvent c 2 (s.counted (Reg.SBC_CNT_DUP c.val) n)

/-- The frames of a channel in the order in which they are moved (R349). -/
def Dev.moveOrder (s : Dev) (c : Fin 4) : List Mbx :=
  sortBy (fun (a b : Mbx) => decide (a.cls < b.cls) || (a.cls = b.cls && a.before b))
    ((s.chan c).mbx.filter fun m => !m.done && !s.hasCopy (partner c) m)

/-- A frame moved from channel `c` to its partner, whose own frame it becomes; one that finds neither a mailbox nor room in the
queue completes BUS_OFF (R349; DESIGN CHOICE, log entry 62). -/
def Dev.moveOver (s : Dev) (c : Fin 4) (m : Mbx) : Dev :=
  let p := partner c
  let m := { m with copy := false }
  match s.mbxFor p m.cls with
  | some i => (s.inc (Reg.SBC_CNT_MIG c.val)).mbxEnter p i m
  | none =>
    if s.migRoom p then (s.inc (Reg.SBC_CNT_MIG c.val)).migPut p m else s.completeAct m.act Stat.busOff m.act.gt 0

/-- Recovery from BUS_OFF begins (R352). -/
def Dev.startRecovery (s : Dev) (c : Fin 4) : Dev :=
  let g := s.gt
  (s.flag (Reg.SBC_CH_STAT_RECOVERING c.val) true).mapChan c fun h => { h with recGt := g }

/-- The shortest recovery, ns: 1,408 bit times at the nominal rate of 80 MHz / (BRP × (1 + TSEG1 + TSEG2)) (R352). -/
def Dev.recoveryNs (s : Dev) (c : Fin 4) : Nat :=
  let k := c.val
  1408 * s.rd (Reg.SBC_CH_NBT_BRP k) * (1 + s.rd (Reg.SBC_CH_NBT_TSEG1 k) + s.rd (Reg.SBC_CH_NBT_TSEG2 k)) * 25 / 2

/-- BUS_OFF entered (R349, R351); `recov` starts recovery. -/
def Dev.enterBusOff (s : Dev) (c : Fin 4) (recov : Bool) : Dev :=
  let s := ((s.setCh c Ch.busOff).flag (Reg.SBC_CH_STAT_PASSIVE c.val) false).inc (Reg.SBC_CNT_BUSOFF c.val)
  let s := if recov then s.startRecovery c else s.flag (Reg.SBC_CH_STAT_RECOVERING c.val) false
  if s.paired c then
    let l := s.moveOrder c
    let n := s.rd (Reg.SBC_CNT_MIG c.val)
    let s := s.mapChan c fun h => { h with mbx := [] }
    let s := l.foldl (fun (s : Dev) (m : Mbx) => s.moveOver c m) s
    s.busEvent c 3 (s.counted (Reg.SBC_CNT_MIG c.val) n)
  else
    let l := (s.chan c).mbx
    let s := (s.mapChan c fun h => { h with mbx := [] }).busEvent c 3 0
    let s := l.foldl (fun (s : Dev) (m : Mbx) => s.completeAct m.act Stat.busOff m.act.gt 0) s
    let names := l.map fun m => (m.act.sq, m.act.cmd)
    if names.isEmpty then s.note 0x8005 6 (43 + c.val) 3 c.val [pU 28 1 1]
    else s.actionList 1 6 (43 + c.val) 3 c.val names

/-- New error counters judged (R347). -/
def Dev.busCount (s : Dev) (c : Fin 4) (tec rec : Nat) : Dev :=
  let k := c.val
  let old := s.rd (Reg.SBC_CH_ERR_TEC k)
  let pbo := s.rd (Reg.SBC_CH_CFG_PBO k)
  let s := (s.wr (Reg.SBC_CH_ERR_TEC k) (min tec 255)).wr (Reg.SBC_CH_ERR_REC k) (min rec 255)
  let s := s.flag (Reg.SBC_CH_STAT_PASSIVE k) (decide (128 ≤ tec) || decide (128 ≤ rec))
  let low := decide (tec < 96) && decide (rec < 96)
  if 255 < tec then s.enterBusOff c (s.on (Reg.SBC_CH_CFG_AUTO_REC k))
  else if low then (if s.chSt c = Ch.active then s else (s.setCh c Ch.active).busEvent c 0 0)
  else
    let s := if s.chSt c = Ch.active then (s.setCh c Ch.warning).busEvent c 1 0 else s
    if s.chSt c = Ch.warning && pbo ≤ tec then
      if s.paired c then s.preBusOff c else if old < pbo then s.busEvent c 2 0 else s
    else s

/-- A channel enabled by SBC_CTRL.EN enters ACTIVE with its counters at 0; an isolated one does not (R347, R364). -/
def Dev.chanEnable (s : Dev) (c : Fin 4) : Dev :=
  let k := c.val
  if bit (s.rd Reg.CTN_ISO_IO_SB) k then s
  else
    let s := (s.wr (Reg.SBC_CH_ERR_TEC k) 0).wr (Reg.SBC_CH_ERR_REC k) 0
    let s := (s.flag (Reg.SBC_CH_STAT_PASSIVE k) false).flag (Reg.SBC_CH_STAT_RECOVERING k) false
    if s.chSt c = Ch.active then s else (s.setCh c Ch.active).busEvent c 0 0

/-- The channels that a write of SBC_CTRL has enabled. -/
def Dev.chansEnabled (s : Dev) (old : Nat) : Dev :=
  (List.finRange 4).foldl (fun (s : Dev) (c : Fin 4) =>
    if s.chEn c && !bit old c.val then s.chanEnable c else s) s

/-- REC after a frame received without error; one above 127 falls to 127 (log entry 109). -/
def recLess (rec : Nat) : Nat := if 127 < rec then 127 else rec - 1

/-- BUS_ERROR: the counters as the channel counts them now. -/
def Dev.busError (s : Dev) (c : Fin 4) (tec rec lec : Nat) : Dev :=
  if !s.chEn c || s.chSt c = Ch.busOff then s else (s.wr (Reg.SBC_CH_ERR_LEC c.val) lec).busCount c tec rec

def execBusError (c : Fin 4) (tec rec : Nat) (lec : Fin 7) (s : State) : Host.Outcome State Fault Refusal :=
  s.run fun d => d.busError c tec rec lec.val

/-- BUS_RECOVER (R352): busy unless the channel is bus-off without automatic recovery, and for an isolated one (R364). -/
def Dev.opBusRecover (s : Dev) (sq : Nat) (b : List Byte) : Dev :=
  s.tryAdmit 0x61 sq b fun s _ =>
    let c := Fin.ofNat 4 (dIndex b)
    if s.chSt c != Ch.busOff || s.on (Reg.SBC_CH_CFG_AUTO_REC c.val) || s.on (Reg.SBC_CH_STAT_RECOVERING c.val)
        || bit (s.rd Reg.CTN_ISO_IO_SB) c.val then s.refuse Stat.busy
    else (s.startRecovery c, some (AdmRes.done 0 0))

def execBusRecover (sq : Fin 32) (d : List Byte) (s : State) : Host.Outcome State Fault Refusal :=
  s.run fun v => v.opBusRecover sq.val d

/-- BUS_RECOVERY_DONE (R352): codes 4 and 0. -/
def Dev.busRecovered (s : Dev) (c : Fin 4) : Dev :=
  if s.chSt c = Ch.busOff && s.on (Reg.SBC_CH_STAT_RECOVERING c.val)
      && decide ((s.chan c).recGt + s.recoveryNs c ≤ s.gt) then
    let k := c.val
    let s := (s.wr (Reg.SBC_CH_ERR_TEC k) 0).wr (Reg.SBC_CH_ERR_REC k) 0
    let s := ((s.flag (Reg.SBC_CH_STAT_PASSIVE k) false).flag (Reg.SBC_CH_STAT_RECOVERING k) false).busEvent c 4 0
    (s.setCh c Ch.active).busEvent c 0 0
  else s

def execBusRecoveryDone (c : Fin 4) (s : State) : Host.Outcome State Fault Refusal := s.run fun d => d.busRecovered c

/-- MIGRATION_QUEUE_DRAIN: the first frame of the queue toward channel `c` that finds a mailbox enters it (R348, R349). -/
def Dev.migDrain (s : Dev) (c : Fin 4) : Dev :=
  let slot := fun (m : Mbx) => if m.copy then s.mbxFree c 0 8 else s.mbxFor c m.cls
  match (s.chan c).mig.find? fun m => (slot m).isSome with
  | none => s
  | some m =>
    match slot m with
    | none => s
    | some i => (s.mapChan c fun h => { h with mig := h.mig.erase m }).mbxEnter c i m

def execMigrationQueueDrain (c : Fin 4) (s : State) : Host.Outcome State Fault Refusal := s.run fun d => d.migDrain c

/-! Transmission on the wire (R340, R341, R348) -/

/-- The other copy of a frame leaves the partner, unless its transmission is in progress. -/
def Dev.abortCopy (s : Dev) (c : Fin 4) (m : Mbx) (busy : Bool) : Dev :=
  let same := fun (x : Mbx) => decide (x.act.ord = m.act.ord)
  s.mapChan (partner c) fun h => { h with
    mbx := if busy then h.mbx.map fun x => if same x then { x with done := true } else x
      else h.mbx.filter fun x => !same x,
    mig := h.mig.filter fun x => !same x }

/-- CAN_TX_SUCCESS: the frame offered at `sof` has been acknowledged; `busy` tells that its other copy is being
transmitted. The transmit error counter falls by one (ISO 11898-1). -/
def Dev.txDone (s : Dev) (c : Fin 4) (sof : Nat) (busy : Bool) : Dev :=
  if s.chSt c = Ch.busOff then s
  else match s.offered c sof with
    | none => s
    | some m =>
      let k := c.val
      let s := ((s.emit (.can k m.f sof)).inc (Reg.SBC_CNT_TX k)).mapChan c fun h => { h with mbx := h.mbx.erase m }
      let s := if m.done then s
        else (s.abortCopy c m busy).completeAt m.act m.st sof k m.fired
      s.busCount c (s.rd (Reg.SBC_CH_ERR_TEC k) - 1) (s.rd (Reg.SBC_CH_ERR_REC k))

def execCanTxSuccess (c : Fin 4) (sof : Nat) (busy : Bool) (s : State) : Host.Outcome State Fault Refusal :=
  s.run fun d => d.txDone c sof busy

/-- The wire timeout of a class, ms; 0 is none (R341). -/
def Dev.wireTmo (s : Dev) (c cls : Nat) : Nat :=
  match cls with
  | 0 => s.rd (Reg.SBC_CH_TMOA_LO c)
  | 1 => s.rd (Reg.SBC_CH_TMOA_HI c)
  | 2 => s.rd (Reg.SBC_CH_TMOB_LO c)
  | 3 => s.rd (Reg.SBC_CH_TMOB_HI c)
  | _ => s.rd (Reg.SBC_CH_TMOC_LO c)

/-- WIRE_TIMEOUT of the frame in mailbox `i`, not in transmission, TMO_MS after its entry: it and its copy are aborted (log
entry 109). -/
def Dev.wireTimeout (s : Dev) (c : Fin 4) (i : Nat) : Dev :=
  match (s.chan c).mbx.find? fun m => m.num = i && !m.done with
  | none => s
  | some m =>
    let tmo := s.wireTmo c.val m.cls
    if tmo = 0 || decide (s.gt < m.gt + tmo * 1000000) then s
    else
      let s := (s.mapChan c fun h => { h with mbx := h.mbx.erase m }).abortCopy c m false
      (s.inc (Reg.SBC_CNT_EXP c.val)).completeAct m.act Stat.expired m.act.gt 0

def execWireTimeout (c : Fin 4) (i : Fin 64) (s : State) : Host.Outcome State Fault Refusal :=
  s.run fun d => d.wireTimeout c i.val

/-! Reception (R342, R343, R346) -/

/-- The setting of the pair a channel belongs to. -/
def pairOf (c : Fin 4) : Nat := c.val / 2

/-- The sequence field of a frame of a class, where it carries one. -/
def Dev.seqField (s : Dev) (c : Fin 4) (cls : Nat) (f : CanFrame) : Option Nat :=
  let p := pairOf c
  let o := s.rd (Reg.SBC_PAIR_SEQ_OFS p)
  let n := s.rd (Reg.SBC_PAIR_SEQ_LEN p) + 1
  if s.paired c && bit (s.rd (Reg.SBC_PAIR_SEQ_CLS p)) cls && o + n ≤ f.data.length then
    some (if n = 1 then byteAt f.data o else 256 * byteAt f.data o + byteAt f.data (o + 1))
  else none

/-- Two instants no further apart than `d`. -/
def within (a b d : Nat) : Bool := decide (a ≤ b + d) && decide (b ≤ a + d)

/-- A frame's key, and whether the other bus of its pair has brought the same frame within DUP_MS. -/
def Dev.isDup (s : Dev) (c : Fin 4) (k : RxKey) : Bool :=
  (s.chan (partner c)).recent.any fun x =>
    x.ide = k.ide && x.id = k.id && x.seq = k.seq && within x.gt k.gt (s.rd (Reg.SBC_PAIR_DUP_MS (pairOf c)) * 1000000)

/-- A key remembered for the length of the window. -/
def Dev.remember (s : Dev) (c : Fin 4) (k : RxKey) : Dev :=
  let d := s.rd (Reg.SBC_PAIR_DUP_MS (pairOf c)) * 1000000
  s.mapChan c fun h => { h with recent := k :: h.recent.filter fun x => within x.gt k.gt d }

/-- Identifier and flags as BUS_TX lays them out (R111). -/
def canWord (f : CanFrame) : Nat := f.id % 2 ^ 29 + 2 ^ 29 * b2n f.brs + 2 ^ 30 * b2n f.fdf + 2 ^ 31 * b2n f.ide

/-- A stamp of the bus island, to 12.5 ns. -/
def stamp12 (t : Nat) : Nat := t * 2 / 25 * 25 / 2

/-- A frame into its FIFO (R342). -/
def Dev.rxStore (s : Dev) (c : Fin 4) (cls : Nat) (f : CanFrame) (esi : Bool) (sof : Nat) : Dev :=
  let i : Fin 2 := if bit (s.rd (Reg.SBC_CH_RXSEL_FIFO1 c.val)) cls then 1 else 0
  if 256 ≤ (s.chan c).rx[i].length then
    s.inc (if i = 0 then Reg.SBC_CNT_RXOVF0 c.val else Reg.SBC_CNT_RXOVF1 c.val)
  else
    let e : RxEnt := { gt := stamp12 sof, f := f, cls := cls, esi := esi }
    s.mapChan c fun h => { h with rx := h.rx.set i (h.rx[i] ++ [e]) }

/-- The event of a FIRE or SAFETY frame, and the FIRE latches (R120, R343). -/
def Dev.rxEvent (s : Dev) (c : Fin 4) (cls : Nat) (f : CanFrame) : Dev :=
  let pay := [pU 16 4 (canWord f), pU 20 1 f.data.length, (22, cut f.data 0 8)]
  if cls = 0 then (s.raise .fireFrame c.val pay).fireLatch
  else if cls = 1 then s.raise .safetyFrame c.val pay
  else s

/-- CAN_FRAME_RECEIVED: a frame without error, start of frame `sof`, ESI, or a remote frame, which is
counted and discarded. -/
def Dev.canRx (s : Dev) (c : Fin 4) (f : CanFrame) (esi rtr : Bool) (sof : Nat) : Dev :=
  if !s.chEn c || s.chSt c = Ch.busOff || (f.fdf && !s.on (Reg.SBC_CH_CFG_FD_EN c.val)) then s
  else
    let s := s.inc (Reg.SBC_CNT_RX c.val)
    let s := s.busCount c (s.rd (Reg.SBC_CH_ERR_TEC c.val)) (recLess (s.rd (Reg.SBC_CH_ERR_REC c.val)))
    let cls := s.frameClass f
    let keep := fun (s : Dev) => (s.rxStore c cls f esi sof).rxEvent c cls f
    if rtr then s.inc (Reg.SBC_CNT_RTR c.val)
    else match s.seqField c cls f with
    | none => keep s
    | some q =>
      let k : RxKey := { ide := f.ide, id := f.id, seq := q, gt := sof }
      let dup := s.isDup c k
      let s := s.remember c k
      if dup then s.inc (Reg.SBC_CNT_SUPP c.val) else keep s

def execCanFrameReceived (c : Fin 4) (f : CanFrame) (esi rtr : Bool) (sof : Nat) (s : State) :
    Host.Outcome State Fault Refusal := s.run fun d => d.canRx c f esi rtr sof

/-- RX_POP: the head entry of a FIFO is removed. -/
def Dev.rxPop (s : Dev) (c : Fin 4) (i : Fin 2) : Dev :=
  s.mapChan c fun h => { h with rx := h.rx.set i (h.rx[i].drop 1) }

def execRxPop (c : Fin 4) (i : Fin 2) (s : State) : Host.Outcome State Fault Refusal := s.run fun d => d.rxPop c i

end Sys2Proof.Machine
end

