-- ==== Sys2Proof/Machine/Trivet.lean ====
section
/-! DEFINITION. Trivet: the checkpoint image in bytes (R128, R388, R389), what a snapshot holds, a car's state taken from an
image (R174, R254, R259, R394). -/

namespace Sys2Proof.Machine

/-! Action records (R128) -/

def AKind.code : AKind → Nat
  | .c => 0
  | .s => 1
  | .n => 2

/-- The 64-byte record of an action in state `st`. -/
def Act.record (a : Act) (st : Nat) : List Byte :=
  layout 0 64 [pU 0 1 a.op, pU 1 1 (a.kind.code + 4 * b2n a.chord.isSome + 8 * b2n a.slot2.isSome + 16 * st),
    pU 2 1 a.tclass, pU 3 1 a.tindex, pU 4 2 a.cmd, pU 6 1 a.sq, pU 7 1 a.member, pU 8 8 a.gt,
    pU 16 2 a.tol, pU 18 2 (a.chord.getD 0xFFFF), (20, cut a.param 0 10), pU 30 2 a.gen, pU 32 4 a.dn, pU 36 2 a.epoch,
    pU 38 2 (a.slot2.getD 0xFFFF),
    (40, if a.op = 0x60 then cut a.extra 4 24 else if a.op = 0x43 then cut a.extra 0 24 else [])]

/-- The record of a continuation slot. -/
def Act.contRecord (a : Act) : List Byte := layout 0 64 [pU 0 1 0x60, pU 1 1 3, pU 2 2 a.slot, (4, cut a.extra 28 36)]

/-- The action that a record in `slot` holds; `c` is its continuation record, if any. -/
def actOf (slot : Nat) (b c : List Byte) : Act :=
  let k := byteAt b 1 % 4
  let op := byteAt b 0
  { op := op, kind := if k = 0 then .c else if k = 1 then .s else .n, tclass := byteAt b 2, tindex := byteAt b 3,
    cmd := leAt b 4 2, sq := byteAt b 6 % 32, member := byteAt b 7,
    chord := if bit (byteAt b 1) 2 then some (leAt b 18 2) else none, gt := leAt b 8 8, tol := leAt b 16 2,
    param := cut b 20 10,
    extra := if op = 0x60 then cut b 26 4 ++ cut b 40 24 ++ cut c 4 36 else if op = 0x43 then cut b 40 24 else [],
    gen := leAt b 30 2, dn := leAt b 32 4, epoch := leAt b 36 2, slot := slot,
    slot2 := if bit (byteAt b 1) 3 then some (leAt b 38 2) else none, place := .stored, ord := 0, late := false,
    waited := false, revoked := false, restored := true, cueSeq := 0, origin := 0 }

/-- The record in a slot of the action store. -/
def Dev.slotRecord (s : Dev) (i : Nat) : List Byte :=
  match s.ladle.acts.find? fun a => a.slot = i with
  | some a => a.record (s.placeCode a)
  | none =>
    match s.ladle.acts.find? fun a => a.slot2 = some i with
    | some a => a.contRecord
    | none => leBytes 64 0

/-- Page `i` of the action store: 64 slots. -/
def Dev.actPage (s : Dev) (i : Nat) : List Byte := (List.range 64).flatMap fun j => s.slotRecord (64 * i + j)

/-- Pages of a car's allocation, and of the group pool. -/
def carPages (n : Nat) : List Nat := (List.range 30).map fun i => 30 * n + i
def groupPages : List Nat := (List.range 32).map fun i => 480 + i

/-! Sections (R389). An image keeps its sections by type; a page of the action store stands under 0x1_0000 + its index, one
of the calibration store under 0x2_0000 + its index. -/

def actPg (i : Nat) : Nat := 0x10000 + i
def calPg (i : Nat) : Nat := 0x20000 + i

/-- The number m of R90 of an SQ: descriptors 1 to m have their effect in the present state. -/
def Dev.sqsEntry (s : Dev) (q : Nat) : Nat :=
  let mine := fun (a : AdmSlot) => a.sq = q && a.gen = s.gen && a.res.isNone && a.dn / 2 ^ 32 = s.era q
  match ((s.host.adm.filter mine).map (·.dn)).min? with
  | some m => m % 2 ^ 32 - 1
  | none => s.rd (Reg.RNG_SQ_SEQ q)

def Dev.secSqs (s : Dev) : List Byte := (List.range 32).flatMap fun q => leBytes 4 (s.sqsEntry q)

/-- A chord table entry (the layout is the model's, log entry 25): 88 bytes. -/
def Chord.bytes (c : Chord) : List Byte :=
  layout 0 24 [pU 0 2 c.ent, pU 2 2 c.cmd, pU 4 1 c.sq, pU 5 1 c.count, pU 6 2 c.gen, pU 8 4 c.dn, pU 12 4 (c.win / 1000), pU 16 8 c.gt]
    ++ (List.range 64).flatMap fun m =>
      match c.ends.find? fun e => e.member = m with
      | some e => leBytes 1 e.status
      | none => leBytes 1 255

/-- The entry such bytes hold. -/
def chordOf (b : List Byte) : Chord :=
  { ent := leAt b 0 2, orig := leAt b 0 2, cmd := leAt b 2 2, sq := byteAt b 4, count := byteAt b 5, gen := leAt b 6 2, dn := leAt b 8 4,
    gt := leAt b 16 8, restored := true, win := leAt b 12 4 * 1000,
    ends := (List.range 64).filterMap fun m =>
      if byteAt b (24 + m) = 255 then none else some { member := m, status := byteAt b (24 + m) } }

def Dev.secChord (s : Dev) : List Byte := s.ladle.chords.flatMap Chord.bytes

/-- LDL_CUE_SEQ, then tag, car mask, discharge landing and start GT of each EVR. What R128 has no field for follows: slot, SEQ
and origin of each cue stored (log entry 25). -/
def Dev.secGroup (s : Dev) : List Byte :=
  let cues := s.ladle.acts.filter fun a => a.kind = .n
  let group := fun (g : EvrGroup) =>
    let e := (List.finRange 16).findSome? fun (n : Fin 16) => (s.ilk n).evr.bind fun e => if e.tag = g.tag then some e else none
    leBytes 4 g.tag ++ leBytes 2 (g.cars.map fun n => 2 ^ n).sum ++ leBytes 1 ((e.map (·.land)).getD 0) ++ leBytes 1 0
      ++ leBytes 8 ((e.map (·.start)).getD 0)
  let cue := fun (a : Act) => leBytes 4 a.slot ++ leBytes 4 a.cueSeq ++ leBytes 4 a.origin
  leBytes 4 (s.rd Reg.LDL_CUE_SEQ) ++ leBytes 4 s.evrs.length ++ s.evrs.flatMap group ++ leBytes 4 cues.length
    ++ cues.flatMap cue

/-- SEQ and origin of the cue in a slot, as a group section gives them. -/
def cueIdIn (b : List Byte) (slot : Nat) : Option (Nat × Nat) :=
  let at' := 8 + 16 * leAt b 4 4
  (List.range (leAt b at' 4)).findSome? fun i =>
    let j := at' + 4 + 12 * i
    if leAt b j 4 = slot then some (leAt b (j + 4) 4, leAt b (j + 8) 4) else none

/-- Identity records and SEED of every car. -/
def Dev.secSlid (s : Dev) : List Byte :=
  (List.finRange 16).flatMap fun (n : Fin 16) =>
    let r := s.nv.idRec[n]
    leBytes 1 (b2n r.isSome) ++ leBytes 1 0 ++ leBytes 2 (s.rd (Reg.SLP_SEED n.val)) ++ leBytes 4 0
      ++ leBytes 8 ((r.map (·.1)).getD 0) ++ cut ((r.map (·.2)).getD []) 0 32

/-- The calibration store page of a port: length and table of a pending CAL_SWAP. -/
def Dev.calPage (s : Dev) (n : Fin 16) (p : Fin 2) : List Byte :=
  match s.links[n].cal[p] with
  | some r => leBytes 4 r.table.length ++ cut r.table 0 4092
  | none => leBytes 4096 0

/-- Registers of a car that a CARn section carries. -/
def carRegs (n : Nat) : List RF :=
  [Reg.TRK_POS n, Reg.TRK_OFS n, Reg.TRK_SLEW_REM n, Reg.TRK_ENC_CPR_Z_REF n, Reg.TRK_SSI_ZERO n, Reg.TRK_DZB_OFS n,
   Reg.TRK_STAT_SUSPECT n, Reg.TRK_STAT_AT_REST n, Reg.TRK_STAT_PSTATE n, Reg.TRK_STAT_TABLE n, Reg.TRK_STAT_DIR n,
   Reg.TRK_IDX_STAT_GOOD_RUN n, Reg.TRK_IDX_STAT_CONSEC n, Reg.TRK_LW_ZERO n, Reg.TRK_LOAD_STAT_STALE_ZERO n,
   Reg.ILK_STAT_MODE n, Reg.ILK_STAT_PREV_MODE n, Reg.ILK_STAT_FIRE n, Reg.ILK_STAT_SAFE_LATCH n,
   Reg.ILK_STAT_SAFE_CAUSE n] ++ (List.range 2).flatMap fun d =>
    [Reg.DOR_CNT_CYC n d, Reg.DOR_CNT_REV n d, Reg.DOR_CNT_OBS n d, Reg.DOR_CNT_NUDGE n d, Reg.DOR_CNT_FAULT n d]

/-- A key of the model's own for state that no register holds: kind and index (log entry 25). -/
def xk (kind i : Nat) : Nat := 2 ^ 32 * kind + i

/-- How a car's active trip goes on after a takeover: 1 a stop, 2 a creep, 3 a relevel, each with a target (R182, R190); 0 where
none does. -/
def Dev.tripCode (s : Dev) (n : Fin 16) : Nat :=
  match s.activeTrip n with
  | some t =>
    if t.land.isNone || t.phase = .ended || t.phase = .arrived then 0
    else match t.kind with
      | .stop => 1
      | .creep => 2
      | .relevel => 3
      | _ => 0
  | none => 0

/-- CARn as pairs of key and value. -/
def Dev.carPairs (s : Dev) (n : Fin 16) : List (Nat × Nat) :=
  let c := s.cars[n]
  let i64 := ofSigned 64
  let idx := fun (k : Nat) (l : List Nat) => (List.range l.length).map fun i => (xk k i, l.getD i 0)
  let door := fun (d : Fin 2) =>
    let m := c.fm[d]
    (List.range 32).map (fun i => (xk 3 (64 * d.val + i), m.fric.getD i 0))
      ++ [(xk 3 (64 * d.val + 32), m.cycles), (xk 3 (64 * d.val + 33), b2n m.preset)]
  (carRegs n.val).map (fun f => (f.key, s.rd f))
    ++ c.trk.ltab.map (fun p => (xk 1 p.1, p.2))
    ++ idx 2 (c.mot.calls.map fun q => q.land + 2 ^ 8 * q.kind + 2 ^ 16 * q.doors + 2 ^ 24 * q.tag)
    ++ door 0 ++ door 1
    ++ (match c.ilk.evr with
        | some e => [(xk 4 0, e.step), (xk 4 1, e.land), (xk 4 2, e.tag), (xk 4 3, e.start)]
        | none => [])
    ++ (match c.trk.zeroGt with
        | some g => [(xk 5 0, g)]
        | none => [])
    ++ idx 6 c.ilk.trackGt
    ++ [(xk 7 0, b2n c.mot.up), (xk 7 1, match c.mot.trip with
          | some t => (t.land.map (· + 1)).getD 0
          | none => 0), (xk 7 2, b2n (c.mot.trip.any fun t => t.up)), (xk 7 3, s.tripCode n)]
    ++ [(xk 8 0, c.ilk.rclLand), (xk 8 1, c.ilk.rclDoors), (xk 8 2, (c.ilk.home.map (· + 1)).getD 0),
        (xk 8 3, i64 c.ilk.pRest), (xk 8 4, b2n c.ilk.ucmOn), (xk 8 5, b2n c.ilk.ucmWait), (xk 8 6, b2n c.ilk.oosPend),
        (xk 8 7, b2n c.mot.oosStop)]
    ++ [(xk 9 0, b2n (s.snapIn n 28)), (xk 9 1, i64 c.trk.cnt), (xk 9 2, b2n c.trk.zValid)]

def pairBytes (l : List (Nat × Nat)) : List Byte := l.flatMap fun p => leBytes 8 p.1 ++ leBytes 8 p.2
def pairsOf (b : List Byte) : List (Nat × Nat) :=
  (List.range (b.length / 16)).map fun i => (leAt b (16 * i) 8, leAt b (16 * i + 8) 8)

/-- Cars this controller holds. -/
def Dev.ownCars (s : Dev) : List (Fin 16) := (List.finRange 16).filter fun n => s.own n

/-- Every section of the present state: the cars held, and from the Duty the group state (R387). -/
def Dev.snapSecs (s : Dev) : List (Nat × List Byte) :=
  let cars := s.ownCars
  let duty := decide (s.rd Reg.PBX_STAT_ROLE = 0)
  [(1, s.secSqs)]
    ++ ((cars.flatMap fun n => carPages n.val) ++ (if duty then groupPages else [])).map (fun i => (actPg i, s.actPage i))
    ++ [(3, s.secChord)] ++ (if duty then [(4, s.secGroup)] else []) ++ [(5, s.secSlid)]
    ++ cars.flatMap (fun n => [(calPg (2 * n.val), s.calPage n 0), (calPg (2 * n.val + 1), s.calPage n 1)])
    ++ cars.map (fun n => (0x10 + n.val, pairBytes (s.carPairs n)))

/-! The image in bytes (R388) -/

/-- SHA-256 of the active configuration image; 0 where none is active. -/
def Dev.activeHash (s : Dev) : List Byte := (List.range 8).flatMap fun w => leBytes 4 (s.rd (Reg.SEC_IMG_HASH w))

/-- A section of the image: type, length, payload padded to a multiple of 8. -/
def secBytes (ty : Nat) (b : List Byte) : List Byte :=
  leBytes 2 ty ++ leBytes 2 0 ++ leBytes 4 b.length ++ b ++ leBytes ((8 - b.length % 8) % 8) 0

/-- Sections as they stand in an image: pages of one store in one section. -/
def imageSecs (l : List (Nat × List Byte)) : List (Nat × List Byte) :=
  let pages := fun (lo : Nat) =>
    (l.filter fun p => decide (lo ≤ p.1) && decide (p.1 < lo + 0x10000)).flatMap fun p =>
      leBytes 4 (p.1 - lo) ++ leBytes 4 0 ++ p.2
  let some' := fun (ty : Nat) (b : List Byte) => if b.isEmpty then [] else [(ty, b)]
  (l.filter fun p => p.1 = 1) ++ some' 2 (pages 0x10000) ++ (l.filter fun p => decide (3 ≤ p.1) && decide (p.1 ≤ 5))
    ++ some' 6 (pages 0x20000) ++ l.filter fun p => decide (0x10 ≤ p.1) && decide (p.1 < 0x20)

/-- Sections that differ from those of a base. -/
def deltaSecs (base new : List (Nat × List Byte)) : List (Nat × List Byte) := new.filter fun p => !base.contains p

/-- A checkpoint in bytes, the 64-byte header before its sections (R388, R389); `base` is the SEQ of its base, 0 for a full one. -/
def Dev.imageBytes (s : Dev) (img : Image) (base : Nat) (secs : List (Nat × List Byte)) : List Byte :=
  let l := imageSecs secs
  let body := l.flatMap fun p => secBytes p.1 p.2
  let head := layout 0 56 [pU 0 4 0x54564B43, pU 4 1 1, pU 5 1 (if base = 0 then 1 else 0), pU 6 1 (b2n img.hand),
    pU 7 1 s.xy, pU 8 4 img.seq, pU 12 4 base, pU 16 8 img.gt, pU 24 2 img.cars, pU 28 4 (64 + body.length),
    pU 32 4 l.length, pU 36 4 img.gen, pU 40 4 (s.rd (Reg.SEC_IMG_HASH 0))]
  head ++ leBytes 4 (crc32 head) ++ leBytes 4 (crc32 body) ++ body

/-- Sections read from the bytes after the header; none where they do not fill them. -/
def readImage : Nat → List Byte → Option (List (Nat × List Byte))
  | _, [] => some []
  | 0, _ => none
  | n + 1, b =>
    let len := leAt b 4 4
    let whole := 8 + len + (8 - len % 8) % 8
    if b.length < whole then none
    else (readImage n (b.drop whole)).map fun l => (leAt b 0 2, (b.drop 8).take len) :: l

/-- Pages of a section of pages, under their own types. -/
def pagesOf (lo : Nat) (b : List Byte) : List (Nat × List Byte) :=
  (List.range (b.length / 4104)).map fun i => (lo + leAt b (4104 * i) 4, (b.drop (4104 * i + 8)).take 4096)

/-- Sections as an image keeps them. -/
def splitSecs (l : List (Nat × List Byte)) : List (Nat × List Byte) :=
  l.flatMap fun p => if p.1 = 2 then pagesOf 0x10000 p.2 else if p.1 = 6 then pagesOf 0x20000 p.2 else [p]

/-- The car that a section belongs to. -/
def secCar (ty : Nat) : Option Nat :=
  if 0x10 ≤ ty && ty < 0x20 then some (ty - 0x10)
  else if 0x10000 ≤ ty && ty < 0x10000 + 480 then some ((ty - 0x10000) / 30)
  else if 0x20000 ≤ ty && ty < 0x20020 then some ((ty - 0x20000) / 2)
  else none

/-- New sections laid over those of a base; cars outside the mask are removed (R389). -/
def mergeSecs (base new : List (Nat × List Byte)) (cars : Nat) : List (Nat × List Byte) :=
  ((base.filter fun p => new.all fun q => q.1 != p.1) ++ new).filter fun p =>
    match secCar p.1 with
    | some n => bit cars n
    | none => true

/-- What a received checkpoint comes to (R390): its image, or the status of its refusal. -/
def Dev.buildImage (s : Dev) (b : List Byte) : Image ⊕ Nat :=
  let head := b.take 56
  let body := b.drop 64
  let full := decide (byteAt b 5 = 1)
  let base := s.tvt.image
  if s.on Reg.TVT_STAT_DAMAGED && (!full || s.tvt.owe3) then .inr 3
  else if b.length < 64 || leAt b 0 4 != 0x54564B43 || crc32 head != leAt b 56 4 || crc32 body != leAt b 60 4
      || leAt b 28 4 != b.length then .inr 1
  else if !full && base.map (·.seq) != some (leAt b 12 4) then .inr 2
  else match readImage (leAt b 32 4) body with
    | none => .inr 1
    | some l =>
      let secs := splitSecs l
      let cars := leAt b 24 2
      .inl { seq := leAt b 8 4, gt := leAt b 16 8, cars := cars, hand := bit (byteAt b 6) 0, gen := leAt b 36 4, eras := [], opens := [],
             secs := mergeSecs (if full then [] else (base.map (·.secs)).getD []) secs cars }

/-- A section of the partner's image that is there and not damaged. -/
def Dev.imgSec (s : Dev) (ty : Nat) : Option (List Byte) :=
  match s.tvt.image with
  | some i => if s.tvt.hurt.contains ty then none else (i.secs.find? fun p => p.1 = ty).map (·.2)
  | none => none

/-- An action of the image with what its record does not hold, a cue's SEQ and origin; none where the group section is
damaged. -/
def Dev.fullAct (s : Dev) (a : Act) : Option Act :=
  if a.kind = .n then
    ((s.imgSec 4).bind fun b => cueIdIn b a.slot).map fun x => { a with cueSeq := x.1, origin := x.2 }
  else some a

/-! A car from the image (R174, R180, R254, R259) -/

/-- A car in an EVR joins the group of its tag (R259). -/
def Dev.evrJoin (s : Dev) (n : Fin 16) (e : Evr) : Dev :=
  let s :=
    if s.evrs.any fun g => g.tag = e.tag then
      { s with evrs := s.evrs.map fun (g : EvrGroup) =>
          if g.tag = e.tag && !g.cars.contains n.val then { g with cars := g.cars ++ [n.val] } else g }
    else { s with evrs := s.evrs ++ [{ tag := e.tag, cars := [n.val], parked := [] }] }
  s.setEvr n (some e)

/-- The position state after a takeover (R174). -/
def Dev.takePos (s : Dev) (n : Fin 16) (g : Nat → Nat) (snap : Nat) : Dev :=
  let k := n.val
  let kept := s.on (Reg.TRK_STAT_AT_REST k) && g (xk 9 0) = 1 && decide ((s.trk n).lastEdge ≤ snap)
  if s.on (Reg.TRK_ENC_CFG_TYPE k) || kept || 2 ≤ s.pst k then s
  else s.unverify n 0

/-- A car's engine loaded from a CARn section of an image whose snapshot is at `snap`. -/
def Dev.loadCar (s : Dev) (n : Fin 16) (b : List Byte) (snap : Nat) : Dev :=
  let k := n.val
  let l := pairsOf b
  let g := fun (key : Nat) => ((l.find? fun p => p.1 = key).map (·.2)).getD 0
  let has := fun (key : Nat) => l.any fun p => p.1 = key
  let kind := fun (j : Nat) => (l.filter fun p => p.1 / 2 ^ 32 = j).map fun p => (p.1 % 2 ^ 32, p.2)
  let edge := (s.trk n).lastEdge
  let s := (carRegs k).foldl (fun (s : Dev) (f : RF) => if has f.key then s.wr f (g f.key) else s) s
  let calls := (kind 2).map fun p =>
    ({ land := p.2 % 256, kind := p.2 / 2 ^ 8 % 256, doors := p.2 / 2 ^ 16 % 256, tag := p.2 / 2 ^ 24 } : Call)
  let door := fun (d : Nat) =>
    ({ fric := (List.range 32).map fun i => g (xk 3 (64 * d + i)), cycles := g (xk 3 (64 * d + 32)),
       preset := g (xk 3 (64 * d + 33)) = 1, clean := false } : DoorM)
  let c := Car.start (kind 1) #v[door 0, door 1]
  let zero := if has (xk 5 0) then some (g (xk 5 0)) else none
  let home := if g (xk 8 2) = 0 then none else some (g (xk 8 2) - 1)
  let kinds : List TripKind := [.stop, .creep, .relevel]
  let trip := if g (xk 7 3) = 0 then none
    else kinds[g (xk 7 3) - 1]?.map fun j => mkTrip j (some (g (xk 7 1) - 1)) (g (xk 7 2) = 1)
  let s := s.mapCar n fun _ => { c with
    trk := { c.trk with cnt := toSigned 64 (g (xk 9 1)), zValid := g (xk 9 2) = 1, zeroGt := zero, lastEdge := edge,
                        pos0 := toSigned 32 (g (Reg.TRK_POS k).key) }
    mot := { c.mot with calls := calls, up := g (xk 7 0) = 1, oosStop := g (xk 8 7) = 1, trip := trip, again := trip.isSome }
    ilk := { c.ilk with rclLand := g (xk 8 0), rclDoors := g (xk 8 1), home := home, pRest := toSigned 64 (g (xk 8 3)),
                        ucmOn := g (xk 8 4) = 1, ucmWait := g (xk 8 5) = 1, restDue := g (xk 7 1) != 0, oosPend := g (xk 8 6) = 1,
                        trackGt := (kind 6).map (·.2) } }
  let s := s.flag (Reg.TRK_STAT_SLEWING k) (s.rd (Reg.TRK_SLEW_REM k) != 0)
  let s := (s.flag (Reg.MOT_STAT_TRIP k) trip.isSome).flag (Reg.MOT_STAT_RELEV k) (g (xk 7 3) = 3)
  let s :=
    if s.rd (Reg.TRK_STAT_TABLE k) = 0 then s
    else s.mapNv fun v => { v with learned := v.learned.set n (some
      { count := s.landings k, words := (kind 1).filter fun q => q.1 % 8 < 4, ssiZero := s.rd (Reg.TRK_SSI_ZERO k) }) }
  let s :=
    if has (xk 4 2) then
      s.evrJoin n { step := g (xk 4 0), land := g (xk 4 1), tag := g (xk 4 2), start := g (xk 4 3) }
    else s
  s.takePos n g snap

/-- A car's engine at start-up: OUT_OF_SERVICE, FIRE latch clear, the table by R159, the load zero by R180 (R254). -/
def Dev.freshCar (s : Dev) (n : Fin 16) : Dev :=
  let edge := (s.trk n).lastEdge
  let s := s.mapCar n fun c =>
    let d := Car.start c.trk.ltab c.fm
    { d with trk := { d.trk with lastEdge := edge } }
  let s := (s.wr (Reg.ILK_STAT_MODE n.val) 5).wr (Reg.ILK_STAT_PREV_MODE n.val) 5
  (s.adoptTable n).zeroRestore n

end Sys2Proof.Machine
end

