-- ==== Sys2Proof/Machine/Contain.lean ====
section
/-! DEFINITION. Fault containment (R354 to R368): correctable errors, isolation of engines, ports and channels, Larder pages,
replica checks (R53, R54). -/

namespace Sys2Proof.Machine

/-! Correctable errors (R354) -/

/-- One hour of GT, ns. -/
def hourNs : Nat := 3600000000000

/-- MEM_ERROR (R406): region or 0xFF, unit, page, errors in the hour. -/
def Dev.memError (s : Dev) (sev region unit page n : Nat) : Dev :=
  s.note 0x8006 sev 83 0 0 [pU 28 1 region, pU 29 1 unit, pU 32 4 page, pU 36 4 n]

/-- The unit that a count of correctable errors is kept for: the five domains of an engine are one, named by the first of
them (R354). -/
def corrUnit (region unit : Nat) : Nat := if region = 0xFF && unit < 80 then unit / 5 * 5 else unit

/-- ECC_CORRECTABLE of a unit: a Larder region, or 0xFF with the number of the unit. -/
def Dev.eccCorr (s : Dev) (region unit page : Nat) : Dev :=
  let unit := corrUnit region unit
  let s := s.inc Reg.CTN_CNT_CORR
  let h := s.gt / hourNs
  let same := fun (r : CorrRun) => r.region = region && r.unit = unit
  let r := match s.ctn.corr.find? same with
    | some r => if r.start = h then { r with count := r.count + 1 } else { r with start := h, count := 1, noted := false }
    | none => { region := region, unit := unit, start := h, count := 1, noted := false }
  let past := decide (s.rd Reg.CTN_CTRL_CORR_LIM < r.count) && !r.noted
  let s := s.mapCtn fun c => { c with corr := { r with noted := r.noted || past } :: c.corr.filter fun x => !same x }
  if past then s.memError 5 region unit page r.count else s

def execEccCorrectable (region : Option (Fin 6)) (unit : Fin 256) (page : Fin 1048576) (s : State) :
    Host.Outcome State Fault Refusal :=
  s.run fun d => d.eccCorr ((region.map (·.val)).getD 0xFF) (if region.isSome then 0 else unit.val) page.val

/-! Engines (R355 to R361) -/

/-- Descriptors that run on a car complete: a learn trip as an abort, a CAR_MODE not yet applied, a SLICE_CONFIRM, a LEASE_RELEASE (R359). -/
def Dev.engineDescEnd (s : Dev) (n : Fin 16) : Dev :=
  let s := s.learnDrop n
  let req := (s.ilk n).req
  let s := s.mapIlk n fun i => { i with req := [] }
  let s := req.foldl (fun (s : Dev) (r : ModeReq) => s.answer r.sq r.dn (AdmRes.refuse Stat.noLease)) s
  let hand := s.pbx.handing.filter fun h => h.car = n.val
  let s := (s.pushEnd n).mapPbx fun p => { p with handing := p.handing.filter fun h => h.car != n.val }
  hand.foldl (fun (s : Dev) (h : Handing) =>
    match h.who with
    | some (q, d) => s.answer q d (AdmRes.done 0 0)
    | none => s) s

/-- An uncorrectable error of a unit outside Larder, counted (R354). -/
def Dev.uncorr (s : Dev) (ecc : Bool) : Dev := if ecc then s.inc Reg.CTN_CNT_UNCORR else s

/-- ENGINE_ISOLATION: a running engine fails with a cause (R356). -/
def Dev.isolateEngine (s : Dev) (n : Fin 16) (cause : Nat) : Dev :=
  let k := n.val
  if !s.engineOn k || bit (s.rd Reg.CTN_ISO_CE) k then s
  else
    let held := s.own n
    let port := held && s.framing n
    let s := (s.setEngine k Dom.isolated).wr Reg.CTN_ISO_CE (setBit (s.rd Reg.CTN_ISO_CE) k true)
    let s := (s.flag (Reg.DRP_STAT_SENDING k) false).mapMot n fun m => { m with seq := none, rel := false, openReq := [], sceneReq := [] }
    let s := s.engineDescEnd n
    let mine := fun (a : Act) => a.car = some k && a.place != .delivered
    let lost := (s.ladle.acts.filter mine).length + s.calFired n
    let s := s.resolveAll Stat.engineLost mine
    let s := s.calEndFired n Stat.engineLost
    let s := ((s.wr (Reg.CTN_CE_LOST k) (min lost 65535)).flag (Reg.CTN_CE_VALID k) true).wr (Reg.CTN_CE_CAUSE k) cause
    let s := s.raise .engineIsolated k [pU 16 1 k, pU 17 1 cause, pU 20 4 lost]
    let s := if (s.ilk n).evr.isSome then s.evrLeave n false else s
    let s := s.mapPbx fun p => { p with rel := setBit p.rel k (held || bit p.rel k), hand := setBit p.hand k false }
    let s := s.leaseLose n 0xFF 2
    s.mapLink n fun l => { l with rel := port }

def execEngineIsolation (n : Fin 16) (cause : Fin 4) (s : State) : Host.Outcome State Fault Refusal :=
  s.run fun d => (d.uncorr (cause.val = 0 && d.engineOn n.val)).isolateEngine n cause.val

/-- The handshake watchdog of a tick: `missed` names the engines whose answer was missing or wrong (R355). -/
def Dev.watchEngine (s : Dev) (n : Fin 16) (missed : Bool) : Dev :=
  if !s.engineOn n.val then s
  else
    let m := if missed then s.ctn.missed[n] + 1 else 0
    let s := s.mapCtn fun c => { c with missed := c.missed.set n m }
    if s.rd Reg.CTN_CTRL_WDT_TICKS ≤ m then s.isolateEngine n 1 else s

/-! Ports and channels (R362 to R364) -/

/-- SLICE_PORT_ISOLATION: SLICE_LINK is posted whatever state the link had (R362). -/
def Dev.isolatePort (s : Dev) (n : Fin 16) : Dev :=
  let k := n.val
  if bit (s.rd Reg.CTN_ISO_SP) k || !s.carOn k then s
  else
    let s := (s.setDom (80 + k) Dom.isolated).wr Reg.CTN_ISO_SP (setBit (s.rd Reg.CTN_ISO_SP) k true)
    let cals := if s.own n then s.calFired n else 0
    let s := s.leaseLose n 0xFF 1
    let acts := s.ladle.acts.filter fun a => a.car = some k
    let out := acts.filter fun a => a.place = .delivered
    let s := s.resolveAll Stat.noLease fun a => a.car = some k
    let s := s.actionList 2 4 47 2 k (actNames out)
    let s := (s.waitsEnd n Stat.noLease true).pushEnd n
    let s := (s.wr (Reg.SLP_RETRY_STAT_ATTEMPTS k) 0).mapLink n fun l => { l with retry := none, rel := false }
    let s := (s.showLink n Lk.lost).linkEvent n
    s.note 0x8014 6 47 2 k [pU 28 1 k, pU 32 4 (acts.length + cals)]

/-- SLICE_PORT_ISOLATION: a failed memory (`ecc`) or handshake watchdog. -/
def execSlicePortIsolation (n : Fin 16) (ecc : Bool) (s : State) : Host.Outcome State Fault Refusal :=
  s.run fun d => (d.uncorr (ecc && d.carOn n.val)).isolatePort n

/-- ETH_PORT_ISOLATION (R363): a port in service is one without link from now on; a domain that is OFF or in RESET is left
as it is (R443). The record is a MEM_ERROR of a unit outside Larder, its unit
the port (log entry 26). -/
def Dev.isolateEth (s : Dev) (p : Fin 2) : Dev :=
  let f := if p = 0 then Reg.CTN_ISO_IO_ETH0 else Reg.CTN_ISO_IO_ETH1
  if s.dom (97 + p.val) != Dom.on then s
  else
    let s := (s.setDom (97 + p.val) Dom.isolated).flag f true
    let s := if s.actPort = p then s.ptpLinkLost else s.flag (Reg.PTP_ETH_STAT_LINK p.val) false
    s.memError 6 0xFF (97 + p.val) 0 0

def execEthPortIsolation (p : Fin 2) (ecc : Bool) (s : State) : Host.Outcome State Fault Refusal :=
  s.run fun d => (d.uncorr (ecc && d.dom (97 + p.val) = Dom.on)).isolateEth p

/-- CHANNEL_ISOLATION (R364): as a channel that has entered BUS_OFF, without recovery. -/
def Dev.isolateChan (s : Dev) (c : Fin 4) : Dev :=
  if bit (s.rd Reg.CTN_ISO_IO_SB) c.val || !s.chEn c then s
  else
    let s := (s.setDom (99 + c.val) Dom.isolated).wr Reg.CTN_ISO_IO_SB (setBit (s.rd Reg.CTN_ISO_IO_SB) c.val true)
    if s.chSt c = Ch.busOff then (s.flag (Reg.SBC_CH_STAT_RECOVERING c.val) false).busEvent c 3 0
    else s.enterBusOff c false

/-- CHANNEL_ISOLATION: a parity error of a mailbox or FIFO. -/
def execChannelIsolation (c : Fin 4) (s : State) : Host.Outcome State Fault Refusal :=
  s.run fun d => (d.uncorr (d.chEn c)).isolateChan c

/-! Larder (R365, R392) -/

/-- A spare page taken, if one is free. -/
def Dev.retirePage (s : Dev) : Dev :=
  if s.rd Reg.CTN_LAR_SPARES = 0 then s
  else (s.wr Reg.CTN_LAR_SPARES (s.rd Reg.CTN_LAR_SPARES - 1)).inc Reg.CTN_CNT_RETIRE

/-- A mirrored page served from its other copy. -/
def Dev.mirrorServe (s : Dev) (region page : Nat) : Dev :=
  if s.rd Reg.CTN_LAR_SPARES = 0 then
    let s := (s.inc Reg.CTN_CNT_RETIRE).flag Reg.CTN_LAR_SINGLE true
    (s.mapCtn fun c => { c with single := (region, page) :: c.single }).memError 5 region 0 page 0
  else s.retirePage

/-- Both copies of page `off` of a mirrored region are lost: the state without what stood in it, and the actions affected. -/
def Dev.doubleLoss (s : Dev) (region off : Nat) : List (Nat × Nat) × Dev :=
  if region = 0 then
    let hit := fun (a : Act) => a.slot / 64 = off || a.slot2.map (· / 64) = some off
    let l := actNames (s.ladle.acts.filter hit)
    if off < 480 then (l, s.isolateEngine (Fin.ofNat 16 (off / 30)) 0) else (l, s.resolveAll Stat.expired hit)
  else if region = 1 then
    let l := (s.host.backlog.drop (128 * off)).take 128
    (l.map fun b => (b.cqe.sq, b.cqe.cmd),
      (s.incBy Reg.CTN_CNT_LOSTCMP l.length).mapHost fun h => { h with
        backlog := h.backlog.take (128 * off) ++ h.backlog.drop (128 * off + 128) })
  else
    let n := Fin.ofNat 16 (off / 2)
    let p := Fin.ofNat 2 off
    match (s.lnk n).cal[p] with
    | none => ([], s)
    | some r =>
      let l := [(r.act.sq, r.act.cmd)]
      if r.fired then (l, s.calEnd n p Stat.expired) else (l, s.resolve r.act Stat.expired 0)

/-- The checkpoint in flight is abandoned, and the next one is full (R378, R379, R392); requests it served wait on. -/
def Dev.ckpAbandon (s : Dev) : Dev :=
  s.mapTvt fun t => { t with fly := none, full := true, want := t.serve.map (fun w => (w.1, w.2, 1)) ++ t.want, serve := [] }

/-- A page of the checkpoint buffers: 0 outgoing, 1 the image being built, from 2 on a section of the acknowledged image
(R392). -/
def Dev.ckpHurt (s : Dev) (off : Nat) : Dev :=
  if off = 0 then (if s.tvt.fly.isSome then s.ckpAbandon else s)
  else if off = 1 then s.mapTvt fun t => { t with rx := if t.rx.isEmpty then [] else t.rx ++ [(0xFFFFFFFF, [])] }
  else if s.tvt.image.isSome then
    let s := ((s.flag Reg.TVT_STAT_DAMAGED true).flag Reg.TVT_STAT_READY false).mapTvt fun t => { t with
      hurt := (off - 2) :: t.hurt, owe3 := true }
    s.note 0x800B 5 80 0 0 [pU 28 1 2, pU 29 1 (off - 2)]
  else s

/-- Records of a Larder page of the ring are lost, counted per severity; LOG_DROP is posted and MEM_ERROR written (R365, R406,
16). -/
def Dev.ringPageLost (s : Dev) (off page : Nat) : Dev :=
  let hit := fun (r : Rec) => decide (r.seq % s.ringCap / 64 = off)
  let l := s.log.ring.filter hit
  let s := s.mapLog fun x => { x with ring := x.ring.filter fun r => !hit r }
  (l.foldl (fun (s : Dev) (r : Rec) => s.logDropped r.sev) s).dropReport.memError 6 3 0 page 0

/-- LARDER_UNCORRECTABLE: page `off` of a region, `page` of LP4X; `both` tells that the other copy is lost too. -/
def Dev.larder (s : Dev) (region off page : Nat) (both : Bool) : Dev :=
  let s := s.inc Reg.CTN_CNT_UNCORR
  let alone := s.ctn.single.contains (region, page)
  let s :=
    if region ≤ 2 && !both && !alone then s.mirrorServe region page
    else if region ≤ 2 then
      let (l, s) := (s.inc Reg.CTN_CNT_DOUBLE).doubleLoss region off
      let s := if alone then s.retirePage else s
      (s.memError 6 region 0 page 0).actionList 3 4 83 0 0 l
    else
      let s := s.retirePage
      if region = 3 then s.ringPageLost off page
      else if region = 4 then s.ckpHurt off
      else s.mapLog fun x => { x with trace := x.trace.take (64 * off) ++ x.trace.drop (64 * off + 64) }
  (s.wr Reg.CTN_LAR_LAST_REGION region).wr Reg.CTN_LAR_LAST_PAGE page

def execLarderUncorrectable (region : Fin 6) (off : Nat) (page : Fin 1048576) (both : Bool) (s : State) :
    Host.Outcome State Fault Refusal := s.run fun d => d.larder region.val off page.val both

/-! Replicas (R53, R54) -/

/-- Engine domain or not, an island whose replica deviates: the bit is set; an engine is failed, another island reloads at
the next broadcast. -/
def Dev.replicaFault (s : Dev) (i : Nat) (dev : Int) : Dev :=
  let s := s.wr Reg.TSP_REPL_ERR_ISLAND (setBit (s.rd Reg.TSP_REPL_ERR_ISLAND) i true)
  if i < 16 then s.isolateEngine (Fin.ofNat 16 i) 3
  else (s.mapTime fun t => { t with reload := setBit t.reload i true }).raise .replicaFault 0 [pU 16 1 i, pI 20 4 dev]

/-- GT_BROADCAST: islands that wait reload, and what fell due there fires; `dev` gives the deviations found, ns. DESIGN
CHOICE (log entry 116): the command carries no instant and moves no GT, so what was held fires at the GT last reached. -/
def Dev.broadcast (s : Dev) (dev : List (Fin 23 × Int)) : Dev :=
  let wait := s.time.reload
  let s := s.mapTime fun t => { t with reload := 0 }
  let s := if bit wait 20 then s.fireDue s.gt else s
  let s := if bit wait 19 then (s.cueFirstAll s.gt).cueSecondAll s.gt else s
  dev.foldl (fun (s : Dev) (p : Fin 23 × Int) =>
    if p.2 < -8 || 8 < p.2 then
      if p.1.val < 16 && !s.engineOn p.1.val || bit wait p.1.val then s else s.replicaFault p.1.val p.2
    else s) s

def execGtBroadcast (dev : List (Fin 23 × Int)) (s : State) : Host.Outcome State Fault Refusal := s.run fun d => d.broadcast dev

end Sys2Proof.Machine
end

