-- ==== Sys2Proof/Machine/Pebex.lean ====
section
/-! DEFINITION. The Pebex link (R370 to R379): frames, link states, the partner's identity; roles (R380 to R382);
checkpoints sent and received (R387 to R392). -/

namespace Sys2Proof.Machine

/-! Link states (R376) -/

def Px.off : Nat := 0
def Px.search : Nat := 1
def Px.ident : Nat := 2
def Px.pending : Nat := 3
def Px.up : Nat := 4
def Px.retry : Nat := 5
def Px.lost : Nat := 6
def Px.refused : Nat := 7

/-- State of the Pebex port, and that state put to a value. -/
def Dev.px (s : Dev) : Nat := s.rd Reg.PBX_STAT_LINK
def Dev.setPx (s : Dev) (st : Nat) : Dev := s.wr Reg.PBX_STAT_LINK st

/-- A port that exchanges frames. -/
def Dev.pxFraming (s : Dev) : Bool := (decide (2 ≤ s.px) && decide (s.px ≤ 4)) || s.px = 7

/-- This controller's role: 0 Duty, 1 Standby, 3 none. -/
def Dev.role (s : Dev) : Nat := s.rd Reg.PBX_STAT_ROLE

/-- PBX_CTRL.EN starts the port, before SETUP_LOCK too (R376, R401). -/
def Dev.pbxStart (s : Dev) : Dev := if s.on Reg.PBX_CTRL_EN && s.px = Px.off then s.setPx Px.search else s

/-- EN = 1 takes effect with the lock: the boot wait begins (R380). -/
def Dev.pbxEnable (s : Dev) : Dev :=
  let g := s.gt
  if s.on Reg.PBX_CTRL_EN then s.pbxStart.mapPbx fun p => { p with boot0 := some g } else s

/-! Frames (R371) -/

/-- A frame in bytes. -/
def pexFrame (kind xy seq : Nat) (body : List Byte) : List Byte :=
  let b := leBytes 1 kind ++ leBytes 1 (128 * xy) ++ beBytes 2 ((12 + body.length) / 4) ++ beBytes 4 seq ++ body
  b ++ beBytes 4 (crc32 b)

/-- A frame sent under the next number. -/
def Dev.pexSend (s : Dev) (kind : Nat) (body : List Byte) : Dev :=
  (s.emit (.pebex (pexFrame kind s.xy s.pbx.seq body))).mapPbx fun p => { p with seq := (p.seq + 1) % 2 ^ 32 }

/-- Lengths a kind may have (R371, R372, R374). -/
def pexLen (kind : Nat) (b : List Byte) : Bool :=
  let n := b.length
  if kind = 0xC1 then n = 84 + 4 * byteAt b 29
  else if kind = 0xC2 then decide (24 ≤ n) && decide (n ≤ 4084)
  else if kind = 0xC3 then n = 20
  else if kind = 0xC4 then n = 28
  else n = 60

/-- A valid frame of a kind from the partner (R375). -/
def Dev.pexOk (s : Dev) (kind : Nat) (b : List Byte) (bad : Bool) : Bool :=
  let n := b.length
  !bad && byteAt b 0 = kind && byteAt b 1 / 128 = 1 - s.xy && n % 4 = 0 && decide (20 ≤ n) && decide (n ≤ 4096)
    && n = 4 * beAt b 2 2 && pexLen kind b && beAt b (n - 4) 4 = crc32 (b.take (n - 4))

/-- A frame handled by `go` where it is valid; discarded and counted otherwise. -/
def Dev.pexRx (s : Dev) (kind : Nat) (b : List Byte) (bad : Bool) (arr : Nat) (go : Dev → Dev) : Dev :=
  if !s.pxFraming then s
  else
    let s := s.at arr
    if s.pexOk kind b bad then go s else s.inc Reg.PBX_CNT_ERR

/-! Roles (R380 to R382, R386) -/

/-- ROLE_CHANGE; a freeze ends on the Duty that becomes Standby. -/
def Dev.setRole (s : Dev) (r cause : Nat) : Dev :=
  let old := s.role
  let s := (s.wr Reg.PBX_STAT_ROLE r).raise .roleChange 0 [pU 16 1 r, pU 17 1 cause]
  if old = 0 && r = 1 then (s.endFreeze 3).flushAdm else s

/-- A role taken in the start-up exchange, once EN = 1 has taken effect, and the end of two Duties (R380, R381). -/
def Dev.roleMeet (s : Dev) : Dev :=
  let peer := s.rd Reg.PBX_STAT_PEER_ROLE
  if s.px != Px.up then s
  else if s.role = 3 then
    if !s.locked then s
    else if peer = 0 then s.setRole 1 0 else s.setRole (if s.xy = 0 then 0 else 1) 0
  else if s.role = 0 && peer = 0 then
    let mine := popcount 16 (s.rd Reg.PBX_HELD_OWN)
    let his := popcount 16 (s.rd Reg.PBX_HELD_PEER)
    if mine < his || (mine = his && s.xy = 1) then s.setRole 1 4 else s
  else s

/-- BOOT_WAIT_ELAPSED: BOOT_WAIT_MS has passed without UP, and the controller becomes Duty (R380). -/
def Dev.bootWait (s : Dev) : Dev :=
  let late := s.pbx.boot0.any fun g => decide (g + s.rd Reg.PBX_CFG_BOOT_WAIT_MS * 1000000 ≤ s.gt)
  if s.on Reg.PBX_CTRL_EN && s.role = 3 && s.px != Px.up && late then
    (s.mapPbx fun p => { p with boot0 := none }).setRole 0 1
  else s

def execBootWaitElapsed (s : State) : Host.Outcome State Fault Refusal := s.run Dev.bootWait

/-! Drops and identity (R375 to R379) -/

/-- PEER_LINK. -/
def Dev.peerLink (s : Dev) (up new : Nat) : Dev := s.raise .peerLink 0 [pU 16 1 up, pU 17 1 new]

/-- What ends with UP: DUR, held FENCE completions, checkpoints in flight, handovers not acknowledged (R379, log entry
27). -/
def Dev.leaveUp (s : Dev) : Dev :=
  let s := (s.mapHost fun h => { h with durOn := false }).flushAdm
  let s := if s.tvt.fly.isSome then s.ckpAbandon else s.mapTvt fun t => { t with full := true }
  let s := s.mapTvt fun t => { t with rx := [], waitGt := none, stalls := 0 }
  let l := s.pbx.handing.filter fun h => !h.acked
  let d := s.pbx.duty
  let s := s.mapPbx fun p => { p with handing := p.handing.filter (·.acked), duty := none, away := 0 }
  let s := l.foldl (fun (s : Dev) (h : Handing) =>
    match h.who with
    | some (q, n) => s.answer q n (AdmRes.refuse Stat.busy)
    | none => s) s
  let s := match d with
    | some (q, n, _) => s.answer q n (AdmRes.refuse Stat.busy)
    | none => s
  s.peerLink 0 0

/-- PBX_CTRL.EN cleared: the port is OFF (R376). -/
def Dev.pbxStop (s : Dev) : Dev :=
  if s.on Reg.PBX_CTRL_EN || s.px = Px.off then s
  else
    let s := if s.px = Px.up then s.leaveUp else s
    let s := ((s.setPx Px.off).wr Reg.PBX_STAT_LANES 0).flag Reg.PBX_STAT_ID_PEND false
    let s := (s.flag Reg.PBX_STAT_IMG_MISMATCH false).wr Reg.PBX_STAT_ROLE 3
    s.mapPbx fun p => { p with got := false, miss := 0, wasUp := false, retry := none, boot0 := none, ident := none, boot := none }

/-- PEBEX_DROP; without a link TSP_PEER_DIFF is 0, which lies below its limit (02, R61). -/
def Dev.pebexDrop (s : Dev) : Dev :=
  if !s.pxFraming then s
  else
    let st := s.px
    let g := s.gt
    let s := ((s.inc Reg.PBX_CNT_DROP).wr Reg.PBX_STAT_LANES 0).mapPbx fun p => { p with got := false, miss := 0 }
    let s := ((s.wr Reg.PBX_RETRY_STAT_ATTEMPTS 0).wr Reg.TSP_PEER_DIFF 0).mapTime fun t => { t with peerOver := false }
    let s := (if st = Px.up then s.leaveUp else s).mapPbx fun p => { p with dropGt := g }
    if st = Px.refused || (st = Px.ident && !s.pbx.wasUp) then s.setPx Px.search
    else
      let t := g + s.rd Reg.PBX_RETRY_T_MS * 1000000
      (s.setPx Px.retry).mapPbx fun p => { p with retry := some t }

def execPebexDrop (s : State) : Host.Outcome State Fault Refusal := s.run Dev.pebexDrop

/-- PEBEX_LOCK: the retry timer ends. -/
def Dev.pebexLock (s : Dev) : Dev :=
  if s.px = Px.search || s.px = Px.retry || s.px = Px.lost then
    ((s.setPx Px.ident).wr Reg.PBX_STAT_LANES 3).mapPbx fun p => { p with retry := none, sent := [], rx := none }
  else s

def execPebexLock (s : State) : Host.Outcome State Fault Refusal := s.run Dev.pebexLock

/-- PEBEX_RETRY_EXPIRY: T_MS has passed since the drop (R379). -/
def Dev.pebexExpire (s : Dev) : Dev :=
  if s.px = Px.retry && s.pbx.retry.any fun g => decide (g ≤ s.gt) then (s.setPx Px.lost).mapPbx fun p => { p with retry := none } else s

def execPebexRetryExpiry (s : State) : Host.Outcome State Fault Refusal := s.run Dev.pebexExpire

/-- LANE_LOSS: an S4 record; with both lanes gone the link drops (R370, R375). -/
def Dev.laneLoss (s : Dev) (i : Nat) : Dev :=
  if !s.pxFraming || !bit (s.rd Reg.PBX_STAT_LANES) i then s
  else
    let m := setBit (s.rd Reg.PBX_STAT_LANES) i false
    let s := (s.wr Reg.PBX_STAT_LANES m).note 0x800B 4 80 0 0 [pU 28 1 0, pU 29 1 i]
    if m = 0 then s.pebexDrop else s.inc Reg.PBX_CNT_DEGR

def execLaneLoss (i : Fin 2) (s : State) : Host.Outcome State Fault Refusal := s.run fun d => d.laneLoss i.val

/-- LANE_RESTORED. -/
def Dev.laneBack (s : Dev) (i : Nat) : Dev :=
  if s.pxFraming then s.wr Reg.PBX_STAT_LANES (setBit (s.rd Reg.PBX_STAT_LANES) i true) else s

def execLaneRestored (i : Fin 2) (s : State) : Host.Outcome State Fault Refusal := s.run fun d => d.laneBack i.val

/-- UP entered: PEER_LINK, a full checkpoint next, roles met; no car counts as free until two heartbeats have shown it so
(R376, R379, R383). -/
def Dev.pebexUp (s : Dev) (new : Nat) : Dev :=
  let g := s.gt
  let s := ((s.setPx Px.up).flag Reg.PBX_STAT_ID_PEND false).flag Reg.PBX_STAT_PRESUMED_DEAD false
  let s := s.mapPbx fun p => { p with wasUp := true, gone := 0, retry := none, busy := 65535, busy0 := 65535 }
  let s := s.mapTvt fun t => { t with full := true, ackGt := g, waitGt := none, stalls := 0 }
  (s.peerLink 1 new).roleMeet

/-- The partner's last IDENT judged against the record and the active image (R377, R378). -/
def Dev.judgePeer (s : Dev) : Dev :=
  match s.pbx.ident with
  | none => s
  | some (step, hash) =>
    let st := s.px
    let serial := s.rd Reg.PBX_PEER_SER_HI * 2 ^ 32 + s.rd Reg.PBX_PEER_SER_LO
    if !(st = Px.ident || st = Px.pending || st = Px.up || st = Px.refused) then s
    else if step != 0xB1 || hash != s.activeHash then
      if st = Px.refused then s
      else
        let s := if st = Px.up then s.leaveUp else s
        ((s.setPx Px.refused).flag Reg.PBX_STAT_IMG_MISMATCH true).note 0x800B 5 80 0 0 [pU 28 1 1]
    else
      let s := s.flag Reg.PBX_STAT_IMG_MISMATCH false
      if st = Px.ident || st = Px.refused then
        if s.nv.peer = some serial then s.pebexUp 0
        else ((s.setPx Px.pending).flag Reg.PBX_STAT_ID_PEND true).note 0x0902 5 80 0 0 [pU 28 1 0, pU 29 1 1]
      else s

/-- IDENT_RECEIVED; another BOOT is a drop and a reinsertion at once (R375). -/
def Dev.identRx (s : Dev) (b : List Byte) (bad : Bool) (arr : Nat) : Dev :=
  s.pexRx 0xC5 b bad arr fun s =>
    let boot := beAt b 18 2
    let was := s.pbx.boot
    let hash := cut b 20 32
    let s := s.mapPbx fun p => { p with boot := some boot }
    if was.isSome && was != some boot then s.pebexDrop.pebexLock
    else
      let s := (s.wr Reg.PBX_PEER_SER_HI (beAt b 8 4)).wr Reg.PBX_PEER_SER_LO (beAt b 12 4)
      let s := (s.wr Reg.PBX_PEER_HASH (leAt hash 0 4)).wr Reg.PBX_STAT_PEER_ROLE (byteAt b 17 % 4)
      (s.mapPbx fun p => { p with ident := some (byteAt b 16, hash) }).judgePeer

def execIdentReceived (b : List Byte) (bad : Bool) (arr : Nat) (s : State) : Host.Outcome State Fault Refusal :=
  s.run fun d => d.identRx b bad arr

/-- PEER_CONFIRM: a write to PBX_CONFIRM_HI. -/
def Dev.peerConfirm (s : Dev) (v : Nat) : Dev :=
  let lo := s.rd Reg.PBX_PEER_SER_LO
  let hi := s.rd Reg.PBX_PEER_SER_HI
  if s.px = Px.pending && s.rd Reg.PBX_CONFIRM_LO = lo && v = hi then
    let s := s.mapNv fun x => { x with peer := some (hi * 2 ^ 32 + lo) }
    ((s.wr Reg.PBX_REC_SER_LO lo).wr Reg.PBX_REC_SER_HI hi).pebexUp 1
  else s

def execPeerConfirm (v : BitVec 32) (s : State) : Host.Outcome State Fault Refusal := s.run fun d => d.peerConfirm v.toNat

/-! What this controller sends each tick (R372, R378) -/

/-- A mask over the cars. -/
def carMask (f : Fin 16 → Bool) : Nat := ((List.finRange 16).map fun n => if f n then 2 ^ n.val else 0).sum

/-- ROLE as a HEARTBEAT and an IDENT code it: role, TESTED, READY, HANDOVER (R372, R374). -/
def Dev.roleByte (s : Dev) : Nat :=
  s.role + 4 * s.rd Reg.PBX_STAT_TESTED + 8 * s.rd Reg.TVT_STAT_READY + 16 * b2n s.pbx.duty.isSome

/-- Bytes 8 onward of a HEARTBEAT. -/
def Dev.hbBody (s : Dev) (log : List (Nat × Nat)) : List Byte :=
  let rx := s.pbx.rx.getD (0, 0)
  beBytes 8 (s.tickStart + 8) ++ beBytes 4 rx.1 ++ beBytes 8 rx.2
    ++ leBytes 1 s.roleByte ++ leBytes 1 log.length ++ beBytes 2 0
    ++ beBytes 2 (carMask fun n => s.own n) ++ beBytes 2 (carMask fun n => s.claims n) ++ beBytes 2 s.pbx.rel
    ++ beBytes 2 s.pbx.hand ++ beBytes 4 (s.rd Reg.TVT_TX_SEQ) ++ beBytes 4 (s.rd Reg.TVT_RX_SEQ)
    ++ (List.range 16).flatMap (fun n => beBytes 2 (s.rd (Reg.SLP_SEED n)))
    ++ log.flatMap fun e => beBytes 2 e.1 ++ leBytes 1 e.2 ++ leBytes 1 0

/-- The HEARTBEAT of a tick. -/
def Dev.sendHb (s : Dev) : Dev :=
  let log := s.pbx.log.take 255
  let q := s.pbx.seq
  let dep := s.tickStart + 8
  (s.pexSend 0xC1 (s.hbBody log)).mapPbx fun p => { p with
    log := p.log.drop 255, sent := ((q, dep) :: p.sent).take 64 }

/-- Bytes 8 onward of an IDENT. -/
def Dev.identBody (s : Dev) : List Byte :=
  beBytes 8 s.serial ++ leBytes 1 0xB1 ++ leBytes 1 s.roleByte ++ beBytes 2 s.nv.boots ++ s.activeHash ++ beBytes 4 0

/-- The IDENT of a tick, where one is due. -/
def Dev.sendIdent (s : Dev) : Dev :=
  let h := s.activeHash
  if s.px = Px.ident || h != s.pbx.lastId || 1000 ≤ s.pbx.idTick + 1 then
    (s.pexSend 0xC5 s.identBody).mapPbx fun p => { p with lastId := h, idTick := 0 }
  else s.mapPbx fun p => { p with idTick := p.idTick + 1 }

/-! HEARTBEAT_RECEIVED (R373, R383) -/

/-- One round trip, none of which counts below 0: the mean of the last 64, halved (log entry 101). -/
def Dev.pexTrip (s : Dev) (b : List Byte) (arr : Nat) : Dev :=
  match s.pbx.sent.find? fun p => p.1 = beAt b 16 4 with
  | none => s
  | some (_, dep) =>
    if beAt b 20 8 = 0 then s
    else
      let trip := ((((arr : Int) - (dep : Nat)) - ((beAt b 8 8 : Nat) - (beAt b 20 8 : Nat) : Int))).toNat
      let s := s.mapPbx fun p => { p with trips := (trip :: p.trips).take 64 }
      let t := s.pbx.trips
      (s.wr Reg.PBX_DELAY_DELAY_NS (min 65535 (t.sum / (2 * t.length)))).flag Reg.PBX_DELAY_VALID (decide (64 ≤ t.length))

/-- TSP_PEER_DIFF (R61). -/
def Dev.peerDiff (s : Dev) (b : List Byte) (arr : Nat) : Dev :=
  if !s.on Reg.PBX_DELAY_VALID then s
  else
    let d : Int := (arr : Int) - (beAt b 8 8 + s.rd Reg.PBX_DELAY_DELAY_NS : Nat)
    let s := s.wrSat Reg.TSP_PEER_DIFF d
    let lim : Int := (s.rd Reg.TSP_PEER_LIM : Nat)
    let big := d < -lim || lim < d
    let was := s.time.peerOver
    let s := s.mapTime fun t => { t with peerOver := big }
    if big && !was then s.raise .peerGtDiff 0 [pU 16 4 (s.rd Reg.TSP_PEER_DIFF)] else s

/-- Seeds, which count in every state (R281, R376). -/
def Dev.peerSeeds (s : Dev) (b : List Byte) : Dev :=
  (List.finRange 16).foldl (fun (s : Dev) (n : Fin 16) => s.seeEpoch n (beAt b (48 + 2 * n.val) 2)) s

/-- What else a HEARTBEAT says, taken while the port is UP; `go` restores the group pool where the Duty has passed by a
DUTY_HANDOVER (R385). -/
def Dev.peerSays (s : Dev) (b : List Byte) (arr : Nat) (go : Dev → Dev) : Dev :=
  let r := byteAt b 28
  let held := beAt b 32 2
  let busy := held ||| beAt b 34 2
  let log := (List.range (byteAt b 29)).map fun i => (beAt b (80 + 4 * i) 2, byteAt b (82 + 4 * i), arr)
  let passed := s.pbx.peerHanding && s.role = 1 && s.rd Reg.PBX_STAT_PEER_ROLE = 0 && r % 4 = 1
  let rel := beAt b 36 2
  let hand := beAt b 38 2
  let s := (s.wr Reg.PBX_STAT_PEER_ROLE (r % 4)).flag Reg.PBX_STAT_PEER_READY (bit r 3)
  let s := s.mapPbx fun p => { p with
    away := clearBits p.away held, busy0 := p.busy, busy := busy, peerRel := rel, peerHand := hand, peerLog := p.peerLog ++ log, peerHanding := bit r 4 }
  if passed then go (s.setRole 0 3) else s.roleMeet

/-- A HEARTBEAT that shows cars held, none of them yet seen in GUARD or FREE since: its sender is not presumed dead (R381). -/
def Dev.deadStill (s : Dev) : Dev := if s.rd Reg.PBX_HELD_PEER = 0 then s else s.flag Reg.PBX_STAT_PRESUMED_DEAD false

/-- HEARTBEAT_RECEIVED. -/
def Dev.hbRx (s : Dev) (b : List Byte) (bad : Bool) (arr : Nat) (go : Dev → Dev) : Dev :=
  s.pexRx 0xC1 b bad arr fun s =>
    let q := beAt b 4 4
    let g := beAt b 8 8
    let s := (s.pexTrip b arr).peerDiff b arr
    let s := s.mapPbx fun p => { p with got := true, miss := 0, rx := some (q, arr), peerGt := g, gone := 0 }
    let s := (s.wr Reg.PBX_HELD_PEER (beAt b 32 2)).deadStill
    if s.px = Px.refused then s
    else
      let s := s.peerSeeds b
      if s.px = Px.up then s.peerSays b arr go else s

/-! Checkpoints sent (R387, R391) -/

/-- The next checkpoint is full (R387). -/
def Dev.ckpFull (s : Dev) : Bool :=
  s.tvt.full || s.tvt.base.isNone || (s.on Reg.TVT_CTRL_FULL_EVERY && decide (s.rd Reg.TVT_CTRL_FULL_EVERY ≤ s.tvt.deltas))
    || s.tvt.want.any fun w => w.2.2 = 1

/-- A snapshot is due at this boundary (R384, R385, R387). -/
def Dev.ckpDue (s : Dev) : Bool :=
  s.px = Px.up && s.tvt.fly.isNone && (s.role = 0 || s.ownCars != [])
    && (s.pbx.duty.isSome || !s.tvt.want.isEmpty || (s.pbx.handing.any fun h => h.closed && !h.acked)
      || (match s.tvt.snap with
          | some g => decide (g + s.rd Reg.TVT_CTRL_PERIOD_MS * 1000000 ≤ s.tickStart)
          | none => true))

/-- The bytes of an image in CHUNK frames. -/
def Dev.sendChunks (s : Dev) (seq : Nat) (b : List Byte) : Dev :=
  (List.range ((b.length + 4063) / 4064)).foldl (fun (s : Dev) (i : Nat) =>
    s.pexSend 0xC2 (beBytes 4 seq ++ beBytes 4 (4064 * i) ++ (b.drop (4064 * i)).take 4064)) s

/-- CHECKPOINT_SNAPSHOT: the state of this tick boundary, sent whole. -/
def Dev.snapshot (s : Dev) : Dev :=
  if !s.ckpDue then s
  else
    let g := s.tickStart
    let full := s.ckpFull
    let cars := (s.pbx.handing.filter fun h => h.closed && !h.acked && s.on (Reg.SLP_STAT_OWN h.car)).map (·.car)
    let group := s.pbx.duty.isSome
    let seq := if s.tvt.seq = 2 ^ 32 - 1 then 1 else s.tvt.seq + 1
    let img : Image := { seq := seq, gt := g, cars := carMask fun n => s.own n, hand := !cars.isEmpty || group, gen := s.gen,
                         secs := s.snapSecs, eras := s.host.era.toList, opens := s.openDescs }
    let secs := if full then img.secs else deltaSecs ((s.tvt.base.map (·.secs)).getD []) img.secs
    let b := s.imageBytes img (if full then 0 else (s.tvt.base.map (·.seq)).getD 0) secs
    let s := (s.wr Reg.TVT_TX_SEQ seq).wr Reg.TVT_LAST_SIZE b.length
    let s := s.mapTvt fun t => { t with
      seq := seq, fly := some { img := img, full := full, cars := cars, group := group }, snap := some g, waitGt := some (t.waitGt.getD g),
      serve := t.want.map (fun w => (w.1, w.2.1)), want := [] }
    s.sendChunks seq b

def execCheckpointSnapshot (s : State) : Host.Outcome State Fault Refusal := s.run Dev.snapshot

/-- CHECKPOINT_STALL: STALL_MS since a snapshot without an acknowledgement, and each STALL_MS further (R391); the ms since
the last one. -/
def Dev.ckpStall (s : Dev) : Dev :=
  let late := s.tvt.waitGt.any fun g => decide (g + s.rd Reg.TVT_STALL_STALL_MS * 1000000 * (s.tvt.stalls + 1) ≤ s.gt)
  if s.px = Px.up && late then
    (s.mapTvt fun t => { t with stalls := t.stalls + 1 }).raise .checkpointStall 0
      [pU 16 4 ((s.gt - s.tvt.ackGt) / 1000000)]
  else s

def execCheckpointStall (s : State) : Host.Outcome State Fault Refusal := s.run Dev.ckpStall

/-- The durability fence moved by an acknowledged image (R90, R391). -/
def Dev.fenceMove (s : Dev) (img : Image) : Dev :=
  let s := s.mapHost fun h => { h with durOn := true, durOpen := img.opens }
  let sqs := ((img.secs.find? fun p => p.1 = 1).map (·.2)).getD []
  let s := (List.finRange 32).foldl (fun (s : Dev) (k : Fin 32) =>
    let q := k.val
    let m := leAt sqs (4 * q) 4
    let era := img.eras.getD q 0
    let d := descNum era m
    let s := s.mapHost fun h => { h with durTo := h.durTo.set k (max h.durTo[k] d) }
    if img.gen = s.gen && era = s.era q && m ≤ s.rd (Reg.RNG_SQ_SEQ q) then
      let s := s.wr (Reg.RNG_SQ_DSEQ q) m
      let s := s.mapHost fun h => { h with inert := h.inert.filter fun p => p.1 != q || decide (d < p.2) }
      s.dseqAdvance q s.host.inert.length
    else s) s
  s.flushAdm

/-- Actions removed without a completion: a chord all of whose open members go with them goes too; else they are noted
NO_LEASE on it (R384, log entry 27). -/
def Dev.handAway (s : Dev) (sel : Act → Bool) : Dev :=
  let l := s.ladle.acts.filter sel
  let s := l.foldl (fun (s : Dev) (a : Act) => s.freeAct a) s
  l.foldl (fun (s : Dev) (a : Act) =>
    match a.chord with
    | none => s
    | some e =>
      if s.ladle.acts.any fun x => x.chord = some e then s.chordEnd e a.member Stat.noLease s.gt
      else s.mapLdl fun x => { x with chords := x.chords.filter fun c => c.ent != e }) s

/-- Every car held begins to pass, at the request's GT (R384, R385). -/
def Dev.handAll (s : Dev) (g : Nat) : Dev :=
  let cars := (s.ownCars.map (·.val)).filter fun k => s.pbx.handing.all fun h => h.car != k
  s.mapPbx fun p => { p with
    handing := p.handing ++ cars.map fun k => { car := k, start := g, who := none, closed := false, acked := false } }

/-- The handover that an acknowledged checkpoint carries; after the group's each car passes on its own (R384, R385). -/
def Dev.handoverAck (s : Dev) (f : InFlight) : Dev :=
  let s := f.cars.foldl (fun (s : Dev) (k : Nat) =>
    let n := Fin.ofNat 16 k
    let s := (s.handAway fun a => a.car = some k && a.pool = k).inc Reg.PBX_CNT_HANDOVER
    let s := (s.mapLink n fun l => { l with rel := true }).mapMot n fun m => { m with rel := true }
    s.mapPbx fun p => { p with
      rel := setBit p.rel k true, hand := setBit p.hand k true, away := setBit p.away k true,
      handing := p.handing.map fun h => if h.car = k then { h with acked := true } else h }) s
  if f.group then
    let d := s.pbx.duty
    let s := (s.handAway fun a => a.pool = 16).mapPbx fun p => { p with duty := none }
    let s := s.setRole 1 3
    match d with
    | some (q, n, g) => (s.handAll g).answer q n (AdmRes.done 0 0)
    | none => s
  else s

/-- ACK_RECEIVED. -/
def Dev.ackRx (s : Dev) (b : List Byte) (bad : Bool) (arr : Nat) : Dev :=
  s.pexRx 0xC3 b bad arr fun s =>
    match s.tvt.fly with
    | none => s
    | some f =>
      if s.px != Px.up || beAt b 8 4 != f.img.seq then s
      else if byteAt b 12 = 0 then
        let serve := s.tvt.serve
        let s := (s.wr Reg.TVT_TX_ACK f.img.seq).wr Reg.TVT_LAST_LAT ((s.gt - f.img.gt) / 1000)
        let s := if f.full then s.inc Reg.TVT_CNT_FULL else s.inc Reg.TVT_CNT_DELTA
        let g := s.gt
        let s := s.mapTvt fun t => { t with
          fly := none, base := some f.img, deltas := if f.full then 0 else t.deltas + 1, full := false, serve := [],
          ackGt := g, waitGt := none, stalls := 0 }
        let s := s.fenceMove f.img
        let s := serve.foldl (fun (s : Dev) (w : Nat × Nat) => s.answer w.1 w.2 (AdmRes.done f.img.seq 0)) s
        s.handoverAck f
      else (s.inc Reg.TVT_CNT_REFUSED).ckpAbandon

def execAckReceived (b : List Byte) (bad : Bool) (arr : Nat) (s : State) : Host.Outcome State Fault Refusal :=
  s.run fun d => d.ackRx b bad arr

/-! Checkpoints received (R390, R392, R400) -/

/-- The bytes of a checkpoint received without a gap from its start. -/
def joined (l : List (Nat × List Byte)) : List Byte :=
  (sortBy (fun (a b : Nat × List Byte) => a.1 ≤ b.1) l).foldl
    (fun (x : List Byte) (p : Nat × List Byte) => if p.1 = x.length then x ++ p.2 else x) []

/-- Cars that the partner holds leave an EVR_INTERRUPTED marker found at start-up (R400). -/
def Dev.trimMarker (s : Dev) (cars : Nat) : Dev :=
  if !s.nv.markOld then s
  else
    let l := s.nv.marker.filter fun m => bit cars m.car
    let s := s.mapNv fun v => { v with marker := v.marker.filter fun m => !bit cars m.car }
    l.foldl (fun (s : Dev) (m : MarkCar) => s.note 0x800B 4 80 0 0 [pU 28 1 3, pU 29 1 m.car]) s

/-- ACK sent. -/
def Dev.sendAck (s : Dev) (seq st : Nat) : Dev := s.pexSend 0xC3 (beBytes 4 seq ++ leBytes 1 st ++ leBytes 3 0)

/-- A checkpoint received whole. -/
def Dev.ckpWhole (s : Dev) (seq : Nat) (b : List Byte) (spoilt : Bool) : Dev :=
  let s := s.mapTvt fun t => { t with rx := [] }
  if spoilt then s.sendAck seq 1
  else match s.buildImage b with
    | .inr st => (s.mapTvt fun t => { t with owe3 := t.owe3 && st != 3 }).sendAck seq st
    | .inl img =>
      let s := s.mapTvt fun t => { t with image := some img, hurt := [], lost := [] }
      let s := ((s.flag Reg.TVT_STAT_READY true).flag Reg.TVT_STAT_DAMAGED false).wr Reg.TVT_RX_SEQ img.seq
      let s := (s.wr Reg.TVT_RX_GT_LO (img.gt % 2 ^ 32)).wr Reg.TVT_RX_GT_HI (img.gt / 2 ^ 32)
      let s := s.mapPbx fun p => { p with peerLog := p.peerLog.filter fun e => decide (img.gt ≤ e.2.2) }
      (s.sendAck seq 0).trimMarker img.cars

/-- CHUNK_RECEIVED: the chunk that reaches LENGTH is the last, and without the header the one that carries less than a full chunk;
an image with a gap fails its checks (R390). A mark beside the chunks tells that the buffer was damaged (R392). -/
def Dev.chunkRx (s : Dev) (b : List Byte) (bad : Bool) (arr : Nat) : Dev :=
  s.pexRx 0xC2 b bad arr fun s =>
    if s.px != Px.up then s
    else
      let seq := beAt b 8 4
      let part := (beAt b 12 4, (b.drop 16).take (b.length - 20))
      let s := s.mapTvt fun t => { t with rxSeq := seq, rx := (if t.rxSeq = seq then t.rx else []) ++ [part] }
      let spoilt := s.tvt.rx.any fun p => p.1 = 0xFFFFFFFF
      let whole := joined (s.tvt.rx.filter fun p => p.1 != 0xFFFFFFFF)
      let last := if 64 ≤ whole.length then decide (leAt whole 28 4 ≤ part.1 + part.2.length) else decide (part.2.length < 4064)
      if last then s.ckpWhole seq whole spoilt else s

def execChunkReceived (b : List Byte) (bad : Bool) (arr : Nat) (s : State) : Host.Outcome State Fault Refusal :=
  s.run fun d => d.chunkRx b bad arr

/-- HEALTH_RECEIVED: the partner's report is kept, and STANDBY_HEALTH posted (R393, R435). -/
def Dev.healthRx (s : Dev) (b : List Byte) (bad : Bool) (arr : Nat) : Dev :=
  s.pexRx 0xC4 b bad arr fun s =>
    if s.px != Px.up then s
    else
      let s := (s.wr Reg.WHK_PEER_HEALTH_PASSED (beAt b 8 2)).wr Reg.WHK_PEER_HEALTH_FAILED (beAt b 10 2)
      (s.wr Reg.WHK_PEER_LAST (byteAt b 12)).raise .standbyHealth 0
        [pU 16 2 (beAt b 8 2), pU 18 2 (beAt b 10 2), pU 20 1 (byteAt b 12)]

def execHealthReceived (b : List Byte) (bad : Bool) (arr : Nat) (s : State) : Host.Outcome State Fault Refusal :=
  s.run fun d => d.healthRx b bad arr

end Sys2Proof.Machine
end

