-- ==== Sys2Proof/Machine/Takeover.lean ====
section
/-! DEFINITION. Handover and takeover (R381 to R385, R394 to R398): the partner presumed dead, actions restored from its
image, engines started, the descriptors of family 0x9_. -/

namespace Sys2Proof.Machine

/-! Which actions are restored (R396) -/

/-- Car `n` was held by a partner that is presumed dead, and not released by it. -/
def Dev.deadHeld (s : Dev) (n : Nat) : Bool :=
  s.on Reg.PBX_STAT_PRESUMED_DEAD && bit (s.rd Reg.PBX_HELD_PEER) n && !bit s.pbx.peerRel n

/-- The actions of car `n` are restored from the image at its grant. -/
def Dev.restores (s : Dev) (n : Nat) : Bool := bit s.pbx.peerHand n || s.deadHeld n

/-- The records of one page of the image's action store, with whether the page is damaged. -/
def Dev.pageActs (s : Dev) (i : Nat) : List (Act × Bool) :=
  match s.tvt.image with
  | none => []
  | some img =>
    match img.secs.find? fun p => p.1 = actPg i with
    | none => []
    | some (_, b) =>
      let hurt := s.tvt.hurt.contains (actPg i)
      let rec64 := fun (slot : Nat) =>
        match img.secs.find? fun p => p.1 = actPg (slot / 64) with
        | some (_, x) => (x.drop (64 * (slot % 64))).take 64
        | none => leBytes 64 0
      (List.range 64).filterMap fun j =>
        let r := (b.drop (64 * j)).take 64
        if byteAt r 0 = 0 || byteAt r 1 % 4 = 3 then none
        else some (actOf (64 * i + j) r (if bit (byteAt r 1) 3 then rec64 (leAt r 38 2) else []), hurt)

/-- The actions of a pool in the image. -/
def Dev.imageActs (s : Dev) (pool : Nat) : List (Act × Bool) :=
  (if pool = 16 then groupPages else carPages pool).flatMap fun i => s.pageActs i

/-- The pages of a pool taken out of the image once they are restored. -/
def Dev.usePool (s : Dev) (pool : Nat) : Dev :=
  let keys := (if pool = 16 then groupPages else carPages pool).map actPg
  s.mapTvt fun t => { t with image := t.image.map fun (i : Image) => { i with secs := i.secs.filter fun p => !keys.contains p.1 } }

/-- The logged status of a slot that the partner resolved after the image's snapshot (R397). -/
def Dev.logged (s : Dev) (slot : Nat) : Option Nat :=
  let g := (s.tvt.image.map (·.gt)).getD 0
  (s.pbx.peerLog.find? fun e => e.1 = slot && decide (g ≤ e.2.2)).map (·.2.1)

/-! Chords (R398) -/

/-- Members of a chord that the image still holds in pools that are or will be restored. -/
def Dev.chordLeft (s : Dev) (ent : Nat) : List Nat :=
  let pools := 16 :: (List.range 16).filter fun n => s.restores n
  (pools.flatMap fun p => (s.imageActs p).map (·.1)).filterMap fun a => if a.chord = some ent then some a.member else none

/-- The chord of a restored member, entered in this controller's table: members that are not restored have ended, with the
status logged or NO_LEASE. -/
def Dev.chordTake (s : Dev) (ent : Nat) : Option Nat × Dev :=
  match s.ladle.chords.find? fun c => c.restored && c.orig = ent with
  | some c => (some c.ent, s)
  | none =>
    let l := (s.imgSec 3).getD []
    let cs := (List.range (l.length / 88)).map fun i => chordOf ((l.drop (88 * i)).take 88)
    match cs.find? fun c => c.ent = ent, s.freeChord with
    | some c, some free =>
      let left := s.chordLeft ent
      let gone := (List.range c.count).filter fun m => !left.contains m && c.ends.all fun e => e.member != m
      let ends := c.ends ++ gone.map fun m => ({ member := m, status := Stat.noLease } : MemberEnd)
      (some free, s.mapLdl fun x => { x with
        chords := x.chords ++ [{ c with ent := free, orig := ent, ends := ends, gen := 0xFFFF, restored := true }] })
    | _, _ => (none, s)

/-! Reconciliation (R397) -/

/-- The car whose slice reports an action's outcome. -/
def Act.home (a : Act) : Fin 16 := Fin.ofNat 16 a.tindex

/-- The outcome of a slice-side action that its slice has reported on this port since the snapshot. A discard is no outcome:
the action is delivered afresh. -/
def Dev.reported (s : Dev) (a : Act) : Option (Nat × Nat × Nat) :=
  let g := (s.tvt.image.map (·.gt)).getD 0
  ((s.lnk a.home).outs.find? fun o => o.1 = a.slot && decide (o.2.1 ≤ 3) && decide (g ≤ o.2.2.2)).map (·.2)

/-- Due within the uncertain window: after the partner's last HEARTBEAT, no later than the drop. -/
def Dev.uncertain (s : Dev) (a : Act) : Bool :=
  s.on Reg.PBX_STAT_PRESUMED_DEAD && decide (s.pbx.peerGt < s.due a) && decide (s.due a ≤ s.pbx.dropGt)

/-- A restored action entered in the store, in its own slots (R396). -/
def Dev.takeStore (s : Dev) (a : Act) : Dev :=
  s.mapLdl fun l => { l with acts := l.acts ++ [{ a with ord := l.ord }], ord := l.ord + 1 }

/-- The stored table of a restored CAL_SWAP. -/
def Dev.calTake (s : Dev) (a : Act) : Option CalRun :=
  match s.imgSec (calPg (2 * a.home.val + byteAt a.param 0 % 2)) with
  | none => none
  | some b =>
    if leAt b 0 4 = 0 then none
    else some { act := a, table := (b.drop 4).take (leAt b 0 4), fired := false, tag := 0, lib := 0, node := 0, turn := 0 }

/-- A cue of the uncertain window sent now (R397). -/
def Dev.cueTake (s : Dev) (a : Act) : Dev :=
  if s.cueLinked.isEmpty then s.takeStore { a with place := .island, late := true, waited := true }
  else
    let sgt := s.gt + 20000
    let s := s.cueSend a false sgt
    let s := if sgt + 2000000 < a.gt then s.mapLdl fun l => { l with second := l.second ++ [{ act := a, sgt := sgt + 2000000 }] }
      else s
    s.completeAct a Stat.lateFired a.gt (sgt % 2 ^ 32)

/-- A member that is not restored as an action ends on its chord; a single action that the partner resolved leaves nothing. -/
def Dev.memberGone (s : Dev) (a : Act) (st : Nat) : Dev :=
  match a.chord with
  | some e => s.chordEnd e a.member st s.gt
  | none => s

/-- A member whose chord cannot be restored, its table entry being damaged or the table full: the chord ends NO_LEASE, once (R392). -/
def Dev.chordLost (s : Dev) (a : Act) : Dev :=
  let c := a.chord.getD 0
  if (s.logged a.slot).isSome || s.tvt.lost.contains c then s
  else (s.mapTvt fun t => { t with lost := c :: t.lost }).completeAct { a with chord := none } Stat.noLease a.gt 0

/-- One action of the image reconciled; the names of actions possibly fired are collected. -/
def Dev.takeAct (x : Dev × List (Nat × Nat)) (e : Act × Bool) : Dev × List (Nat × Nat) :=
  let (s, l) := x
  let a0 := { e.1 with gen := 0xFFFF, place := Place.stored }
  let (ent, s) := match a0.chord with
    | some c => s.chordTake c
    | none => (none, s)
  let a := { a0 with chord := ent }
  let name := (a.sq, a.cmd)
  if a0.chord.isSome && ent.isNone then (s.chordLost a0, l)
  else match s.logged a.slot with
    | some st => (s.memberGone a st, l)
    | none =>
      match (if e.2 then none else s.fullAct a) with
      | none => (s.completeAct a Stat.noLease a.gt 0, l)
      | some a =>
      if a.kind = .s then
        match s.reported a with
        | some (o, i, g) =>
          (s.completeAt a (if o = 0 then Stat.ok else if o = 1 then Stat.lateFired else if o = 2 then Stat.expired
            else Stat.refused) a.gt i g, l)
        | none => (s.takeStore a, l)
      else if s.uncertain a then
        if a.kind = .n && s.gt < a.gt then (s.cueTake a, l)
        else ((s.inc Reg.PBX_CNT_UNCERT).completeAct a Stat.noLease a.gt 0, l ++ [name])
      else if a.op = 0x43 then
        match s.calTake a with
        | none => (s.completeAct a Stat.noLease a.gt 0, l)
        | some r =>
          let ord := s.ladle.ord
          let s := s.takeStore a
          let b := (s.ladle.acts.find? fun y => y.ord = ord).getD a
          let p := Fin.ofNat 2 (byteAt a.param 0)
          let s := s.mapLink a.home fun k => { k with cal := k.cal.set p (some { r with act := b }) }
          (s.flag (if p = 0 then Reg.LMP_STAT_PEND0 a.home.val else Reg.LMP_STAT_PEND1 a.home.val) true, l)
      else (s.takeStore a, l)

/-- A pool restored from the image, once. -/
def Dev.takePool (s : Dev) (pool : Nat) : Dev :=
  let acts := s.imageActs pool
  let (s, l) := acts.foldl Dev.takeAct (s, [])
  (s.usePool pool).actionList 4 4 80 0 0 l

/-! Presumed dead (R381) -/

/-- The partner is presumed dead. -/
def Dev.peerDead (s : Dev) : Bool :=
  s.on Reg.PBX_CTRL_EN && s.px != Px.up && (s.rd Reg.PBX_HELD_PEER &&& s.pbx.gone) = s.rd Reg.PBX_HELD_PEER

/-- A Standby becomes Duty: the engines of the partner's cars start, the group pool is restored (R394, R396). -/
def Dev.promote (s : Dev) : Dev :=
  let s := s.setRole 0 2
  let s := (List.finRange 16).foldl (fun (s : Dev) (n : Fin 16) =>
    if bit (s.rd Reg.PBX_HELD_PEER) n.val && s.carOn n.val && !bit (s.rd Reg.CTN_ISO_CE) n.val then s.startEngine n else s) s
  s.takePool 16

/-- PARTNER_PRESUMED_DEAD. -/
def Dev.presumeDead (s : Dev) : Dev :=
  if !s.peerDead || s.on Reg.PBX_STAT_PRESUMED_DEAD then s
  else
    let s := s.flag Reg.PBX_STAT_PRESUMED_DEAD true
    if s.role = 1 then s.promote else s

def execPartnerPresumedDead (s : State) : Host.Outcome State Fault Refusal := s.run Dev.presumeDead

def execHeartbeatReceived (b : List Byte) (bad : Bool) (arr : Nat) (s : State) : Host.Outcome State Fault Refusal :=
  s.run fun d => d.hbRx b bad arr fun s => s.takePool 16

/-! Engines (R394, R445) -/

/-- A granted car whose engine runs takes its actions from the image. -/
def Dev.takeCar (s : Dev) (n : Fin 16) : Dev :=
  let k := n.val
  if !bit s.pbx.take k || !s.own n || !s.engineOn k then s
  else
    let had := ((s.tvt.image.map fun i => bit i.cars k).getD false)
    let s := s.mapPbx fun p => { p with take := setBit p.take k false }
    let s := if had then s.inc Reg.PBX_CNT_TAKE else s
    if had && s.restores k then s.takePool k else s

/-- ENGINE_START_DONE: the engine runs, its state loaded from the partner's image, else as at start-up. -/
def Dev.engineStarted (s : Dev) (n : Fin 16) : Dev :=
  let k := n.val
  if s.dom (5 * k) != Dom.starting then s
  else
    let s := s.setEngine k Dom.on
    let s := match s.imgSec (0x10 + k) with
      | some b => s.loadCar n b ((s.tvt.image.map fun (i : Image) => i.gt).getD 0)
      | none => s.freshCar n
    s.takeCar n

def execEngineStartDone (n : Fin 16) (s : State) : Host.Outcome State Fault Refusal := s.run fun d => d.engineStarted n

/-! Handover (R384, R385) -/

/-- A handover waits no longer for the car to rest. -/
def Dev.handClose (s : Dev) (n : Nat) : Dev :=
  s.mapPbx fun p => { p with handing := p.handing.map fun h => if h.car = n then { h with closed := true } else h }

/-- HANDOVER_WAIT_EXPIRY: 60 s since the request. -/
def Dev.handExpire (s : Dev) (n : Nat) : Dev :=
  if s.pbx.handing.any fun h => h.car = n && decide (h.start + 60000000000 ≤ s.gt) then s.handClose n else s

def execHandoverWaitExpiry (n : Fin 16) (s : State) : Host.Outcome State Fault Refusal := s.run fun d => d.handExpire n.val

/-- A tick of a handover: it closes where no trip is active; once REL has been sent its descriptor completes; it ends with
the lease. -/
def Dev.handTick (s : Dev) : Dev :=
  s.pbx.handing.foldl (fun (s : Dev) (h : Handing) =>
    let n := Fin.ofNat 16 h.car
    let s := if !h.closed && (s.activeTrip n).isNone then s.handClose h.car else s
    let s := if h.acked then
        match h.who with
        | some (q, d) => s.answer q d (AdmRes.done 0 0)
        | none => s
      else s
    if !s.own n then
      let s := if h.acked then s
        else match h.who with
          | some (q, d) => s.answer q d (AdmRes.refuse Stat.busy)
          | none => s
      s.mapPbx fun p => { p with handing := p.handing.filter fun x => x.car != h.car }
    else if h.acked then
      s.mapPbx fun p => { p with handing := p.handing.map fun x => if x.car = h.car then { x with who := none } else x }
    else s) s

/-- LEASE_RELEASE. -/
def Dev.opLeaseRelease (s : Dev) (sq : Nat) (b : List Byte) : Dev :=
  s.tryAdmit 0x90 sq b fun s dn =>
    let k := dIndex b
    let n := Fin.ofNat 16 k
    if s.px != Px.up || !s.on Reg.PBX_STAT_PEER_READY || !s.own n || s.pbx.handing.any (fun h => h.car = k) then
      s.refuse Stat.busy
    else
      let h : Handing := { car := k, start := s.gt, who := some (sq, dn), closed := false, acked := false }
      (s.mapPbx fun p => { p with handing := p.handing ++ [h] }, none)

def execLeaseRelease (sq : Fin 32) (d : List Byte) (s : State) : Host.Outcome State Fault Refusal :=
  s.run fun v => v.opLeaseRelease sq.val d

/-- DUTY_HANDOVER: busy unless this controller is Duty with its port UP and the partner READY; the cars pass once the group's
checkpoint is acknowledged. -/
def Dev.opDutyHandover (s : Dev) (sq : Nat) (b : List Byte) : Dev :=
  s.tryAdmit 0x91 sq b fun s dn =>
    if s.px != Px.up || !s.on Reg.PBX_STAT_PEER_READY || s.role != 0 || s.pbx.duty.isSome then s.refuse Stat.busy
    else
      let g := s.gt
      (s.mapPbx fun p => { p with duty := some (sq, dn, g) }, none)

def execDutyHandover (sq : Fin 32) (d : List Byte) (s : State) : Host.Outcome State Fault Refusal :=
  s.run fun v => v.opDutyHandover sq.val d

/-- CHECKPOINT_NOW: completes when its checkpoint is acknowledged. -/
def Dev.opCheckpointNow (s : Dev) (sq : Nat) (b : List Byte) : Dev :=
  s.tryAdmit 0x92 sq b fun s dn => (s.mapTvt fun t => { t with want := t.want ++ [(sq, dn, byteAt b 16)] }, none)

def execCheckpointNow (sq : Fin 32) (d : List Byte) (s : State) : Host.Outcome State Fault Refusal :=
  s.run fun v => v.opCheckpointNow sq.val d

/-- R250 for a takeover time in µs holds for a car: T_orphan is greater than L + G + the takeover time. -/
def Dev.orphanOk (s : Dev) (n take : Nat) : Bool :=
  decide ((s.rd (Reg.SLP_LEASE_L_MS n) + s.rd (Reg.SLP_LEASE_G_MS n)) * 1000 + take < s.rd (Reg.ILK_SAFE_T_ORPHAN_MS n) * 1000)

/-- Takeover time of a standby mode, µs (R250). -/
def takeoverUs (tested : Bool) : Nat := if tested then 3200 else 9600

/-- STANDBY_MODE (R393). -/
def Dev.opStandbyMode (s : Dev) (sq : Nat) (b : List Byte) : Dev :=
  s.tryAdmit 0x93 sq b fun s _ =>
    let m := byteAt b 16
    let short := m = 0 && (List.range 16).any fun n => s.carOn n && !s.orphanOk n (takeoverUs false)
    if s.role != 1 || short then s.refuse Stat.busy
    else (s.wr Reg.PBX_STAT_TESTED m, some (AdmRes.done 0 0))

def execStandbyMode (sq : Fin 32) (d : List Byte) (s : State) : Host.Outcome State Fault Refusal :=
  s.run fun v => v.opStandbyMode sq.val d

/-! A tick of the duplex pair -/

/-- Heartbeats missed, training attempts, what this controller sends. -/
def Dev.pebexTick (s : Dev) : Dev :=
  if !s.on Reg.PBX_CTRL_EN then s
  else
    let s := if (s.px = Px.search || s.px = Px.retry || s.px = Px.lost) && s.tickStart % 20000000 = 0 then
        s.incSat Reg.PBX_RETRY_STAT_ATTEMPTS
      else s
    let s := if !s.pxFraming then s
      else if s.pbx.got then s.mapPbx fun p => { p with got := false, miss := 0 }
      else
        let s := s.mapPbx fun p => { p with miss := p.miss + 1 }
        if s.rd Reg.PBX_CFG_HB_MISS ≤ s.pbx.miss then s.pebexDrop else s
    let s := s.presumeDead
    let s := (List.finRange 16).foldl (fun (s : Dev) (n : Fin 16) => s.takeCar n) s
    let s := if s.pxFraming then s.sendHb else s
    if s.px = Px.off || s.px = Px.search then s else s.sendIdent

end Sys2Proof.Machine
end

