-- ==== Sys2Proof/Machine/Whisk.lean ====
section
/-! DEFINITION. Whisk, the built-in self-test: requests, rolling tests, results, the health report, repairs (R425 to R441). -/

namespace Sys2Proof.Machine

/-! Results (R428 to R432) -/

/-- The MISR shifted once: a product by x modulo x^64 + x^4 + x^3 + x + 1 (R427). -/
def misrShift (m : BitVec 64) : BitVec 64 := (m <<< 1) ^^^ (if m.msb then 0x1B#64 else 0#64)

/-- The first of the next `n` powers of alpha that is `s`: `m` is alpha^k (R429). -/
def alphaLog (s : BitVec 64) : Nat → Nat → BitVec 64 → Option Nat
  | 0, _, _ => none
  | n + 1, k, m => if m = s then some k else alphaLog s n (k + 1) (misrShift m)

/-- The golden signatures of a domain's type; OTP that holds none reads 0. -/
def bistSig (g : List (Nat × BistSig)) (d : Nat) : BistSig :=
  ((g.find? fun p => p.1 = bistClass d).map (·.2)).getD BistSig.blank

/-- The smallest set up to `pset` whose signature differs from its golden one (R428). -/
def firstBad (g : BistSig) (pset : Nat) (misr : Vector (BitVec 64) 4) : Option (Fin 4) :=
  (List.finRange 4).find? fun k => k.val ≤ pset && misr[k] != g.sets[k]

/-- Chains whose signature over the rerun of set 0 differs, lowest first. -/
def badChains (g : BistSig) (chains : Vector (BitVec 64) 64) : List (Fin 64) :=
  (List.finRange 64).filter fun c => chains[c] != g.chains[c]

/-- What a logic test of set `pset` shows (R428), diagnosed where it fails and DIAG_EN is 1 (R429). -/
def logicRes (g : BistSig) (diag : Bool) (pset : Nat) (misr : Vector (BitVec 64) 4) (chains : Vector (BitVec 64) 64) : LogicRes :=
  let good : LogicRes := { pass := true, pset := pset, diag := false, first := 0, multi := false, pat := 0xFFFF, chain := 0xFFFF,
                           cell := 0xFFFFFFFF, chains := 0 }
  match firstBad g pset misr with
  | none => good
  | some k =>
    let bad := { good with pass := false, first := k.val }
    if !diag then bad
    else
      let bad := { bad with diag := true }
      let l := badChains g chains
      match l with
      | [] => bad
      | c :: _ =>
        let bad := { bad with chain := c.val, chains := (l.map fun (x : Fin 64) => 2 ^ x.val).sum }
        match alphaLog (chains[c] ^^^ g.chains[c]) (4096 * 224) 0 1 with
        | some k => { bad with pat := k / 224, cell := k % 224 }
        | none => { bad with multi := true }

/-- Distinct elements of a list in the order of their first appearance. -/
def distinct {α : Type} [DecidableEq α] (l : List α) : List α :=
  l.foldl (fun (acc : List α) (x : α) => if acc.contains x then acc else acc ++ [x]) []

/-- Where a read sees a wrong cell: its logical address and bit. A cell that a spare replaces is not read, nor a spare not in use
(R430). The spare column serves every row (log entry 131). -/
def seenCell (l : List Spare) (c : MemCell) : Option (Nat × Nat) :=
  let col := l.find? fun x => x.row.isNone
  let byCol := fun (b : Nat) => (col.map fun x => decide (x.value = b)).getD false
  match c with
  | .array a b => if byCol b.val || l.any fun x => x.row.isSome && x.value = a.val then none else some (a.val, b.val)
  | .row r b =>
    if byCol b.val then none else (l.find? fun x => x.row = some r.val).map fun x => (x.value, b.val)
  | .col a => col.map fun x => (a.val, x.value)

/-- The wrong cells of one read of the memory test as they come: ⇓ of March C- from the highest address, the others from the lowest;
within a word from bit 0 (R430; log entry 131). -/
def stepReads (l : List Spare) (errs : List ReadErr) (st : Fin 7) : List (Nat × Nat) :=
  let down := st = 2 || st = 3
  sortBy (fun x y => if x.1 = y.1 then decide (x.2 ≤ y.2) else if down then decide (y.1 < x.1) else decide (x.1 < y.1))
    (distinct ((errs.filter fun e => e.step = st).filterMap fun e => seenCell l e.cell))

/-- What the memory test of a macro shows: its failing reads, the first four distinct pairs (R431). -/
def macroRes (mac : Nat) (l : List Spare) (errs : List ReadErr) : MacroRes :=
  let reads := (List.finRange 7).map (stepReads l errs)
  let pairs := distinct reads.flatten
  { mac := mac, fails := (reads.map fun r => (distinct (r.map (·.1))).length).sum, pairs := pairs.take 4,
    ovf := decide (4 < pairs.length) }

/-- A macro with no failing read passes. -/
def MacroRes.ok (m : MacroRes) : Bool := m.fails = 0

/-- Spares of a macro in use. -/
def Dev.sparesOf (s : Dev) (d m : Nat) : List Spare := s.whk.spares.filter fun x => x.domain = d && x.mac = m

/-- The memory test of a domain: the result of each of its macros that has a failing read, in order; the others pass. -/
def Dev.memRes (s : Dev) (d : Nat) (reads : List (Fin 64 × List ReadErr)) : List MacroRes :=
  (List.range 63).filterMap fun m =>
    let errs := (reads.filter fun r => r.1.val = m).flatMap (·.2)
    if errs.isEmpty || decide (domMacros d ≤ m) then none
    else
      let r := macroRes m (s.sparesOf d m) errs
      if r.ok then none else some r

/-- The flag of a domain in WHK_LFAILk or WHK_MFAILk, and the count. -/
def Dev.testFlag (s : Dev) (d kind : Nat) (pass : Bool) : Dev :=
  let f := if kind = 0 then Reg.WHK_LFAIL (d / 32) else Reg.WHK_MFAIL (d / 32)
  (s.wr f (setBit (s.rd f) (d % 32) (!pass))).inc (if pass then Reg.WHK_CNT_PASS else Reg.WHK_CNT_FAIL)

/-- BIST_DONE (R118, R432): S2 on a pass, S5 on a fail; a rolling or start-up test raises it on a fail only. -/
def Dev.bistDone (s : Dev) (d kind : Nat) (pass asked : Bool) (unit place bitNo : Nat) : Dev :=
  if pass && !asked then s
  else s.raiseSev .bistDone (if pass then 2 else 5) 0
    [pU 16 1 d, pU 17 1 kind, pU 18 1 (b2n !pass), pU 20 2 unit, pU 22 4 place, pU 26 1 bitNo] []

/-- The result of a logic test of domain `d` (R432). -/
def Dev.logicDone (s : Dev) (d : Nat) (asked : Bool) (r : LogicRes) : Dev :=
  let s := s.mapWhk fun w => { w with logic := (d, r) :: w.logic.filter fun p => p.1 != d }
  (s.testFlag d 0 r.pass).bistDone d 0 r.pass asked r.chain r.cell 0

/-- The result of a memory test of domain `d` (R431, R432): the lowest failing macro is reported with its first pair. -/
def Dev.memDone (s : Dev) (d : Nat) (asked : Bool) (l : List MacroRes) : Dev :=
  let s := s.mapWhk fun w => { w with mem := (d, l) :: w.mem.filter fun p => p.1 != d }
  match l.find? fun m => !m.ok with
  | none => (s.testFlag d 1 true).bistDone d 1 true asked 0 0 0
  | some m => (s.testFlag d 1 false).bistDone d 1 false asked m.mac ((m.pairs.headD (0, 0)).1) ((m.pairs.headD (0, 0)).2)

/-- Step 4 of a test (R426): the flip-flops of a domain hold their reset values, its memories 0. That changes a domain that kept its
state, an ISOLATED one; settings and index registers stand in LDL_CORE (R466), the landing table in the persistent tier. -/
def Dev.reinit (s : Dev) (d : Nat) : Dev :=
  if d < 80 then
    let n := Fin.ofNat 16 (d / 5)
    let base := 0x20000 + 0x1000 * n.val
    match d % 5 with
    | 0 => (s.blockCold base 0x100).mapCar n fun c => { c with trk := Trk.start c.trk.ltab }
    | 1 => (s.blockCold (base + 0x100) 0x200).mapCar n fun c => { c with mot := Mot.start }
    | 2 => s.blockCold (base + 0x300) 0x200
    | 3 => (s.blockCold (base + 0x500) 0x100).mapCar n fun c => { c with ilk := Ilk.start }
    | _ => s.blockCold (base + 0x600) 0x100
  else if 80 ≤ d && d < 96 then s.mapLink (Fin.ofNat 16 (d - 80)) fun _ => CLink.start
  else if 99 ≤ d && d ≤ 102 then s.mapChan (Fin.ofNat 4 (d - 99)) fun _ => Chan.start
  else s

/-- The running test ends: its domain, reinitialised, returns to its state, and the next request begins (R426, R436). The next rolling
step waits GAP_MS, or until a request has run (R434). -/
def Dev.testOver (s : Dev) (t : Test) : Dev :=
  let gap := if t.asked then 0 else s.gt + s.rd Reg.WHK_CTRL_GAP_MS * 1000000
  let s := if s.whk.before = Dom.isolated then s.reinit t.domain else s
  let s := (s.setDom t.domain s.whk.before).mapWhk fun w => { w with run := none, gapGt := gap }
  s.testNext

/-- LAST of the health report follows the cold domain tested last, on request too (R435). -/
def Dev.testSeen (s : Dev) (t : Test) : Dev :=
  if s.whk.before = Dom.off then s.mapWhk fun w => { w with seen := some t.domain } else s

/-- Time of a logic run of set `k` on a test clock of 250 MHz, ns (R427, R428). -/
def logicNs (k : Nat) : Nat := [4096, 32768, 262144, 1048576].getD k 0 * 228 * 4

/-- The patterns of the running logic test have been shifted, and those of its diagnosis (R428, R429). -/
def Dev.logicRan (s : Dev) (t : Test) (diagnosed : Bool) : Bool :=
  decide (s.whk.since + logicNs t.pset + (if diagnosed then logicNs 0 else 0) ≤ s.gt)

/-- BIST_TEST_DONE: a logic or memory test ends, a logic test not before its patterns have run (log entry 60); a rolling
step goes on with its memory test (R434). -/
def Dev.testDone (s : Dev) (o : Otp) (e : TestEnd) : Dev :=
  match s.whk.run, e with
  | some t, .logic misr chains =>
    let r := logicRes (bistSig o.bist t.domain) (s.on Reg.WHK_CTRL_DIAG_EN) t.pset misr chains
    if t.kind != 0 || !s.logicRan t r.diag then s
    else
      let s := (s.testSeen t).logicDone t.domain t.asked r
      if t.asked then s.testOver t else s.mapWhk fun w => { w with run := some { t with kind := 1, pset := 0 } }
  | some t, .memory reads =>
    if t.kind != 1 then s
    else
      let s := (s.testSeen t).memDone t.domain t.asked (s.memRes t.domain reads)
      (if t.asked then s else s.mapWhk fun w => { w with last := some t.domain }).testOver t
  | none, _ => s

def execBistTestDone (e : TestEnd) (s : State) : Host.Outcome State Fault Refusal := s.runO fun o d => d.testDone o e

/-! Requests and rolling tests (R434, R436) -/

/-- BIST_RUN: a request enters the queue of at most 16; it completes at once (R110). -/
def Dev.opBistRun (s : Dev) (sq : Nat) (b : List Byte) : Dev :=
  s.tryAdmit 0x80 sq b fun s _ =>
    let t : Test := { domain := byteAt b 16, kind := byteAt b 17, pset := byteAt b 18, asked := true }
    if !s.testable t.domain || 16 ≤ s.whk.queue.length then s.refuse Stat.busy
    else ((s.mapWhk fun w => { w with queue := w.queue ++ [t] }).testNext, some (AdmRes.done 0 0))

def execBistRun (sq : Fin 32) (d : List Byte) (s : State) : Host.Outcome State Fault Refusal := s.run fun v => v.opBistRun sq.val d

/-- The standby mode is Tested, whatever the role: it sets what is done with the engines of cars not held (R393). -/
def Dev.tested (s : Dev) : Bool := s.on Reg.PBX_STAT_TESTED

/-- Cold engine domains of enabled cars, in index order. -/
def Dev.coldDomains (s : Dev) : List Nat := (List.range 80).filter fun d => s.coldDomain d

/-- ROLLING_BIST_STEP, once the gap has passed: the next cold domain after the last, wrapping; a wrap ends a pass. -/
def Dev.rollStep (s : Dev) : Dev :=
  if !s.tested || s.whk.run.isSome || !s.whk.queue.isEmpty || decide (s.gt < s.whk.gapGt) then s
  else
    let l := s.coldDomains
    let test := fun (d : Nat) => ({ domain := d, kind := 0, pset := s.rd Reg.WHK_CTRL_ROLL_PSET, asked := false } : Test)
    match l.find? fun d => (s.whk.last.map fun x => decide (x < d)).getD true with
    | some d => s.testBegin (test d)
    | none =>
      match l with
      | d :: _ => (s.inc Reg.WHK_CNT_ROLL).testBegin (test d)
      | [] => s

def execRollingBistStep (s : State) : Host.Outcome State Fault Refusal := s.run fun d => d.rollStep

/-! The health report (R435) -/

/-- Latest logic test and latest memory test of a domain: passed, where there is one. -/
def Dev.lastLogic (s : Dev) (d : Nat) : Option Bool := (s.whk.logic.find? fun p => p.1 = d).map fun p => p.2.pass
def Dev.lastMem (s : Dev) (d : Nat) : Option Bool :=
  (s.whk.mem.find? fun p => p.1 = d).map fun p => p.2.all fun m => m.ok

/-- A health report is due: in the tick that starts at a whole second of GT, once (R435). -/
def Dev.healthDue (s : Dev) : Bool := s.tickStart % 1000000000 = 0 && s.whk.healthGt != some s.tickStart

/-- HEALTH_REPORT: formed in Tested standby over at least one cold domain; sent, and posted, while the Pebex port is UP. -/
def Dev.healthReport (s : Dev) : Dev :=
  let l := s.coldDomains
  if !s.tested || l.isEmpty || !s.healthDue then s
  else
    let s := s.mapWhk fun w => { w with healthGt := some s.tickStart }
    let ok := (l.filter fun d => s.lastLogic d = some true && s.lastMem d = some true).length
    let bad := (l.filter fun d => s.lastLogic d = some false || s.lastMem d = some false).length
    let last := s.whk.seen.getD 0
    let s := ((s.wr Reg.WHK_HEALTH_PASSED ok).wr Reg.WHK_HEALTH_FAILED bad).wr Reg.WHK_HEALTH_LAST last
    if s.px != Px.up then s
    else
      let s := s.pexSend 0xC4 (beBytes 2 ok ++ beBytes 2 bad ++ beBytes 1 last ++ beBytes 3 0 ++ beBytes 8 s.gt)
      s.raise .standbyHealth 0 [pU 16 2 ok, pU 18 2 bad, pU 20 1 last]

def execHealthReport (s : State) : Host.Outcome State Fault Refusal := s.run fun d => d.healthReport

/-! Repair (R437 to R439) -/

/-- Spare rows of a macro that are free, lowest first. -/
def Dev.rowsFree (s : Dev) (d m : Nat) : List Nat :=
  ([0, 1] : List Nat).filter fun r => !(s.sparesOf d m).any fun x => x.row = some r

/-- The spare column of a macro is free. -/
def Dev.colFree (s : Dev) (d m : Nat) : Bool := !(s.sparesOf d m).any fun x => x.row.isNone

/-- INFO1 of the repairs: spare rows, then spare columns, free. -/
def Dev.sparesInfo (s : Dev) (d m : Nat) : Nat := (s.rowsFree d m).length + 256 * b2n (s.colFree d m)

/-- Soft spares put into use. -/
def Dev.addSpares (s : Dev) (l : List Spare) : Dev := s.mapWhk fun w => { w with spares := w.spares ++ l }

/-- REPAIR_SOFT. -/
def Dev.opRepairSoft (s : Dev) (sq : Nat) (b : List Byte) : Dev :=
  s.tryAdmit 0x81 sq b fun s _ =>
    let d := byteAt b 16
    let m := byteAt b 17
    if !s.testable d then s.refuse Stat.busy
    else
      match (s.whk.mem.find? fun p => p.1 = d).bind fun p => p.2.find? fun r => r.mac = m with
      | none => (s, some (AdmRes.readOnly 0 (s.sparesInfo d m)))
      | some r =>
        if r.ok then (s, some (AdmRes.readOnly 0 (s.sparesInfo d m)))
        else
          let rows := distinct (r.pairs.map (·.1))
          let cols := distinct (r.pairs.map (·.2))
          let free := s.rowsFree d m
          if !r.ovf && decide (rows.length ≤ free.length) then
            let s := s.addSpares ((rows.zip free).map fun p =>
              { domain := d, mac := m, row := some p.2, value := p.1, hard := false })
            (s, some (AdmRes.done 0 (s.sparesInfo d m)))
          else if cols.length = 1 && s.colFree d m then
            let s := s.addSpares [{ domain := d, mac := m, row := none, value := cols.headD 0, hard := false }]
            (s, some (AdmRes.done 0 (s.sparesInfo d m)))
          else (s, some { AdmRes.refuse Stat.resource with info1 := s.sparesInfo d m })

def execRepairSoft (sq : Fin 32) (d : List Byte) (s : State) : Host.Outcome State Fault Refusal :=
  s.run fun v => v.opRepairSoft sq.val d

/-- Entries of OTP for repairs (R439, WHK_OTP_LEFT). -/
def otpRepairs : Nat := 512

/-- Message of a hard repair (R439). -/
def Dev.repairMsg (s : Dev) (d m auth nonce : Nat) : List Byte :=
  leBytes 4 0x524B4857 ++ leBytes 1 2 ++ leBytes 1 d ++ leBytes 1 m ++ leBytes 1 0 ++ leBytes 8 nonce ++ leBytes 8 s.serial
    ++ leBytes 4 auth ++ leBytes 4 0

/-- The OTP entry of a spare. -/
def Spare.entry (x : Spare) (void : Bool) : HardEnt :=
  { domain := x.domain, mac := x.mac, col := x.row.isNone, value := x.value, void := void }

/-- What REPAIR_HARD does once its form is judged: the state, the entries it writes, the result. `bad` is the first entry
whose read-back differs: it is void, and nothing after it is written (log entry 33). -/
def Dev.repairHard (s : Dev) (o : Otp) (d m auth : Nat) (resp : List Byte) (bad : Option Nat) :
    Dev × List HardEnt × Option AdmRes :=
  let soft := (s.sparesOf d m).filter fun x => !x.hard
  if soft.isEmpty then (s, [], some (AdmRes.refuse Stat.busy))
  else
    let (ok, s) := s.checkAuth 2 0 o.repairKey (s.repairMsg d m auth) resp
    if !ok then (s, [], some (AdmRes.refuse Stat.authFail))
    else if otpRepairs < o.hard.length + soft.length then (s, [], some (AdmRes.refuse Stat.resource))
    else
      let k := (bad.map fun i => min i soft.length).getD soft.length
      let good := soft.take k
      let left := fun (s : Dev) (w : Nat) => s.wr Reg.WHK_OTP_LEFT_ENTRIES (otpRepairs - (o.hard.length + w))
      let s := s.mapWhk fun w => { w with spares := w.spares.map fun x => if good.contains x then { x with hard := true } else x }
      if k < soft.length then
        (left s (k + 1), good.map (·.entry false) ++ ((soft.drop k).take 1).map (·.entry true),
          some { status := Stat.resource, info0 := 0, info1 := 0, inert := false })
      else
        let s := (left s k).note 0x8015 5 82 0 0 [pU 28 1 d, pU 29 1 m, pU 30 1 k, pU 32 4 auth]
        (s, good.map (·.entry false), some (AdmRes.done 0 (s.sparesInfo d m)))

/-- REPAIR_HARD; `bad` tells which entry, counted from 0, reads back wrong. -/
def Dev.opRepairHard (s : Dev) (o : Otp) (sq : Nat) (b : List Byte) (bad : Option Nat) : Dev :=
  s.tryAdmit 0x82 sq b fun s _ =>
    let r := s.repairHard o (byteAt b 16) (byteAt b 17) (leAt b 20 4) (cut b 24 32) bad
    (r.1, r.2.2)

/-- OTP entries the same descriptor writes: none where a check before its own part refuses it. -/
def Dev.hardEntries (s : Dev) (o : Otp) (sq : Nat) (b : List Byte) (bad : Option Nat) : List HardEnt :=
  let s := (s.fetchOne sq b 0x82).2
  match s.precheck 0x82 sq b with
  | some _ => []
  | none => (s.repairHard o (byteAt b 16) (byteAt b 17) (leAt b 20 4) (cut b 24 32) bad).2.1

def execRepairHard (sq : Fin 32) (d : List Byte) (bad : Option (Fin 3)) (s : State) : Host.Outcome State Fault Refusal :=
  let b := bad.map (·.val)
  let ents := s.dev.hardEntries s.otp sq.val d b
  .next { s with dev := s.dev.opRepairHard s.otp sq.val d b, otp := { s.otp with hard := s.otp.hard ++ ents } }

/-- Hard repairs loaded from OTP (R433, R437): rows of a macro take its spare rows in the order of their entries. -/
def Dev.loadHard (s : Dev) (o : Otp) : Dev :=
  let s := (s.mapWhk fun w => { w with spares := [] }).wr Reg.WHK_OTP_LEFT_ENTRIES (otpRepairs - o.hard.length)
  o.hard.foldl (fun (s : Dev) (e : HardEnt) =>
    if e.void then s
    else if e.col then s.addSpares [{ domain := e.domain, mac := e.mac, row := none, value := e.value, hard := true }]
    else
      match s.rowsFree e.domain e.mac with
      | r :: _ => s.addSpares [{ domain := e.domain, mac := e.mac, row := some r, value := e.value, hard := true }]
      | [] => s) s

end Sys2Proof.Machine
end

