-- ==== Sys2Proof/Machine/Power.lean ====
section
/-! DEFINITION. Resets of the controller, domain states, clocks and temperature (R442 to R455, R459, R366; R145 for the links
of the Ethernet ports). The start-up sequence stands in Machine/Boot.lean. -/

namespace Sys2Proof.Machine

/-! Reset (R450 to R453) -/

/-- A field AON keeps through every reset but a power-on (R36, R44, R451): TSP, the RST block but RST_CFG and RST_BOOT_MS,
PWR_TJ_MAX, the OTP block, the servo's state, the generation, the strap, AON's own state. -/
def aonKeeps (k : Nat) : Bool :=
  let off := k / 32
  (0x4000 ≤ off && off < 0x4800) || (0x10800 ≤ off && off < 0x10C00 && off != 0x10808 && off != 0x1081C) || off = 0x10008
    || (0x11000 ≤ off && off < 0x11800)
    || k = Reg.PTP_STAT_STATE.key || k = Reg.HST_STAT_GEN.key || k = Reg.GLB_ID_XY.key || k = (Reg.PWR_STAT_STATE 13 7).key

/-- The Time Spine goes on; the PTP block restarts (R36, R44). -/
def TimeSt.warm (t : TimeSt) : TimeSt :=
  { t with masters := [], sel := none, annGt := Vector.replicate 2 none, lastSync := none, dreq := none, dreqSeq := 0,
           dreqGt := none, outRun := 0, reload := 0, annOut := false, peerOver := false }

/-- Whether domains stand in RESET: the start-up has not run. -/
def Dev.inReset (s : Dev) : Bool := s.dom 108 = Dom.reset

/-- A controller reset other than a power-on (R450, R451): `kept` tells that LP4X entered self-refresh. One that comes before
the start-up finds in LP4X what the reset before it left there (R458). -/
def Dev.ctrlReset (s : Dev) (cause : Nat) (kept : Bool) : Dev :=
  let sys := { SysSt.start with
    dpSts := s.sys.dpSts
    latch := s.sys.latch.filter fun p => 0x4000 ≤ p.1 && p.1 < 0x4800
    prevStep := if s.on Reg.RST_STAT_BOOT_DONE then 0xFF else s.rd Reg.RST_STAT_STEP
    lostActs := if !kept then 0xFFFFFFFF else if s.inReset then s.sys.lostActs else s.ladle.acts.length
    lostCmps := if !kept then 0xFFFFFFFF else if s.inReset then s.sys.lostCmps else s.host.backlog.length }
  let d : Dev := { Dev.start with
    tx := s.tx
    free := s.free
    regs := s.regs.filter fun e => aonKeeps e.1
    time := s.time.warm
    nv := s.nv
    logP := s.logP
    log := LogSt.start s.logP.reserve (if kept then s.log.ring else [])
    sys := sys }
  let d := (d.wr Reg.HST_STAT_GEN (nextGen s.gen)).wr Reg.HST_STAT_LAST_RST 1
  let d := ((d.wr Reg.RST_STAT_CAUSE cause).flag Reg.RST_STAT_COLD false).flag Reg.RST_STAT_LP4X_KEPT kept
  let d := ((d.wr Reg.RST_STAT_STEP 0).flag Reg.RST_STAT_BOOT_DONE false).flag Reg.RST_STAT_IMAGE false
  let d := d.wr Reg.TSP_PEER_DIFF 0
  ((d.inc Reg.RST_CNT).wr Reg.RST_GT_LO s.gt).wr Reg.RST_GT_HI (s.gt / 2 ^ 32)

/-- POWER_ON: a cold start; only what the persistent tier holds is left (R36, R450). -/
def Dev.powerOn (s : Dev) : Dev :=
  let nv := { s.nv with boots := (s.nv.boots + 1) % 65536 }
  let d : Dev := { Dev.start with
    tx := s.tx
    free := s.free
    nv := nv
    logP := s.logP
    log := LogSt.start s.logP.reserve [] }
  d.wr Reg.GLB_ID_XY s.xy

def execPowerOn (s : State) : Host.Outcome State Fault Refusal := s.run Dev.powerOn

/-- BROWNOUT: a supply other than AON leaves its range; LP4X is not kept. -/
def execBrownout (s : State) : Host.Outcome State Fault Refusal := s.run fun d => d.ctrlReset 1 false

/-- NRESET. -/
def execNreset (kept : Bool) (s : State) : Host.Outcome State Fault Refusal := s.run fun d => d.ctrlReset 2 kept

/-- SYSTEM_WATCHDOG (R454): no token since this tick's for WDT_MS, in which AON alone runs: GT goes on, and the time counts
as time spent in HOLDOVER where the servo stands there (R36, R44, R49, log entry 111). -/
def Dev.watchdog (s : Dev) (kept : Bool) : Dev :=
  let g := s.tickStart + s.rd Reg.RST_CFG_WDT_MS * 1000000
  let hold := s.rd Reg.PTP_STAT_STATE = Servo.holdover
  (s.mapTime fun x => { x with
    gt := max x.gt g, holdNs := if hold then x.holdNs + (g - x.gt) else x.holdNs }).ctrlReset 4 kept

def execSystemWatchdog (kept : Bool) (s : State) : Host.Outcome State Fault Refusal :=
  s.run fun d => if d.inReset then d else d.watchdog kept

/-- A reset announced: REL is to be sent for one tick first (R453). -/
def Dev.endSoon (s : Dev) (cause : Nat) (kept : Bool) : Dev :=
  if s.sys.ending.isSome || s.inReset then s
  else { s with sys := { s.sys with ending := some { cause := cause, sent := false, kept := kept, cars := 0 } } }

/-- SOFTWARE_RESET: a write to RST_CTRL (R453). -/
def Dev.swReset (s : Dev) (v : Nat) (kept : Bool) : Dev :=
  if Reg.RST_CTRL_KEY.cut v != 0xA5C3 then s.inc Reg.RST_CNT_REFUSED
  else if Reg.RST_CTRL_GO.cut v = 0 then s
  else if s.locked && !s.on Reg.RST_CFG_SW_EN then s.inc Reg.RST_CNT_REFUSED
  else s.endSoon 3 kept

def execSoftwareReset (v : BitVec 32) (kept : Bool) (s : State) : Host.Outcome State Fault Refusal :=
  s.run fun d => d.swReset v.toNat kept

/-- The newest record goes straight to the mirror. -/
def Dev.mirrorLast (s : Dev) (code : Nat) : Dev :=
  match s.log.staging.getLast? with
  | some r => if r.code = code then s.mirrorRec r false else s
  | none => s

/-- CONTROLLER_FAULT (R366): an S7 record, mirrored; then REL for one tick and the reset. `lp4x` tells that the fault is a
loss of the LP4X interface; every other one is an uncorrectable error, and counted as such (R354). -/
def Dev.ctrlFault (s : Dev) (lp4x kept : Bool) : Dev :=
  if s.inReset then s
  else (((s.uncorr (!lp4x)).note 0x8007 7 83 0 0 [pU 28 1 5]).mirrorLast 0x8007).endSoon 5 (kept && !lp4x)

def execControllerFault (lp4x kept : Bool) (s : State) : Host.Outcome State Fault Refusal :=
  s.run fun d => d.ctrlFault lp4x kept

/-- Every staged record moved on, before an orderly reset. -/
def Dev.stageOut (s : Dev) : Nat → Dev
  | 0 => s
  | n + 1 => Dev.stageOut s.ringWrite n

/-- The start of a tick while a reset is announced: the leases held are released in this tick's frames (R453). -/
def Dev.relTick (s : Dev) : Dev :=
  match s.sys.ending with
  | some e =>
    if e.sent then s
    else
      let held := (List.finRange 16).filter fun (n : Fin 16) => s.own n
      let mask := (held.map fun n => 2 ^ n.val).sum
      let s := held.foldl (fun (s : Dev) (n : Fin 16) => s.mapLink n fun l => { l with rel := true }) s
      let s := s.mapPbx fun p => { p with rel := 0 }
      { s with sys := { s.sys with ending := some { e with sent := true, cars := mask } } }
  | none => s

/-- The end of that tick: the record of a software reset, then the reset. -/
def Dev.endTick (s : Dev) : Dev :=
  match s.sys.ending with
  | some e =>
    if !e.sent then s
    else
      let s := if e.cause = 3 then s.note 0x8010 4 83 0 0 [pU 28 2 e.cars] else s
      (s.stageOut s.log.staging.length).ctrlReset e.cause e.kept
  | none => s

/-! Clocks (R449) -/

/-- PLL_UNLOCK. -/
def Dev.pllUnlock (s : Dev) (p : Pll) (kept : Bool) : Dev :=
  match p with
  | .engine n =>
    { s.inc Reg.CLK_CNT_UNLOCK with sys := { s.sys with unlocked := setBit s.sys.unlocked n.val true } }
  | .host =>
    if s.host.refHeld then s
    else
      let s := ((s.hostReset .perst).flag Reg.CLK_STAT_HOST_LOCK false).flag Reg.CLK_STAT_PCIE_REF_OK false
      s.mapHost fun h => { h with refHeld := true }
  | _ => s.ctrlReset 7 kept

def execPllUnlock (p : Pll) (kept : Bool) (s : State) : Host.Outcome State Fault Refusal := s.run fun d => d.pllUnlock p kept

/-- PCIE_REFCLK_RESTORED: the host island leaves the reset it was held in, and its link trains. -/
def Dev.refclkBack (s : Dev) (speed : Fin 3) (x2 : Bool) : Dev :=
  if s.inReset then s
  else (((s.flag Reg.CLK_STAT_HOST_LOCK true).flag Reg.CLK_STAT_PCIE_REF_OK true).mapHost fun h =>
    { h with refHeld := false }).linkTrained speed x2

def execPcieRefclkRestored (speed : Fin 3) (x2 : Bool) (s : State) : Host.Outcome State Fault Refusal :=
  s.run fun d => d.refclkBack speed x2

/-! Idle domains (R444) -/

/-- An access to the persistent tier is pending: a cue key not yet stored, a clear or a flush under way; every other write of the
tier ends with the command that makes it. -/
def Dev.xspBusy (s : Dev) : Bool := s.ladle.keyDue || s.log.clear.isSome || s.log.flushing

/-- A domain whose idle condition holds: PCIE in D3hot with the link in L1; XSP, no access being pending. -/
def Dev.idleOk (s : Dev) (k : Nat) : Bool :=
  if k = 96 then s.on Reg.HST_STAT_D3 && s.host.inL1 else k = 110 && !s.xspBusy

/-- DOMAIN_IDLE: 100 µs without work. -/
def Dev.domIdle (s : Dev) (k : Nat) : Dev :=
  if s.on Reg.PWR_CTRL_AUTO_IDLE && s.dom k = Dom.on && s.idleOk k then s.setDom k Dom.idle else s

def execDomainIdle (k : Fin 112) (s : State) : Host.Outcome State Fault Refusal := s.run fun d => d.domIdle k.val

/-- PCIE and XSP leave IDLE where their idle condition has ended without a DOMAIN_WAKE. -/
def Dev.idleOver (s : Dev) : Dev :=
  ([96, 110] : List Nat).foldl (fun (s : Dev) (k : Nat) => if s.dom k = Dom.idle && !s.idleOk k then s.setDom k Dom.on else s) s

/-- DOMAIN_WAKE. -/
def Dev.domWake (s : Dev) (k : Nat) : Dev := if s.dom k = Dom.idle then s.setDom k Dom.on else s

def execDomainWake (k : Fin 112) (s : State) : Host.Outcome State Fault Refusal := s.run fun d => d.domWake k.val

/-- A port PTP may use (R444). -/
def Dev.ptpMayUse (s : Dev) (p : Nat) : Bool := s.ptpOn && (s.on Reg.PTP_CTRL_FAILOVER_EN || s.rd Reg.PTP_CTRL_PRI_PORT = p)

/-- A port that cues may leave by (R444, R145). -/
def Dev.cueMayUse (s : Dev) (p : Nat) : Bool :=
  let c := s.rd Reg.LDL_CUE_CFG_PORT
  s.on Reg.LDL_CTRL_CUE_EN && (c = 3 || c = p + 1
    || (c = 0 && (s.rd Reg.PTP_CTRL_PRI_PORT = p || (s.ptpOn && s.on Reg.PTP_CTRL_FAILOVER_EN))))

/-- The off condition of a domain (R444). -/
def Dev.offCond (s : Dev) (k : Nat) : Bool :=
  if k = 97 || k = 98 then !s.ptpMayUse (k - 97) && !s.cueMayUse (k - 97)
  else if 99 ≤ k && k ≤ 102 then !bit (s.rd Reg.SBC_CTRL_EN) (k - 99)
  else k = 103 && !s.on Reg.PBX_CTRL_EN

/-- Domains whose off condition holds go off at SETUP_LOCK (R444, R456). -/
def Dev.offAtLock (s : Dev) : Dev :=
  ((List.range 7).map (· + 97)).foldl (fun (s : Dev) (k : Nat) =>
    if s.dom k = Dom.on && s.offCond k then s.setDom k Dom.off else s) s

/-! Temperature (R455) -/

/-- The die temperature as measured, and its highest since the cold start. -/
def Dev.seeTj (s : Dev) (t : Int) : Dev :=
  let s := s.wrI Reg.PWR_MON_TJ t
  if s.rdI Reg.PWR_TJ_MAX < t then s.wrI Reg.PWR_TJ_MAX t else s

/-- The record of a thermal warning, once a minute. -/
def Dev.warnRecord (s : Dev) : Dev :=
  let g := s.gt
  { s.memError 5 0xFF 111 0 0 with sys := { s.sys with warnGt := g } }

/-- THERMAL_WARNING: above 100 °C (R455, R501). -/
def Dev.thermWarn (s : Dev) (t : Int) : Dev :=
  let s := s.seeTj t
  if t ≤ 100 || s.on Reg.PWR_MON_TWARN then s else (s.flag Reg.PWR_MON_TWARN true).warnRecord

def execThermalWarning (tj : Int) (s : State) : Host.Outcome State Fault Refusal := s.run fun d => d.thermWarn tj

/-- A minute later, while the warning stands. -/
def Dev.warnTick (s : Dev) : Dev :=
  if s.on Reg.PWR_MON_TWARN && s.sys.warnGt + 60000000000 ≤ s.gt then s.warnRecord else s

/-- THERMAL_WARNING_CLEAR: 5 °C below the warning limit. -/
def Dev.thermClear (s : Dev) (t : Int) : Dev :=
  let s := s.seeTj t
  if t ≤ 95 then s.flag Reg.PWR_MON_TWARN false else s

def execThermalWarningClear (tj : Int) (s : State) : Host.Outcome State Fault Refusal := s.run fun d => d.thermClear tj

/-- THERMAL_SHUTDOWN: above 115 °C (R501). -/
def Dev.thermStop (s : Dev) (t : Int) (kept : Bool) : Dev :=
  let s := s.seeTj t
  if 115 < t then s.ctrlReset 6 kept else s

def execThermalShutdown (tj : Int) (kept : Bool) (s : State) : Host.Outcome State Fault Refusal :=
  s.run fun d => d.thermStop tj kept

/-! Ethernet links (R145, R363) -/

/-- ETH_LINK_CHANGE: waiting cue copies leave by a port that gains link; the active PTP port that loses it fails over. -/
def Dev.ethLink (s : Dev) (p : Fin 2) (up gig : Bool) : Dev :=
  if s.on (if p = 0 then Reg.CTN_ISO_IO_ETH0 else Reg.CTN_ISO_IO_ETH1) then s
  else if up then
    let s := (s.flag (Reg.PTP_ETH_STAT_LINK p.val) true).flag (Reg.PTP_ETH_STAT_SPEED p.val) gig
    (s.cueFirstAll s.gt).cueSecondAll s.gt
  else if s.actPort = p then s.ptpLinkLost
  else s.flag (Reg.PTP_ETH_STAT_LINK p.val) false

def execEthLinkChange (p : Fin 2) (up gig : Bool) (s : State) : Host.Outcome State Fault Refusal :=
  s.run fun d => d.ethLink p up gig

end Sys2Proof.Machine
end

