-- ==== Sys2Proof/Machine/Setup.lean ====
section
/-! DEFINITION. The setup register space: what a register write does by its access code and by its block, SETUP_LOCK and its
conditions, car enables, OTP programming (R67, R72, R463 to R472, R483 to R487, and the lock conditions of every chapter). -/

namespace Sys2Proof.Machine

/-! Writes by access code (R463) -/

/-- Entries and fields of EVT_STEER a write reaches: entries 84 to 127 none, EQ only for event sources, VEC only for ring
sources (R485). -/
def steerField (f : RF) : Bool :=
  if f.off < 0x2000 || 0x2200 ≤ f.off then true
  else
    let src := (f.off - 0x2000) / 4
    decide (src < 84) && (f.lsb = 31 || (f.lsb = 8 && decide (40 ≤ src)) || (f.lsb = 0 && decide (src < 40)))

/-- One field of a register that the word `w` is written to. -/
def Dev.fieldWr (s : Dev) (w : Nat) (f : RF) : Dev :=
  let v := f.cut w
  match f.acc with
  | .rw => s.fieldSet f v
  | .rwl => if s.locked then s else s.fieldSet f v
  | .rwt => if steerField f && f.admits v then s.wrNext f v else s
  | .w1c => s.wr f (clearBits (s.rd f) v)
  | .w1cf => if v = 0 then s else s.wr f 0
  | .ro | .wo | .w1s => s

/-- SJW of a bit timing register stays as it was where the value written is above TSEG2 as the register then holds it (R15,
R353). -/
def Dev.sjwKeep (old new : Dev) (off : Nat) : Dev :=
  let c := (off - 0xA400) / 0x400
  let keep := fun (sjw seg : RF) => if new.rd seg < new.rd sjw then new.wr sjw (old.rd sjw) else new
  if off < 0xA400 || 0xB400 ≤ off then new
  else if off % 0x400 = 4 then keep (Reg.SBC_CH_NBT_SJW c) (Reg.SBC_CH_NBT_TSEG2 c)
  else if off % 0x400 = 8 then keep (Reg.SBC_CH_DBT_SJW c) (Reg.SBC_CH_DBT_TSEG2 c)
  else new

/-- A register written by its fields alone; a write to an RWL register after SETUP_LOCK is counted. -/
def Dev.plainWr (s : Dev) (off v : Nat) : Dev :=
  let l := Reg.fieldsAt off
  let s := if s.locked && l.any (fun f => f.acc = .rwl) then s.inc Reg.GLB_CNT_LOCKWR else s
  s.sjwKeep (l.foldl (fun (s : Dev) (f : RF) => s.fieldWr v f) s) off

/-- A write to an RWL register with an effect of its own: before SETUP_LOCK the effect, after it the count. -/
def Dev.preLock (s : Dev) (go : Dev → Dev) : Dev := if s.locked then s.inc Reg.GLB_CNT_LOCKWR else go s

/-! Tables behind index registers -/

/-- TRK_LTAB_DATA (R158): word 5 is read-only, word 4 keeps 16 bits. -/
def Dev.ltabWr (s : Dev) (n : Fin 16) (v : Nat) : Dev :=
  let w := s.rd (Reg.TRK_LTAB_IDX_WORD n.val)
  let key := s.rd (Reg.TRK_LTAB_IDX_LANDING n.val) * 8 + w
  if w = 5 then s
  else s.mapTrk n fun t => { t with ltab := RegMap.set t.ltab key (if w = 4 then v % 65536 else v % 2 ^ 32) }

/-- DOR_FM_DATA (R221): the values written replace the stored model. -/
def Dev.fmWr (s : Dev) (n : Fin 16) (v : Nat) : Dev :=
  let d := Fin.ofNat 2 (s.rd (Reg.DOR_FM_IDX_DOOR n.val))
  let m := s.cars[n].fm[d]
  let m := { m with fric := m.fric.set (s.rd (Reg.DOR_FM_IDX_BIN n.val)) (v % 65536), preset := true }
  (s.mapCar n fun c => { c with fm := c.fm.set d m }).mapNv fun x => { x with
    force := x.force.set (Fin.ofNat 32 (2 * n.val + d.val)) (some m) }

/-- A part of a scene word: the new bits where their value is in range, else the old ones. -/
def keepPart (old new lsb w : Nat) (ok : Nat → Bool) : Nat :=
  let v := new / 2 ^ lsb % 2 ^ w
  (if ok v then v else old / 2 ^ lsb % 2 ^ w) * 2 ^ lsb

/-- HLC_SCN_DATA0 to 2 (R323): reserved bits stay 0. -/
def Dev.scnWr (s : Dev) (n : Fin 16) (w v : Nat) : Dev :=
  let run := s.on (Reg.HLC_SCN_IDX_SEL n.val)
  let i := s.rd (Reg.HLC_SCN_IDX_INDEX n.val)
  let f := scnWord n.val (if run then 256 + i else i) w
  let old := s.rd f
  let any := fun (_ : Nat) => true
  if !run && 255 < i then s
  else if w = 0 && !run then
    s.wr f (keepPart old v 16 9 (fun x => decide (x ≤ 383)) + keepPart old v 0 6 (fun x => decide (x ≤ 32)))
  else if w = 0 then
    s.wr f (keepPart old v 16 7 any + keepPart old v 8 7 any + keepPart old v 0 8 (fun x => 1 ≤ x && x ≤ 128))
  else if !run then s
  else s.wr f (if w = 1 then v % 2 ^ 32 else v % 65536)

/-! Car enables (R26, R456 step 7, R472) -/

/-- What a start-up test of a domain shows: a test that is not listed has passed. -/
def Dev.bootTest (s : Dev) (g : List (Nat × BistSig)) (l : List (Fin 112 × TestEnd)) (d : Nat) : LogicRes × List MacroRes :=
  let mine := l.filter fun p => p.1.val = d
  let sig := bistSig g d
  let logic := (mine.findSome? fun p =>
    match p.2 with
    | .logic misr chains => some (logicRes sig (s.on Reg.WHK_CTRL_DIAG_EN) 0 misr chains)
    | .memory _ => none).getD (logicRes sig false 0 sig.sets sig.chains)
  let mem := (mine.findSome? fun p =>
    match p.2 with
    | .memory reads => some reads
    | .logic .. => none).getD []
  (logic, s.memRes d mem)

/-- A domain tested at start-up, then started whatever the result (R433, R456). -/
def Dev.testedStart (s : Dev) (g : List (Nat × BistSig)) (l : List (Fin 112 × TestEnd)) (d : Nat) : Dev :=
  let (logic, mem) := s.bootTest g l d
  let s := (s.logicDone d false logic).memDone d false mem
  let s := if logic.pass && mem.isEmpty then s else s.flag Reg.WHK_STAT_BOOT_FAIL true
  s.setDom d Dom.on

/-- The slice port of a car starts: it looks for its partner's symbols (R273). SEED comes from the persistent tier (R281). -/
def Dev.portStart (s : Dev) (g : List (Nat × BistSig)) (l : List (Fin 112 × TestEnd)) (n : Fin 16) : Dev :=
  let s := (s.testedStart g l (80 + n.val)).wr (Reg.SLP_SEED n.val) s.nv.seed[n]
  (s.mapLink n fun _ => CLink.start).setLink n (if s.on (Reg.SLP_CTRL_EN n.val) then Lk.search else Lk.off)

/-- SLP_CTRL.EN written (R273): 0 turns the port OFF, 1 starts it, on an enabled car. -/
def Dev.portEnable (s : Dev) (n : Fin 16) : Dev :=
  if !s.carOn n.val || bit (s.rd Reg.CTN_ISO_SP) n.val then s
  else if !s.on (Reg.SLP_CTRL_EN n.val) then
    let s := (s.leaseLose n 0xFF 1).waitsEnd n Stat.noLease true
    (s.mapLink n fun _ => CLink.start).setLink n Lk.off
  else if s.lk n = Lk.off then s.setLink n Lk.search
  else s

/-- Every enabled car's port that is off starts. -/
def Dev.startPorts (s : Dev) (g : List (Nat × BistSig)) (l : List (Fin 112 × TestEnd)) : Dev :=
  (List.finRange 16).foldl (fun (s : Dev) (n : Fin 16) =>
    if s.carOn n.val && s.dom (80 + n.val) = Dom.off then s.portStart g l n else s) s

/-- GLB_CAR_EN: bits are set before SETUP_LOCK; a set bit stays (R472). -/
def Dev.carMaskWr (s : Dev) (v : Nat) : Dev :=
  s.preLock fun s => s.wr Reg.GLB_CAR_EN_MASK (s.rd Reg.GLB_CAR_EN_MASK ||| (v % 65536))

/-- CAR_ENABLE_WRITE: the ports of the cars it enables are tested and start (R457). -/
def execCarEnableWrite (v : BitVec 32) (tests : List (Fin 112 × TestEnd)) (s : State) : Host.Outcome State Fault Refusal :=
  s.runO fun o d => if d.inReset then d else (d.carMaskWr v.toNat).startPorts o.bist tests

/-! Lock conditions -/

/-- The first of a list of conditions that fails, by its position counted from 1. -/
def firstTrue : List Bool → Nat → Option Nat
  | [], _ => none
  | b :: l, i => if b then some i else firstTrue l (i + 1)

/-- Conditions of a block without cars. -/
def lockOne (blk : Nat) (l : List Bool) : Option (Nat × Nat × Nat) := (firstTrue l 1).map fun i => (blk, 0xFF, i)

/-- Conditions of a block that repeats per car: enabled cars in ascending order (R469). -/
def Dev.lockCars (s : Dev) (blk : Nat) (f : Fin 16 → List Bool) : Option (Nat × Nat × Nat) :=
  (List.finRange 16).findSome? fun (n : Fin 16) =>
    if s.carOn n.val then (firstTrue (f n) 1).map fun i => (blk, n.val, i) else none

/-- A port's MAC or IP is zero. -/
def Dev.portBare (s : Dev) (p : Nat) : Bool := s.portMac p = 0 || s.rd (Reg.PTP_ETH_IP p) = 0

/-- R63. -/
def Dev.lockTime (s : Dev) : List Bool :=
  let pri := s.rd Reg.PTP_CTRL_PRI_PORT
  let en := s.on Reg.PTP_CTRL_EN
  [s.rd Reg.TSP_CTRL_SRC = 0 && !en, en && s.portBare pri, s.on Reg.PTP_CTRL_FAILOVER_EN && s.portBare (1 - pri)]

/-- R151. With PORT = 0b00 the primary port is selected (log entry 41). -/
def Dev.lockLadle (s : Dev) : List Bool :=
  let en := s.on Reg.LDL_CTRL_CUE_EN
  let c := s.rd Reg.LDL_CUE_CFG_PORT
  let bare := fun (p : Nat) => s.rd (Reg.PTP_ETH_IP p) = 0
  let sel := fun (p : Nat) => c = 3 || c = p + 1 || (c = 0 && s.rd Reg.PTP_CTRL_PRI_PORT = p)
  [en && s.rd Reg.LDL_CUE_DST = 0, en && ((sel 0 && bare 0) || (sel 1 && bare 1)),
    en && s.on Reg.LDL_CTRL_CUE_AUTH && !s.on Reg.LDL_STAT_KEY_VALID]

/-- Size of the logbook ring, MiB. -/
def Dev.ringMib (s : Dev) : Nat := (2 ^ s.rd Reg.LOG_RING_LOG2SZ * 64 + (2 ^ 20 - 1)) / 2 ^ 20

/-- Numerator of a channel's bit rate in units of 80 MHz: clocks per bit (R353). -/
def Dev.nomClocks (s : Dev) (c : Nat) : Nat :=
  s.rd (Reg.SBC_CH_NBT_BRP c) * (1 + s.rd (Reg.SBC_CH_NBT_TSEG1 c) + s.rd (Reg.SBC_CH_NBT_TSEG2 c))
def Dev.dataClocks (s : Dev) (c : Nat) : Nat :=
  s.rd (Reg.SBC_CH_DBT_BRP c) * (1 + s.rd (Reg.SBC_CH_DBT_TSEG1 c) + s.rd (Reg.SBC_CH_DBT_TSEG2 c))

/-- The ten identifier ranges that are enabled: class, IDE, low and high end. -/
def Dev.idRanges (s : Dev) : List (Nat × Nat × Nat × Nat) :=
  (List.range 5).flatMap fun c => ((List.range 2).filter fun r => s.on (Reg.SBC_CLS_LO_EN c r)).map fun r =>
    (c, s.rd (Reg.SBC_CLS_LO_IDE c r), s.rd (Reg.SBC_CLS_LO_ID_LO c r), s.rd (Reg.SBC_CLS_HI_ID_HI c r))

/-- R353. -/
def Dev.lockBus (s : Dev) : List Bool :=
  let en := fun (c : Nat) => bit (s.rd Reg.SBC_CTRL_EN) c
  let chan := fun (f : Nat → Bool) => (List.range 4).any fun c => en c && f c
  let l := s.idRanges
  let pair := fun (p : Nat) => s.on (if p = 0 then Reg.SBC_CTRL_PAIR_A else Reg.SBC_CTRL_PAIR_B)
  [chan fun c => decide (s.nomClocks c < 80) || decide (640 < s.nomClocks c),
    chan fun c => decide (s.dataClocks c < 16) || decide (s.nomClocks c < s.dataClocks c),
    (List.range 2).any fun p => pair p && !(en (2 * p) && en (2 * p + 1)),
    l.any fun a => l.any fun b => a.1 != b.1 && a.2.1 = b.2.1 && a.2.2.1 ≤ b.2.2.2 && b.2.2.1 ≤ a.2.2.2,
    l.any fun a => decide (a.2.2.2 < a.2.2.1) || (a.2.1 = 0 && decide (0x7FF < a.2.2.2)),
    (List.range 2).any fun p => pair p && decide (64 < s.rd (Reg.SBC_PAIR_SEQ_OFS p) + s.rd (Reg.SBC_PAIR_SEQ_LEN p) + 1)]

/-- The case of R250 for a car: in simplex the takeover time is 0. -/
def Dev.orphanShort (s : Dev) (n : Nat) : Bool :=
  !s.orphanOk n (if s.on Reg.PBX_CTRL_EN then takeoverUs (s.on Reg.PBX_CTRL_TESTED) else 0)

/-- R401. -/
def Dev.lockPair (s : Dev) : List Bool :=
  let en := s.on Reg.PBX_CTRL_EN
  [en && decide (s.rd Reg.TVT_STALL_STALL_MS < 2 * s.rd Reg.TVT_CTRL_PERIOD_MS),
    en && (List.range 16).any fun n => s.carOn n && s.orphanShort n]

/-- R423. -/
def Dev.lockLog (s : Dev) : List Bool :=
  let b := s.rd Reg.LOG_PREG_BASE_MIB
  [decide (s.rd Reg.LAR_STAT_SIZE_MIB < 40 + s.ringMib + s.rd Reg.LAR_TRACE_MIB),
    decide (s.rd Reg.XSP_STAT_SIZE_MIB < b + s.rd Reg.LOG_PREG_SIZE_MIB) || decide (b < 8)]

/-- R181. -/
def Dev.lockTrk (s : Dev) (n : Nat) : List Bool :=
  let ssi := s.on (Reg.TRK_ENC_CFG_TYPE n)
  [decide (s.rd (Reg.TRK_WIN_W2_MM n) ≤ s.rd (Reg.TRK_WIN_W1_MM n)), decide (s.rd (Reg.TRK_REREF_MM n) ≤ s.rd (Reg.TRK_WIN_W2_MM n)),
    !ssi && s.rd (Reg.TRK_CTRL_BOT_IN n) = 0xFF,
    ssi && (decide (s.rd (Reg.TRK_ENC_CFG_SSI_BITS n) < 24) || decide (32 < s.rd (Reg.TRK_ENC_CFG_SSI_BITS n))),
    s.rd (Reg.TRK_ENC_SCALE n) = 0, s.on (Reg.TRK_CTRL_LW_EN n) && s.rd (Reg.TRK_LW_GAIN n) = 0]

/-- R206. -/
def Dev.lockMot (s : Dev) (n : Nat) : List Bool :=
  let fast := fun (f : RF) => decide (s.rd (Reg.MOT_VMAX n) < s.rd f * 1000)
  [!s.on (Reg.DRP_CTRL_EN n), fast (Reg.MOT_SLOW_V_LEV n) || fast (Reg.MOT_SLOW_V_REF n) || fast (Reg.MOT_SLOW_V_INSP n),
    fast (Reg.TRK_LEARN_SPEED_MM n), decide (s.rd (Reg.MOT_AJ_A_MAX n) < s.rd (Reg.DRP_HOLD_DEC n))]

/-- The ladder limits U0 to U7 of a door. -/
def Dev.ladder (s : Dev) (n d : Nat) : List Nat :=
  (List.range 4).flatMap fun k => [s.rd (Reg.DOR_LAD_UEVEN n d k), s.rd (Reg.DOR_LAD_UODD n d k)]

/-- Strictly increasing. -/
def rising : List Nat → Bool
  | a :: b :: l => decide (a < b) && rising (b :: l)
  | _ => true

/-- R235, the conditions of one door. -/
def Dev.lockDoor (s : Dev) (n d : Nat) : List Bool :=
  let u := s.ladder n d
  let imax := s.rd (Reg.DOR_CUR_I_RUN_MAX n d)
  let creep := s.rd (Reg.DOR_SPD_V_CREEP n d)
  [s.rd (Reg.DOR_ROLE_LOCK_IN n d) = 0xFF, !s.on (Reg.DOR_ROLE_STALL n d) && !s.on (Reg.DOR_ROLE_ENC_EN n d),
    s.rd (Reg.DOR_FORCE_K_F n d) = 0,
    decide (imax < s.rd (Reg.DOR_CUR_I_HOLD n d)) || decide (imax < s.rd (Reg.DOR_CUR_I_RUN_MIN n d)),
    decide (s.rd (Reg.DOR_SPD_V_NUDGE n d) ≤ creep) || decide (s.rd (Reg.DOR_CLOSE_V_CLOSE n d) ≤ creep),
    !rising u, (List.range 8).any fun r => decide (40000 * 2 ^ r < u.getD r 0 * 256),
    (List.range 4).any fun p => decide (40000 * s.rd (Reg.DOR_GEOM_UM_FS n d) < s.rd (Reg.DOR_OPEN_V_OPEN n d p) * 10000)]

/-- The doors of a car that are fitted: a condition fails where it fails for one of them. -/
def Dev.lockDoors (s : Dev) (n : Nat) : List Bool :=
  let l := ((List.range 2).filter fun d => bit (s.fitted n) d).map fun d => s.lockDoor n d
  (List.range 8).map fun i => l.any fun c => c.getD i false

/-- A configurable rule that is enabled and ill-formed (R241, R260). -/
def Dev.ruleBad (s : Dev) (n r : Nat) : Bool :=
  let b := s.rd (Reg.ILK_RULE_SIG_B n r)
  s.on (Reg.ILK_RULE_EN n r) && (decide (47 < s.rd (Reg.ILK_RULE_SIG_A n r)) || (decide (47 < b) && b != 0xFF)
    || s.rd (Reg.ILK_RULE_EFFECT n r) = 0 || s.rd (Reg.ILK_SCOPE_MODES n r) = 0)

/-- R260. -/
def Dev.lockIlk (s : Dev) (n : Nat) : List Bool :=
  let l := s.rd (Reg.ILK_RECALL_LANDING n)
  [s.rd (Reg.ILK_ROLE0_SC_IN n) = 0xFF, decide (s.landings n ≤ l) || !s.served n l,
    !s.doorMaskOk n (s.rd (Reg.ILK_RECALL_DOORS n)) || !s.doorMaskOk n (s.rd (Reg.ILK_EVR_EXIT_MASK n)),
    s.on (Reg.ILK_CTRL_FF_LIFT n) && s.rd (Reg.ILK_RECALL_DOORS n) = 0, (List.range 16).any fun r => s.ruleBad n r,
    s.orphanShort n]

/-- Word `w` of a scene header or run as the host wrote it. -/
def Dev.scn (s : Dev) (n i w : Nat) : Nat := s.rd (scnWord n i w)

/-- Runs a scene uses, as run numbers. -/
def Dev.scnRuns (s : Dev) (n i : Nat) : List Nat :=
  let h := s.scn n i 0
  (List.range (h % 64)).map fun k => h / 2 ^ 16 % 512 + k

/-- R335. -/
def Dev.lockLamp (s : Dev) (n : Nat) : List Bool :=
  let ports := (List.range 2).filter fun p => s.hcOn n p
  let nodes := fun (p : Nat) => s.rd (Reg.HLC_PORT_NODES n p)
  [ports.any fun p => decide (s.rd (Reg.HLC_CTRL_PERIOD_US n) < (64 * nodes p + 32) * 2 + 40), ports.any fun p => nodes p = 0,
    (List.range 256).any fun i => s.scn n i 0 % 64 != 0 && decide (384 < s.scn n i 0 / 2 ^ 16 % 512 + s.scn n i 0 % 64),
    (List.range 256).any fun i => (s.scnRuns n i).any fun r =>
      s.scn n (256 + r) 0 % 256 = 0 || decide (128 < s.scn n (256 + r) 0 / 2 ^ 16 % 128 + s.scn n (256 + r) 0 % 256),
    let m := s.rd (Reg.LMP_S_ORPH_MASK n)
    m &&& s.rd (Reg.LMP_S_CFG_STR_EN n) != m]

/-- R289. -/
def Dev.lockSlp (s : Dev) (n : Nat) : List Bool :=
  [decide (s.rd (Reg.SLP_LEASE_L_MS n) ≤ s.rd (Reg.SLP_LEASE_G_MS n)), s.orphanShort n]

/-- R310. -/
def Dev.lockFio (s : Dev) (n : Nat) : List Bool :=
  let init := s.rd (Reg.FIO_OUT_INIT n)
  let named := [s.rd (Reg.DOR_ROLE_BUZ_OUT n 0), s.rd (Reg.DOR_ROLE_BUZ_OUT n 1), s.rd (Reg.ILK_ROLE1_OVL_OUT n)]
  [!(s.pairsAgree n init && s.pairsAgree n (s.rd (Reg.FIO_OUT_DIAG_OL_EN n)) && s.pairsAgree n (s.rd (Reg.FIO_OUT_DIAG_SB_EN n))),
    named.any fun o => decide (o < 16) && bit init o]

/-- The first lock condition that fails: block code, car or 0xFF, position (R469, R471). Blocks are checked in ascending
code; where a chapter lists conditions for several blocks together they count for the first. -/
def Dev.lockFail (s : Dev) : Option (Nat × Nat × Nat) :=
  lockOne 0x01 [s.rd Reg.GLB_CAR_EN_MASK = 0]
    <|> lockOne 0x05 s.lockTime
    <|> lockOne 0x07 s.lockLadle
    <|> lockOne 0x09 [decide (s.rd Reg.LAR_STAT_SIZE_MIB < 40 + s.rd Reg.LAR_TRACE_MIB)]
    <|> lockOne 0x0A [!s.on Reg.XSP_STAT_READY, decide (s.rd Reg.XSP_STAT_SIZE_MIB < 16)]
    <|> lockOne 0x0B s.lockBus
    <|> lockOne 0x0C s.lockPair
    <|> lockOne 0x0E s.lockLog
    <|> s.lockCars 0x20 (fun n => s.lockTrk n.val)
    <|> s.lockCars 0x21 (fun n => s.lockMot n.val)
    <|> s.lockCars 0x23 (fun n => s.lockDoors n.val)
    <|> s.lockCars 0x24 (fun n => s.lockIlk n.val)
    <|> s.lockCars 0x25 (fun n => s.lockLamp n.val)
    <|> s.lockCars 0x30 (fun n => s.lockSlp n.val)
    <|> s.lockCars 0x31 (fun n => s.lockFio n.val)
    <|> s.lockCars 0x35 (fun n => [s.on (Reg.TRK_CTRL_LW_EN n.val) && !s.on (Reg.LWT_CFG_EXC_EN n.val)])

/-! SETUP_LOCK (R469, R470, R456 step 8) -/

/-- What sets in with SETUP_LOCK: memory regions, the Logbook's geometry, domains off, landing tables, the pair. -/
def Dev.lockDone (s : Dev) (src : Nat) : Dev :=
  let s := ((s.flag Reg.GLB_LOCK true).wr Reg.GLB_LOCK_SRC src).flag Reg.GLB_LOCK_ERR_VALID false
  let trace := 40 + s.ringMib
  let s := ((s.wr Reg.LAR_LOG_BASE_MIB 40).wr Reg.LAR_TRACE_BASE_MIB trace).wr Reg.LAR_FREE_FREE_MIB
    (s.rd Reg.LAR_STAT_SIZE_MIB - (trace + s.rd Reg.LAR_TRACE_MIB))
  let s := s.logGeometry.offAtLock
  let s := (List.finRange 16).foldl (fun (s : Dev) (n : Fin 16) => if s.carOn n.val then s.adoptTable n else s) s
  let s := s.wr Reg.PBX_STAT_TESTED (s.rd Reg.PBX_CTRL_TESTED)
  let s := (s.wr Reg.RST_STAT_STEP 8).flag Reg.RST_STAT_BOOT_DONE true
  let s := s.wrI Reg.RST_BOOT_MS (clampI 0 65535 (((s.gt : Int) - s.sys.release) / 1000000))
  s.pbxEnable.judgePeer.roleMeet

/-- SETUP_LOCK tried: set, or the first condition that fails reported. `src` is 0 for a request, 1 for an image. -/
def Dev.tryLock (s : Dev) (src : Nat) : Bool × Dev :=
  match s.lockFail with
  | none => (true, s.lockDone src)
  | some (blk, unit, chk) =>
    let s := ((s.wr Reg.GLB_LOCK_ERR_BLOCK blk).wr Reg.GLB_LOCK_ERR_UNIT unit).wr Reg.GLB_LOCK_ERR_CHECK chk
    (false, (s.flag Reg.GLB_LOCK_ERR_VALID true).note 0x800F 3 83 0 0 [pU 28 1 blk, pU 29 1 unit, pU 30 1 chk, pU 31 1 src])

/-- LOCK_REQUEST: a write to GLB_LOCK. -/
def Dev.lockReq (s : Dev) (v : Nat) : Dev :=
  if Reg.GLB_LOCK_KEY.cut v != 0x5E7C || Reg.GLB_LOCK.cut v = 0 || s.inReset then s
  else if s.on Reg.OTP_STAT_IMG_REQ || s.locked then s.inc Reg.GLB_CNT_LOCKWR
  else (s.tryLock 0).2

def execLockRequest (v : BitVec 32) (s : State) : Host.Outcome State Fault Refusal := s.run fun d => d.lockReq v.toNat

/-! OTP (R483, R484) -/

/-- The registers that show OTP (R464: loaded at start-up step 1). Keys are present where they are not all zero. -/
def Dev.loadOtp (s : Dev) (o : Otp) : Dev :=
  let has := fun (k : List Byte) => k.any fun b => b != 0
  let prog := ((List.finRange 4).map fun (k : Fin 4) => if o.slot[k].isSome then 2 ^ k.val else 0).sum
  let s := (s.wr Reg.GLB_SER_LO o.serial).wr Reg.GLB_SER_HI (o.serial / 2 ^ 32)
  let s := ((s.wr Reg.OTP_VID o.vid).wr Reg.OTP_SS_SSID o.ssid).wr Reg.OTP_SS_SSVID o.ssvid
  let s := ((s.flag Reg.OTP_STAT_STORE_KEY (has o.storeKey)).flag Reg.OTP_STAT_REPAIR_KEY (has o.repairKey)).flag
    Reg.OTP_STAT_LOG_KEY (has o.logKey)
  let s := ((s.wr Reg.OTP_STAT_PK_PROG prog).wr Reg.OTP_STAT_PK_REV o.revoked).flag Reg.OTP_STAT_IMG_REQ o.imgReq
  let s := (List.finRange 4).foldl (fun (s : Dev) (k : Fin 4) =>
    (List.range 8).foldl (fun (s : Dev) (w : Nat) =>
      s.wr (Reg.OTP_KEYHASH_HASH k.val w) (leAt (o.slot[k].getD []) (4 * w) 4)) s) s
  s.flag Reg.OTP_STAT_READY true

/-- Slots that are programmed and not revoked. -/
def Otp.live (o : Otp) (k : Fin 4) : Bool := o.slot[k].isSome && !bit o.revoked k.val

/-- An item that holds something, or is unusable. -/
def Otp.done (o : Otp) (item : Nat) : Bool :=
  bit o.spoiled item ||
    (if item = 0 then o.ssvid != 0 || o.ssid != 0
     else if item ≤ 4 then o.slot[Fin.ofNat 4 (item - 1)].isSome
     else if item ≤ 8 then bit o.revoked (item - 5)
     else o.imgReq)

/-- A request that R484 refuses. -/
def Dev.progRefused (s : Dev) (o : Otp) (item : Nat) : Bool :=
  let live := (List.finRange 4).filter fun (k : Fin 4) => o.live k
  s.locked || 9 < item || o.done item
    || (5 ≤ item && item ≤ 8 && (live.filter fun (k : Fin 4) => k.val != item - 5).isEmpty)
    || (item = 9 && live.isEmpty)

/-- OTP_PROGRAM: a write to SEC_PROG_GO. One request runs at a time. -/
def Dev.otpProg (s : Dev) (o : Otp) (v : Nat) : Dev :=
  if Reg.SEC_PROG_GO_KEY.cut v != 0x0F7A || Reg.SEC_PROG_GO.cut v = 0 || s.sys.prog.isSome then s
  else
    let item := s.rd Reg.SEC_PROG_SEL_ITEM
    if s.progRefused o item then (s.flag Reg.SEC_PROG_STAT_DONE true).wr Reg.SEC_PROG_STAT_RESULT 1
    else
      let data := (List.range 8).flatMap fun w => leBytes 4 (s.rd (Reg.SEC_PROG_DATA w))
      { s.flag Reg.SEC_PROG_STAT_DONE false with sys := { s.sys with prog := some (item, data) } }

def execOtpProgram (v : BitVec 32) (s : State) : Host.Outcome State Fault Refusal := s.runO fun o d => d.otpProg o v.toNat

/-- OTP with an item written; one that is programmed or unusable takes no second write. -/
def Otp.program (o : Otp) (item : Nat) (data : List Byte) : Otp :=
  if o.done item then o
  else if item = 0 then { o with ssid := leAt data 2 2, ssvid := leAt data 0 2 }
  else if item ≤ 4 then { o with slot := o.slot.set (Fin.ofNat 4 (item - 1)) (some data) }
  else if item ≤ 8 then { o with revoked := setBit o.revoked (item - 5) true }
  else { o with imgReq := true }

/-- OTP_PROGRAM_DONE: written, or read back wrong and unusable from now on. -/
def otpDone (good : Bool) (s : State) : State :=
  match s.dev.sys.prog with
  | none => s
  | some (item, data) =>
    let o := if good then s.otp.program item data else { s.otp with spoiled := setBit s.otp.spoiled item true }
    let d := { s.dev with sys := { s.dev.sys with prog := none } }
    let d := if good then d.loadOtp o else d
    { s with otp := o, dev := (d.flag Reg.SEC_PROG_STAT_DONE true).wr Reg.SEC_PROG_STAT_RESULT (if good then 0 else 2) }

def execOtpProgramDone (good : Bool) (s : State) : Host.Outcome State Fault Refusal := .next (otpDone good s)

/-! A register written, block by block -/

/-- The car of an engine window or slice window offset. -/
def carOf (off : Nat) : Fin 16 := if off < 0x40000 then Fin.ofNat 16 ((off - 0x20000) / 0x1000) else Fin.ofNat 16 ((off - 0x40000) / 0x4000)

/-- The windows of a car that is not enabled take no write (R468); nor does the window of an isolated engine (R356). -/
def Dev.windowShut (s : Dev) (off : Nat) : Bool :=
  decide (0x20000 ≤ off) && (!s.carOn (carOf off).val
    || (decide (off < 0x30000) && bit (s.rd Reg.CTN_ISO_CE) (carOf off).val))

/-- A write to an engine window. -/
def Dev.ceWr (s : Dev) (off v : Nat) : Dev :=
  let n := carOf off
  if off % 0x1000 = 0x44 then s.preLock fun s => s.ltabWr n v
  else if off % 0x1000 = 0x30C then s.preLock fun s => s.fmWr n v
  else s.plainWr off v

/-- HLC_SCN_IDX: a scene index above 255 is out of range and ignored (R335). -/
def Dev.scnIdxWr (s : Dev) (n : Fin 16) (off v : Nat) : Dev :=
  let old := s.rd (Reg.HLC_SCN_IDX_INDEX n.val)
  s.plainWr off (if !v.testBit 24 && 255 < v % 512 then v - v % 512 + old else v)

/-- A write to a slice window (R277, R323). -/
def Dev.slWr (s : Dev) (off v : Nat) : Dev :=
  let n := carOf off
  let o := off % 0x4000
  if o = 0xA44 || o = 0xA48 || o = 0xA4C then s.preLock fun s => s.scnWr n ((o - 0xA44) / 4) v
  else if o = 0xA40 then s.scnIdxWr n off v
  else if o = 0x4E8 then s.probeWr n v
  else if o = 0x24 then
    let s := s.plainWr off v
    if s.locked then s else s.portEnable n
  else s.plainWr off v

/-- A write to PTP_CTRL: PTP runs on the port PRI_PORT chooses from the write that enables it or changes the choice (R43);
clearing EN takes the servo to FREE (R44); another DOMAIN starts it anew there. -/
def Dev.ptpCtrlWr (s : Dev) (v : Nat) : Dev :=
  let was := s.on Reg.PTP_CTRL_EN
  let pri := s.rd Reg.PTP_CTRL_PRI_PORT
  let dom := s.rd Reg.PTP_CTRL_DOMAIN
  let s := s.plainWr 0x4800 v
  let s := if dom = s.rd Reg.PTP_CTRL_DOMAIN then s else s.domainBegin
  if was && !s.on Reg.PTP_CTRL_EN then (s.ptpBegin).servo Servo.free
  else if (!was && s.on Reg.PTP_CTRL_EN) || pri != s.rd Reg.PTP_CTRL_PRI_PORT then s.ptpBegin
  else s

/-- A write to TSP_CTRL: FREE_RUN stops the servo's corrections, PTP starts the port anew (R37, R38). DESIGN CHOICE (log
entry 115): a servo in LOCKED or ACQUIRING keeps its state under FREE_RUN; the table of R44 names no exit, and its timeouts
count only while PTP is in use. -/
def Dev.tspCtrlWr (s : Dev) (v : Nat) : Dev :=
  let was := s.rd Reg.TSP_CTRL_SRC
  let s := s.plainWr 0x4000 v
  let now := s.rd Reg.TSP_CTRL_SRC
  if was = now then s else if now = 1 then s.freeRunBegin else s.ptpBegin

/-- A write of the configuration registers: those a configuration image may name (R477). -/
def Dev.cfgWr (s : Dev) (off v : Nat) : Dev :=
  if s.windowShut off then s
  else if 0x40000 ≤ off then s.slWr off v
  else if 0x20000 ≤ off then s.ceWr off v
  else if off = Reg.GLB_CAR_EN_MASK.off then s.carMaskWr v
  else if off = Reg.PTP_CTRL_EN.off then s.ptpCtrlWr v
  else if off = Reg.TSP_CTRL_SRC.off then s.tspCtrlWr v
  else if off = Reg.PBX_CTRL_EN.off then (s.plainWr off v).pbxStart.pbxStop
  else if off = Reg.SBC_CTRL_EN.off then
    let old := s.rd Reg.SBC_CTRL_EN
    (s.plainWr off v).chansEnabled old
  else s.plainWr off v

/-- A write to the HST and RNG registers. BASE registers keep their value while their ring is enabled (R72). DESIGN CHOICE
(log entry 119): the first TMO_MS of the host watchdog counts anew from every write of HST_HWD (R96). -/
def Dev.hostWr (s : Dev) (off v : Nat) : Dev :=
  let ring := fun (base : Nat) => (off - base) / 0x20
  let reg := off % 0x20
  if off = Reg.HST_HWD_KICK.off then s.hwdKick
  else if off = Reg.HST_HWD_TMO_MS.off then
    let g := s.gt
    (s.plainWr off v).mapHost fun h => { h with kickGt := g }
  else if 0x1400 ≤ off && off < 0x1800 then
    if reg = 8 then s.sqCfg (ring 0x1400) v else if reg < 8 && s.on (Reg.RNG_SQ_CFG_EN (ring 0x1400)) then s else s.plainWr off v
  else if 0x1800 ≤ off && off < 0x1C00 then
    if reg = 8 then s.cqCfg (ring 0x1800) v else if reg < 8 && s.on (Reg.RNG_CQ_CFG_EN (ring 0x1800)) then s else s.plainWr off v
  else if 0x1C00 ≤ off && off < 0x1D00 then
    if reg = 8 then s.eqCfg (ring 0x1C00) v else if reg < 8 && s.on (Reg.RNG_EQ_CFG_EN (ring 0x1C00)) then s else s.plainWr off v
  else s.plainWr off v

/-- A write to the MSI-X table; the PBA is read-only. -/
def Dev.msixWr (s : Dev) (off v : Nat) : Dev :=
  if 0x3400 ≤ off then s
  else
    let k := Fin.ofNat 64 ((off - 0x3000) / 16)
    let e := s.host.msix[k]
    let w := off / 4 % 4
    let e :=
      if w = 0 then { e with addr := e.addr / 2 ^ 32 * 2 ^ 32 + v / 4 * 4 }
      else if w = 1 then { e with addr := v * 2 ^ 32 + e.addr % 2 ^ 32 }
      else if w = 2 then { e with data := v }
      else { e with mask := bit v 0 }
    (s.mapHost fun h => { h with msix := h.msix.set k e }).unmask k

/-- A write of the host to BAR0 (R463, R465). The registers of a host island held in reset take none. -/
def Dev.busWr (s : Dev) (o : Otp) (off v : Nat) : Dev :=
  if 0x1000 ≤ off && off < 0x2000 then s.hostWr off v
  else if 0x3000 ≤ off && off < 0x4000 then s.msixWr off v
  else if off = Reg.GLB_LOCK.off then s.lockReq v
  else if off = Reg.RST_CTRL_KEY.off then s.swReset v true
  else if off = Reg.SEC_PROG_GO.off then s.otpProg o v
  else if off = Reg.PBX_CONFIRM_HI.off then s.peerConfirm v
  else if 0x6210 ≤ off && off < 0x6230 then s.cueKeyWr ((off - 0x6210) / 4) v
  else if 0xA400 ≤ off && off < 0xB400 && (off % 0x400 = 0x104 || off % 0x400 = 0x184) then
    s.rxPop (Fin.ofNat 4 ((off - 0xA400) / 0x400)) (Fin.ofNat 2 (off % 0x400 / 0x80))
  else if off = Reg.GLB_CAR_EN_MASK.off then (s.carMaskWr v).startPorts o.bist []
  else s.cfgWr off v

end Sys2Proof.Machine
end

