-- ==== Sys2Proof/Machine/Image.lean ====
section
/-! DEFINITION. The configuration image: its form, its checks, staging, commit and application (R476 to R482). -/

namespace Sys2Proof.Machine

/-! Form (R476, R477) -/

/-- A record's register offset, its scope and its value. -/
abbrev ImgRec := Nat × Nat × Nat

/-- The records of an image. -/
def imgRecs (b : List Byte) : List ImgRec :=
  (List.range (leAt b 12 4)).map fun i =>
    let w := leAt b (128 + 8 * i) 4
    (w % 2 ^ 20, w / 2 ^ 30, leAt b (132 + 8 * i) 4)

/-- Bits of a register that hold fields. -/
def fieldBits (l : List RF) : Nat := l.foldl (fun (m : Nat) (f : RF) => m ||| ((2 ^ f.w - 1) * 2 ^ f.lsb)) 0

/-- The index registers TRK_LTAB_IDX, DOR_FM_IDX and HLC_SCN_IDX, which an image may name. -/
def isIndex (off : Nat) : Bool :=
  (0x20000 ≤ off && off < 0x30000 && (off % 0x1000 = 0x40 || off % 0x1000 = 0x308))
    || (0x40000 ≤ off && off < 0x80000 && off % 0x4000 = 0xA40)

/-- A register a record may name (R477). -/
def mayName (off : Nat) : Bool :=
  (isIndex off || (Reg.fieldsAt off).any fun f => f.acc = .rwl || f.acc = .rwt)
    && !(0x1000 ≤ off && off < 0x2000) && !(0x3000 ≤ off && off < 0x4000) && !(0x11000 ≤ off && off < 0x12000)
    && off != Reg.GLB_LOCK.off

/-- A valid record word and value: aligned, scope not reserved, reserved bits 0. -/
def recOk (w v : Nat) : Bool :=
  let off := w % 2 ^ 20
  off % 4 = 0 && w / 2 ^ 20 % 2 ^ 10 = 0 && w / 2 ^ 30 != 3 && mayName off && v &&& fieldBits ((Reg.fieldsAt off).filter steerField) = v

/-- The form of an image of `len` bytes. -/
def imgForm (len : Nat) (b : List Byte) : Bool :=
  b.length = len && leAt b 8 4 = len && 200 ≤ len && len ≤ 3 * 2 ^ 20 && len = 128 + 8 * leAt b 12 4 + 64
    && leAt b 0 4 = 0x4D494B57 && byteAt b 4 = 1 && byteAt b 5 = 0xB1 && leAt b 6 2 = 0x1640
    && zeros b 36 4 && zeros b 104 24
    && (List.range (leAt b 12 4)).all fun i => recOk (leAt b (128 + 8 * i) 4) (leAt b (132 + 8 * i) 4)

/-! Checks (R478, R480) -/

/-- The image hash. -/
def imgHash (b : List Byte) : List Byte := Config.sha256 (b.take (b.length - 64))

/-- The serial bound to this controller is none or its own. -/
def Dev.imgSerial (s : Dev) (o : Otp) (b : List Byte) : Bool :=
  let w := leAt b (if s.xy = 0 then 16 else 24) 8
  w = 0 || w = o.serial

/-- The key slot that holds the digest of the image's public key. -/
def Otp.keySlot (o : Otp) (b : List Byte) : Option Nat :=
  ((List.finRange 4).find? fun (k : Fin 4) => o.live k && o.slot[k] = some (Config.sha256 (cut b 40 64))).map (·.val)

/-- The checks of an image in order: the key slot that verifies it, or the number of the first check that fails, as
IMAGE_REJECTED codes it: 0 form, 1 serial, 2 key slot, 3 signature. -/
def Dev.imgCheck (s : Dev) (o : Otp) (len : Nat) (b : List Byte) : Nat ⊕ Nat :=
  if !imgForm len b then .inr 0
  else if !s.imgSerial o b then .inr 1
  else
    match o.keySlot b with
    | none => .inr 2
    | some k => if Config.ecdsaVerify (cut b 40 64) (imgHash b) (cut b (b.length - 64) 64) then .inl k else .inr 3

/-! The committed image (R479) -/

/-- The commit marker that decides: the one with the higher count. -/
def Nv.committed (v : Nv) : Option (Nat × Nat) :=
  match v.commit[(0 : Fin 2)], v.commit[(1 : Fin 2)] with
  | some a, some b => if a.1 < b.1 then some b else some a
  | some a, none => some a
  | none, b => b

/-- SEC_IMG_STAT shows the committed slot. -/
def Dev.showCommitted (s : Dev) : Dev :=
  match s.nv.committed with
  | some m => (s.flag Reg.SEC_IMG_STAT_COMMITTED true).wr Reg.SEC_IMG_STAT_COM_SLOT m.2
  | none => (s.flag Reg.SEC_IMG_STAT_COMMITTED false).wr Reg.SEC_IMG_STAT_COM_SLOT 0

/-- Both markers written for a slot; nothing is staged any more. -/
def Dev.writeCommit (s : Dev) (slot : Nat) : Dev :=
  let m := some (((s.nv.committed.map (·.1)).getD 0) + 1, slot)
  let s := s.mapNv fun v => { v with commit := Vector.replicate 2 m }
  let s := { s with sys := { s.sys with staged := none } }
  (s.flag Reg.SEC_IMG_STAT_STAGED false).showCommitted

/-! Application (R477, R481) -/

/-- The records whose scope names this controller, written in order. -/
def Dev.imgWrites (s : Dev) (b : List Byte) : Dev :=
  (imgRecs b).foldl (fun (s : Dev) (r : ImgRec) =>
    if r.2.1 = 0 || r.2.1 = s.xy + 1 then s.cfgWr r.1 r.2.2 else s) s

/-- SEC_IMG registers of the active image. -/
def Dev.imgShow (s : Dev) (b : List Byte) (key : Nat) : Dev :=
  let h := imgHash b
  let s := ((s.flag Reg.SEC_IMG_STAT_ACTIVE true).wr Reg.SEC_IMG_STAT_KEY key).wr Reg.SEC_IMG_ID_IMAGE_ID (leAt b 32 4)
  (List.range 8).foldl (fun (s : Dev) (w : Nat) => s.wr (Reg.SEC_IMG_HASH w) (leAt h (4 * w) 4)) s

/-- An image applied: its writes, then a lock request that IMG_REQ does not stop. The state where the lock check passes, and
the one where it fails. -/
def Dev.imgApply (s : Dev) (b : List Byte) (key : Nat) : Bool × Dev :=
  let s := s.imgWrites b
  match s.lockFail with
  | none => ((s.imgShow b key).tryLock 1)
  | some _ => s.tryLock 1

/-! Descriptors -/

/-- IMAGE_LOAD: `mem` is what the DMA read brought, none where it failed after its repeat or nothing is
mastered (log entry 103). -/
def Dev.opImageLoad (s : Dev) (o : Otp) (sq : Nat) (b : List Byte) (mem : Option (List Byte)) : Dev :=
  s.tryAdmit 0xA0 sq b fun s _ =>
    let (mem, s) := s.readHost (leAt b 16 8) (leAt b 24 4) mem
    match mem with
    | none => s.refuse Stat.badDesc
    | some img =>
      match s.imgCheck o (leAt b 24 4) img with
      | .inr 0 => s.refuse Stat.badDesc
      | .inr _ => (s.authFailed 0 0).refuse Stat.authFail
      | .inl _ =>
        let slot := match s.nv.committed with
          | some m => 1 - m.2
          | none => 0
        let s := s.mapNv fun v => { v with images := v.images.set (Fin.ofNat 2 slot) (some img) }
        let s := { s with sys := { s.sys with staged := some slot } }
        let s := (s.flag Reg.SEC_IMG_STAT_STAGED true).wr Reg.SEC_IMG_STAT_STG_SLOT slot
        (s, some (AdmRes.done (leAt (imgHash img) 0 8) 0))

def execImageLoad (sq : Fin 32) (d : List Byte) (mem : Option (List Byte)) (s : State) : Host.Outcome State Fault Refusal :=
  s.runO fun o v => v.opImageLoad o sq.val d mem

/-- IMAGE_COMMIT: before SETUP_LOCK the staged image is applied, and committed where the lock check passes; after it the
marker alone is written. BUSY with no staged image. -/
def Dev.opImageCommit (s : Dev) (o : Otp) (sq : Nat) (b : List Byte) : Dev :=
  s.tryAdmit 0xA1 sq b fun s _ =>
    match s.sys.staged with
    | none => s.refuse Stat.busy
    | some slot =>
      if s.locked then (s.writeCommit slot, some (AdmRes.done 0 0))
      else
        let img := (s.nv.images[Fin.ofNat 2 slot]).getD []
        let (ok, s) := s.imgApply img ((o.keySlot img).getD 0)
        let s := s.startPorts [] []
        if ok then (s.writeCommit slot, some (AdmRes.done 0 0))
        else (s, some { status := Stat.busy, info0 := 0, info1 := 0, inert := false })

def execImageCommit (sq : Fin 32) (d : List Byte) (s : State) : Host.Outcome State Fault Refusal :=
  s.runO fun o v => v.opImageCommit o sq.val d

/-! Start-up step 6 (R480) -/

/-- IMAGE_REJECTED: slot, check failed, and the lock condition where that was it. -/
def Dev.imgRejected (s : Dev) (slot chk : Nat) (fail : Option (Nat × Nat × Nat)) : Dev :=
  let (blk, unit, pos) := fail.getD (0, 0, 0)
  s.note 0x8011 5 83 0 0 [pU 28 1 slot, pU 29 1 chk, pU 30 1 blk, pU 31 1 unit, pU 32 1 pos]

/-- The committed image read, checked again and applied; a rejected one leaves no write behind. Answers whether the setup is
locked. -/
def Dev.imgBoot (s : Dev) (o : Otp) : Bool × Dev :=
  match s.nv.committed with
  | none => (false, s)
  | some (_, slot) =>
    let img := (s.nv.images[Fin.ofNat 2 slot]).getD []
    match s.imgCheck o img.length img with
    | .inr c => (false, s.imgRejected slot c none)
    | .inl k =>
      match (s.imgWrites img).lockFail with
      | some f =>
        let (blk, unit, chk) := f
        let s := ((s.wr Reg.GLB_LOCK_ERR_BLOCK blk).wr Reg.GLB_LOCK_ERR_UNIT unit).wr Reg.GLB_LOCK_ERR_CHECK chk
        let s := (s.flag Reg.GLB_LOCK_ERR_VALID true).note 0x800F 3 83 0 0 [pU 28 1 blk, pU 29 1 unit, pU 30 1 chk, pU 31 1 1]
        (false, s.imgRejected slot 4 (some f))
      | none => (true, ((s.imgWrites img).imgShow img k).flag Reg.RST_STAT_IMAGE true)

end Sys2Proof.Machine
end

