-- ==== Sys2Proof/Machine/Boot.lean ====
section
/-! DEFINITION. The start-up sequence (R456 to R459, and the parts of every block that run in it). -/

namespace Sys2Proof.Machine

/-! Persistent records (R474) -/

/-- A record whose CRC fails is absent, and counted. -/
def Nv.drop (v : Nv) : NvItem → Nv
  | .peer => { v with peer := none }
  | .marker => { v with marker := [] }
  | .cueKey => { v with cueKey := none }
  | .cueReserve => { v with cueReserve := 1 }
  | .geom => v
  | .clearSlot _ => v
  | .commit m => { v with commit := v.commit.set m none }
  | .idRec n => { v with idRec := v.idRec.set n none }
  | .seed n => { v with seed := v.seed.set n 0 }
  | .learned n => { v with learned := v.learned.set n none }
  | .zero n => { v with zero := v.zero.set n none }
  | .force n d => { v with force := v.force.set (Fin.ofNat 32 (2 * n.val + d.val)) none }

/-- The same of the Logbook's own: its geometry and its clear markers. -/
def LogPersist.drop (x : LogPersist) : NvItem → LogPersist
  | .geom => { x with geom := none }
  | .clearSlot m => if m = 0 then { x with slotA := none } else { x with slotB := none }
  | _ => x

/-- Registers whose value comes from the persistent tier: the partner's serial, each slice's identity and SEED (R281, R377, R464). -/
def Dev.showRecords (s : Dev) : Dev :=
  let peer := s.nv.peer.getD 0
  let s := (s.wr Reg.PBX_REC_SER_LO (peer % 2 ^ 32)).wr Reg.PBX_REC_SER_HI (peer / 2 ^ 32)
  (List.finRange 16).foldl (fun (s : Dev) (n : Fin 16) =>
    let k := n.val
    let r := s.nv.idRec[n].getD (0, [])
    let s := (s.wr (Reg.SLP_REC_SER_LO k) (r.1 % 2 ^ 32)).wr (Reg.SLP_REC_SER_HI k) (r.1 / 2 ^ 32)
    let s := (s.wr (Reg.SLP_REC_HASH_LO k) (leAt r.2 0 4)).wr (Reg.SLP_REC_HASH_HI k) (leAt r.2 4 4)
    s.wr (Reg.SLP_SEED k) s.nv.seed[n]) s

/-- The records read and checked at start-up. -/
def Dev.readRecords (s : Dev) (bad : List NvItem) : Dev :=
  let s := bad.foldl (fun (s : Dev) (i : NvItem) =>
    let s := (s.inc Reg.XSP_CNT_ERR).mapNv fun v => v.drop i
    s.mapLogP fun x => x.drop i) s
  let s := (List.finRange 32).foldl (fun (s : Dev) (i : Fin 32) =>
    match s.nv.force[i] with
    | some m => s.mapCar (Fin.ofNat 16 (i.val / 2)) fun c => { c with fm := c.fm.set (Fin.ofNat 2 i.val) m }
    | none => s) s
  (s.flag Reg.XSP_STAT_SYS_OK true).showRecords.showCommitted

/-! Blocks -/

/-- Trip and release thresholds of the monitors, mV, in the order of PWR_MON (R491). -/
def tripMv : Vector Nat 7 := #v[690, 1620, 2970, 1010, 540, 780, 780]
def releaseMv : Vector Nat 7 := #v[710, 1670, 3070, 1040, 560, 800, 800]

/-- A supply a start-up finds is in range: after a power-on or a brownout it has risen through its release threshold, else it has not
fallen below its trip threshold (R491, log entry 132). -/
def Dev.railOk (s : Dev) (b : BootIn) (i : Fin 7) : Bool :=
  decide ((if s.rd Reg.RST_STAT_CAUSE ≤ 1 then releaseMv[i] else tripMv[i]) ≤ b.rails[i])

/-- Clocks, supplies and temperature as found (R447, R455; R50 where the TCXO is absent). -/
def Dev.bootClocks (s : Dev) (b : BootIn) : Dev :=
  let s := (s.flag Reg.CLK_STAT_XTAL_OK b.xtal).flag Reg.CLK_STAT_PCIE_REF_OK b.refclk
  let s := ((s.flag Reg.CLK_STAT_TCXO_OK b.tcxo).flag Reg.CLK_STAT_REF_SYNTH (!b.tcxo || s.on Reg.TSP_STAT_TCXO_FB)).flag Reg.CLK_STAT_SPINE_LOCK true
  let s := s.wrI Reg.CLK_TCXO_ERR (if b.tcxo then b.ppb else 0)
  let rails := [Reg.PWR_MON_CORE_OK, Reg.PWR_MON_IO18_OK, Reg.PWR_MON_IO33_OK, Reg.PWR_MON_VDD2_OK, Reg.PWR_MON_VDDQ_OK,
    Reg.PWR_MON_PCIE_OK, Reg.PWR_MON_SGMII_OK]
  let s := (rails.zip (List.finRange 7)).foldl (fun (s : Dev) (p : RF × Fin 7) => s.flag p.1 (s.railOk b p.2)) s
  let s := (s.wr Reg.RST_SIG_SP b.sp.toNat).flag Reg.RST_SIG_PEBEX b.pebex
  s.seeTj b.tj

/-- CONTROLLER_START recorded at step 0 with its extension (R458); the event waits for its EQ. -/
def Dev.startRecord (s : Dev) (mark : Bool) : Dev :=
  let s := s.mapHost fun h => { h with startDue := true, startMark := mark }
  s.note 0x0C01 4 83 0 0 [pU 28 1 (s.rd Reg.RST_STAT_CAUSE), pU 29 1 (b2n mark), pU 42 4 s.sys.lostActs,
    pU 46 4 s.sys.lostCmps, pU 50 1 s.sys.prevStep]

/-- Ladle at step 4: the SEQ reserve and the wrapped cue key (R144, R152, R153). -/
def Dev.bootLadle (s : Dev) (o : Otp) : Dev :=
  let s := (s.flag Reg.LDL_STAT_READY true).wr Reg.LDL_CUE_SEQ (s.nv.cueReserve + 2 ^ 32 - 1)
  match s.nv.cueKey with
  | none => s
  | some w =>
    match Config.aesUnwrap o.storeKey w with
    | some k => (s.mapLdl fun l => { l with key := some k }).flag Reg.LDL_STAT_KEY_VALID true
    | none => s.note 0x8012 5 42 0 0 []

/-- A marker of an EVR that a reset cut short (R258). -/
def Dev.bootEvr (s : Dev) : Dev :=
  let l := sortBy (fun (a b : MarkCar) => decide (a.car ≤ b.car)) s.nv.marker
  if l.isEmpty then s
  else
    let s := s.mapNv fun v => { v with markOld := true }
    let steps := l.map fun m => m.step
    s.raiseSev .evrInterrupted 6 0
      [pU 16 2 ((l.map fun m => 2 ^ m.car).sum), (18, (steps.take 12).map fun x => BitVec.ofNat 8 x)]
      [(42, (steps.drop 12).map fun x => BitVec.ofNat 8 x)]

/-- The servo at the restart (R44): HOLDOVER once a lock has occurred since the cold start, else FREE. -/
def Dev.bootServo (s : Dev) : Dev := if s.on Reg.RST_STAT_COLD then s else s.servoLost

/-- Domains tested and started one after another. -/
def Dev.startDomains (s : Dev) (g : List (Nat × BistSig)) (l : List (Fin 112 × TestEnd)) (ds : List Nat) : Dev :=
  ds.foldl (fun (s : Dev) (d : Nat) => s.testedStart g l d) s

/-- Steps 0 to 5. -/
def Dev.bootEarly (s : Dev) (o : Otp) (b : BootIn) : Dev :=
  let s := (s.wr Reg.GLB_ID_XY (b2n b.y)).bootClocks b
  let mark := !b.badNv.contains .marker && !s.nv.marker.isEmpty
  let s := s.startRecord mark
  let s := if b.tcxo then s else s.tcxoLost
  let s := (s.loadOtp o).loadHard o
  let s := [Reg.CLK_STAT_SYS_LOCK, Reg.CLK_STAT_MEM_LOCK, Reg.CLK_STAT_NET_LOCK, Reg.CLK_STAT_BUS_LOCK, Reg.CLK_STAT_PEER_LOCK,
    Reg.CLK_STAT_SP_LOCK].foldl (fun (s : Dev) (f : RF) => s.flag f true) s
  let s := (s.flag Reg.CLK_STAT_HOST_LOCK b.refclk).mapHost fun h => { h with refHeld := !b.refclk }
  let s := (List.range 96).foldl (fun (s : Dev) (d : Nat) => s.setDom d Dom.off) (s.setDom 109 Dom.on)
  let s := s.startDomains o.bist b.tests [96, 104, 105, 110]
  let s := ((s.wr Reg.LAR_STAT_SIZE_MIB b.lp4x.val).flag Reg.LAR_STAT_READY true).flag Reg.LAR_STAT_SCRUB true
  let s := ((s.wr Reg.XSP_STAT_SIZE_MIB b.xspMib.val).flag Reg.XSP_STAT_TYPE b.nor).flag Reg.XSP_STAT_READY true
  let s := (s.wr Reg.CTN_LAR_SPARES 1024).readRecords b.badNv
  let s := s.startDomains o.bist b.tests [106, 107, 108, 103]
  let s := ((s.bootLadle o).logStart b.badRing b.badMirror).bootEvr
  (s.startDomains o.bist b.tests [97, 98, 99, 100, 101, 102]).bootServo

/-- The reset may be released (R450, R491, R501): every supply in range, after a brownout for 10 ms, after a thermal
shutdown once Tj has fallen to 85 °C. `b.ms` runs from the release to BOOT_DONE. -/
def Dev.released (s : Dev) (b : BootIn) : Bool :=
  let cause := s.rd Reg.RST_STAT_CAUSE
  let at0 := s.rd Reg.RST_GT_HI * 2 ^ 32 + s.rd Reg.RST_GT_LO
  (List.finRange 7).all (s.railOk b)
    && (cause != 1 || decide (at0 + 10000000 + b.ms * 1000000 ≤ s.gt)) && (cause != 6 || decide (b.tj ≤ 85))

/-- START_UP: steps 0 to 8, or to 6 where no image locks the setup (R457). -/
def Dev.boot (s : Dev) (o : Otp) (b : BootIn) : Dev :=
  if !s.inReset || !s.released b then s
  else
    let s := (s.bootEarly o b).wr Reg.RST_STAT_STEP 6
    let s := s.wr Reg.PBX_STAT_TESTED (s.rd Reg.PBX_CTRL_TESTED)
    let (ok, s) := s.imgBoot o
    let s := s.startPorts o.bist b.tests
    let s := s.flag Reg.WHK_STAT_BOOT_DONE true
    let s := { s with sys := { s.sys with release := (s.gt : Int) - b.ms * 1000000 } }
    if ok then s.lockDone 1 else s

def execStartUp (b : BootIn) (s : State) : Host.Outcome State Fault Refusal := s.runO fun o d => d.boot o b

/-- CUE_KEY_STORED: the wrapped key stands in the persistent tier (R152). -/
def Dev.cueKeyStored (s : Dev) (o : Otp) : Dev :=
  match s.ladle.keyDue, s.ladle.key with
  | true, some k =>
    let s := s.mapNv fun v => { v with cueKey := some (Config.aesWrap o.storeKey k) }
    (s.mapLdl fun l => { l with keyDue := false }).flag Reg.LDL_STAT_KEY_VALID true
  | _, _ => s

def execCueKeyStored (s : State) : Host.Outcome State Fault Refusal := s.runO fun o d => d.cueKeyStored o

end Sys2Proof.Machine
end

