-- ==== Sys2Proof/Machine/Tick.lean ====
section
/-! DEFINITION. A control tick: the spine, what is measured, the slice links, the car engines, the pair (R19, R35, R157, R195,
R240, R252, R256, R262, R355). -/

namespace Sys2Proof.Machine

/-- What the environment brings to the encoder of a car; without an entry no count and no frame. -/
def encOf (cars : List CarIn) (n : Fin 16) (ssi : Bool) : EncIn :=
  ((cars.find? fun c => c.car = n).map (·.enc)).getD (if ssi then .ssi [] else .abz [])

/-- The first part of a car's tick: position and references of this tick, with the interlock results of the last one. -/
def Dev.engineTick (s : Dev) (n : Fin 16) (e : EncIn) : Dev :=
  if !s.engineOn n.val then s
  else
    let s := s.trkTick n e (s.tickStart - tickNs)
    let s := if s.own n then s.ilkCompare n else s
    s.motSample n

/-- In simplex the car of an isolated engine is orphan too: its mode changes, its calls are dropped, and SLICE_ORPHAN is posted
once (R183, R251, R284, R360); one of another stepping stays OUT_OF_SERVICE (R3, log entry 88). In a pair the partner takes
the car with its calls and mode. -/
def Dev.lostOrphan (s : Dev) (n : Fin 16) : Dev :=
  if !s.on Reg.PBX_CTRL_EN && bit (s.rd Reg.CTN_ISO_CE) n.val && (s.ilk n).had && !s.own n && !s.leaseHeld n.val then
    let s := s.mapIlk n fun i => { i with had := false }
    if s.foreignStep n.val then s.setMode n 5 3
    else ((s.wr (Reg.ILK_STAT_PREV_MODE n.val) (s.mode n.val)).setMode n 6 4).orphanEvent n
  else s

/-- The second part: interlock results, mode and decisions for the next tick. A cold engine has none; one that has disagreed
for too long is isolated (R243, R252, R393). -/
def Dev.decideTick (s : Dev) (n : Fin 16) : Dev :=
  if !s.engineOn n.val then (s.postUnserved n).lostOrphan n
  else
    let s := if s.own n && !(s.ilk n).had then s.mapIlk n fun i => { i with had := true } else s
    let s := (((((s.ucmTick n).trackRule n).modeTick n).evrTick n).ilkEval n).motDecide n
    if s.own n && s.ilkFailed n then s.isolateEngine n 2 else s

/-- One car in a tick: engine, downstream frame, engine. -/
def Dev.carTick (s : Dev) (cars : List CarIn) (n : Fin 16) : Dev :=
  let s := ((s.missLink n).pushTick n).engineTick n (encOf cars n (s.on (Reg.TRK_ENC_CFG_TYPE n.val)))
  (s.sendDown n).decideTick n

/-- Values the environment shows to AON at a tick: die temperature and TCXO error (R455, CLK_TCXO_ERR). -/
def Dev.measure (s : Dev) (tj ppb : Int) : Dev :=
  let s := ((s.thermWarn tj).thermClear tj).warnTick.idleOver
  if s.on Reg.CLK_STAT_TCXO_OK then s.wrI Reg.CLK_TCXO_ERR ppb else s.wr Reg.CLK_TCXO_ERR 0

/-- The tick of a controller that is out of reset. -/
def Dev.runTick (s : Dev) (cars : List CarIn) (missed : List (Fin 16)) (tj ppb : Int) : Dev :=
  let s := ((s.measure tj ppb).relTick).revokeTick
  let s := (List.finRange 16).foldl (fun (s : Dev) (n : Fin 16) => s.carTick cars n) s
  let s := s.pebexTick.handTick
  let s := (List.finRange 16).foldl (fun (s : Dev) (n : Fin 16) =>
    s.watchEngine n (missed.contains n || bit s.sys.unlocked n.val)) s
  s.testNext.pmeLeave.clearStep

/-- TICK: the end of the tick before, which an announced reset takes; then this tick. GT runs on in reset (R36). -/
def Dev.tick (s : Dev) (cars : List CarIn) (missed : List (Fin 16)) (tj ppb : Int) : Dev :=
  let s := s.endTick.spineTick
  if s.inReset then s else s.runTick cars missed tj ppb

def execTick (cars : List CarIn) (missed : List (Fin 16)) (tj ppb : Int) (s : State) : Host.Outcome State Fault Refusal :=
  s.run fun d => d.tick cars missed tj ppb

end Sys2Proof.Machine
end

