-- ==== Sys2Proof/Machine/Views.lean ====
section
/-! DEFINITION. The host's accesses to registers: writes (R67, R74, R463) and reads, with the registers that show state kept
elsewhere and the pairs whose LO half latches the HI half (R463, R466, R468). -/

namespace Sys2Proof.Machine

/-! Writes -/

/-- A write to a doorbell by the number of its 8-byte slot in BAR2 (R74). -/
def Dev.bell (s : Dev) (slot v : Nat) : Option Dev :=
  if slot < 32 then some (s.bellSq slot v)
  else if 0x100 ≤ slot && slot < 0x120 then some (s.bellCq (slot - 0x100) v)
  else if 0x200 ≤ slot && slot < 0x208 then some (s.bellEq (slot - 0x200) v)
  else none

/-- A write to BAR2: anything but a low half or a whole slot of a doorbell is malformed (R74). -/
def Dev.bar2Wr (s : Dev) (off size v : Nat) : Dev :=
  let go := if (size = 4 || size = 8) && off % 8 = 0 then s.bell (off / 8) (v % 65536) else none
  go.getD (s.incSat Reg.HST_VIOL_DB_FORM)

/-- Configuration space rewritten. -/
def Dev.mapConf (s : Dev) (f : ConfSt → ConfSt) : Dev := s.mapHost fun h => { h with conf := f h.conf }

/-- A BAR written: the low words keep the address bits above the size, 1 MiB and 8 KiB; BAR4 and BAR5 are not there (R66). -/
def ConfSt.barWr (c : ConfSt) (i : Fin 6) (v : Nat) : ConfSt :=
  match i with
  | 0 => { c with bar := c.bar.set 0 (v / 2 ^ 20 * 2 ^ 20) }
  | 1 => { c with bar := c.bar.set 1 v }
  | 2 => { c with bar := c.bar.set 2 (v / 2 ^ 13 * 2 ^ 13) }
  | 3 => { c with bar := c.bar.set 3 v }
  | 4 | 5 => c

/-- An AER register written: the status registers clear the bits written 1. -/
def ConfSt.aerWr (c : ConfSt) (r : ConfReg) (v : Nat) : ConfSt :=
  match r with
  | .aerUncStatus => { c with uncStat := clearBits c.uncStat v }
  | .aerUncMask => { c with uncMask := v }
  | .aerUncSeverity => { c with uncSev := v }
  | .aerCorStatus => { c with corStat := clearBits c.corStat v }
  | .aerCorMask => { c with corMask := v }
  | _ => c

/-- The codes of a completion timeout that exist: the default and those of ranges A and B (R64, log entry 102). -/
def ctoOk (x : Nat) : Bool := [0, 1, 2, 5, 6].contains x

/-- A function register of configuration space written. Losing Bus Master Enable ends mastering; MSI-X Enable and Function
Mask release what is pending; PME_Status clears by a 1. -/
def Dev.confWr (s : Dev) : HostWr → Dev
  | .busMaster true => s.busMaster
  | .busMaster false => s.flag Reg.HST_STAT_BME false
  | .msixCtrl en mask =>
    (s.mapHost fun h => { h with msixEn := en, funcMask := mask }).unmaskAll
  | .pmcsr en clear => s.mapHost fun h => { h with pmeEn := en, pmeStat := h.pmeStat && !clear }
  | .aspm l1 => s.mapHost fun h => { h with aspmL1 := l1, inL1 := h.inL1 && (l1 || s.on Reg.HST_STAT_D3) }
  | .memSpace on => s.mapConf fun c => { c with memEn := on }
  | .barReg i v => s.mapConf fun c => c.barWr i v.toNat
  | .devCtl payload request => s.mapConf fun c => { c with payload := payload.val, request := request.val }
  | .timeout range => if ctoOk range.val then s.mapConf fun c => { c with cto := range.val } else s
  | .ecrc gen chk => s.mapConf fun c => { c with ecrcGen := gen, ecrcChk := chk }
  | .aer r v => s.mapConf fun c => c.aerWr r v.toNat
  | .bar0 .. | .bar2 .. => s

/-- The host reaches the controller: it is out of reset, and so is its host island. DESIGN CHOICE (log entry 103): accesses
to BAR0 and BAR2 are carried out in D3hot as in D0. -/
def Dev.reachable (s : Dev) : Bool := !s.inReset && !s.host.refHeld && !s.host.perst

/-- A transfer of the host on the link: L1 is left (R98). -/
def Dev.linkUsed (s : Dev) : Dev :=
  let g := s.gt
  s.mapHost fun h => { h with busyGt := g, inL1 := h.inL1 && s.on Reg.HST_STAT_D3 }

/-- A write of the host. -/
def Dev.hostWrite (s : Dev) (o : Otp) (w : HostWr) : Dev :=
  if !s.reachable then s
  else
    let s := s.linkUsed
    match w with
    | .bar0 off size v =>
      if size.val != 4 || off.val % 4 != 0 then s.incSat Reg.HST_VIOL_BAR_SIZE else s.busWr o off.val v.toNat
    | .bar2 off size v => s.bar2Wr off.val size.val v.toNat
    | _ => s.confWr w

/-- REGISTER_WRITE. -/
def execRegisterWrite (w : HostWr) (s : State) : Host.Outcome State Fault Refusal := s.runO fun o d => d.hostWrite o w

/-! Registers that show state kept elsewhere -/

/-- ms left until an instant, rounded up. -/
def Dev.msLeft (s : Dev) (t : Option Nat) : Nat := ((t.map fun x => (x - s.gt + 999999) / 1000000).getD 0)

/-- HST and RNG. -/
def Dev.viewHost (s : Dev) (off : Nat) : List (RF × Nat) :=
  let q := (off - 0x1400) / 0x20 % 32
  let c := (off - 0x1800) / 0x20 % 32
  let e := (off - 0x1C00) / 0x20 % 8
  [(Reg.HST_HELD, s.heldCount), (Reg.HST_WAKE_RSN_HELD, s.host.evHold.length),
    (Reg.RNG_SQ_STAT_STALLED q, b2n (s.on (Reg.RNG_SQ_CFG_EN q) && s.sqStalled q)),
    (Reg.RNG_CQ_STAT_FULL c, b2n (s.on (Reg.RNG_CQ_CFG_EN c) && s.cqFree c = 0)), (Reg.RNG_CQ_BACKLOG c, s.cqBacklog c),
    (Reg.RNG_EQ_STAT_FULL e, b2n (s.on (Reg.RNG_EQ_CFG_EN e) && s.eqFree e = 0))]

/-- TSP and PTP. -/
def Dev.viewTime (s : Dev) : List (RF × Nat) :=
  [(Reg.TSP_GT_LO, s.gt), (Reg.TSP_GT_HI, s.gt / 2 ^ 32), (Reg.TSP_CORR_LO, ofSigned 64 s.time.corr),
    (Reg.TSP_CORR_HI, ofSigned 64 s.time.corr / 2 ^ 32), (Reg.TSP_PPSIN_LO_STAMP_LO, s.time.ppsIn),
    (Reg.TSP_PPSIN_HI_STAMP_HI, s.time.ppsIn / 2 ^ 32), (Reg.PTP_STAT_STBY_ANN, b2n (s.ptpOn && s.heard (s.actPort + 1)))]

/-- LDL. -/
def Dev.viewLdl (s : Dev) (off : Nat) : List (RF × Nat) :=
  let n := (off - 0x6100) / 4 % 16
  [(Reg.LDL_OCC_NEAR n, s.nearCount n), (Reg.LDL_OCC_SLOTS n, s.poolUsed n), (Reg.LDL_OCC_G_NEAR, s.nearCount 16),
    (Reg.LDL_OCC_G_SLOTS, s.poolUsed 16), (Reg.LDL_CHORDS_IN_FLIGHT, s.ladle.chords.length)]

/-- The head entry of a receive FIFO. -/
def Dev.rxHead (s : Dev) (c : Fin 4) (f : Fin 2) (off : Nat) : List (RF × Nat) :=
  let l := s.bus[c].rx[f]
  let k := (off % 0x80 - 0x40) / 4 % 16
  let lv := (Reg.SBC_RX_STAT_LEVEL c.val f.val, l.length)
  match l with
  | [] => [lv]
  | e :: _ =>
    [lv, (Reg.SBC_RX_GT_LO c.val f.val, e.gt), (Reg.SBC_RX_GT_HI c.val f.val, e.gt / 2 ^ 32),
      (Reg.SBC_RX_IDR_FLAGS c.val f.val, 4 * b2n e.f.ide + 2 * b2n e.f.fdf + b2n e.f.brs),
      (Reg.SBC_RX_IDR_ID c.val f.val, e.f.id), (Reg.SBC_RX_INFO_ESI c.val f.val, b2n e.esi),
      (Reg.SBC_RX_INFO_CLASS c.val f.val, e.cls), (Reg.SBC_RX_INFO_LEN c.val f.val, e.f.data.length),
      (Reg.SBC_RX_DATA c.val f.val k, leAt e.f.data (4 * k) 4)]

/-- SBC. -/
def Dev.viewBus (s : Dev) (off : Nat) : List (RF × Nat) :=
  let c := Fin.ofNat 4 ((off - 0xA400) / 0x400)
  if off < 0xA400 then []
  else if off % 0x400 < 0x100 then
    [(Reg.SBC_CH_STAT_MIGQ c.val, s.bus[c].mig.length), (Reg.SBC_CH_STAT_MBX_USED c.val, s.bus[c].mbx.length)]
  else s.rxHead c (Fin.ofNat 2 (off % 0x400 / 0x80)) off

/-- PBX and TVT. -/
def Dev.viewPair (s : Dev) : List (RF × Nat) :=
  [(Reg.PBX_RETRY_STAT_REM_MS, s.msLeft s.pbx.retry), (Reg.TVT_STAT_INFLIGHT, b2n s.tvt.fly.isSome),
    (Reg.TVT_STAT_FULL_PEND, b2n s.ckpFull)]

/-- LOG. -/
def Dev.viewLog (s : Dev) : List (RF × Nat) :=
  let old := (s.log.ring.head?.map (·.seq)).getD 0
  [(Reg.LOG_STAT_PFAIL, b2n s.log.flushing), (Reg.LOG_STAT_CLEARING, b2n s.log.clear.isSome),
    (Reg.LOG_STAT_FROZEN, b2n s.log.freeze.isSome), (Reg.LOG_STAT_MIR_BEHIND, b2n (s.unmirrored != 0)),
    (Reg.LOG_SEQ_LO, s.log.seq), (Reg.LOG_SEQ_HI, s.log.seq / 2 ^ 32), (Reg.LOG_OLD_LO, old), (Reg.LOG_OLD_HI, old / 2 ^ 32),
    (Reg.LOG_FILL, s.log.ring.length), (Reg.LOG_PFILL, s.logP.mirror.length), (Reg.LOG_STAGE_HOLD, s.log.holding.length),
    (Reg.LOG_STAGE, s.log.staging.length), (Reg.LOG_FRZ, s.msLeft (s.log.freeze.map (·.stop))), (Reg.LOG_PINNED, s.pinned),
    (Reg.LOG_UNMIR, s.unmirrored), (Reg.LOG_CLR_LO, s.logP.clrFloor), (Reg.LOG_CLR_HI, s.logP.clrFloor / 2 ^ 32),
    (Reg.LOG_CLR_AUTH, s.logP.clrAuth), (Reg.LOG_CLR_CNT, s.logP.clears), (Reg.LOG_PF_PLANNED, s.logP.flush.planned),
    (Reg.LOG_PF_WRITTEN, s.logP.flush.written)]

/-- The logic result that WHK_DSEL selects. -/
def Dev.viewLogic (s : Dev) (d : Nat) : List (RF × Nat) :=
  match (s.whk.logic.find? fun p => p.1 = d).map (·.2) with
  | none => []
  | some r =>
    [(Reg.WHK_LRES_RESULT, if r.pass then 1 else 2), (Reg.WHK_LRES_DIAG, b2n r.diag), (Reg.WHK_LRES_PSET, r.pset),
      (Reg.WHK_LRES_FIRST_BAD, r.first), (Reg.WHK_LRES_MULTI, b2n r.multi), (Reg.WHK_DIAG_PATTERN, r.pat),
      (Reg.WHK_DIAG_CHAIN, r.chain), (Reg.WHK_DIAG_CHAINS 0, r.chains), (Reg.WHK_DIAG_CHAINS 1, r.chains / 2 ^ 32),
      (Reg.WHK_DIAG_CELL, r.cell)]

/-- The memory result that WHK_DSEL selects. -/
def Dev.viewMem (s : Dev) (d m : Nat) : List (RF × Nat) :=
  match (s.whk.mem.find? fun p => p.1 = d).map fun p => p.2.find? fun x => x.mac = m with
  | none => []
  | some none => if m < domMacros d then [(Reg.WHK_MRES_RESULT, 1)] else []
  | some (some r) =>
    [(Reg.WHK_MRES_RESULT, if r.ok then 1 else 2), (Reg.WHK_MRES_OVF, b2n r.ovf), (Reg.WHK_MRES_NPAIRS, r.pairs.length),
      (Reg.WHK_MRES_FAIL_CNT, min r.fails (2 ^ 24 - 1))]
    ++ (List.range 4).flatMap fun j =>
      match r.pairs[j]? with
      | none => []
      | some p => [(Reg.WHK_MFAILADDR_ADDR j, p.1), (Reg.WHK_MFAILADDR_BIT j, p.2)]

/-- The spares of the macro that WHK_DSEL selects. -/
def Dev.viewSpares (s : Dev) (d m : Nat) : List (RF × Nat) :=
  let l := s.sparesOf d m
  let row := fun (r : Nat) => l.find? fun x => x.row = some r
  let col := l.find? fun x => x.row.isNone
  let hard := fun (x : Option Spare) => b2n ((x.map (·.hard)).getD false)
  let value := fun (x : Option Spare) => (x.map (·.value)).getD 0
  [(Reg.WHK_REPAIR_COL_HARD, hard col), (Reg.WHK_REPAIR_ROW_HARD, hard (row 0) + 2 * hard (row 1)),
    (Reg.WHK_REPAIR_COL_FREE, b2n (s.colFree d m)), (Reg.WHK_REPAIR_ROWS_FREE, (s.rowsFree d m).length),
    (Reg.WHK_RROW_USED 0, b2n (row 0).isSome), (Reg.WHK_RROW_ADDR 0, value (row 0)), (Reg.WHK_RROW_USED 1, b2n (row 1).isSome),
    (Reg.WHK_RROW_ADDR 1, value (row 1)), (Reg.WHK_RCOL_USED, b2n col.isSome), (Reg.WHK_RCOL_BIT, value col)]

/-- WHK. -/
def Dev.viewWhk (s : Dev) : List (RF × Nat) :=
  let d := s.rd Reg.WHK_DSEL_DOMAIN
  let m := s.rd Reg.WHK_DSEL_MACRO
  let run := s.whk.run
  let t := run.getD { domain := 0, kind := 0, pset := 0, asked := true }
  [(Reg.WHK_STAT_QUEUE, s.whk.queue.length), (Reg.WHK_STAT_BUSY, b2n run.isSome), (Reg.WHK_STAT_KIND, t.kind),
    (Reg.WHK_STAT_DOMAIN, t.domain), (Reg.WHK_STAT_ROLL, b2n (s.tested && !s.coldDomains.isEmpty)),
    (Reg.WHK_DINFO_TYPE, domType d), (Reg.WHK_DINFO_CHAIN_LEN, domChainLen d),
    (Reg.WHK_DINFO_MACROS, domMacros d)]
  ++ s.viewLogic d ++ s.viewMem d m ++ s.viewSpares d m

/-- The engine PLLs that run: those of engines with a domain that has a clock, and those of cold engines in Tested standby
(R393, R426, R443, R445). -/
def Dev.pllRun (s : Dev) : Nat :=
  let clocked := fun (d : Nat) => s.dom d = Dom.starting || s.dom d = Dom.on || s.dom d = Dom.test
  ((List.range 16).map fun n =>
    if s.carOn n && ((List.range 5).any (fun k => clocked (5 * n + k)) || (s.tested && s.dom (5 * n) = Dom.off))
    then 2 ^ n else 0).sum

/-- Registers of an engine window (R158, R177, R206, R221). -/
def Dev.viewCe (s : Dev) (off : Nat) : List (RF × Nat) :=
  let n := carOf off
  let k := n.val
  let w := s.rd (Reg.TRK_LTAB_IDX_WORD k)
  let l := s.rd (Reg.TRK_LTAB_IDX_LANDING k)
  let m := s.cars[n].fm[Fin.ofNat 2 (s.rd (Reg.DOR_FM_IDX_DOOR k))]
  [(Reg.TRK_LTAB_DATA k, if w = 5 then ofSigned 32 (s.floor n l) else RegMap.get (s.trk n).ltab (l * 8 + w)),
    (Reg.DRP_STAT_READY k, b2n (s.drvReady k)), (Reg.DOR_FM_DATA_F_FRIC k, m.fric.getD (s.rd (Reg.DOR_FM_IDX_BIN k)) 0), (Reg.TRK_LOAD_STAT_ZERO_AGE_H k, s.zeroAge n)]

/-- Registers of a slice window (R277, R282, R285, R323). -/
def Dev.viewSl (s : Dev) (off : Nat) : List (RF × Nat) :=
  let n := carOf off
  let k := n.val
  let run := s.on (Reg.HLC_SCN_IDX_SEL k)
  let i := s.rd (Reg.HLC_SCN_IDX_INDEX k)
  let scn := fun (w : Nat) => if !run && 255 < i then 0 else s.rd (scnWord k (if run then 256 + i else i) w)
  let held := if s.own n then s.lnk n |>.dep |>.map fun d => d + s.rd (Reg.SLP_LEASE_L_MS k) * 1000000 else none
  [(Reg.SLP_LEASE_STAT_REM_MS k, s.msLeft held), (Reg.SLP_RETRY_STAT_REM_MS k, s.msLeft (s.lnk n).retry),
    (Reg.HLC_SCN_DATA0 k, scn 0), (Reg.HLC_SCN_DATA1 k, scn 1), (Reg.HLC_SCN_DATA2 k, scn 2)]
    ++ (if s.lk n = Lk.up then [] else (heldShadows k).zip (s.lnk n).still)

/-- The fields of a register that show state kept elsewhere. -/
def Dev.viewAt (s : Dev) (off : Nat) : List (RF × Nat) :=
  if off < 0x1000 then []
  else if off < 0x2000 then s.viewHost off
  else if off < 0x4000 then []
  else if off < 0x6000 then s.viewTime
  else if off < 0x7800 then s.viewLdl off
  else if off < 0xA000 then []
  else if off < 0xC000 then s.viewBus off
  else if off < 0xE000 then s.viewPair
  else if off < 0xF000 then s.viewLog
  else if off < 0x10000 then s.viewWhk
  else if off < 0x20000 then [(Reg.CLK_CE_RUN, s.pllRun), (Reg.CLK_CE_LOCK, clearBits s.pllRun s.sys.unlocked)]
  else if off < 0x40000 then s.viewCe off
  else s.viewSl off

/-! Reads -/

/-- What a field shows: WO fields read 0, RO fields of an engine that is OFF read 0 (R463, R466). -/
def Dev.shown (s : Dev) (off : Nat) (f : RF) : Nat :=
  let cold := decide (0x20000 ≤ off) && decide (off < 0x40000) && s.dom (5 * (carOf off).val) = Dom.off
  if f.acc = .wo || (cold && f.acc = .ro) then 0
  else
    match (s.viewAt off).find? fun p => p.1.key = f.key with
    | some p => p.2 % 2 ^ f.w
    | none => s.rd f

/-- A register read by its fields. -/
def Dev.regValue (s : Dev) (off : Nat) : Nat :=
  (Reg.fieldsAt off).foldl (fun (a : Nat) (f : RF) => a + s.shown off f * 2 ^ f.lsb) 0

/-- A word of the MSI-X table or of the pending-bit array (R88). -/
def Dev.msixWord (s : Dev) (off : Nat) : Nat :=
  if off = 0x3800 then s.host.pba % 2 ^ 32
  else if off = 0x3804 then s.host.pba / 2 ^ 32
  else if 0x3400 ≤ off then 0
  else
    let e := s.host.msix[Fin.ofNat 64 ((off - 0x3000) / 16)]
    match off / 4 % 4 with
    | 0 => e.addr % 2 ^ 32
    | 1 => e.addr / 2 ^ 32
    | 2 => e.data
    | _ => b2n e.mask

/-- The value of a register of BAR0. -/
def Dev.busRd (s : Dev) (off : Nat) : Nat :=
  if 0x3000 ≤ off && off < 0x4000 then s.msixWord off else if s.windowShut off then 0 else s.regValue off

/-- LO halves of the 64-bit quantities whose halves are both RO, LO named first (R463). -/
def pairLow (off : Nat) : Bool :=
  let o := off % 0x4000
  [0x8, 0x4008, 0x4014, 0x402C, 0x4810, 0xC014, 0xC01C, 0xD018, 0xE010, 0xE018, 0xE038, 0xF050, 0x10810].contains off
    || (decide (0xA500 ≤ off) && decide (off < 0xB400) && decide (0x100 ≤ off % 0x400) && decide (off % 0x400 < 0x200)
      && off % 0x80 = 0x08)
    || (decide (0x20000 ≤ off) && decide (off < 0x30000) && off % 0x1000 = 0x144)
    || (decide (0x40000 ≤ off) && decide (off < 0x80000) && (o = 0x04 || o = 0x0C || o = 0x14 || o = 0x1C))

/-- A read of BAR0: the LO half of a pair latches its HI half, and the HI half reads what is latched. -/
def Dev.bar0Rd (s : Dev) (off size : Nat) : Dev :=
  if size != 4 || off % 4 != 0 then (s.incSat Reg.HST_VIOL_BAR_SIZE).emitHost (.readData off 0)
  else if pairLow off then
    let hi := s.busRd (off + 4)
    ({ s with sys := { s.sys with latch := (off + 4, hi) :: s.sys.latch.filter fun p => p.1 != off + 4 } }).emitHost
      (.readData off (s.busRd off))
  else
    let v := match s.sys.latch.find? fun p => p.1 = off with
      | some p => p.2
      | none => s.busRd off
    s.emitHost (.readData off v)

/-- The value of a register of configuration space (R64 to R66, R97, R98); bits where PCI Express has them. -/
def Dev.confRd (s : Dev) (o : Otp) (r : ConfReg) : Nat :=
  let h := s.host
  let c := h.conf
  match r with
  | .vendorId => o.vid
  | .deviceId => 0x1640
  | .revision => 0xB1
  | .classCode => 0x088000
  | .subVendor => o.ssvid
  | .subId => o.ssid
  | .serialLo => o.serial % 2 ^ 32
  | .serialHi => o.serial / 2 ^ 32
  | .bar 0 => c.bar[0] + 4
  | .bar 1 => c.bar[1]
  | .bar 2 => c.bar[2] + 4
  | .bar 3 => c.bar[3]
  | .bar 4 | .bar 5 => 0
  | .command => 2 * b2n c.memEn + 4 * b2n (s.on Reg.HST_STAT_BME)
  | .capId i => [0x01, 0x11, 0x10, 0x0001, 0x0003].getD i.val 0
  | .msixControl => 63 + 2 ^ 14 * b2n h.funcMask + 2 ^ 15 * b2n h.msixEn
  | .pmcsr => (if s.on Reg.HST_STAT_D3 then 3 else 0) + 8 + 2 ^ 8 * b2n h.pmeEn + 2 ^ 15 * b2n h.pmeStat
  | .deviceCap => 1 + 2 ^ 15 + 2 ^ 28
  | .deviceCap2 => 3
  | .deviceControl => 2 ^ 5 * c.payload + 2 ^ 12 * c.request
  | .deviceControl2 => c.cto
  | .linkCap => 3 + 2 ^ 4 * 2 + 2 ^ 10 * 2 + 2 ^ 15 * 2
  | .linkControl => 2 * b2n h.aspmL1
  | .linkStatus => c.speed + 2 ^ 4 * c.width
  | .aerUncStatus => c.uncStat
  | .aerUncMask => c.uncMask
  | .aerUncSeverity => c.uncSev
  | .aerCorStatus => c.corStat
  | .aerCorMask => c.corMask
  | .aerControl => 2 ^ 5 + 2 ^ 6 * b2n c.ecrcGen + 2 ^ 7 + 2 ^ 8 * b2n c.ecrcChk

/-- A read of the host: every read of BAR2 returns 0 (R67). -/
def Dev.hostRead (s : Dev) (o : Otp) (r : HostRd) : Dev :=
  if !s.reachable then s
  else
    match r with
    | .bar0 off size => s.bar0Rd off.val size.val
    | .bar2 off _ => s.emitHost (.readBar2 off.val 0)
    | .conf r => s.emitHost (.readConf r (s.confRd o r))

/-- LATCHED_READ. -/
def execLatchedRead (r : HostRd) (s : State) : Host.Outcome State Fault Refusal := s.runO fun o d => d.hostRead o r

end Sys2Proof.Machine
end

