-- ==== Sys2Proof/Machine/Fetch.lean ====
section
/-! DEFINITION. Fetching: what the arbiter's reads bring to admission, and a read that fails (R76 to R80). -/

namespace Sys2Proof.Machine

/-- A descriptor of an SQ handed to its opcode, by the catalogue (R111); an unknown opcode is completed BAD_DESC. -/
def Dev.admitOp (d : Dev) (o : Otp) (q : Nat) (b : List Byte) (f : Fetched) : Dev :=
  match dOp b with
  | 0x00 => d.opNop q b
  | 0x01 => d.opHeldRead q b
  | 0x02 => d.opHeldDiscard q b
  | 0x03 => d.opEqPing q b
  | 0x04 => d.opAuthChallenge q b
  | 0x10 => d.opCancel q b
  | 0x11 => d.opChord q b
  | 0x12 => d.opAction 0x12 .n q b
  | 0x13 => d.opQuery q b
  | 0x20 => d.opTrip q b
  | 0x21 => d.opCallCancel q b
  | 0x22 => d.opCarMode q b
  | 0x23 => d.opEvrStart q b
  | 0x24 => d.opEvrAbort q b
  | 0x25 => d.opLearn q b
  | 0x30 => d.opAction 0x30 .s q b
  | 0x31 => d.opAction 0x31 .s q b
  | 0x32 => d.opAction 0x32 .s q b
  | 0x40 => d.opAction 0x40 .s q b
  | 0x41 => d.opAction 0x41 .s q b
  | 0x42 => d.opAction 0x42 .s q b
  | 0x43 => d.opCalSwap q b f.mem
  | 0x50 => d.opAction 0x50 .s q b
  | 0x51 => d.opAction 0x51 .s q b
  | 0x52 => d.opIoProbe q b
  | 0x53 => d.opAction 0x53 .s q b
  | 0x54 => d.opSafeRearm q b
  | 0x60 => d.opAction 0x60 .c q b
  | 0x61 => d.opBusRecover q b
  | 0x70 => d.opLogRead q b
  | 0x71 => d.opLogFreeze q b
  | 0x72 => d.opLogThaw q b
  | 0x73 => d.opLogClear o q b
  | 0x80 => d.opBistRun q b
  | 0x81 => d.opRepairSoft q b
  | 0x82 => d.opRepairHard o q b (f.bad.map (·.val))
  | 0x90 => d.opLeaseRelease q b
  | 0x91 => d.opDutyHandover q b
  | 0x92 => d.opCheckpointNow q b
  | 0x93 => d.opStandbyMode q b
  | 0xA0 => d.opImageLoad o q b f.mem
  | 0xA1 => d.opImageCommit o q b
  | 0xA2 => d.opSliceConfirm q b
  | _ => d.unknownOp q b

/-- OTP entries that a descriptor of a fetch writes: those of a hard repair. -/
def Dev.hardOf (d : Dev) (o : Otp) (q : Nat) (b : List Byte) (f : Fetched) : Otp :=
  if dOp b = 0x82 then { o with hard := o.hard ++ d.hardEntries o q b (f.bad.map (·.val)) } else o

/-- The entries read so far of the descriptor an SQ is fetching. -/
def Dev.setPartial (d : Dev) (q : Fin 32) (l : List Byte) : Dev :=
  d.mapHost fun h => { h with partials := h.partials.set q l }

/-- One entry read: HEAD moves past it; a descriptor that it makes whole is admitted, otherwise the entry waits for the rest
(R79). -/
def fetchEntry (q : Fin 32) (s : State) (f : Fetched) : State :=
  let b := s.dev.host.partials[q] ++ f.desc
  let d := (s.dev.moveHead q.val 1).setPartial q b
  if b.length < 64 * d.descEntries q.val b then { s with dev := d }
  else { s with dev := d.admitOp s.otp q.val b f, otp := d.hardOf s.otp q.val b f }

/-- What a read brought: credit is spent and slots are reserved for every descriptor that begins in it, then its entries are
taken in their order (R76, R83). -/
def fetchTake (r : Fetch) (data : List Fetched) (s : State) : State :=
  let q := Fin.ofNat 32 r.sq
  let (n, k) := s.dev.readSpan q.val (s.dev.partLeft q) r.descs (data.take r.ents)
  (data.take n).foldl (fetchEntry q) { s with dev := (s.dev.spend q.val k).reserve q.val k }

/-- A read: it leaves, its entries are taken, and a round that nothing more can be served in ends (R76). -/
def fetchRead (r : Fetch) (data : List Fetched) (s : State) : State :=
  let s := fetchTake r data { s with dev := s.dev.askFetch r }
  { s with dev := s.dev.roundEnd }

/-- SQ_FETCH: the arbiter picks an SQ and its read brings entries. -/
def sqFetch (data : List Fetched) (s : State) : State :=
  match s.dev.arbitrate with
  | (some r, d) => fetchRead r data { s with dev := d }
  | (none, d) => { s with dev := d }

def execSqFetch (data : List Fetched) (s : State) : Host.Outcome State Fault Refusal := .next (sqFetch data s)

/-- A descriptor of which only some entries were read completes RING_FAULT (R80). -/
def Dev.cutShort (d : Dev) (q : Fin 32) : Dev :=
  let b := d.host.partials[q]
  if b.isEmpty then d else d.admitAs q.val b Stat.ringFault

/-- The error as AER reports it to the requester: a completion timeout or a poisoned completion (R64, log entry 102). One of
SQ staging is no error of the link; it is counted with the uncorrectable errors (R354, R367). -/
def Dev.aerNote (d : Dev) (e : DmaErr) : Dev :=
  let b := fun (k : Nat) => d.mapHost fun h => { h with conf := { h.conf with uncStat := setBit h.conf.uncStat k true } }
  match e with
  | .timeout => b 14
  | .poison => b 12
  | .ur | .ca => d
  | .staging => d.inc Reg.CTN_CNT_UNCORR

/-- DMA_READ_ERROR on the read the arbiter has issued. Of one that succeeds when repeated, the read that failed has left; the
repeat and its data are the fetch that follows. Where the repeat fails too, both have left, the descriptors read before the
error are admitted and the ring is faulted. -/
def readError (q : Fin 32) (e : DmaErr) (got : List Fetched) (again : Bool) (s : State) : State :=
  let s := { s with dev := s.dev.aerNote e }
  match s.dev.arbitrate with
  | (some r, d) =>
    if r.sq != q.val then s
    else if !again then { s with dev := s.dev.askFetch r }
    else
      let s := fetchRead r (got.take (r.ents - 1)) { s with dev := d.askFetch r }
      { s with dev := (s.dev.faultSq q.val 2 (s.dev.rd (Reg.RNG_SQ_STAT_HEAD q.val))).cutShort q }
  | (none, _) => s

def execDmaReadError (sq : Fin 32) (e : DmaErr) (got : List Fetched) (again : Bool) (s : State) :
    Host.Outcome State Fault Refusal := .next (readError sq e got again s)

end Sys2Proof.Machine
end

