-- ==== Sys2Proof/Machine/Dispatch.lean ====
section
/-! DEFINITION. exec: one arm per command of the table, each a direct call of the command's meaning. -/

namespace Sys2Proof.Machine

def exec (i : Instr) (s : State) : Host.Outcome State Fault Refusal :=
  match i with

  | .tick cars missed tj ppb => Sys2Proof.Machine.execTick cars missed tj ppb s
  | .gtStep => Sys2Proof.Machine.execGtStep s
  | .syncReceived m => Sys2Proof.Machine.execSyncReceived m s
  | .announceReceived m => Sys2Proof.Machine.execAnnounceReceived m s
  | .delayRespReceived m => Sys2Proof.Machine.execDelayRespReceived m s
  | .delayReqSend stamp => Sys2Proof.Machine.execDelayReqSend stamp s
  | .announceTimeout => Sys2Proof.Machine.execAnnounceTimeout s
  | .syncTimeout => Sys2Proof.Machine.execSyncTimeout s
  | .ptpLinkLoss => Sys2Proof.Machine.execPtpLinkLoss s
  | .arpRequest p q => Sys2Proof.Machine.execArpRequest p q s
  | .icmpEchoRequest p q => Sys2Proof.Machine.execIcmpEchoRequest p q s
  | .igmpQuery p tag group => Sys2Proof.Machine.execIgmpQuery p tag group s
  | .gtValidFreeRun => Sys2Proof.Machine.execGtValidFreeRun s
  | .slewDone => Sys2Proof.Machine.execSlewDone s
  | .holdoverLimit => Sys2Proof.Machine.execHoldoverLimit s
  | .tcxoLost => Sys2Proof.Machine.execTcxoLost s
  | .ppsOutPulse t => Sys2Proof.Machine.execPpsOutPulse t s
  | .ppsInEdge stamp => Sys2Proof.Machine.execPpsInEdge stamp s
  | .gtBroadcast dev => Sys2Proof.Machine.execGtBroadcast dev s
  | .sqTailDoorbell sq v => Sys2Proof.Machine.execSqTailDoorbell sq v s
  | .cqHeadDoorbell cq v => Sys2Proof.Machine.execCqHeadDoorbell cq v s
  | .eqHeadDoorbell eq v => Sys2Proof.Machine.execEqHeadDoorbell eq v s
  | .ringEnable r cfg => Sys2Proof.Machine.execRingEnable r cfg s
  | .ringDisable r cfg => Sys2Proof.Machine.execRingDisable r cfg s
  | .sqFetch data => Sys2Proof.Machine.execSqFetch data s
  | .dmaReadError sq e got again => Sys2Proof.Machine.execDmaReadError sq e got again s
  | .dmaWriteError r => Sys2Proof.Machine.execDmaWriteError r s
  | .unknownOpcode sq d => Sys2Proof.Machine.execUnknownOpcode sq d s
  | .backlogDrain cq => Sys2Proof.Machine.execBacklogDrain cq s
  | .eqOverflow eq => Sys2Proof.Machine.execEqOverflow eq s
  | .moderationTimer => Sys2Proof.Machine.execModerationTimer s
  | .fenceRelease => Sys2Proof.Machine.execFenceRelease s
  | .hostIslandReset cause => Sys2Proof.Machine.execHostIslandReset cause s
  | .hwdKick => Sys2Proof.Machine.execHwdKick s
  | .hostWatchdogExpiry => Sys2Proof.Machine.execHostWatchdogExpiry s
  | .d3hotEntry => Sys2Proof.Machine.execD3hotEntry s
  | .d0Entry => Sys2Proof.Machine.execD0Entry s
  | .d0RecoveryEnd => Sys2Proof.Machine.execD0RecoveryEnd s
  | .busMasterEnable => Sys2Proof.Machine.execBusMasterEnable s
  | .aspmL1Entry => Sys2Proof.Machine.execAspmL1Entry s
  | .nop sq d => Sys2Proof.Machine.execNop sq d s
  | .heldRead sq d => Sys2Proof.Machine.execHeldRead sq d s
  | .heldDiscard sq d => Sys2Proof.Machine.execHeldDiscard sq d s
  | .eqPing sq d => Sys2Proof.Machine.execEqPing sq d s
  | .authChallenge sq d => Sys2Proof.Machine.execAuthChallenge sq d s
  | .challengeExpiry => Sys2Proof.Machine.execChallengeExpiry s
  | .actionCancel sq d => Sys2Proof.Machine.execActionCancel sq d s
  | .chord sq d => Sys2Proof.Machine.execChord sq d s
  | .cue sq d => Sys2Proof.Machine.execCue sq d s
  | .actionQuery sq d => Sys2Proof.Machine.execActionQuery sq d s
  | .trip sq d => Sys2Proof.Machine.execTrip sq d s
  | .callCancel sq d => Sys2Proof.Machine.execCallCancel sq d s
  | .carMode sq d => Sys2Proof.Machine.execCarMode sq d s
  | .evrStart sq d => Sys2Proof.Machine.execEvrStart sq d s
  | .evrAbort sq d => Sys2Proof.Machine.execEvrAbort sq d s
  | .learnTrip sq d => Sys2Proof.Machine.execLearnTrip sq d s
  | .learnTripEnd n => Sys2Proof.Machine.execLearnTripEnd n s
  | .doorOpen sq d => Sys2Proof.Machine.execDoorOpen sq d s
  | .doorClose sq d => Sys2Proof.Machine.execDoorClose sq d s
  | .doorHold sq d => Sys2Proof.Machine.execDoorHold sq d s
  | .lampSet sq d => Sys2Proof.Machine.execLampSet sq d s
  | .heleaScene sq d => Sys2Proof.Machine.execHeleaScene sq d s
  | .heleaNode sq d => Sys2Proof.Machine.execHeleaNode sq d s
  | .calSwap sq d mem => Sys2Proof.Machine.execCalSwap sq d mem s
  | .outSet sq d => Sys2Proof.Machine.execOutSet sq d s
  | .outPulse sq d => Sys2Proof.Machine.execOutPulse sq d s
  | .ioProbe sq d => Sys2Proof.Machine.execIoProbe sq d s
  | .safeOpen sq d => Sys2Proof.Machine.execSafeOpen sq d s
  | .safeRearm sq d => Sys2Proof.Machine.execSafeRearm sq d s
  | .busTx sq d => Sys2Proof.Machine.execBusTx sq d s
  | .busRecover sq d => Sys2Proof.Machine.execBusRecover sq d s
  | .logRead sq d => Sys2Proof.Machine.execLogRead sq d s
  | .logFreeze sq d => Sys2Proof.Machine.execLogFreeze sq d s
  | .logThaw sq d => Sys2Proof.Machine.execLogThaw sq d s
  | .logClear sq d => Sys2Proof.Machine.execLogClear sq d s
  | .bistRun sq d => Sys2Proof.Machine.execBistRun sq d s
  | .repairSoft sq d => Sys2Proof.Machine.execRepairSoft sq d s
  | .repairHard sq d bad => Sys2Proof.Machine.execRepairHard sq d bad s
  | .leaseRelease sq d => Sys2Proof.Machine.execLeaseRelease sq d s
  | .dutyHandover sq d => Sys2Proof.Machine.execDutyHandover sq d s
  | .checkpointNow sq d => Sys2Proof.Machine.execCheckpointNow sq d s
  | .standbyMode sq d => Sys2Proof.Machine.execStandbyMode sq d s
  | .imageLoad sq d mem => Sys2Proof.Machine.execImageLoad sq d mem s
  | .imageCommit sq d => Sys2Proof.Machine.execImageCommit sq d s
  | .sliceConfirm sq d => Sys2Proof.Machine.execSliceConfirm sq d s
  | .actionHandOn => Sys2Proof.Machine.execActionHandOn s
  | .controllerActionFire t => Sys2Proof.Machine.execControllerActionFire t s
  | .sliceActionFire n t => Sys2Proof.Machine.execSliceActionFire n t s
  | .cueFirstCopy t => Sys2Proof.Machine.execCueFirstCopy t s
  | .cueSecondCopy t => Sys2Proof.Machine.execCueSecondCopy t s
  | .cueKeyWrite k v => Sys2Proof.Machine.execCueKeyWrite k v s
  | .cueKeyStored => Sys2Proof.Machine.execCueKeyStored s
  | .vaneEdge n dzB active stamp => Sys2Proof.Machine.execVaneEdge n dzB active stamp s
  | .encLost n => Sys2Proof.Machine.execEncLost n s
  | .encLostClear n => Sys2Proof.Machine.execEncLostClear n s
  | .indexPulse n enc count stamp => Sys2Proof.Machine.execIndexPulse n enc count stamp s
  | .zeroStale n => Sys2Proof.Machine.execZeroStale n s
  | .tripComplete n => Sys2Proof.Machine.execTripComplete n s
  | .trackingFault n => Sys2Proof.Machine.execTrackingFault n s
  | .driveStatusChange n level => Sys2Proof.Machine.execDriveStatusChange n level s
  | .doorEndReached n d t => Sys2Proof.Machine.execDoorEndReached n d t s
  | .stall n d t => Sys2Proof.Machine.execStall n d t s
  | .forceExcess n d t => Sys2Proof.Machine.execForceExcess n d t s
  | .doorBrakeDone n d t => Sys2Proof.Machine.execDoorBrakeDone n d t s
  | .dwellExpiry n d t => Sys2Proof.Machine.execDwellExpiry n d t s
  | .holdExpiry n d t => Sys2Proof.Machine.execHoldExpiry n d t s
  | .lockTimerExpiry n d t => Sys2Proof.Machine.execLockTimerExpiry n d t s
  | .nudgeTimeout n d t => Sys2Proof.Machine.execNudgeTimeout n d t s
  | .handPush n d t => Sys2Proof.Machine.execHandPush n d t s
  | .doorEndNotFound n d t => Sys2Proof.Machine.execDoorEndNotFound n d t s
  | .doorFault n d cause phase x t => Sys2Proof.Machine.execDoorFault n d cause phase x t s
  | .doorFaultCleared n d cause x t => Sys2Proof.Machine.execDoorFaultCleared n d cause x t s
  | .orphanDoorHoldEnd n d t => Sys2Proof.Machine.execOrphanDoorHoldEnd n d t s
  | .evrTimeout n => Sys2Proof.Machine.execEvrTimeout n s
  | .safeOrphanDrop n t => Sys2Proof.Machine.execSafeOrphanDrop n t s
  | .sfbMismatch n t => Sys2Proof.Machine.execSfbMismatch n t s
  | .downstreamFrame n p b bad flip t => Sys2Proof.Machine.execDownstreamFrame n p b bad flip t s
  | .sliceConfigActive n t => Sys2Proof.Machine.execSliceConfigActive n t s
  | .upstreamFrameSend n p lws t => Sys2Proof.Machine.execUpstreamFrameSend n p lws t s
  | .upstreamFrame n b bad arr => Sys2Proof.Machine.execUpstreamFrame n b bad arr s
  | .recordResend n up p => Sys2Proof.Machine.execRecordResend n up p s
  | .linkDrop n => Sys2Proof.Machine.execLinkDrop n s
  | .trainingAttempt n => Sys2Proof.Machine.execTrainingAttempt n s
  | .symbolLock n p => Sys2Proof.Machine.execSymbolLock n p s
  | .proxyWrite n off v => Sys2Proof.Machine.execProxyWrite n off v s
  | .shadowRefreshRead n off => Sys2Proof.Machine.execShadowRefreshRead n off s
  | .sliceTick n t => Sys2Proof.Machine.execSliceTick n t s
  | .epochWriteDone n t => Sys2Proof.Machine.execEpochWriteDone n t s
  | .leaseExpiry n t => Sys2Proof.Machine.execLeaseExpiry n t s
  | .guardElapsed n t => Sys2Proof.Machine.execGuardElapsed n t s
  | .leaseLapse n => Sys2Proof.Machine.execLeaseLapse n s
  | .orphanLampHoldEnd n t => Sys2Proof.Machine.execOrphanLampHoldEnd n t s
  | .alignedLost n t => Sys2Proof.Machine.execAlignedLost n t s
  | .linkLost n => Sys2Proof.Machine.execLinkLost n s
  | .syncDone n => Sys2Proof.Machine.execSyncDone n s
  | .inputValueChange n x c first t => Sys2Proof.Machine.execInputValueChange n x c first t s
  | .inputStuck n x t => Sys2Proof.Machine.execInputStuck n x t s
  | .inputChatter n x c first t => Sys2Proof.Machine.execInputChatter n x c first t s
  | .wireBreak n x c first t => Sys2Proof.Machine.execWireBreak n x c first t s
  | .wireRestored n x c first t => Sys2Proof.Machine.execWireRestored n x c first t s
  | .edgeOverflow n t => Sys2Proof.Machine.execEdgeOverflow n t s
  | .pulseEnd n x t => Sys2Proof.Machine.execPulseEnd n x t s
  | .outputLatch n x thermal since t => Sys2Proof.Machine.execOutputLatch n x thermal since t s
  | .openLoadDetect n x short v since t => Sys2Proof.Machine.execOpenLoadDetect n x short v since t s
  | .faultHoldEnd n t => Sys2Proof.Machine.execFaultHoldEnd n t s
  | .vsLow n mv t => Sys2Proof.Machine.execVsLow n mv t s
  | .vsRestored n mv t => Sys2Proof.Machine.execVsRestored n mv t s
  | .safeStageMismatch n d why since t => Sys2Proof.Machine.execSafeStageMismatch n d why since t s
  | .probeStepDone n t => Sys2Proof.Machine.execProbeStepDone n t s
  | .fioProbeWrite n v => Sys2Proof.Machine.execFioProbeWrite n v s
  | .deratingUpdate n ohmA ohmB die t => Sys2Proof.Machine.execDeratingUpdate n ohmA ohmB die t s
  | .pairUntested n k t => Sys2Proof.Machine.execPairUntested n k t s
  | .stringOpen n k t => Sys2Proof.Machine.execStringOpen n k t s
  | .lampThermal n x t => Sys2Proof.Machine.execLampThermal n x t s
  | .lampThermalClear n x t => Sys2Proof.Machine.execLampThermalClear n x t s
  | .heleaFrameStart n p t => Sys2Proof.Machine.execHeleaFrameStart n p t s
  | .heleaLatch n p t => Sys2Proof.Machine.execHeleaLatch n p t s
  | .chainCheck n p bits same t => Sys2Proof.Machine.execChainCheck n p bits same t s
  | .canTxSuccess c sof busy => Sys2Proof.Machine.execCanTxSuccess c sof busy s
  | .wireTimeout c x => Sys2Proof.Machine.execWireTimeout c x s
  | .canFrameReceived c f esi rtr sof => Sys2Proof.Machine.execCanFrameReceived c f esi rtr sof s
  | .rxPop c x => Sys2Proof.Machine.execRxPop c x s
  | .busError c tec rec lec => Sys2Proof.Machine.execBusError c tec rec lec s
  | .migrationQueueDrain c => Sys2Proof.Machine.execMigrationQueueDrain c s
  | .busRecoveryDone c => Sys2Proof.Machine.execBusRecoveryDone c s
  | .eccCorrectable region unit page => Sys2Proof.Machine.execEccCorrectable region unit page s
  | .engineIsolation n cause => Sys2Proof.Machine.execEngineIsolation n cause s
  | .slicePortIsolation n ecc => Sys2Proof.Machine.execSlicePortIsolation n ecc s
  | .ethPortIsolation p ecc => Sys2Proof.Machine.execEthPortIsolation p ecc s
  | .channelIsolation c => Sys2Proof.Machine.execChannelIsolation c s
  | .larderUncorrectable region off page both => Sys2Proof.Machine.execLarderUncorrectable region off page both s
  | .controllerFault lp4x kept => Sys2Proof.Machine.execControllerFault lp4x kept s
  | .heartbeatReceived b bad arr => Sys2Proof.Machine.execHeartbeatReceived b bad arr s
  | .chunkReceived b bad arr => Sys2Proof.Machine.execChunkReceived b bad arr s
  | .ackReceived b bad arr => Sys2Proof.Machine.execAckReceived b bad arr s
  | .healthReceived b bad arr => Sys2Proof.Machine.execHealthReceived b bad arr s
  | .identReceived b bad arr => Sys2Proof.Machine.execIdentReceived b bad arr s
  | .pebexDrop => Sys2Proof.Machine.execPebexDrop s
  | .laneLoss x => Sys2Proof.Machine.execLaneLoss x s
  | .pebexLock => Sys2Proof.Machine.execPebexLock s
  | .pebexRetryExpiry => Sys2Proof.Machine.execPebexRetryExpiry s
  | .peerConfirm v => Sys2Proof.Machine.execPeerConfirm v s
  | .bootWaitElapsed => Sys2Proof.Machine.execBootWaitElapsed s
  | .partnerPresumedDead => Sys2Proof.Machine.execPartnerPresumedDead s
  | .checkpointSnapshot => Sys2Proof.Machine.execCheckpointSnapshot s
  | .checkpointStall => Sys2Proof.Machine.execCheckpointStall s
  | .engineStartDone n => Sys2Proof.Machine.execEngineStartDone n s
  | .healthReport => Sys2Proof.Machine.execHealthReport s
  | .rollingBistStep => Sys2Proof.Machine.execRollingBistStep s
  | .bistTestDone e => Sys2Proof.Machine.execBistTestDone e s
  | .freezeEnd => Sys2Proof.Machine.execFreezeEnd s
  | .logDropReport => Sys2Proof.Machine.execLogDropReport s
  | .mirrorCopy => Sys2Proof.Machine.execMirrorCopy s
  | .pfail => Sys2Proof.Machine.execPfail s
  | .pfailReturn => Sys2Proof.Machine.execPfailReturn s
  | .domainIdle k => Sys2Proof.Machine.execDomainIdle k s
  | .domainWake k => Sys2Proof.Machine.execDomainWake k s
  | .pllUnlock p kept => Sys2Proof.Machine.execPllUnlock p kept s
  | .powerOn => Sys2Proof.Machine.execPowerOn s
  | .brownout => Sys2Proof.Machine.execBrownout s
  | .nreset kept => Sys2Proof.Machine.execNreset kept s
  | .softwareReset v kept => Sys2Proof.Machine.execSoftwareReset v kept s
  | .systemWatchdog kept => Sys2Proof.Machine.execSystemWatchdog kept s
  | .thermalWarning tj => Sys2Proof.Machine.execThermalWarning tj s
  | .thermalShutdown tj kept => Sys2Proof.Machine.execThermalShutdown tj kept s
  | .startUp b => Sys2Proof.Machine.execStartUp b s
  | .slicePowerUp n board cur mv t => Sys2Proof.Machine.execSlicePowerUp n board cur mv t s
  | .sliceReset n => Sys2Proof.Machine.execSliceReset n s
  | .lockRequest v => Sys2Proof.Machine.execLockRequest v s
  | .carEnableWrite v tests => Sys2Proof.Machine.execCarEnableWrite v tests s
  | .registerWrite w => Sys2Proof.Machine.execRegisterWrite w s
  | .latchedRead r => Sys2Proof.Machine.execLatchedRead r s
  | .otpProgram v => Sys2Proof.Machine.execOtpProgram v s
  | .otpProgramDone good => Sys2Proof.Machine.execOtpProgramDone good s
  | .perstDeassert speed x2 => Sys2Proof.Machine.execPerstDeassert speed x2 s
  | .ethLinkChange p up gig => Sys2Proof.Machine.execEthLinkChange p up gig s
  | .pcieRefclkRestored speed x2 => Sys2Proof.Machine.execPcieRefclkRestored speed x2 s
  | .laneRestored x => Sys2Proof.Machine.execLaneRestored x s
  | .fieldSupplyRange n mv t => Sys2Proof.Machine.execFieldSupplyRange n mv t s
  | .outputTempWarning n x t => Sys2Proof.Machine.execOutputTempWarning n x t s
  | .thermalWarningClear tj => Sys2Proof.Machine.execThermalWarningClear tj s
  | .doorPwmPeriod n d counts angle t => Sys2Proof.Machine.execDoorPwmPeriod n d counts angle t s
  | .lampPwmPeriod n sinks fall t => Sys2Proof.Machine.execLampPwmPeriod n sinks fall t s
  | .doorEncLost n d t => Sys2Proof.Machine.execDoorEncLost n d t s
  | .doorEncLostClear n d t => Sys2Proof.Machine.execDoorEncLostClear n d t s
  | .ringWrite => Sys2Proof.Machine.execRingWrite s
  | .handoverWaitExpiry n => Sys2Proof.Machine.execHandoverWaitExpiry n s

end Sys2Proof.Machine
end

