-- ==== Sys2Proof/Safety.lean ====
section
/-! DEFINITION. The terms the statements use: what a command is addressed to, what a shared operation may write, what OTP
keeps. -/

namespace Sys2Proof.Safety

open Sys2Proof.Machine

/-- The register fields that raising an event or writing a record may write: the drop counts of the Logbook (R411), the
event rings (R86, R87), the wake reason and the held-event loss count (R97, R99). -/
def eventFields : List RF :=
  [Reg.HST_WAKE_RSN_VALID, Reg.HST_WAKE_RSN_EQ, Reg.HST_EVT_LOST] ++ (List.range 8).flatMap fun k =>
    [Reg.LOG_DROP k, Reg.RNG_EQ_LOST k, Reg.RNG_EQ_STAT_TAIL k, Reg.RNG_EQ_HEAD_PHASE k]

/-- A field that raising an event leaves alone. -/
def Apart (f : RF) : Prop := ∀ g ∈ eventFields, f.key ≠ g.key

/-- The parts of the controller that a record or an event cannot touch. -/
structure SameCore (s t : Dev) : Prop where
  free  : t.free = s.free
  rwt   : t.rwt = s.rwt
  time  : t.time = s.time
  ladle : t.ladle = s.ladle
  nv    : t.nv = s.nv
  cars  : t.cars = s.cars
  evrs  : t.evrs = s.evrs
  links : t.links = s.links
  bus   : t.bus = s.bus
  ctn   : t.ctn = s.ctn
  pbx   : t.pbx = s.pbx
  tvt   : t.tvt = s.tvt
  whk   : t.whk = s.whk
  sys   : t.sys = s.sys

/-- Core parts unchanged, and every field apart from those of events reads as before. -/
structure Quiet (s t : Dev) : Prop where
  core : SameCore s t
  rd   : ∀ f, Apart f → t.rd f = s.rd f

/-- The command completes: the controller becomes `d`, everything else stays as it is. -/
def Becomes (c : Instr) (s : State) (d : Dev) : Prop := exec c s = .next { s with dev := d }

/-- The command completes: slice `n` becomes `x`, the controller, OTP and every other slice stay as they are. -/
def SliceBecomes (c : Instr) (s : State) (n : Fin 16) (x : Slice) : Prop :=
  exec c s = .next { s with slices := s.slices.set n x }

/-- Slice `n` as it stands when something happens there at its time `t`. -/
abbrev stands (s : State) (n : Fin 16) (t : Nat) : Slice := s.slices[n].at t

/-- Where slice `n` has power, the command completes with the slice at `x`, its pending records on their way. -/
def SliceRuns (c : Instr) (s : State) (n : Fin 16) (x : Slice) : Prop := s.slices[n].on → SliceBecomes c s n x.settle

/-- Where slice `n` has power, the command completes with the slice at `x`, its pending records on their way, and the actions it
has fired since `c` counted in the room of their ticks where the controller holds the lease (R135). -/
def SliceFires (i : Instr) (s : State) (n : Fin 16) (c x : Slice) : Prop :=
  s.slices[n].on → exec i s = .next { s with
    slices := s.slices.set n x.settle
    dev := s.dev.sliceRoom n.val (x.settle.room.drop c.room.length) }

/-- Slice `n` as actions fire there: with the room its controller has left. -/
abbrev standsFiring (s : State) (n : Fin 16) (t : Nat) : Slice := (stands s n t).takeRoom s.dev n.val

/-- Every field reads as before but those listed and those an event may write. -/
def Keeps (w : List RF) (s d : Dev) : Prop := ∀ f, Apart f → (∀ g ∈ w, f.key ≠ g.key) → d.rd f = s.rd f

/-- A PTP message the controller looks into: received whole by a port that takes its frame while PTP runs, of the form of its
type, in this domain (R40). -/
abbrev PtpTaken (d : Dev) (m : PtpRx) (ty len : Nat) : Prop :=
  m.err = false ∧ d.ptpOn ∧ d.takes m.port m.tag ∧ ptpForm ty len m.data ∧ m.domain = d.rd Reg.PTP_CTRL_DOMAIN

/-- The action is one of the SQ and CMD_ID given, and its host still expects its completion (R107, R398). -/
abbrev Called (q cmd : Nat) (a : Act) : Prop := a.sq = q ∧ a.cmd = cmd ∧ a.gen ≠ 0xFFFF

/-- An admitted descriptor of the SQ with that CMD_ID still awaits its final completion: a stored or delivered action, a
chord, a frame that a bus channel has yet to send, a CAL_SWAP that has fired (R107, R125, R339, R330). -/
abbrev Awaits (d : Dev) (q cmd : Nat) : Prop :=
  (∃ a ∈ d.ladle.acts, Called q cmd a) ∨
  (∃ c ∈ d.ladle.chords, c.sq = q ∧ c.cmd = cmd ∧ c.gen ≠ 0xFFFF) ∨
  (∃ c ∈ d.bus.toList, ∃ m ∈ c.mbx ++ c.mig, m.done = false ∧ Called q cmd m.act) ∨
  (∃ l ∈ d.links.toList, ∃ r ∈ l.cal.toList, ∃ x ∈ r.toList, x.fired ∧ Called q cmd x.act)

/-- The opcode, SQ and bytes of a command that is a descriptor of the catalogue (R111). -/
def descOf : Instr → Option (Nat × Fin 32 × List Byte)
  | .nop q b => some (0x00, q, b)
  | .heldRead q b => some (0x01, q, b)
  | .heldDiscard q b => some (0x02, q, b)
  | .eqPing q b => some (0x03, q, b)
  | .authChallenge q b => some (0x04, q, b)
  | .actionCancel q b => some (0x10, q, b)
  | .chord q b => some (0x11, q, b)
  | .cue q b => some (0x12, q, b)
  | .actionQuery q b => some (0x13, q, b)
  | .trip q b => some (0x20, q, b)
  | .callCancel q b => some (0x21, q, b)
  | .carMode q b => some (0x22, q, b)
  | .evrStart q b => some (0x23, q, b)
  | .evrAbort q b => some (0x24, q, b)
  | .learnTrip q b => some (0x25, q, b)
  | .doorOpen q b => some (0x30, q, b)
  | .doorClose q b => some (0x31, q, b)
  | .doorHold q b => some (0x32, q, b)
  | .lampSet q b => some (0x40, q, b)
  | .heleaScene q b => some (0x41, q, b)
  | .heleaNode q b => some (0x42, q, b)
  | .calSwap q b _ => some (0x43, q, b)
  | .outSet q b => some (0x50, q, b)
  | .outPulse q b => some (0x51, q, b)
  | .ioProbe q b => some (0x52, q, b)
  | .safeOpen q b => some (0x53, q, b)
  | .safeRearm q b => some (0x54, q, b)
  | .busTx q b => some (0x60, q, b)
  | .busRecover q b => some (0x61, q, b)
  | .logRead q b => some (0x70, q, b)
  | .logFreeze q b => some (0x71, q, b)
  | .logThaw q b => some (0x72, q, b)
  | .logClear q b => some (0x73, q, b)
  | .bistRun q b => some (0x80, q, b)
  | .repairSoft q b => some (0x81, q, b)
  | .repairHard q b _ => some (0x82, q, b)
  | .leaseRelease q b => some (0x90, q, b)
  | .dutyHandover q b => some (0x91, q, b)
  | .checkpointNow q b => some (0x92, q, b)
  | .standbyMode q b => some (0x93, q, b)
  | .imageLoad q b _ => some (0xA0, q, b)
  | .imageCommit q b => some (0xA1, q, b)
  | .sliceConfirm q b => some (0xA2, q, b)
  | _ => none

/-- The opcode, firing place, SQ and bytes of a descriptor that is stored as an action with no check of its own at admission
(R111, R130). -/
def actionOf : Instr → Option (Nat × AKind × Fin 32 × List Byte)
  | .cue q b => some (0x12, .n, q, b)
  | .doorOpen q b => some (0x30, .s, q, b)
  | .doorClose q b => some (0x31, .s, q, b)
  | .doorHold q b => some (0x32, .s, q, b)
  | .lampSet q b => some (0x40, .s, q, b)
  | .heleaScene q b => some (0x41, .s, q, b)
  | .heleaNode q b => some (0x42, .s, q, b)
  | .outSet q b => some (0x50, .s, q, b)
  | .outPulse q b => some (0x51, .s, q, b)
  | .safeOpen q b => some (0x53, .s, q, b)
  | .busTx q b => some (0x60, .c, q, b)
  | _ => none

/-- The enable bit and the size field of a ring (R72). -/
def ringEn : RingId → RF
  | .sq q => Reg.RNG_SQ_CFG_EN q.val
  | .cq q => Reg.RNG_CQ_CFG_EN q.val
  | .eq e => Reg.RNG_EQ_CFG_EN e.val
def ringSz : RingId → RF
  | .sq q => Reg.RNG_SQ_CFG_LOG2SZ q.val
  | .cq q => Reg.RNG_CQ_CFG_LOG2SZ q.val
  | .eq e => Reg.RNG_EQ_CFG_LOG2SZ e.val

/-- A descriptor as fetched: its number, and the controller that has counted it and reserved its completion (R76, R90). -/
abbrev fetched (s : State) (op : Nat) (q : Fin 32) (b : List Byte) : Nat × Dev := s.dev.fetchOne q.val b op

/-- A descriptor passes the checks common to all (R108): its form, its CMD_ID, SETUP_LOCK, GT_VALID, no handover of its
car. -/
abbrev Passes (s : State) (op : Nat) (q : Fin 32) (b : List Byte) : Prop := (fetched s op q b).2.precheck op q.val b = none

/-- The command completes as a descriptor: the controller takes its effect `d` and its admission is answered with `r`. -/
def Answers (c : Instr) (s : State) (op : Nat) (q : Fin 32) (b : List Byte) (d : Dev) (r : AdmRes) : Prop :=
  Becomes c s (d.admSet q.val (fetched s op q b).1 r)

/-- The slice at which a command happens, for the commands that happen at a slice alone (08, 10, 11, 12). -/
def atSlice : Instr → Option (Fin 16)
  | .doorEndReached n _ _ => some n
  | .stall n _ _ => some n
  | .forceExcess n _ _ => some n
  | .doorBrakeDone n _ _ => some n
  | .dwellExpiry n _ _ => some n
  | .holdExpiry n _ _ => some n
  | .lockTimerExpiry n _ _ => some n
  | .nudgeTimeout n _ _ => some n
  | .handPush n _ _ => some n
  | .doorEndNotFound n _ _ => some n
  | .doorFault n _ _ _ _ _ => some n
  | .doorFaultCleared n _ _ _ _ => some n
  | .orphanDoorHoldEnd n _ _ => some n
  | .safeOrphanDrop n _ => some n
  | .sfbMismatch n _ => some n
  | .downstreamFrame n _ _ _ _ _ => some n
  | .sliceConfigActive n _ => some n
  | .upstreamFrameSend n _ _ _ => some n
  | .sliceTick n _ => some n
  | .epochWriteDone n _ => some n
  | .leaseExpiry n _ => some n
  | .guardElapsed n _ => some n
  | .orphanLampHoldEnd n _ => some n
  | .alignedLost n _ => some n
  | .inputValueChange n _ _ _ _ => some n
  | .inputStuck n _ _ => some n
  | .inputChatter n _ _ _ _ => some n
  | .wireBreak n _ _ _ _ => some n
  | .wireRestored n _ _ _ _ => some n
  | .edgeOverflow n _ => some n
  | .pulseEnd n _ _ => some n
  | .outputLatch n _ _ _ _ => some n
  | .openLoadDetect n _ _ _ _ _ => some n
  | .faultHoldEnd n _ => some n
  | .vsLow n _ _ => some n
  | .vsRestored n _ _ => some n
  | .safeStageMismatch n _ _ _ _ => some n
  | .probeStepDone n _ => some n
  | .deratingUpdate n _ _ _ _ => some n
  | .pairUntested n _ _ => some n
  | .stringOpen n _ _ => some n
  | .lampThermal n _ _ => some n
  | .lampThermalClear n _ _ => some n
  | .heleaLatch n _ _ => some n
  | .chainCheck n _ _ _ _ => some n
  | .slicePowerUp n _ _ _ _ => some n
  | .sliceReset n => some n
  | .fieldSupplyRange n _ _ => some n
  | .outputTempWarning n _ _ => some n
  | .doorPwmPeriod n _ _ _ _ => some n
  | .lampPwmPeriod n _ _ _ => some n
  | .doorEncLost n _ _ => some n
  | .doorEncLostClear n _ _ => some n
  | _ => none

/-- The slice at which a command fires actions: it counts in the room of its car (R135), which the controller keeps. -/
def firesAt : Instr → Option (Fin 16)
  | .sliceActionFire n _ => some n
  | .heleaFrameStart n _ _ => some n
  | _ => none

/-- The slice a command can reach: its own, or that of a drive's index pulse, of records sent again and of a symbol lock,
which both ends of a link see. -/
def reach : Instr → Option (Fin 16)
  | .indexPulse n _ _ _ => some n
  | .recordResend n _ _ => some n
  | .symbolLock n _ => some n
  | .sliceActionFire n _ => some n
  | .heleaFrameStart n _ _ => some n
  | c => atSlice c

/-- What OTP holds stays in OTP: items of the maker, programmed slots, revocations, unusable items, IMG_REQ, the subsystem
identity once programmed, and the hard repair entries in their order (R483, R484). -/
structure Grown (o p : Otp) : Prop where
  maker   : p.serial = o.serial ∧ p.vid = o.vid ∧ p.logKey = o.logKey ∧ p.repairKey = o.repairKey ∧ p.storeKey = o.storeKey
  slot    : ∀ (k : Fin 4) (h : List Byte), o.slot[k] = some h → p.slot[k] = some h
  revoked : ∀ k, bit o.revoked k → bit p.revoked k
  spoiled : ∀ k, bit o.spoiled k → bit p.spoiled k
  imgReq  : o.imgReq → p.imgReq
  ident   : o.done 0 → p.ssid = o.ssid ∧ p.ssvid = o.ssvid
  hard    : o.hard <+: p.hard

end Sys2Proof.Safety
end

