-- ==== Sys2Proof/Certificates/Slice0/Obligations.lean ====
section
/-! DEFINITION. The statements for the provers. -/

open Sys2Proof Sys2Proof.Machine Sys2Proof.Safety

/-! ## The block -/

/-- A step of a state whose queue has a front command runs that command on the state with the queue's rest. -/
def Obligations.StepRunsFront : Prop :=
  ∀ (c : Instr) (q : List Instr) (s : State), s.pending = c :: q → step s = exec c { s with pending := q }

/-- Commands leave the queue in their order: one takes nothing from the queue but itself and puts nothing into it; with none
waiting the block idles (the model's choice, log entry 9). -/
def Obligations.QueueFirstInFirstOut : Prop :=
  (∀ (c : Instr) (q : List Instr) (s t : State), s.pending = c :: q → step s = .next t → t.pending = q) ∧
  (∀ s : State, s.pending = [] → step s = .next s)

/-- A command reaches at most one slice: every other slice is as it was. One that happens at a slice alone leaves the controller
and OTP as they were, one that fires actions there all but the room they take (R135). -/
def Obligations.SlicesStaySeparate : Prop :=
  ∀ (c : Instr) (s t : State), exec c s = .next t →
    (∀ m : Fin 16, reach c ≠ some m → t.slices[m] = s.slices[m]) ∧
    (∀ n, atSlice c = some n → t.dev = s.dev ∧ t.otp = s.otp) ∧
    (∀ n, firesAt c = some n → t.otp = s.otp ∧
      ∃ r, t.dev = s.dev.mapLdl fun l => { l with room := r })

/-- What OTP holds stays: from every state, whatever the command, nothing that is programmed is lost or changed. -/
def Obligations.OtpIsOneTime : Prop := ∀ (o : Otp) (s t : State), Grown o s.otp → step s = .next t → Grown o t.otp

/-! ## Group Time and PTP (02) -/

/-- The spine's own commands, where each has its effect. -/
def Obligations.SpineCommands : Prop :=
  (∀ (s : State) (m : Nat), s.dev.time.step = some m →
    Becomes .gtStep s
      (((((((s.dev.setGt s.dev.nextTick).stepGt (m * tickNs)).passLate).mapTime fun t =>
        { t with step := none, due := true }).flag Reg.TSP_STAT_STEPPED true).inc Reg.TSP_STEP_CNT).raise .gtStep 0
          [pU 16 4 m])) ∧
  (∀ (s : State) (g : Nat), s.dev.rd Reg.TSP_CTRL_SRC = 1 → s.dev.on Reg.TSP_STAT_GT_VALID = false →
    s.dev.time.freeGt = some g → g < s.dev.tickStart → Becomes .gtValidFreeRun s (s.dev.gtValidNow 1)) ∧
  (∀ s : State, s.dev.time.corr = 0 → Becomes .slewDone s (s.dev.flag Reg.TSP_STAT_SLEWING false)) ∧
  (∀ s : State, s.dev.rd Reg.PTP_STAT_STATE = Servo.holdover → s.dev.on Reg.TSP_HOLD_MAX_SECONDS →
    s.dev.on Reg.TSP_STAT_HOLD_EXP = false →
    (s.dev.rd Reg.TSP_HOLD_MAX_SECONDS * 1000000000 < s.dev.time.holdNs → Becomes .holdoverLimit s
      ((s.dev.flag Reg.TSP_STAT_HOLD_EXP true).raise .holdoverLimit 0 [pU 16 4 (s.dev.time.holdNs / 1000000000)])) ∧
    (s.dev.time.holdNs ≤ s.dev.rd Reg.TSP_HOLD_MAX_SECONDS * 1000000000 → Becomes .holdoverLimit s s.dev)) ∧
  (∀ s : State, s.dev.on Reg.TSP_STAT_TCXO_FB = false →
    Becomes .tcxoLost s
      (((((s.dev.flag Reg.TSP_STAT_TCXO_FB true).flag Reg.CLK_STAT_TCXO_OK false).flag Reg.CLK_STAT_REF_SYNTH true).wrI
        Reg.CLK_TCXO_ERR 0).raise .tcxoLost 0 [])) ∧
  (∀ (s : State) (t : Nat), (s.dev.at t).on Reg.TSP_CTRL_PPS_OUT_EN → (s.dev.at t).on Reg.TSP_STAT_GT_VALID →
    (s.dev.at t).gt = t → ((t : Int) - (s.dev.at t).rdI Reg.TSP_PPS_OFS) % 1000000000 = 0 →
    Becomes (.ppsOutPulse t) s ((s.dev.at t).emit
      (.ppsOut ((s.dev.at t).rd Reg.TSP_PPS_CFG_WIDTH * 10000) ((s.dev.at t).rd Reg.TSP_PPS_CFG_POL)))) ∧
  (∀ (s : State) (t : Nat), ((t : Int) - (s.dev.at t).rdI Reg.TSP_PPS_OFS) % 1000000000 ≠ 0 →
    Becomes (.ppsOutPulse t) s (s.dev.at t)) ∧
  (∀ (s : State) (stamp : Nat), Becomes (.ppsInEdge stamp) s
    (((s.dev.at stamp).mapTime fun t => { t with ppsIn := stamp / 8 * 8 }).inc Reg.TSP_PPSIN_CNT))

/-- What moves Group Time and what does not. A forward step: GT gains m whole ticks at the boundary, STEPPED reads 1, the count
goes up by one, nothing is left to step, and no register changes but these and those of the event. Going to free run:
GT_VALID becomes 1 and the time stays. A usable Sync of the selected master once GT is valid, its offset at most 1 ms either
way: the offset is put to be slewed, nothing is stepped, the receive stamp is kept and the Sync counted. -/
def Obligations.GroupTimeMoves : Prop :=
  (∀ (s : State) (m : Nat), s.dev.time.step = some m →
     ∃ d, Becomes .gtStep s d ∧ d.gt = ((s.dev.gt / tickNs + 1) * tickNs + m * tickNs) % 2 ^ 64 ∧ d.time.step = none ∧
       d.rd Reg.TSP_STAT_STEPPED = 1 ∧ d.rd Reg.TSP_STEP_CNT = (s.dev.rd Reg.TSP_STEP_CNT + 1) % 2 ^ 32 ∧
       Keeps [Reg.TSP_STAT_STEPPED, Reg.TSP_STEP_CNT] s.dev d ∧ d.cars = s.dev.cars ∧ d.links = s.dev.links) ∧
  (∀ (s : State) (g : Nat), s.dev.rd Reg.TSP_CTRL_SRC = 1 → s.dev.on Reg.TSP_STAT_GT_VALID = false →
     s.dev.time.freeGt = some g → g < s.dev.tickStart →
     ∃ d, Becomes .gtValidFreeRun s d ∧ d.rd Reg.TSP_STAT_GT_VALID = 1 ∧ d.time = s.dev.time ∧
       Keeps [Reg.TSP_STAT_GT_VALID] s.dev d) ∧
  (∀ (s : State) (m : PtpRx) (o : Nat), let d := s.dev; let rx := m.rx / 8 * 8 - d.rd (Reg.PTP_ETH_LAT_RX_LAT m.port.val)
     let offset : Int := (rx : Int) - (o + d.rd Reg.PTP_MPD : Nat)
     PtpTaken d m 0 44 → m.port = d.actPort → -4 ≤ m.logInt → m.logInt ≤ 1 → m.origin = some o →
     d.time.sel = some m.srcId → d.on Reg.PTP_STAT_MASTER_OK → d.on Reg.TSP_STAT_GT_VALID →
     -1000000 ≤ offset → offset ≤ 1000000 →
     ∃ x, Becomes (.syncReceived m) s x ∧ x.time.corr = -offset ∧ x.time.step = none ∧
       x.time.lastSync = some (o, rx) ∧ x.rd Reg.PTP_CNT_SYNC = (d.rd Reg.PTP_CNT_SYNC + 1) % 2 ^ 32)

/-- PTP on the ports: what each message of the network does where it is addressed to this controller, with its VLAN tag where
the port has one; and the losses of the master: a servo that runs goes to HOLDOVER after a lock since the cold start, to FREE
before, then failover is tried. -/
def Obligations.PtpTraffic : Prop :=
  (∀ (s : State) (m : PtpRx), PtpTaken s.dev m 11 64 → 0 ≤ m.logInt → m.logInt ≤ 4 →
    let d := s.dev.mapTime fun t => { t with annGt := t.annGt.set m.port (some (s.dev.gt, m.logInt)) }
    (m.port = s.dev.actPort → Becomes (.announceReceived m) s (d.noteMaster m).bmca) ∧
    (m.port ≠ s.dev.actPort → Becomes (.announceReceived m) s d.failover)) ∧
  (∀ (s : State) (m : PtpRx) (t3 t1 t2 : Nat), PtpTaken s.dev m 9 54 → m.port = s.dev.actPort →
    (m.data.drop 44).take 10 = s.dev.portIdent m.port.val →
    s.dev.time.dreq = some (m.seq, t3) → s.dev.time.lastSync = some (t1, t2) →
    Becomes (.delayRespReceived m) s
      ((((s.dev.inc Reg.PTP_CNT_DRESP).wrI Reg.PTP_RATES_LOG_DREQ (max (-4) m.logInt)).wr Reg.PTP_MPD
        ((((t2 : Int) - t1 + ((ptpStamp m.data : Int) - ptpCorr m.data - t3)) / 2).toNat)).mapTime fun t =>
          { t with dreq := none })) ∧
  (∀ (s : State) (m : PtpRx), s.dev.ptpOn → s.dev.takes m.port m.tag → m.err = false →
    m.domain ≠ s.dev.rd Reg.PTP_CTRL_DOMAIN → m.port = s.dev.actPort →
    Becomes (.announceReceived m) s (s.dev.inc Reg.PTP_CNT_DROP) ∧
    Becomes (.syncReceived m) s (s.dev.inc Reg.PTP_CNT_DROP) ∧
    Becomes (.delayRespReceived m) s (s.dev.inc Reg.PTP_CNT_DROP)) ∧
  (∀ (s : State) (stamp : Nat), let d := s.dev.at stamp; let p := d.actPort.val
    d.ptpOn → d.on Reg.PTP_STAT_MASTER_OK → d.dreqDue d.gt →
    Becomes (.delayReqSend stamp) s
      ((d.mapTime fun t => { t with
          dreq := some (d.time.dreqSeq, stamp / 8 * 8 + d.rd (Reg.PTP_ETH_LAT_TX_LAT p)),
          dreqSeq := (d.time.dreqSeq + 1) % 65536, dreqGt := some d.gt }).emit
        (.delayReq p (d.sendTag p) (d.rd Reg.PTP_DSCP) (d.delayReqBytes p d.time.dreqSeq)))) ∧
  (∀ (s : State) (p : Fin 2) (q : ArpReq), s.dev.takes p q.tag → s.dev.portIs p.val q.tpa →
    Becomes (.arpRequest p q) s
      (s.dev.emit (.arpReply p.val (s.dev.sendTag p.val) q.sha q.spa (s.dev.portMac p.val) q.tpa))) ∧
  (∀ (s : State) (p : Fin 2) (q : EchoReq), s.dev.takes p q.tag → s.dev.portIs p.val q.dst →
    Becomes (.icmpEchoRequest p q) s
      (s.dev.emit (.echoReply p.val (s.dev.sendTag p.val) q.src q.dst q.id q.seq q.data))) ∧
  (∀ (s : State) (p : Fin 2) (tag : Option (Fin 65536)) (g : Nat), s.dev.takes p tag → (g = 0 ∨ g = ptpGroup) → s.dev.ptpOn →
    Becomes (.igmpQuery p tag g) s
      (s.dev.emit (.igmpReport p.val (s.dev.sendTag p.val) (s.dev.rd (Reg.PTP_ETH_IP p.val)) ptpGroup))) ∧
  (∀ s : State, s.dev.ptpOn →
    (s.dev.annDue → Becomes .announceTimeout s
      ((s.dev.dropMaster.mapTime fun t => { t with annOut := true }).servoTimeout.failover)) ∧
    (s.dev.syncDue → (s.dev.rd Reg.PTP_STAT_STATE = Servo.acquiring ∨ s.dev.rd Reg.PTP_STAT_STATE = Servo.locked) →
      Becomes .syncTimeout s (s.dev.servo (if s.dev.time.locked1 then Servo.holdover else Servo.free)))) ∧
  (∀ s : State, (s.dev.flag (Reg.PTP_ETH_STAT_LINK s.dev.actPort.val) false).ptpOn →
    Becomes .ptpLinkLoss s
      ((s.dev.flag (Reg.PTP_ETH_STAT_LINK s.dev.actPort.val) false).dropMaster.servoTimeout.failover))

/-! ## Host link (03) -/

/-- Doorbells of an enabled ring with an index that lies in it: an SQ takes the tail, a CQ or EQ frees the entries before
the head and is armed again with what is posted beyond it. A doorbell of a ring that is not enabled is ignored and counted;
an index outside the ring faults it. -/
def Obligations.Doorbells : Prop :=
  (∀ (s : State) (q : Fin 32) (v : BitVec 32), s.dev.on (Reg.RNG_SQ_CFG_EN q.val) →
    v.toNat % 65536 < ringSize (s.dev.rd (Reg.RNG_SQ_CFG_LOG2SZ q.val)) →
    Becomes (.sqTailDoorbell q v) s (s.dev.wr (Reg.RNG_SQ_TAIL q.val) (v.toNat % 65536))) ∧
  (∀ (s : State) (q : Fin 32) (v : BitVec 32), let z := ringSize (s.dev.rd (Reg.RNG_CQ_CFG_LOG2SZ q.val))
    let d := s.dev.wr (Reg.RNG_CQ_HEAD q.val) (v.toNat % 65536)
    s.dev.on (Reg.RNG_CQ_CFG_EN q.val) → v.toNat % 65536 < z →
    (v.toNat % 65536 + z - s.dev.rd (Reg.RNG_CQ_HEAD q.val)) % z ≤ s.dev.cqPosted q.val →
    Becomes (.cqHeadDoorbell q v) s (d.rearm q.val (d.cqPosted q.val))) ∧
  (∀ (s : State) (e : Fin 8) (v : BitVec 32), let z := ringSize (s.dev.rd (Reg.RNG_EQ_CFG_LOG2SZ e.val))
    let d := s.dev.wr (Reg.RNG_EQ_HEAD e.val) (v.toNat % 65536)
    s.dev.on (Reg.RNG_EQ_CFG_EN e.val) → v.toNat % 65536 < z →
    (v.toNat % 65536 + z - s.dev.rd (Reg.RNG_EQ_HEAD e.val)) % z ≤ z - 1 - s.dev.eqFree e.val →
    Becomes (.eqHeadDoorbell e v) s (d.rearm (32 + e.val) (z - 1 - d.eqFree e.val))) ∧
  (∀ (s : State) (q : Fin 32) (v : BitVec 32), s.dev.on (Reg.RNG_SQ_CFG_EN q.val) = false →
    Becomes (.sqTailDoorbell q v) s (s.dev.incSat Reg.HST_VIOL_DB_OFF)) ∧
  (∀ (s : State) (q : Fin 32) (v : BitVec 32), s.dev.on (Reg.RNG_CQ_CFG_EN q.val) = false →
    Becomes (.cqHeadDoorbell q v) s (s.dev.incSat Reg.HST_VIOL_DB_OFF)) ∧
  (∀ (s : State) (e : Fin 8) (v : BitVec 32), s.dev.on (Reg.RNG_EQ_CFG_EN e.val) = false →
    Becomes (.eqHeadDoorbell e v) s (s.dev.incSat Reg.HST_VIOL_DB_OFF)) ∧
  (∀ (s : State) (q : Fin 32) (v : BitVec 32), s.dev.on (Reg.RNG_SQ_CFG_EN q.val) →
    ringSize (s.dev.rd (Reg.RNG_SQ_CFG_LOG2SZ q.val)) ≤ v.toNat % 65536 →
    Becomes (.sqTailDoorbell q v) s (s.dev.faultSq q.val 1 (v.toNat % 65536))) ∧
  (∀ (s : State) (q : Fin 32) (v : BitVec 32), s.dev.on (Reg.RNG_CQ_CFG_EN q.val) →
    ringSize (s.dev.rd (Reg.RNG_CQ_CFG_LOG2SZ q.val)) ≤ v.toNat % 65536 →
    Becomes (.cqHeadDoorbell q v) s (s.dev.faultCq q.val 1 (v.toNat % 65536))) ∧
  (∀ (s : State) (e : Fin 8) (v : BitVec 32), s.dev.on (Reg.RNG_EQ_CFG_EN e.val) →
    ringSize (s.dev.rd (Reg.RNG_EQ_CFG_LOG2SZ e.val)) ≤ v.toNat % 65536 →
    Becomes (.eqHeadDoorbell e v) s (s.dev.faultEq e.val 1 (v.toNat % 65536)))

/-- A ring that goes from disabled to enabled starts with head and tail 0, no fault, a CQ and an EQ in phase 1, an SQ with SEQ and
DSEQ 0 where the CQ it names is enabled; where that CQ is not, the SQ stays disabled and the write is counted. A ring that
goes to disabled reads disabled and keeps its head. Both commands complete in every other state too: enabling an enabled ring
changes nothing; an EQ for which CONTROLLER_START still waits is enabled with head 0 and no fault; disabling a disabled ring
takes the size written, where it is one of 4 to 16, and leaves it disabled. -/
def Obligations.RingEnableDisable : Prop :=
  (∀ (s : State) (q : Fin 32) (w : BitVec 32), s.dev.on (Reg.RNG_CQ_CFG_EN q.val) = false →
    ∃ d, Becomes (.ringEnable (.cq q) w) s d ∧ d.rd (Reg.RNG_CQ_CFG_EN q.val) = 1 ∧ d.rd (Reg.RNG_CQ_HEAD q.val) = 0 ∧
      d.rd (Reg.RNG_CQ_STAT_TAIL q.val) = 0 ∧ d.rd (Reg.RNG_CQ_HEAD_PHASE q.val) = 1 ∧
      d.rd (Reg.RNG_CQ_STAT_FAULT q.val) = 0) ∧
  (∀ (s : State) (e : Fin 8) (w : BitVec 32), s.dev.on (Reg.RNG_EQ_CFG_EN e.val) = false → s.dev.host.startDue = false →
    ∃ d, Becomes (.ringEnable (.eq e) w) s d ∧ d.rd (Reg.RNG_EQ_CFG_EN e.val) = 1 ∧ d.rd (Reg.RNG_EQ_HEAD e.val) = 0 ∧
      d.rd (Reg.RNG_EQ_STAT_TAIL e.val) = 0 ∧ d.rd (Reg.RNG_EQ_HEAD_PHASE e.val) = 1 ∧
      d.rd (Reg.RNG_EQ_STAT_FAULT e.val) = 0) ∧
  (∀ (s : State) (q : Fin 32) (w : BitVec 32), s.dev.on (Reg.RNG_SQ_CFG_EN q.val) = false →
    let k := (Reg.RNG_SQ_CFG_CQ q.val).cut w.toNat
    (s.dev.on (Reg.RNG_CQ_CFG_EN k) →
      ∃ d, Becomes (.ringEnable (.sq q) w) s d ∧ d.rd (Reg.RNG_SQ_CFG_EN q.val) = 1 ∧ d.rd (Reg.RNG_SQ_CFG_CQ q.val) = k ∧
        d.rd (Reg.RNG_SQ_STAT_HEAD q.val) = 0 ∧ d.rd (Reg.RNG_SQ_TAIL q.val) = 0 ∧ d.rd (Reg.RNG_SQ_SEQ q.val) = 0 ∧
        d.rd (Reg.RNG_SQ_DSEQ q.val) = 0 ∧ d.rd (Reg.RNG_SQ_STAT_FAULT q.val) = 0) ∧
    (s.dev.on (Reg.RNG_CQ_CFG_EN k) = false →
      ∃ d, Becomes (.ringEnable (.sq q) w) s d ∧ d.rd (Reg.RNG_SQ_CFG_EN q.val) = 0 ∧
        d.rd Reg.HST_VIOL_BIND = satInc 16 (s.dev.rd Reg.HST_VIOL_BIND))) ∧
  (∀ (s : State) (q : Fin 32) (w : BitVec 32), s.dev.on (Reg.RNG_CQ_CFG_EN q.val) →
    ∃ d, Becomes (.ringDisable (.cq q) w) s d ∧ d.rd (Reg.RNG_CQ_CFG_EN q.val) = 0 ∧
      d.rd (Reg.RNG_CQ_HEAD q.val) = s.dev.rd (Reg.RNG_CQ_HEAD q.val) ∧ d.ladle = s.dev.ladle) ∧
  (∀ (s : State) (e : Fin 8) (w : BitVec 32), s.dev.on (Reg.RNG_EQ_CFG_EN e.val) →
    ∃ d, Becomes (.ringDisable (.eq e) w) s d ∧ d.rd (Reg.RNG_EQ_CFG_EN e.val) = 0 ∧
      d.rd (Reg.RNG_EQ_HEAD e.val) = s.dev.rd (Reg.RNG_EQ_HEAD e.val) ∧ d.ladle = s.dev.ladle) ∧
  (∀ (s : State) (q : Fin 32) (w : BitVec 32), s.dev.on (Reg.RNG_SQ_CFG_EN q.val) →
    ∃ d, Becomes (.ringDisable (.sq q) w) s d ∧ d.rd (Reg.RNG_SQ_CFG_EN q.val) = 0 ∧
      d.rd (Reg.RNG_SQ_STAT_HEAD q.val) = s.dev.rd (Reg.RNG_SQ_STAT_HEAD q.val) ∧ d.ladle = s.dev.ladle) ∧
  (∀ (s : State) (r : RingId) (w : BitVec 32), s.dev.on (ringEn r) → Becomes (.ringEnable r w) s s.dev) ∧
  (∀ (s : State) (e : Fin 8) (w : BitVec 32), s.dev.on (Reg.RNG_EQ_CFG_EN e.val) = false →
    ∃ d, Becomes (.ringEnable (.eq e) w) s d ∧ d.rd (Reg.RNG_EQ_CFG_EN e.val) = 1 ∧ d.rd (Reg.RNG_EQ_HEAD e.val) = 0 ∧
      d.rd (Reg.RNG_EQ_STAT_FAULT e.val) = 0 ∧ d.ladle = s.dev.ladle) ∧
  (∀ (s : State) (r : RingId) (w : BitVec 32), s.dev.on (ringEn r) = false →
    let z := (ringSz r).cut w.toNat
    ∃ d, Becomes (.ringDisable r w) s d ∧ d.rd (ringEn r) = 0 ∧ d.ladle = s.dev.ladle ∧
      d.rd (ringSz r) = if 4 ≤ z ∧ z ≤ 16 then z else s.dev.rd (ringSz r))

/-- What the host link does of itself: refused writes, the backlog, lost events, moderation and fences. -/
def Obligations.HostLinkService : Prop :=
  (∀ (s : State) (e : Fin 8), let z := ringSize (s.dev.rd (Reg.RNG_EQ_CFG_LOG2SZ e.val))
    let t := (s.dev.rd (Reg.RNG_EQ_STAT_TAIL e.val) + z - 1) % z
    Becomes (.dmaWriteError (.eq e)) s
      (((s.dev.wr (Reg.RNG_EQ_STAT_TAIL e.val) t).inc (Reg.RNG_EQ_LOST e.val)).faultEq e.val 3 t)) ∧
  (∀ (s : State) (q : Fin 32) (x : BackEnt), let a := s.dev.backRoom
    let z := ringSize (a.rd (Reg.RNG_CQ_CFG_LOG2SZ q.val))
    let t := (a.rd (Reg.RNG_CQ_STAT_TAIL q.val) + z - 1) % z
    s.dev.host.lastCq.filter (fun b => b.cq = q.val) = [x] →
    Becomes (.dmaWriteError (.cq q)) s
      (((a.mapHost fun h =>
        { h with backlog := x :: h.backlog, lastCq := h.lastCq.filter fun b => b.cq != q.val }).wr
          (Reg.RNG_CQ_STAT_TAIL q.val) t).faultCq q.val 3 t)) ∧
  (∀ (s : State) (q : Fin 32) (b : BackEnt) (l : List BackEnt), s.dev.host.backlog = b :: l → b.cq = q.val →
    b.cqe.gen = s.dev.gen → s.dev.cqLive q.val → s.dev.cqFree q.val ≠ 0 →
    Becomes (.backlogDrain q) s
      (((s.dev.mapHost fun h => { h with backlog := l }).cqWrite q.val b.cqe).drainFrom q.val l)) ∧
  (∀ (s : State) (e : Fin 8), s.dev.eqOk e.val → s.dev.mastering → 2 ≤ s.dev.eqFree e.val →
    s.dev.on (Reg.RNG_EQ_LOST e.val) →
    Becomes (.eqOverflow e) s ((s.dev.wr (Reg.RNG_EQ_LOST e.val) 0).raiseTo e.val .eqOverflow
      [pU 16 4 (s.dev.rd (Reg.RNG_EQ_LOST e.val))])) ∧
  (∀ s : State, Becomes .moderationTimer s ((List.finRange 40).foldl (fun d i => d.modCheck i) s.dev)) ∧
  (∀ s : State, Becomes .fenceRelease s s.dev.flushAdm)

/-- The moderation check of one ring (R89): armed, with enough entries pending or its time up, the ring's source signals once
and the ring is no longer armed; and the resets of the host island, its watchdog and its power states. -/
def Obligations.HostIsland : Prop :=
  (∀ (d : Dev) (i : Fin 40), (d.modOf i.val).2.2 → d.host.moder[i].armed → d.host.moder[i].pending ≠ 0 →
     ((d.modOf i.val).1 ≤ d.host.moder[i].pending ∨
       ((d.modOf i.val).2.1 ≠ 0 ∧ d.host.moder[i].first + (d.modOf i.val).2.1 ≤ d.gt)) →
     (d.modCheck i).host.moder[i].armed = false ∧ (d.modCheck i).regs = d.regs) ∧
  (∀ (s : State) (k : HostReset), ∃ d, Becomes (.hostIslandReset k) s d ∧ d.ladle = s.dev.ladle ∧ d.cars = s.dev.cars ∧
    d.links = s.dev.links ∧ d.host.perst = decide (k = .perst)) ∧
  (∀ s : State, let k := (s.dev.flag Reg.HST_STAT_SILENT false).mapHost fun h => { h with kickGt := s.dev.gt }
    (s.dev.on Reg.HST_STAT_SILENT → Becomes .hwdKick s
      (k.note 0x8003 3 42 0 0 [pU 28 4 ((s.dev.gt - s.dev.host.kickGt) / 1000000)])) ∧
    (s.dev.on Reg.HST_STAT_SILENT = false → Becomes .hwdKick s k)) ∧
  (∀ s : State, s.dev.on Reg.HST_HWD_TMO_MS → s.dev.on Reg.HST_STAT_SILENT = false →
    s.dev.host.kickGt + s.dev.rd Reg.HST_HWD_TMO_MS * 1000000 ≤ s.dev.gt →
    Becomes .hostWatchdogExpiry s ((s.dev.flag Reg.HST_STAT_SILENT true).note 0x8002 5 42 0 0
      [pU 28 4 (s.dev.rd Reg.HST_HWD_TMO_MS)])) ∧
  (∀ s : State, s.dev.on Reg.HST_STAT_D3 = false → s.dev.host.refHeld = false →
    Becomes .d3hotEntry s ((s.dev.flag Reg.HST_STAT_D3 true).mapHost fun h =>
      { h with pmeSent := false, pmeQueued := false, recov := false, inL1 := true })) ∧
  (∀ s : State, s.dev.on Reg.HST_STAT_D3 →
    Becomes .d0Entry s ((s.dev.flag Reg.HST_STAT_D3 false).mapHost fun h =>
      { h with recov := true, recovGt := s.dev.gt, pmeQueued := false, inL1 := false })) ∧
  (∀ s : State, s.dev.host.recov → s.dev.host.recovGt + 10000000 ≤ s.dev.gt →
    Becomes .d0RecoveryEnd s (s.dev.mapHost fun h => { h with recov := false }).resume) ∧
  (∀ s : State, s.dev.host.refHeld = false → s.dev.host.perst = false →
    Becomes .busMasterEnable s (s.dev.flag Reg.HST_STAT_BME true).resume) ∧
  (∀ s : State, s.dev.host.aspmL1 → s.dev.host.busyGt + 7000 ≤ s.dev.gt →
    Becomes .aspmL1Entry s (s.dev.mapHost fun h => { h with inL1 := true })) ∧
  (∀ (s : State) (v : Fin 3) (x2 : Bool), Becomes (.perstDeassert v x2) s (s.dev.mapHost fun h =>
    { h with perst := false, conf := { h.conf with speed := v.val + 1, width := if x2 then 2 else 1 } })) ∧
  (∀ (s : State) (c : Challenge), s.dev.host.chal = some c →
    (c.gt + 60000000000 < s.dev.gt → Becomes .challengeExpiry s (s.dev.mapHost fun h => { h with chal := none })) ∧
    (s.dev.gt ≤ c.gt + 60000000000 → Becomes .challengeExpiry s s.dev))

/-! ## Descriptors (04) -/

/-- A descriptor that fails a common check is answered at its admission with the status of that check, whatever its opcode, and
has no other effect than that it was fetched. -/
def Obligations.DescriptorRefused : Prop :=
  ∀ (c : Instr) (op : Nat) (q : Fin 32) (b : List Byte) (s : State) (st : Nat), descOf c = some (op, q, b) →
    (fetched s op q b).2.precheck op q.val b = some st → Answers c s op q b (fetched s op q b).2 (AdmRes.refuse st)

/-- Before SETUP_LOCK a well-formed descriptor of the families 0x0_, 0x7_ and 0xA_ passes the common checks, with a GT as soon as
Group Time is valid, and every other descriptor completes BUSY; at any time one with a GT while Group Time is not valid
completes BUSY. Well-formed is one whose form is as R104 has it and that the ring of its SQ can hold. -/
def Obligations.BusyBeforeLock : Prop :=
  ∀ (c : Instr) (op : Nat) (q : Fin 32) (b : List Byte) (s : State), descOf c = some (op, q, b) →
    let d := (fetched s op q b).2
    d.formOk op b → d.ringFits q.val b → d.cmdClash q.val (dCmd b) = false →
    (d.locked = false → earlyFamily op = false → Answers c s op q b d (AdmRes.refuse Stat.busy)) ∧
    (dGt b ≠ 0 → d.on Reg.TSP_STAT_GT_VALID = false → Answers c s op q b d (AdmRes.refuse Stat.busy)) ∧
    (d.locked = false → op / 16 = 0 ∨ op / 16 = 7 ∨ op / 16 = 10 → dGt b = 0 ∨ d.on Reg.TSP_STAT_GT_VALID →
      dClass b ≠ 1 → dClass b ≠ 2 → Passes s op q b)

/-- A descriptor whose CMD_ID an admitted descriptor of the same SQ carries that still awaits its final completion is
completed BAD_DESC; the same CMD_ID on another SQ is no conflict; a cancel and a query name an action by SQ and CMD_ID
together. -/
def Obligations.CmdIdClash : Prop :=
  (∀ (c : Instr) (op : Nat) (q : Fin 32) (b : List Byte) (s : State), descOf c = some (op, q, b) →
    let d := (fetched s op q b).2
    Awaits d q.val (dCmd b) → Answers c s op q b d (AdmRes.refuse Stat.badDesc)) ∧
  (∀ (d : Dev) (q cmd : Nat), ¬Awaits d q cmd → d.cmdClash q cmd = false) ∧
  (∀ (d : Dev) (q cmd : Nat) (a : Act), a ∈ d.named q cmd → a.sq = q ∧ a.cmd = cmd)

/-- The admin descriptors, past the common checks. A read or a discard of no held entry changes no state (R90). -/
def Obligations.AdminDescriptors : Prop :=
  (∀ (s : State) (q : Fin 32) (b : List Byte), Passes s 0x00 q b →
    Answers (.nop q b) s 0x00 q b (fetched s 0x00 q b).2 (AdmRes.readOnly 0 0)) ∧
  (∀ (s : State) (q : Fin 32) (b : List Byte), Passes s 0x01 q b → let d := (fetched s 0x01 q b).2
    d.held.take (leAt b 24 4) = [] ∨ d.mastering = false →
    Answers (.heldRead q b) s 0x01 q b d (AdmRes.readOnly 0 d.heldCount)) ∧
  (∀ (s : State) (q : Fin 32) (b : List Byte) (x : BackEnt) (l : List BackEnt), Passes s 0x01 q b →
    let d := (fetched s 0x01 q b).2
    leAt b 24 4 = 1 → d.held = x :: l → d.mastering →
    let e := (d.emitHost (.dma (leAt b 16 8 + 32 * 0) (x.cqe.bytes true false))).heldFree 1
    Answers (.heldRead q b) s 0x01 q b e (AdmRes.done 1 e.heldCount)) ∧
  (∀ (s : State) (q : Fin 32) (b : List Byte), Passes s 0x02 q b → let d := (fetched s 0x02 q b).2
    let k := if leAt b 16 4 = 0 then d.heldCount else min (leAt b 16 4) d.heldCount
    Answers (.heldDiscard q b) s 0x02 q b (d.heldFree k) (AdmRes.changed (k != 0) k 0)) ∧
  (∀ (s : State) (q : Fin 32) (b : List Byte), Passes s 0x03 q b →
    Answers (.eqPing q b) s 0x03 q b
      ((fetched s 0x03 q b).2.raiseTo (byteAt b 16) .ping [pU 16 1 q.val, pU 18 2 (dCmd b)]) (AdmRes.done 0 0)) ∧
  (∀ (s : State) (q : Fin 32) (b : List Byte), Passes s 0x04 q b → let d := (fetched s 0x04 q b).2
    let n := Config.freeNat d.free % 2 ^ 64
    Answers (.authChallenge q b) s 0x04 q b
      ({ d with free := d.free + 1 }.mapHost fun h =>
        { h with chal := some { nonce := n, purpose := byteAt b 16, gt := d.gt } }) (AdmRes.done n 0)) ∧
  (∀ (s : State) (q : Fin 32) (b : List Byte), (opClass (dOp b)).isNone →
    Answers (.unknownOpcode q b) s (dOp b) q b (fetched s (dOp b) q b).2 (AdmRes.refuse Stat.badDesc))

/-- The one completion of a NOP with nothing else outstanding: it is written with status OK at the tail of the CQ that its SQ
is bound to, with the phase of that pass; the tail moves on by one entry and nothing is left outstanding. -/
def Obligations.NopCompletionPosted : Prop :=
  ∀ (s : State) (q : Fin 32) (b : List Byte), Passes s 0x00 q b → let d := (fetched s 0x00 q b).2
    let k := s.dev.rd (Reg.RNG_SQ_CFG_CQ q.val)
    let t := s.dev.rd (Reg.RNG_CQ_STAT_TAIL k)
    let base := s.dev.rd (Reg.RNG_CQ_BASE_HI k) * 2 ^ 32 + s.dev.rd (Reg.RNG_CQ_BASE_LO k) * 4096
    s.dev.host.adm = [] → s.dev.host.backlog = [] → s.dev.host.durOn = false → s.dev.on Reg.LAR_TRACE_MIB = false →
    s.dev.gen ≠ 0xFFFF → d.cqLive k → d.cqPosted k + 1 < ringSize (d.rd (Reg.RNG_CQ_CFG_LOG2SZ k)) →
    ∃ x, Becomes (.nop q b) s x ∧
      x.tx = .dma (base + 32 * t) (Cqe.bytes
        { cmd := dCmd b, status := Stat.ok, final := false, dur := false, sq := q.val, op := 0x00, dseq := 0,
          gt := s.dev.gt, info0 := 0, info1 := 0, gen := s.dev.gen } false (s.dev.rd (Reg.RNG_CQ_HEAD_PHASE k) == 1)) ::
        s.dev.tx ∧
      x.rd (Reg.RNG_CQ_STAT_TAIL k) = (t + 1) % ringSize (s.dev.rd (Reg.RNG_CQ_CFG_LOG2SZ k)) ∧
      x.host.adm = [] ∧ x.host.backlog = []

/-! ## Ladle (05) -/

/-- A single action past the common checks, with Ladle ready, its car owned and slots and room free, is stored and answered
OK. -/
def Obligations.ActionAdmitted : Prop :=
  ∀ (c : Instr) (op : Nat) (k : AKind) (q : Fin 32) (b : List Byte) (s : State), actionOf c = some (op, k, q, b) →
    Passes s op q b → let f := fetched s op q b
    let a := f.2.mkAct op q.val f.1 b k 0 none (f.2.fireTime (dGt b) (f.2.minLead k))
    f.2.ladleBusy (k = .n) = false → f.2.roleBusy (dClass b = 3 || dClass b = 4) = false →
    ((dCar op b).map f.2.carClosed).getD false = false → f.2.ownership op b = none → f.2.resourcesFor q.val [a] →
    Answers c s op q b (f.2.store a) (AdmRes.done 0 0)

/-- An admitted single action stands in the store, not yet handed on, with the fire time its descriptor asks for, or the first
tick boundary its minimum lead allows where it asks for none. -/
def Obligations.ActionStored : Prop :=
  ∀ (c : Instr) (op : Nat) (k : AKind) (q : Fin 32) (b : List Byte) (s : State), actionOf c = some (op, k, q, b) →
    Passes s op q b → let f := fetched s op q b
    let g := if dGt b = 0 then (s.dev.gt + f.2.minLead k + tickNs - 1) / tickNs * tickNs else dGt b
    let a := f.2.mkAct op q.val f.1 b k 0 none g
    f.2.ladleBusy (k = .n) = false → f.2.roleBusy (dClass b = 3 || dClass b = 4) = false →
    ((dCar op b).map f.2.carClosed).getD false = false → f.2.ownership op b = none → f.2.resourcesFor q.val [a] →
    a.slots = 1 →
    ∃ x i n, Becomes c s x ∧ x.ladle.acts = s.dev.ladle.acts ++ [{ a with slot := i, ord := s.dev.ladle.ord, cueSeq := n }] ∧
      x.cars = s.dev.cars

/-- Cancel, query and chord, where they have their effect; a chord is admitted whole or not at all: without slots and room
for every member nothing is stored and it is answered RESOURCE. -/
def Obligations.ChordCancelQuery : Prop :=
  (∀ (s : State) (q : Fin 32) (b : List Byte), Passes s 0x10 q b → let d := (fetched s 0x10 q b).2
    let l := d.named (byteAt b 16) (leAt b 18 2)
    let late := Answers (.actionCancel q b) s 0x10 q b (d.inc Reg.LDL_CNT_TOOLATE) (AdmRes.refuse Stat.tooLate)
    (∀ a m, l = a :: m →
      let w := match a.chord with
        | none => d.cancelWindow a.kind
        | some e => ((d.ladle.chords.find? fun c => c.ent = e).map (·.win)).getD (d.cancelWindow a.kind)
      (d.gt + w ≤ a.gt → Answers (.actionCancel q b) s 0x10 q b (l.foldl Dev.withdraw d) (AdmRes.done 1 0)) ∧
      (a.gt < d.gt + w → late)) ∧
    (l = [] → (d.underWay (byteAt b 16) (leAt b 18 2) → late) ∧
      (d.underWay (byteAt b 16) (leAt b 18 2) = false →
        Answers (.actionCancel q b) s 0x10 q b d (AdmRes.readOnly 0 0)))) ∧
  (∀ (s : State) (q : Fin 32) (b : List Byte) (a : Act) (l : List Act), Passes s 0x13 q b →
    let d := (fetched s 0x13 q b).2
    d.named (byteAt b 16) (leAt b 18 2) = a :: l →
    Answers (.actionQuery q b) s 0x13 q b d (AdmRes.readOnly a.gt (d.placeCode a))) ∧
  (∀ (s : State) (q : Fin 32) (b : List Byte), Passes s 0x13 q b → let d := (fetched s 0x13 q b).2
    d.named (byteAt b 16) (leAt b 18 2) = [] → Answers (.actionQuery q b) s 0x13 q b d (AdmRes.readOnly 0 0)) ∧
  (∀ (s : State) (q : Fin 32) (b : List Byte) (e : Nat), Passes s 0x11 q b → let f := fetched s 0x11 q b
    let l := f.2.chordActs q.val f.1 e b
    f.2.freeChord = some e → f.2.ladleBusy (l.any fun a => a.kind = .n) = false →
    f.2.roleBusy (l.any fun a => a.pool = 16) = false → (∀ a ∈ l, ∀ n, a.car = some n → f.2.carClosed n = false) →
    (∀ a ∈ l, ∀ n, a.car = some n → f.2.notOwned n = none) → f.2.resourcesFor q.val l →
    let c : Chord :=
      { ent := e, orig := e, cmd := dCmd b, sq := q.val, gt := (l.head?.map (·.gt)).getD 0, gen := f.2.gen, dn := f.1,
        count := l.length, ends := [], restored := false,
        win := l.foldl (fun (w : Nat) (a : Act) => max w (f.2.minLead a.kind)) 0 }
    Answers (.chord q b) s 0x11 q b (l.foldl Dev.store (f.2.mapLdl fun x => { x with chords := x.chords ++ [c] }))
      (AdmRes.done 0 0)) ∧
  (∀ (s : State) (q : Fin 32) (b : List Byte) (e : Nat), Passes s 0x11 q b → let f := fetched s 0x11 q b
     let l := f.2.chordActs q.val f.1 e b
     f.2.freeChord = some e → f.2.ladleBusy (l.any fun a => a.kind = .n) = false →
     f.2.roleBusy (l.any fun a => a.pool = 16) = false → (∀ a ∈ l, ∀ n, a.car = some n → f.2.carClosed n = false) →
     (∀ a ∈ l, ∀ n, a.car = some n → f.2.notOwned n = none) → f.2.resourcesFor q.val l = false →
     ∃ x, Answers (.chord q b) s 0x11 q b (f.2.inc Reg.LDL_CNT_RES) (AdmRes.refuse Stat.resource) ∧ Becomes (.chord q b) s x ∧
       x.ladle = s.dev.ladle)

/-- Hand-on, cues and the cue key, firing on the controller and the wrapped cue key. -/
def Obligations.LadleService : Prop :=
  (∀ s : State, Becomes .actionHandOn s ((List.range 17).foldl (fun d p =>
    (((d.waiting p).take (nearDepth p)).filter fun a => a.kind != .s && d.handDue a).foldl Dev.handOn d) s.dev)) ∧
  (∀ (s : State) (t : Nat) (a : Act), bit (s.dev.at t).time.reload 19 = false → (s.dev.at t).dueNow .n = [a] →
    (s.dev.at t).judge a = .fires → (s.dev.at t).cueLinked ≠ [] → a.late = false →
    (s.dev.at t).due a + 2000000 < a.gt → let d := s.dev.at t
    Becomes (.cueFirstCopy t) s
      ((((d.useRoom a.pool).cueSend a false (d.due a)).mapLdl fun l =>
        { l with second := l.second ++ [{ act := a, sgt := d.due a + 2000000 }] }).resolve a Stat.ok
          (d.due a % 2 ^ 32))) ∧
  (∀ (s : State) (t : Nat) (c : SecondCopy), bit (s.dev.at t).time.reload 19 = false → (s.dev.at t).ladle.second = [c] → c.sgt ≤ (s.dev.at t).gt →
    (s.dev.at t).gt ≤ c.sgt + 1000000 →
    (s.dev.at t).cueLinked ≠ [] → Becomes (.cueSecondCopy t) s
      (((s.dev.at t).cueSend c.act true c.sgt).mapLdl fun l => { l with second := l.second.erase c })) ∧
  (∀ (s : State) (k : Fin 8) (v : BitVec 32), s.dev.locked = false → k.val ≠ 7 →
    Becomes (.cueKeyWrite k v) s
      (s.dev.mapLdl fun l => { l with keyW := (k.val, v.toNat) :: s.dev.ladle.keyW.filter fun p => p.1 != k.val })) ∧
  (∀ (s : State) (v : BitVec 32), s.dev.locked = false →
    ∃ x key, Becomes (.cueKeyWrite 7 v) s x ∧ x.ladle.key = some key ∧ x.ladle.keyW = [] ∧ x.ladle.keyDue ∧
      x.ladle.acts = s.dev.ladle.acts) ∧
  (∀ (s : State) (t : Nat) (a : Act) (i : Nat), let d := s.dev.at t
    let c := Fin.ofNat 4 a.tindex
    bit d.time.reload 20 = false → d.dueNow .c = [a] → a.op = 0x60 → d.judge a = .fires → a.late = false →
    d.chSt c ≠ Ch.busOff → d.mbxFor c (d.frameClass a.frame) = some i →
    let m : Mbx :=
      { num := i, f := a.frame, cls := d.frameClass a.frame, gt := d.gt, ord := 0, act := a, st := Stat.ok, fired := d.gt,
        copy := false, done := false }
    Becomes (.controllerActionFire t) s ((((d.useRoom a.pool).freeAct a).logAct a Stat.ok).mbxEnter c i m)) ∧
  (∀ (s : State) (t : Nat) (a : Act) (st : Nat), let d := s.dev.at t
    bit d.time.reload 20 = false → d.dueNow .c = [a] → d.judge a = .ends st →
    Becomes (.controllerActionFire t) s (d.resolve a st 0)) ∧
  (∀ (s : State) (k : List Byte), s.dev.ladle.keyDue → s.dev.ladle.key = some k →
    Becomes .cueKeyStored s
      (((s.dev.mapNv fun v => { v with cueKey := some (Config.aesWrap s.otp.storeKey k) }).mapLdl fun l =>
        { l with keyDue := false }).flag Reg.LDL_STAT_KEY_VALID true))

/-- The decision of a firing place (R134): an isolated engine's action is ENGINE_LOST before anything else, one whose lease or
epoch is gone NO_LEASE, a cue whose presentation has come or an action later than its tolerance EXPIRED; without room it
waits; otherwise it fires. An action of the group has no car to lose. -/
def Obligations.FiringDecision : Prop :=
  (∀ (d : Dev) (a : Act) (n : Nat), a.car = some n →
    (bit (d.rd Reg.CTN_ISO_CE) n → d.judge a = .ends Stat.engineLost) ∧
    (bit (d.rd Reg.CTN_ISO_CE) n = false → (d.on (Reg.SLP_STAT_OWN n) = false ∨
      (a.restored = false ∧ d.rd (Reg.SLP_STAT_EPOCH n) ≠ a.epoch)) → d.judge a = .ends Stat.noLease)) ∧
  (∀ (d : Dev) (a : Act),
    (∀ n, a.car = some n → bit (d.rd Reg.CTN_ISO_CE) n = false ∧ d.on (Reg.SLP_STAT_OWN n) ∧
      (a.restored ∨ d.rd (Reg.SLP_STAT_EPOCH n) = a.epoch)) →
    ((a.kind = .n ∧ a.gt ≤ d.gt) → d.judge a = .ends Stat.expired) ∧
    (a.tol * 1000 < d.lateness a → d.judge a = .ends Stat.expired) ∧
    (¬(a.kind = .n ∧ a.gt ≤ d.gt) → d.lateness a ≤ a.tol * 1000 → d.roomLeft a.pool = false → d.judge a = .defer) ∧
    (¬(a.kind = .n ∧ a.gt ≤ d.gt) → d.lateness a ≤ a.tol * 1000 → d.roomLeft a.pool → d.judge a = .fires))

/-! ## Shaft bus (13) -/

/-- Transmission: the frame offered at the start of frame leaves and its action completes with the status of its firing,
unless its other copy has completed it; the wire timeout of a waiting frame ends it EXPIRED and takes its copy; a frame of
the migration queue enters a mailbox, a copy only a reserved one. -/
def Obligations.BusTransmits : Prop :=
  (∀ (s : State) (c : Fin 4) (sof : Nat) (busy : Bool) (m : Mbx), s.dev.chSt c ≠ Ch.busOff →
    s.dev.offered c sof = some m →
    let d := (((s.dev.emit (.can c.val m.f sof)).inc (Reg.SBC_CNT_TX c.val)).mapChan c fun h =>
      { h with mbx := h.mbx.erase m })
    let e := if m.done then d else (d.abortCopy c m busy).completeAt m.act m.st sof c.val m.fired
    Becomes (.canTxSuccess c sof busy) s
      (e.busCount c (e.rd (Reg.SBC_CH_ERR_TEC c.val) - 1) (e.rd (Reg.SBC_CH_ERR_REC c.val)))) ∧
  (∀ (s : State) (c : Fin 4) (i : Fin 64) (m : Mbx), let w := s.dev.wireTmo c.val m.cls
    (s.dev.chan c).mbx.find? (fun m => m.num = i.val && !m.done) = some m → w ≠ 0 →
    (m.gt + w * 1000000 ≤ s.dev.gt → Becomes (.wireTimeout c i) s
      ((((s.dev.mapChan c fun h => { h with mbx := h.mbx.erase m }).abortCopy c m false).inc (Reg.SBC_CNT_EXP c.val)).completeAct
        m.act Stat.expired m.act.gt 0)) ∧
    (s.dev.gt < m.gt + w * 1000000 → Becomes (.wireTimeout c i) s s.dev)) ∧
  (∀ (s : State) (c : Fin 4) (m : Mbx) (i : Nat), (s.dev.chan c).mig = [m] →
    (if m.copy then s.dev.mbxFree c 0 8 else s.dev.mbxFor c m.cls) = some i →
    Becomes (.migrationQueueDrain c) s ((s.dev.mapChan c fun h => { h with mig := [] }).mbxEnter c i m))

/-- Arbitration (R338): the frame offered is one that entered its mailbox no later than the start of frame, and no such frame
comes before it. -/
def Obligations.ArbitrationOffersLowest : Prop :=
  ∀ (d : Dev) (c : Fin 4) (sof : Nat) (m : Mbx), d.offered c sof = some m →
    m ∈ (d.chan c).mbx ∧ m.gt ≤ sof ∧ ∀ x ∈ (d.chan c).mbx, x.gt ≤ sof → arbKey m.f ≤ arbKey x.f

/-- Reception: a data frame without a sequence field goes to its class's FIFO and raises what its class raises; a remote frame
is counted and discarded; popping removes the head of a FIFO. -/
def Obligations.BusReceives : Prop :=
  (∀ (s : State) (c : Fin 4) (f : CanFrame) (esi : Bool) (sof : Nat), s.dev.chEn c → s.dev.chSt c ≠ Ch.busOff →
    (f.fdf → s.dev.on (Reg.SBC_CH_CFG_FD_EN c.val)) →
    let d := s.dev.inc (Reg.SBC_CNT_RX c.val)
    let e := d.busCount c (d.rd (Reg.SBC_CH_ERR_TEC c.val)) (recLess (d.rd (Reg.SBC_CH_ERR_REC c.val)))
    let cls := e.frameClass f
    Becomes (.canFrameReceived c f esi true sof) s (e.inc (Reg.SBC_CNT_RTR c.val)) ∧
    (e.seqField c cls f = none →
      Becomes (.canFrameReceived c f esi false sof) s ((e.rxStore c cls f esi sof).rxEvent c cls f)) ∧
    (∀ q, e.seqField c cls f = some q → e.isDup c { ide := f.ide, id := f.id, seq := q, gt := sof } →
      Becomes (.canFrameReceived c f esi false sof) s
        ((e.remember c { ide := f.ide, id := f.id, seq := q, gt := sof }).inc (Reg.SBC_CNT_SUPP c.val)))) ∧
  (∀ (s : State) (c : Fin 4) (i : Fin 2) (x : RxEnt) (l : List RxEnt), (s.dev.chan c).rx[i] = x :: l →
    ∃ d, Becomes (.rxPop c i) s d ∧ (d.chan c).rx[i] = l ∧ (d.chan c).mbx = (s.dev.chan c).mbx ∧ d.regs = s.dev.regs)

/-- Error states: new counters are judged; recovery ends, once its bit times have passed, with the counters at 0, the channel active and both its events. -/
def Obligations.BusErrorStates : Prop :=
  (∀ (s : State) (c : Fin 4) (tec rec : Nat) (lec : Fin 7), s.dev.chEn c → s.dev.chSt c ≠ Ch.busOff →
    Becomes (.busError c tec rec lec) s ((s.dev.wr (Reg.SBC_CH_ERR_LEC c.val) lec.val).busCount c tec rec)) ∧
  (∀ (s : State) (c : Fin 4), s.dev.chSt c = Ch.busOff → s.dev.on (Reg.SBC_CH_STAT_RECOVERING c.val) →
    (s.dev.chan c).recGt + s.dev.recoveryNs c ≤ s.dev.gt →
    ∃ d, Becomes (.busRecoveryDone c) s d ∧ d.rd (Reg.SBC_CH_ERR_TEC c.val) = 0 ∧ d.rd (Reg.SBC_CH_ERR_REC c.val) = 0 ∧
      d.chSt c = Ch.active ∧ d.rd (Reg.SBC_CH_STAT_RECOVERING c.val) = 0 ∧ d.bus = s.dev.bus) ∧
  (∀ (s : State) (q : Fin 32) (b : List Byte), Passes s 0x61 q b → let d := (fetched s 0x61 q b).2
    let c := Fin.ofNat 4 (dIndex b)
    d.chSt c = Ch.busOff → d.on (Reg.SBC_CH_CFG_AUTO_REC c.val) = false → d.on (Reg.SBC_CH_STAT_RECOVERING c.val) = false →
    bit (d.rd Reg.CTN_ISO_IO_SB) c.val = false →
    Answers (.busRecover q b) s 0x61 q b ((d.flag (Reg.SBC_CH_STAT_RECOVERING c.val) true).mapChan c fun h =>
      { h with recGt := d.gt }) (AdmRes.done 0 0))

/-! ## Containment (14) -/

/-- A correctable error is counted, whatever its unit; engines and actions go on, and no other register changes but those a
record may write. -/
def Obligations.CorrectableErrors : Prop :=
  ∀ (s : State) (r : Option (Fin 6)) (u : Fin 256) (p : Fin 1048576),
    ∃ d, Becomes (.eccCorrectable r u p) s d ∧
      d.rd Reg.CTN_CNT_CORR = (s.dev.rd Reg.CTN_CNT_CORR + 1) % 2 ^ 32 ∧ d.cars = s.dev.cars ∧ d.ladle = s.dev.ladle ∧
      Keeps [Reg.CTN_CNT_CORR] s.dev d

/-- Isolation of a running engine (R356), counted as an uncorrectable error where ECC found it: its domains, its registers and
its drive port stop, what it ran completes, its actions end ENGINE_LOST, the host is told, its EVR and its lease end; REL
goes out where it held the lease on a framing link. -/
def Obligations.EngineIsolated : Prop :=
  ∀ (s : State) (n : Fin 16) (cause : Fin 4), s.dev.engineOn n.val →
    let z := if cause.val = 0 then s.dev.inc Reg.CTN_CNT_UNCORR else s.dev
    bit (z.rd Reg.CTN_ISO_CE) n.val = false → z.engineOn n.val →
    let k := n.val
    let a := (z.setEngine k Dom.isolated).wr Reg.CTN_ISO_CE (setBit (z.rd Reg.CTN_ISO_CE) k true)
    let b := ((a.flag (Reg.DRP_STAT_SENDING k) false).mapMot n fun m =>
      { m with seq := none, rel := false, openReq := [], sceneReq := [] }).engineDescEnd n
    let mine := fun (x : Act) => x.car = some k && x.place != .delivered
    let lost := (b.ladle.acts.filter mine).length +
      ((List.finRange 2).filter fun (p : Fin 2) => ((b.lnk n).cal[p].map (·.fired)).getD false).length
    let c := ((((b.resolveAll Stat.engineLost mine).calEndFired n Stat.engineLost).wr (Reg.CTN_CE_LOST k)
      (min lost 65535)).flag (Reg.CTN_CE_VALID k) true).wr (Reg.CTN_CE_CAUSE k) cause.val
    let d := c.raise .engineIsolated k [pU 16 1 k, pU 17 1 cause.val, pU 20 4 lost]
    let e := (if (d.ilk n).evr.isSome then d.evrLeave n false else d).mapPbx fun p =>
      { p with rel := setBit p.rel k (z.own n || bit p.rel k), hand := setBit p.hand k false }
    Becomes (.engineIsolation n cause) s
      ((e.leaseLose n 0xFF 2).mapLink n fun l => { l with rel := z.own n && z.framing n })

/-- Isolation of the other units, each counted as an uncorrectable error where ECC found it, and a page of Larder that is
lost. -/
def Obligations.OtherIsolations : Prop :=
  (∀ (s : State) (n : Fin 16) (ecc : Bool), s.dev.carOn n.val →
    let z := if ecc then s.dev.inc Reg.CTN_CNT_UNCORR else s.dev
    z.carOn n.val → bit (z.rd Reg.CTN_ISO_SP) n.val = false →
    let i := (z.setDom (80 + n.val) Dom.isolated).wr Reg.CTN_ISO_SP (setBit (z.rd Reg.CTN_ISO_SP) n.val true)
    let cals := if i.own n then i.calFired n else 0
    let a := i.leaseLose n 0xFF 1
    let l := a.ladle.acts.filter fun x => x.car = some n.val
    let b := (a.resolveAll Stat.noLease fun x => x.car = some n.val).actionList 2 4 47 2 n.val
      (actNames (l.filter fun x => x.place = .delivered))
    let c := (((b.waitsEnd n Stat.noLease true).pushEnd n).wr (Reg.SLP_RETRY_STAT_ATTEMPTS n.val) 0).mapLink n fun x =>
      { x with retry := none, rel := false }
    Becomes (.slicePortIsolation n ecc) s
      (((c.showLink n Lk.lost).linkEvent n).note 0x8014 6 47 2 n.val [pU 28 1 n.val, pU 32 4 (l.length + cals)])) ∧
  (∀ (s : State) (p : Fin 2) (ecc : Bool), let f := if p = 0 then Reg.CTN_ISO_IO_ETH0 else Reg.CTN_ISO_IO_ETH1
    let z := if ecc then s.dev.inc Reg.CTN_CNT_UNCORR else s.dev
    let a := (z.setDom (97 + p.val) Dom.isolated).flag f true
    s.dev.dom (97 + p.val) = Dom.on → z.dom (97 + p.val) = Dom.on →
    (a.actPort = p → Becomes (.ethPortIsolation p ecc) s (a.ptpLinkLost.memError 6 0xFF (97 + p.val) 0 0)) ∧
    (a.actPort ≠ p → Becomes (.ethPortIsolation p ecc) s
      ((a.flag (Reg.PTP_ETH_STAT_LINK p.val) false).memError 6 0xFF (97 + p.val) 0 0))) ∧
  (∀ (s : State) (p : Fin 2) (ecc : Bool), s.dev.dom (97 + p.val) ≠ Dom.on → Becomes (.ethPortIsolation p ecc) s s.dev) ∧
  (∀ (s : State) (c : Fin 4), s.dev.chEn c → let z := s.dev.inc Reg.CTN_CNT_UNCORR
    z.chEn c → bit (z.rd Reg.CTN_ISO_IO_SB) c.val = false →
    let a := (z.setDom (99 + c.val) Dom.isolated).wr Reg.CTN_ISO_IO_SB (setBit (z.rd Reg.CTN_ISO_IO_SB) c.val true)
    (a.chSt c ≠ Ch.busOff → Becomes (.channelIsolation c) s (a.enterBusOff c false)) ∧
    (a.chSt c = Ch.busOff → Becomes (.channelIsolation c) s
      ((a.flag (Reg.SBC_CH_STAT_RECOVERING c.val) false).busEvent c 3 0))) ∧
  (∀ (s : State) (r : Fin 6) (off : Nat) (p : Fin 1048576), r.val ≤ 2 →
    let a := s.dev.inc Reg.CTN_CNT_UNCORR
    a.ctn.single.contains (r.val, p.val) = false →
    Becomes (.larderUncorrectable r off p false) s
      (((a.mirrorServe r.val p.val).wr Reg.CTN_LAR_LAST_REGION r.val).wr Reg.CTN_LAR_LAST_PAGE p.val)) ∧
  (∀ (s : State) (off : Nat) (p : Fin 1048576) (b : Bool),
    let a := (s.dev.inc Reg.CTN_CNT_UNCORR).retirePage
    Becomes (.larderUncorrectable 3 off p b) s
      (((a.ringPageLost off p).wr Reg.CTN_LAR_LAST_REGION 3).wr Reg.CTN_LAR_LAST_PAGE p.val) ∧
    Becomes (.larderUncorrectable 4 off p b) s
      (((a.ckpHurt off).wr Reg.CTN_LAR_LAST_REGION 4).wr Reg.CTN_LAR_LAST_PAGE p.val))

/-- The broadcast of Group Time: islands that waited reload, and what fell due there fires; an island that deviates by more
than 8 ns has its bit set: an engine is isolated, another island is reported and reloads at the next broadcast. -/
def Obligations.ReplicaBroadcast : Prop :=
  (∀ (s : State) (l : List (Fin 23 × Int)), (∀ p ∈ l, -8 ≤ p.2 ∧ p.2 ≤ 8) →
    let d := s.dev.mapTime fun t => { t with reload := 0 }
    let e := if bit s.dev.time.reload 20 then d.fireDue d.gt else d
    Becomes (.gtBroadcast l) s
      (if bit s.dev.time.reload 19 then (e.cueFirstAll e.gt).cueSecondAll e.gt else e)) ∧
  (∀ (s : State) (i : Fin 23) (x : Int), s.dev.time.reload = 0 → x < -8 ∨ 8 < x →
    let d := s.dev.mapTime fun t => { t with reload := 0 }
    let e := d.wr Reg.TSP_REPL_ERR_ISLAND (setBit (d.rd Reg.TSP_REPL_ERR_ISLAND) i.val true)
    (16 ≤ i.val → Becomes (.gtBroadcast [(i, x)]) s
      ((e.mapTime fun t => { t with reload := setBit t.reload i.val true }).raise .replicaFault 0
        [pU 16 1 i.val, pI 20 4 x])) ∧
    (i.val < 16 → d.engineOn i.val → Becomes (.gtBroadcast [(i, x)]) s (e.isolateEngine (Fin.ofNat 16 i.val) 3)) ∧
    (i.val < 16 → d.engineOn i.val = false → Becomes (.gtBroadcast [(i, x)]) s d))

/-! ## The tick and fetching (02, 03) -/

/-- A tick ends a staged reset that has gone out, moves Group Time on, and does everything else only out of reset; held in
reset with nothing to step, Group Time still moves to the next boundary. -/
def Obligations.TickKeepsTime : Prop :=
  (∀ (s : State) (cars : List CarIn) (missed : List (Fin 16)) (tj ppb : Int), let d := s.dev.endTick.spineTick
    (d.inReset → Becomes (.tick cars missed tj ppb) s d) ∧
    (d.inReset = false → Becomes (.tick cars missed tj ppb) s (d.runTick cars missed tj ppb))) ∧
  (∀ (s : State) (cars : List CarIn) (missed : List (Fin 16)) (tj ppb : Int), s.dev.inReset → s.dev.sys.ending = none →
    s.dev.time.step = none → s.dev.time.due = false →
    ∃ d, Becomes (.tick cars missed tj ppb) s d ∧ d.gt = s.dev.nextTick % 2 ^ 64)

/-- A fetch serves the queue that arbitration names, up to the entries its read covers, and nothing where none is eligible; a
read that fails leaves and, repeated with success, is the fetch that follows; one that failed twice has left twice, admits the
descriptors read before the error, faults its queue and completes one cut short. -/
def Obligations.FetchByArbitration : Prop :=
  (∀ (s : State) (l : List Fetched) (d : Dev), s.dev.arbitrate = (none, d) → Becomes (.sqFetch l) s d) ∧
  (∀ (s : State) (l : List Fetched) (r : Fetch) (d : Dev), s.dev.arbitrate = (some r, d) →
    exec (.sqFetch l) s = .next (fetchRead r l { s with dev := d })) ∧
  (∀ (s : State) (q : Fin 32) (e : DmaErr) (l : List Fetched) (r : Fetch) (d : Dev),
    (s.dev.aerNote e).arbitrate = (some r, d) → r.sq = q.val →
    let t := fetchRead r (l.take (r.ents - 1)) { s with dev := d.askFetch r }
    exec (.dmaReadError q e l true) s = .next { t with
      dev := (t.dev.faultSq q.val 2 (t.dev.rd (Reg.RNG_SQ_STAT_HEAD q.val))).cutShort q } ∧
    Becomes (.dmaReadError q e l false) s ((s.dev.aerNote e).askFetch r))

/-! ## Tracker and Motion (06, 07) -/

/-- Signal loss, index pulses and door-zone edges of a running engine: a pulse within 4 counts corrects the count and the
samples held, one further off is a fault; an edge waits for its sample. A usable edge while VERIFIED (R165): a
deviation within W1 is slewed out, one within W2 is stepped and reported, a larger one makes the position UNVERIFIED. The
learn trip, admitted and ended, and a load zero gone stale. -/
def Obligations.TrackerSignals : Prop :=
  (∀ (s : State) (n : Fin 16), s.dev.carOn n.val → s.dev.engineOn n.val → s.dev.on (Reg.TRK_STAT_ENC_LOST n.val) = false →
    let a := (s.dev.flag (Reg.TRK_STAT_ENC_LOST n.val) true).wr (Reg.TRK_SPD n.val) noReading
    let b := if a.pst n.val = Pst.verified then a.wr (Reg.TRK_STAT_PSTATE n.val) Pst.unverified else a
    Becomes (.encLost n) s
      ((b.mapTrk n fun t =>
        { t with
          pair := none, lostGt := b.gt, learn := t.learn.map fun l => { l with aborted := true } }).posState n.val 2 0x7FFFFFFF)) ∧
  (∀ (s : State) (n : Fin 16), s.dev.on (Reg.TRK_STAT_ENC_LOST n.val) → (s.dev.trk n).lostGt + 100000000 ≤ s.dev.gt →
    let a := (s.dev.flag (Reg.TRK_STAT_ENC_LOST n.val) false).mapTrk n fun t => { t with zValid := false, ssiBad := 0 }
    Becomes (.encLostClear n) s (a.wrI (Reg.TRK_POS n.val) (a.posNow n))) ∧
  (∀ (s : State) (n : Fin 16) (c : Int) (t : Nat), let z := s.dev.rd (Reg.TRK_ENC_CPR n.val)
    z ≠ 0 → s.dev.on (Reg.TRK_ENC_CFG_Z_EN n.val) → s.dev.on (Reg.TRK_ENC_CFG_TYPE n.val) = false →
    s.dev.engineOn n.val →
    ((s.dev.trk n).zValid = false → Becomes (.indexPulse n 0 c t) s
      ((s.dev.wr (Reg.TRK_ENC_CPR_Z_REF n.val) (c % (z : Int)).toNat).mapTrk n fun x => { x with zValid := true })) ∧
    ((s.dev.trk n).zValid → s.dev.on (Reg.TRK_STAT_SUSPECT n.val) = false →
      let d := idxDev c (s.dev.rd (Reg.TRK_ENC_CPR_Z_REF n.val)) z
      let b := ((s.dev.inc (Reg.TRK_CNT_IDXFLT n.val)).wr (Reg.TRK_IDX_STAT_CONSEC n.val)
        (min 3 ((s.dev.inc (Reg.TRK_CNT_IDXFLT n.val)).rd (Reg.TRK_IDX_STAT_CONSEC n.val) + 1))).wr
          (Reg.TRK_IDX_STAT_GOOD_RUN n.val) 0
      (absI d ≤ 4 → Becomes (.indexPulse n 0 c t) s
        (((s.dev.inc (Reg.TRK_CNT_IDXCOR n.val)).mapTrk n fun x =>
          { x with
            cnt := x.cnt - d
            hist := x.hist.map fun p => (p.1, p.2 - d) }).wr (Reg.TRK_IDX_STAT_CONSEC n.val) 0)) ∧
      (4 < absI d → let e := if b.rd (Reg.TRK_IDX_STAT_CONSEC n.val) = 3 then b.flag (Reg.TRK_STAT_SUSPECT n.val) true else b
        Becomes (.indexPulse n 0 c t) s
          (e.indexFault n.val 0 (e.rd (Reg.TRK_IDX_STAT_CONSEC n.val)) (e.on (Reg.TRK_STAT_SUSPECT n.val)) d)))) ∧
  (∀ (s : State) (n : Fin 16) (z : Bool) (t : Nat) (act : Bool),
    let d := s.dev.mapTrk n fun x => { x with lastEdge := max x.lastEdge t }
    (d.carOn n.val → d.engineOn n.val → Becomes (.vaneEdge n z act t) s
      (d.mapTrk n fun x => { x with edges := x.edges ++ [(z, act, t)] })) ∧
    (d.carOn n.val = false ∨ d.engineOn n.val = false → Becomes (.vaneEdge n z act t) s d)) ∧
  (∀ (d : Dev) (n : Fin 16) (k : Nat) (p : Int), let l := d.nearWord n k p
     let dev := d.tabW n l k - p
     let e := d.mapTrk n fun t => { t with missRun := 0, lastVane := some l }
     (absI dev ≤ e.w1 n.val → d.edgeVerified n k p = e.setSlew n dev) ∧
     (e.w1 n.val < absI dev → absI dev ≤ e.w2 n.val → d.edgeVerified n k p = (e.setStep n dev).posState n.val 1 dev) ∧
     (e.w1 n.val < absI dev → e.w2 n.val < absI dev → d.edgeVerified n k p = (e.setSlew n 0).unverify n dev)) ∧
  (∀ (s : State) (q : Fin 32) (b : List Byte), Passes s 0x25 q b → let f := fetched s 0x25 q b
    let d := f.2
    let n := Fin.ofNat 16 (dIndex b)
    let can := (d.trk n).learn.isNone && d.rd (Reg.ILK_STAT_MODE n.val) = 5 && d.atL0 n && d.doorsLocked n.val
    let l : Learn :=
      { sq := q.val, dn := f.1, phase := 1, up := 0, dn' := 0, tab := [], edgeA := [], edgeB := [], aborted := false }
    (can = false → Answers (.learnTrip q b) s 0x25 q b d (AdmRes.refuse Stat.busy)) ∧
    (can → ∀ st, d.ownership 0x25 b = some st → Answers (.learnTrip q b) s 0x25 q b d (AdmRes.refuse st)) ∧
    (can → d.ownership 0x25 b = none → Becomes (.learnTrip q b) s
      (((((d.mapTrk n fun t => { t with learn := some l }).flag (Reg.TRK_STAT_LEARNING n.val) true).wr
        (Reg.TRK_LEARN_STAT_VANES_UP n.val) 0).wr (Reg.TRK_LEARN_STAT_VANES_DN n.val) 0)))) ∧
  (∀ (s : State) (n : Fin 16) (l : Learn), (s.dev.trk n).learn = some l → l.aborted →
    Becomes (.learnTripEnd n) s
      ((((s.dev.mapTrk n fun t => { t with learn := none }).flag (Reg.TRK_STAT_LEARNING n.val) false).wr
        (Reg.TRK_LEARN_STAT_RESULT n.val) 3).admSet l.sq l.dn (AdmRes.done 0 0))) ∧
  (∀ (s : State) (n : Fin 16), s.dev.on (Reg.TRK_LOAD_STAT_STALE_ZERO n.val) = false →
    (∃ g, (s.dev.trk n).zeroGt = some g ∧ s.dev.rd (Reg.TRK_LW_AUX_STALE_H n.val) * 3600000000000 < s.dev.gt - g) →
    Becomes (.zeroStale n) s ((s.dev.flag (Reg.TRK_LOAD_STAT_STALE_ZERO n.val) true).loadState n.val 3 false))

/-- Calls: a TRIP in a mode that admits it registers its call at a served landing, in RECALL in place of the stops there were, and
waits to be dropped at any other; a cancel removes the calls it names and answers their number; both are refused while the
car is UNLEARNED. The end of a trip at its landing, a tracking fault, and the level of the drive's status input. -/
def Obligations.MotionCommands : Prop :=
  (∀ (s : State) (q : Fin 32) (b : List Byte), Passes s 0x20 q b → let d := (fetched s 0x20 q b).2
    let n := Fin.ofNat 16 (dIndex b)
    let m := d.rd (Reg.ILK_STAT_MODE n.val)
    let c : Call := { land := byteAt b 16, kind := byteAt b 17, doors := byteAt b 18, tag := leAt b 20 4 }
    let e := if m = 3 then d.dropCalls n 0 fun x => x.kind = 0 && x.land != c.land else d
    let can := m = 0 ∨ ((m = 3 ∨ m = 4) ∧ c.kind = 0)
    (d.trk n).learn = none → d.ownership 0x20 b = none →
    (d.pst n.val ≠ Pst.unlearned → can → d.served n.val c.land →
      Answers (.trip q b) s 0x20 q b (e.addCall n c) (AdmRes.done 0 0)) ∧
    (d.pst n.val ≠ Pst.unlearned → can → d.served n.val c.land = false → Answers (.trip q b) s 0x20 q b
      (d.mapMot n fun m => { m with unserved := m.unserved ++ [c] }) (AdmRes.done 0 0)) ∧
    (d.pst n.val = Pst.unlearned ∨ ¬can →
      Answers (.trip q b) s 0x20 q b (d.ilkEvent n.val 0 0) (AdmRes.refuse Stat.refused))) ∧
  (∀ (s : State) (q : Fin 32) (b : List Byte), Passes s 0x21 q b → let d := (fetched s 0x21 q b).2
    let n := Fin.ofNat 16 (dIndex b)
    let sel := fun (c : Call) => c.land = byteAt b 16 && c.kind = byteAt b 17
    d.ownership 0x21 b = none →
    (d.pst n.val ≠ Pst.unlearned →
      Answers (.callCancel q b) s 0x21 q b (d.dropCalls n 0 sel) (AdmRes.done ((d.mot n).calls.filter sel).length 0)) ∧
    (d.pst n.val = Pst.unlearned →
      Answers (.callCancel q b) s 0x21 q b (d.ilkEvent n.val 0 0) (AdmRes.refuse Stat.refused))) ∧
  (∀ (s : State) (n : Fin 16) (t : Trip) (l : Nat), (s.dev.mot n).trip = some t → t.phase = .arrived → t.kind = .stop →
    t.land = some l → let a := (s.dev.endTrip n t).inc (Reg.MOT_CNT_TRIP n.val)
    (a.pst n.val = Pst.verified → Becomes (.tripComplete n) s ((a.serve n l).modeOpen n l)) ∧
    (a.pst n.val ≠ Pst.verified → Becomes (.tripComplete n) s a)) ∧
  (∀ (s : State) (n : Fin 16) (t : Trip), (s.dev.mot n).trip = some t →
    (t.phase ≠ .arrived → Becomes (.tripComplete n) s s.dev) ∧
    (t.phase = .arrived → t.kind = .relevel → Becomes (.tripComplete n) s
      (((s.dev.endTrip n t).inc (Reg.MOT_CNT_TRIP n.val)).mapMot n fun m => { m with afterRef := false }))) ∧
  (∀ (s : State) (n : Fin 16) (t : Trip), (s.dev.mot n).trip = some t →
    s.dev.rd (Reg.MOT_THR_TRACK_TICKS n.val) ≤ (s.dev.mot n).trackRun → t.phase ≠ .track →
    let a := (((s.dev.setTrip n (some { t with plan := none, phase := .track, next := false })).mapMot n fun m =>
      { m with trackRun := 0 }).flag (Reg.MOT_STAT_TRACK n.val) true).inc (Reg.MOT_CNT_TRACK n.val)
    Becomes (.trackingFault n) s (a.mapIlk n fun i => { i with trackGt := a.gt :: i.trackGt })) ∧
  (∀ (s : State) (n : Fin 16) (v : Bool),
    let e := { s.dev with sys := { s.dev.sys with dpSts := setBit s.dev.sys.dpSts n.val v } }
    let pol := s.dev.on (Reg.DRP_CTRL_STS_POL n.val)
    (s.dev.on (Reg.DRP_CTRL_STS_EN n.val) → bit s.dev.sys.dpSts n.val ≠ pol → v = pol →
      Becomes (.driveStatusChange n v) s (e.inc (Reg.DRP_CNT_NRDY n.val))) ∧
    (s.dev.on (Reg.DRP_CTRL_STS_EN n.val) = false ∨ bit s.dev.sys.dpSts n.val = pol ∨ v ≠ pol →
      Becomes (.driveStatusChange n v) s e))

/-! ## Interlock (09) -/

/-- CAR_MODE and the evacuation recall: a CAR_MODE that the table of R252 admits waits for the mode evaluation, one to NORMAL
clearing the fire latch, any other is refused; EVR_START enters the owned cars it names, naming the rest, and is busy while
one of them is in an EVR; EVR_ABORT leaves it; its timeout ends it with a record. -/
def Obligations.ModesAndRecall : Prop :=
  (∀ (s : State) (q : Fin 32) (b : List Byte), Passes s 0x22 q b → let f := fetched s 0x22 q b
    let d := f.2
    let n := Fin.ofNat 16 (dIndex b)
    let e := if byteAt b 16 = 0 then d.flag (Reg.ILK_STAT_FIRE n.val) false else d
    d.ownership 0x22 b = none →
    (d.pst n.val ≠ Pst.unlearned → d.modeOk n (byteAt b 16) (byteAt b 17) →
      Becomes (.carMode q b) s (e.mapIlk n fun i =>
        { i with req := i.req ++ [{ mode := byteAt b 16, from' := d.mode n.val, land := byteAt b 17, doors := byteAt b 18,
                                    sq := q.val, dn := f.1 }] })) ∧
    (d.pst n.val = Pst.unlearned ∨ d.modeOk n (byteAt b 16) (byteAt b 17) = false →
      Answers (.carMode q b) s 0x22 q b (d.ilkEvent n.val 0 0) (AdmRes.refuse Stat.refused))) ∧
  (∀ (s : State) (q : Fin 32) (b : List Byte), Passes s 0x23 q b → let d := (fetched s 0x23 q b).2
    let cars := maskCars (leAt b 16 2)
    let acts := fun (n : Fin 16) => d.on (Reg.SLP_STAT_OWN n.val) && d.pst n.val != Pst.unlearned
    let own := cars.filter acts
    let e := (d.mapNv fun v => { v with markOld := false }).evrMark
    ((∀ n ∈ cars, (d.ilk n).evr = none) → own ≠ [] → Answers (.evrStart q b) s 0x23 q b
      (own.foldl (fun (x : Dev) (n : Fin 16) => x.evrEnter n (byteAt b 18) (leAt b 20 4))
        { e with evrs := e.evrs ++ [{ tag := leAt b 20 4, cars := own.map (·.val), parked := [] }] })
      (AdmRes.done ((cars.filter fun n => !acts n).map fun n => 2 ^ n.val).sum 0)) ∧
    ((∃ n ∈ cars, (d.ilk n).evr.isSome) → Answers (.evrStart q b) s 0x23 q b d (AdmRes.refuse Stat.busy))) ∧
  (∀ (s : State) (q : Fin 32) (b : List Byte), Passes s 0x24 q b → let d := (fetched s 0x24 q b).2
    let cars := (maskCars (leAt b 16 2)).filter fun n => (d.ilk n).evr.isSome && d.pst n.val != Pst.unlearned
    Answers (.evrAbort q b) s 0x24 q b
      (cars.foldl (fun (x : Dev) (n : Fin 16) => x.evrLeave n false)
        ((d.mapNv fun v => { v with markOld := false }).evrMark))
      (AdmRes.done (cars.map fun n => 2 ^ n.val).sum 0)) ∧
  (∀ (s : State) (n : Fin 16) (e : Evr), (s.dev.ilk n).evr = some e →
    let due := e.start + s.dev.rd (Reg.ILK_EVR_TMO_S n.val) * 1000000000
    (due ≤ s.dev.gt → Becomes (.evrTimeout n) s
      ((s.dev.note 0x8008 6 47 5 0 [pU 28 1 n.val, pU 29 1 e.step, pU 32 4 e.tag]).evrLeave n false)) ∧
    (s.dev.gt < due → Becomes (.evrTimeout n) s s.dev))

/-! ## Doors (08) -/

/-- What ends or breaks a movement: an end, by the commanded position or a stall that has lasted, a stall away from the ends,
excess force, the brake come to rest, an end not found in 1.25 widths of creep. -/
def Obligations.DoorMovement : Prop :=
  ∀ (s : State) (n : Fin 16) (d : Fin 2) (t : Nat) (m : Move), let c := stands s n t
    c.doors[d].move = some m →
    (m.brake = false → c.doors[d].refd ∧ c.doors[d].cmd = c.endUm d m.toOpen * 1000000000 ∨
        c.stalled d ∧ (c.doors[d].refd = false ∨ c.inEndZone d m.toOpen) →
      SliceRuns (.doorEndReached n d t) s n (c.arrive d m.toOpen)) ∧
    (c.stalled d = false → SliceRuns (.stall n d t) s n c) ∧
    (c.stalled d → m.brake = false →
      ((c.doors[d].refd = false ∨ c.inEndZone d m.toOpen) → SliceRuns (.stall n d t) s n (c.arrive d m.toOpen)) ∧
      (c.doors[d].refd → c.inEndZone d m.toOpen = false →
        (m.toOpen = false → SliceRuns (.stall n d t) s n ((c.obstruction d).reverse d false)) ∧
        (m.toOpen → SliceRuns (.stall n d t) s n ((c.obstruction d).mapDoor d fun a =>
          { a with after := .partly, move := some { m with brake := true } })))) ∧
    (c.stalled d → m.brake → c.doors[d].refd → SliceRuns (.stall n d t) s n (c.brakeDone d)) ∧
    ((c.doors[d].st = DoorSt.closing ∨ c.doors[d].st = DoorSt.nudging) → c.doors[d].fmOk →
      heldFor c.doors[d].forceGt c.gt (5 * msNs) → c.inEndZone d false = false →
      SliceRuns (.forceExcess n d t) s n ((c.obstruction d).reverse d false)) ∧
    (m.brake → c.doors[d].vel = 0 →
      SliceRuns (.doorBrakeDone n d t) s n ((c.brakeDone d).doorInputs d (c.rd Reg.FIO_VAL))) ∧
    (c.doors[d].refd = false →
      ((c.dset d Reg.DOR_GEOM_WIDTH_MM * 1250 : Nat) : Int) * 1000000000 ≤ c.doors[d].crept →
      SliceRuns (.doorEndNotFound n d t) s n (c.enterFault d 5))

/-- A stall that has lasted, on the way to the closed end and away from the end zone, turns the door back: it reverses, it is to
open, and the other door is as it was. -/
def Obligations.ObstructionTurnsDoor : Prop :=
  ∀ (s : State) (n : Fin 16) (d : Fin 2) (t : Nat) (m : Move), let c := stands s n t
    s.slices[n].on → c.stalled d → c.doors[d].move = some m → m.brake = false → m.toOpen = false → c.doors[d].refd →
    c.inEndZone d false = false →
    ∃ x : Slice, SliceBecomes (.stall n d t) s n x ∧ x.doors[d].st = DoorSt.reversing ∧ x.doors[d].after = .opens ∧
      ∀ e : Fin 2, e ≠ d → x.doors[e] = c.doors[e]

/-- The timers of a door at rest, each once its time has passed; none of them acts in an orphan slice but the hold of 5 s, after
which the door goes free. -/
def Obligations.DoorTimers : Prop :=
  ∀ (s : State) (n : Fin 16) (d : Fin 2) (t : Nat), let c := stands s n t
    let a := c.doors[d]
    (c.orphan = false →
      (a.st = DoorSt.open' → a.dwellT.done c.gt (a.dwellMs * msNs) → c.lse.mode ≠ 1 → c.lse.mode ≠ 3 →
        SliceRuns (.dwellExpiry n d t) s n (c.closeFromOpen d false)) ∧
      (a.st = DoorSt.held → a.holdT.done c.gt (a.holdMs * msNs) → SliceRuns (.holdExpiry n d t) s n
        (((c.doorTo d DoorSt.open' 0xFF).mapDoor d fun a => { a with holdT := .off }).startDwell d
          (((c.doorTo d DoorSt.open' 0xFF).mapDoor d fun a => { a with holdT := .off }).dset d
            Reg.DOR_TIME_DWELL_AFTER * 100))) ∧
      (a.st = DoorSt.closed → a.lockT.done c.gt (c.dset d Reg.DOR_TIME_T_LOCK * 100 * msNs) →
        c.din d Reg.DOR_ROLE_LOCK_IN = false →
        (a.retries < 2 → SliceRuns (.lockTimerExpiry n d t) s n
          ((c.mapDoor d fun a => { a with retries := a.retries + 1, retry := true }).startOpen d 0 true)) ∧
        (2 ≤ a.retries → SliceRuns (.lockTimerExpiry n d t) s n (c.enterFault d 4))) ∧
      (c.fits d → (c.lcOn d || c.dobOn d) → 3 ≤ a.st → a.st ≤ 7 → c.nudgeTime d ≠ 0 → c.lse.mode ≠ 1 →
        a.beamT.done c.gt (c.nudgeTime d * 1000 * msNs) →
        let x := c.mapDoor d fun a => { a with nudge := true }
        (a.closeHeld = none → SliceRuns (.nudgeTimeout n d t) s n x) ∧
        (a.closeHeld.isSome → a.st = DoorSt.open' → SliceRuns (.nudgeTimeout n d t) s n (x.closeFromOpen d true)))) ∧
    (c.orphan → SliceRuns (.dwellExpiry n d t) s n c ∧ SliceRuns (.holdExpiry n d t) s n c ∧
      SliceRuns (.lockTimerExpiry n d t) s n c ∧ SliceRuns (.nudgeTimeout n d t) s n c) ∧
    (c.orphan → a.orphT.done c.gt (5000 * msNs) → a.st ≠ DoorSt.fault →
      SliceRuns (.orphanDoorHoldEnd n d t) s n ((c.doorTo d DoorSt.free 0xFF).mapDoor d fun a =>
        { a with
          orphT := .off, bridge := false, dwellT := .off, holdT := .off, closeHeld := none, heldArr := none,
          lockT := .off, retry := false, retries := 0, after := .stay }))

/-- A push by hand at a door at rest, a fault that comes and goes, the encoder, and the PWM period of a door at rest and of one
that moves. -/
def Obligations.DoorFaultsAndSignals : Prop :=
  ∀ (s : State) (n : Fin 16) (d : Fin 2) (t : Nat), let c := stands s n t
    let u := c.toU d (c.encUm d)
    let y := c.mapDoor d fun a => { a with u := u, cmd := c.encUm d * 1000000000, devGt := none }
    (c.modeE d → c.stalled d →
      ((c.doors[d].st = DoorSt.open' ∨ c.doors[d].st = DoorSt.held) → SliceRuns (.handPush n d t) s n
        ((y.startOpen d 0 true).mapDoor d fun a =>
          { a with closeHeld := c.doors[d].closeHeld, heldCmd := c.doors[d].heldCmd })) ∧
      (c.doors[d].st = DoorSt.closed → c.orphan = false →
        (c.holdOn = false → SliceRuns (.handPush n d t) s n (y.startClose d false true)) ∧
        (c.holdOn → SliceRuns (.handPush n d t) s n (y.mapDoor d fun a => { a with pushed := true }))) ∧
      (c.doors[d].st = DoorSt.locked → SliceRuns (.handPush n d t) s n
        (y.mapDoor d fun a => { a with pushed := true }))) ∧
    (∀ (k : Fin 7) (p : Fin 2) (x : Int), c.fits d → k.val ≠ 2 → k.val ≠ 4 → k.val ≠ 5 → let z := c.seeVm k.val x
      (z.causeHolds d k.val p x → SliceRuns (.doorFault n d k p x t) s n (z.causeOn d k.val p)) ∧
      (z.causeHolds d k.val p x = false → SliceRuns (.doorFault n d k p x t) s n z)) ∧
    (∀ (p : Fin 2) (x : Int), c.fits d → let put := fun (o : Option Nat) => c.mapDoor d fun a => { a with openGt := a.openGt.set p o }
      (c.causeHolds d 2 p x = false → SliceRuns (.doorFault n d 2 p x t) s n (put none)) ∧
      (c.causeHolds d 2 p x → c.doors[d].openGt[p] = none → SliceRuns (.doorFault n d 2 p x t) s n (put (some c.gt))) ∧
      (∀ g, c.causeHolds d 2 p x → c.doors[d].openGt[p] = some g → g + 2 * msNs ≤ c.gt →
        SliceRuns (.doorFault n d 2 p x t) s n ((put none).causeOn d 2 p))) ∧
    (c.fits d = false → ∀ (k : Fin 7) (p : Fin 2) (x : Int), SliceRuns (.doorFault n d k p x t) s n c ∧
      SliceRuns (.doorFaultCleared n d k x t) s n c) ∧
    (∀ (z : Slice) (k : Nat) (p : Fin 2),
      let b := (z.drvBit d k p true).mapDoor d fun a => { a with well := a.well.filter fun c => c.1 != k }
      let e := b.mapDoor d fun a => { a with causes := a.causes ++ [(k, b.gt)] }
      selfClearing k → (b.doors[d].causes.any fun c => c.1 = k) = false → e.doors[d].st ≠ DoorSt.fault →
      z.causeOn d k p = e.enterFault d k) ∧
    (∀ (k : Fin 7) (x : Int) (g : Nat), c.fits d → let z := (c.seeVm k.val x).seeWell d k.val x
      (z.doors[d].causes.any fun c => c.1 = k.val) →
      ((k.val = 0 ∧ (0, g) ∈ z.doors[d].causes ∧ g + 100 * msNs ≤ z.gt) ∨
        ((k.val = 1 ∧ z.vmOk x ∨ k.val = 3) ∧ (k.val, g) ∈ z.doors[d].well ∧ g + 100 * msNs ≤ z.gt) ∨
        (k.val = 6 ∧ x ≤ drvLimit - 10)) →
      let a := (z.drvBit d k.val 0 false).mapDoor d fun a => { a with
        causes := a.causes.filter fun c => c.1 != k.val
        well := a.well.filter fun c => c.1 != k.val }
      a.doors[d].fault = some k.val →
      (a.doors[d].causes = [] →
        SliceRuns (.doorFaultCleared n d k x t) s n (a.mapDoor d fun a => { a with fault := none })) ∧
      (∀ j l, a.doors[d].causes = j :: l → SliceRuns (.doorFaultCleared n d k x t) s n
        ((a.mapDoor d fun a => { a with fault := some j.1 }).dev d DoorSt.fault DoorSt.fault j.1))) ∧
    (c.dset d Reg.DOR_ROLE_ENC_EN ≠ 0 → c.fits d →
      SliceRuns (.doorEncLost n d t) s n (c.mapDoor d fun a => { a with encLost := true, lostGt := c.gt }) ∧
      (c.doors[d].encLost → c.doors[d].lostGt + 100 * msNs ≤ c.gt →
        SliceRuns (.doorEncLostClear n d t) s n (c.mapDoor d fun a => { a with encLost := false, zRef := none }))) ∧
    (∀ (x : Int) (g : Option Nat), c.fits d → c.dset d Reg.DOR_ROLE_ENC_EN = 0 →
      (c.doors[d].move = none →
        let a := (c.mapDoor d fun a =>
          { a with irun := if c.doors[d].bridge then c.dset d Reg.DOR_CUR_I_HOLD * 25 else 0, boost := false,
                   vel := 0 }).ladder d
        let b := (a.mapDoor d fun y => { y with fEst := truncDiv (a.thrust d) 10 }).watchDoor d 0
        SliceRuns (.doorPwmPeriod n d x g t) s n ((b.phases d).doorInputs d (b.rd Reg.FIO_VAL))) ∧
      (∀ m, c.doors[d].move = some m →
        let a := ((c.profile d m).ladder d).current d g
        let f := if a.modeE d then -(a.thrust d) else a.thrust d
        let b := ((a.binOne d m f).mapDoor d fun y => { y with fEst := truncDiv (a.thrust d) 10 }).watchDoor d f
        SliceRuns (.doorPwmPeriod n d x g t) s n ((b.phases d).doorInputs d (b.rd Reg.FIO_VAL))))

/-! ## The slice link (10) -/

/-- The states of a link (R273, R285, R286): it drops into RETRY, or back to SEARCH where it had only just been found, gives up
into LOST once the retry timer has run out, counts an attempt every 20 ms but on an isolated port (R362), ends SYNC in UP; what each of them takes with it. -/
def Obligations.LinkStates : Prop :=
  (∀ (s : State) (n : Fin 16), s.dev.framing n →
    let a := (((s.dev.flag (Reg.SLP_STAT_PUSH n.val) false).confirmEnd n).mapLink n fun l =>
      { l with got := false, miss := 0, pushed := false, tries := 0 }).inc (Reg.SLP_CNT_DROP n.val)
    (a.lk n = Lk.measure → (a.lnk n).fresh → Becomes (.linkDrop n) s (a.setLink n Lk.search)) ∧
    (a.lk n ≠ Lk.measure ∨ (a.lnk n).fresh = false → Becomes (.linkDrop n) s
      (((a.wr (Reg.SLP_RETRY_STAT_ATTEMPTS n.val) 0).mapLink n fun l =>
        { l with retry := some (a.gt + a.rd (Reg.SLP_RETRY_T_MS n.val) * 1000000) }).setLink n Lk.retry))) ∧
  (∀ (s : State) (n : Fin 16) (x : Nat), s.dev.lk n = Lk.retry → (s.dev.lnk n).retry = some x →
    let a := (s.dev.mapLink n fun l => { l with retry := none }).setLink n Lk.lost
    let mine := fun (x : Act) => x.kind = .s && x.place = .delivered && x.car = some n.val
    (x ≤ s.dev.gt → Becomes (.linkLost n) s
      (((a.resolveAll Stat.noLease mine).actionList 0 4 (64 + n.val) 2 n.val (actNames (a.ladle.acts.filter mine))).waitsEnd
        n Stat.noLease true)) ∧
    (s.dev.gt < x → Becomes (.linkLost n) s s.dev)) ∧
  (∀ (s : State) (n : Fin 16), s.dev.lk n = Lk.search ∨ s.dev.lk n = Lk.retry ∨ s.dev.lk n = Lk.lost →
    (∀ x, (s.dev.lnk n).attGt = some x → x + 20000000 ≤ s.dev.gt) →
    (bit (s.dev.rd Reg.CTN_ISO_SP) n.val = false →
      Becomes (.trainingAttempt n) s ((s.dev.incSat (Reg.SLP_RETRY_STAT_ATTEMPTS n.val)).mapLink n fun l =>
        { l with attGt := some s.dev.gt })) ∧
    (bit (s.dev.rd Reg.CTN_ISO_SP) n.val → Becomes (.trainingAttempt n) s s.dev)) ∧
  (∀ (s : State) (n : Fin 16), s.dev.lk n = Lk.sync → s.dev.engineOn n.val →
    Becomes (.syncDone n) s (s.dev.setLink n Lk.up)) ∧
  (∀ (s : State) (n : Fin 16) (p : Fin 2),
    exec (.symbolLock n p) s = .next { s with
      dev := if p.val = s.dev.xy then s.dev.linkTrain n else s.dev, slices := s.slices.set n (s.slices[n].train p) } ∧
    exec (.recordResend n true p) s = .next { s with
      slices := s.slices.set n
        (s.slices[n].mapPort p fun q => { q with queue := redue (s.slices[n].gt / tickNs) q.queue }) } ∧
    Becomes (.recordResend n false p) s (s.dev.mapLink n fun l =>
      { l with queue := redue (s.dev.tickStart / tickNs) l.queue }))

/-- Frames: one that fails its check is counted and taken no further; one that passes is taken with its sections; a slice sends
one upstream frame for a downstream frame. -/
def Obligations.LinkFrames : Prop :=
  (∀ (s : State) (n : Fin 16) (p : Fin 2) (b : List Byte) (bad : Bool) (flip t : Nat), let c := stands s n t
    let m := c.mapPort p fun q => { q with marked := true }
    (frameOk b bad 0xA1 64 = false →
      SliceRuns (.downstreamFrame n p b bad flip t) s n (m.inc Reg.SLP_CNT_DN_ERR)) ∧
    (∀ l, frameOk b bad 0xA1 64 → (∀ g, m.cfg = some g → byteAt b 2 % 16 = g.car) →
      m.ports[p].lastDn ≠ some (beAt b 6 2) → frameSections b 28 downType = some l →
      SliceRuns (.downstreamFrame n p b bad flip t) s n (m.takeDown p b l flip))) ∧
  (∀ (s : State) (n : Fin 16) (p : Fin 2) (w : Option (Int × Nat)) (t : Nat), s.slices[n].on →
    (stands s n t).ports[p].marked →
    ∃ x f, SliceBecomes (.upstreamFrameSend n p w t) s n x ∧ x.tx = .frame p.val f :: (stands s n t).tx ∧
      x.ports[p].marked = false ∧ x.ports[p].seq = ((stands s n t).ports[p].seq + 1) % 65536) ∧
  (∀ (s : State) (n : Fin 16) (b : List Byte) (bad : Bool) (t : Nat), s.dev.framing n →
    bit (s.dev.rd Reg.CTN_ISO_SP) n.val = false →
    (frameOk b bad 0xA2 128 = false →
      Becomes (.upstreamFrame n b bad t) s ((s.dev.at t).inc (Reg.SLP_CNT_UP_ERR n.val))) ∧
    (∀ l, frameOk b bad 0xA2 128 → frameSections b 32 upType = some l →
      Becomes (.upstreamFrame n b bad t) s ((s.dev.at t).upValid n b l t)))

/-- The lease of a slice (R279 to R284): expiry, once L has passed since the holder's last frame, leads to GUARD and takes the
grant, GUARD leads to FREE once G has passed, the epoch of a grant is written, a grant whose epoch is written holds from the
next tick, and a tick leaves a holder in place. -/
def Obligations.SliceLease : Prop :=
  ∀ (s : State) (n : Fin 16) (t : Nat), let c := stands s n t
    let l := c.lse.lastHold + c.set Reg.SLP_LEASE_L_MS * 1000000
    let g := c.guardGt + c.set Reg.SLP_LEASE_G_MS * 1000000
    (∀ p e, c.arb = .held p e → l ≤ c.gt → s.slices[n].on →
      ∃ x, SliceBecomes (.leaseExpiry n t) s n x ∧ x.arb = .guard ∧ x.grant = none ∧ x.board.epoch = c.board.epoch) ∧
    (c.gt < l → SliceRuns (.leaseExpiry n t) s n c) ∧
    (c.arb = .guard → g ≤ c.gt → SliceRuns (.guardElapsed n t) s n { c with arb := .free }) ∧
    (c.gt < g → SliceRuns (.guardElapsed n t) s n c) ∧
    (∀ p e, c.grant = some (p, e) → SliceRuns (.epochWriteDone n t) s n { c with board := { c.board with epoch := e } }) ∧
    (∀ p e, c.arb = .held p e → s.slices[n].on → ∃ x, SliceBecomes (.sliceTick n t) s n x ∧ x.arb = .held p e) ∧
    (∀ p e, c.arb = Arb.free → c.grant = some (p, e) → c.board.epoch = e → s.slices[n].on →
      ∃ x, SliceBecomes (.sliceTick n t) s n x ∧ x.arb = .held p e ∧ x.grant = none) ∧
    (∀ p e, c.arb = Arb.free → c.grant = none → c.winner = some (p, e) → s.slices[n].on →
      ∃ x, SliceBecomes (.sliceTick n t) s n x ∧ x.arb = Arb.free ∧
        x.grant = some (p, (newest16 c.board.epoch e + 1) % 65536)) ∧
    (c.markGt + 10000000 ≤ c.gt → SliceRuns (.alignedLost n t) s n { c with aligned := false }) ∧
    (c.gt < c.markGt + 10000000 → SliceRuns (.alignedLost n t) s n c)

/-- Delivered actions, configuration and the safety outputs at a slice; an action at its slice (R134): not owned in its epoch it
is discarded, later than its tolerance it is reported expired, without room it waits for the next tick, else it fires and
is reported. -/
def Obligations.SliceService : Prop :=
  (∀ (s : State) (n : Fin 16) (t : Nat), let c := standsFiring s n t
     ((∀ a ∈ c.acts, a.op = 0x41 ∨ a.op = 0x42 ∨ c.gt < a.gt) → SliceFires (.sliceActionFire n t) s n c c) ∧
     (∀ a : SAct, c.acts = [a] → a.gt ≤ c.gt → a.op ≠ 0x41 → a.op ≠ 0x42 →
       SliceFires (.sliceActionFire n t) s n c (c.judgeAct a))) ∧
  (∀ (s : State) (n : Fin 16) (t : Nat), let c := stands s n t
     (∀ g, c.cfgNext = some g → c.cfgGt / tickNs < c.gt / tickNs → s.slices[n].on →
       ∃ x, SliceBecomes (.sliceConfigActive n t) s n x ∧ x.cfg = some g ∧ x.cfgNext = none ∧ x.arb = c.arb) ∧
     (c.gt / tickNs ≤ c.cfgGt / tickNs → SliceRuns (.sliceConfigActive n t) s n c) ∧
     (c.lse.trains → (∀ g, c.lse.keep = some g → g + c.set Reg.ILK_SAFE_T_ORPHAN_MS * 1000000 ≤ c.gt) →
       SliceRuns (.safeOrphanDrop n t) s n (c.safeDrop 0)) ∧
     (∀ g, c.lse.sfbSince = some g → g + c.set Reg.ILK_SAFE_SFB_DLY_MS * 1000000 < c.gt →
       SliceRuns (.sfbMismatch n t) s n
         ((c.mapLse fun l => { l with rule9 := true, rs := { l.rs with safe := false } }).safeDrop 3)) ∧
     (c.lse.sfbSince = none → SliceRuns (.sfbMismatch n t) s n c) ∧
     (c.orphan → c.guardGt + 2000000000 ≤ c.gt → c.lstrOn → c.hcOn 0 = false → c.hcOn 1 = false → s.slices[n].on →
       ∃ x, SliceBecomes (.orphanLampHoldEnd n t) s n x ∧ x.lamps.orphan ∧ x.hels = c.hels ∧ x.doors = c.doors) ∧
     (c.orphan = false → SliceRuns (.orphanLampHoldEnd n t) s n c)) ∧
  (∀ (c : Slice) (a : SAct), let gone := { c with acts := c.acts.filter fun x => x != a }
     ((∀ p, c.arb ≠ .held p a.epoch) → c.judgeAct a = c.discard a) ∧
     (∀ p, c.arb = .held p a.epoch → a.gt ≤ c.lse.fresh + 1000000 →
       (a.tol * 1000 < a.late → c.judgeAct a = gone.report a Outc.expired 0 c.gt) ∧
       (let l := c.room.filter fun u => u.tick = c.gt / 100000
        a.late ≤ a.tol * 1000 → (4 ≤ (l.filter fun u => u.pool = 0).length ∨ 64 ≤ l.length) →
         c.judgeAct a = { c with acts := c.acts.map fun x =>
           if x = a then { a with found := true, late := (c.gt / 100000 + 1) * 100000 - a.gt } else x }) ∧
       (a.late ≤ a.tol * 1000 → c.roomLeft (c.gt / 100000) → a.op ≠ 0x30 → a.op ≠ 0x31 → a.op ≠ 0x32 →
         let r := (gone.useRoom (c.gt / 100000) a).fire a
         c.judgeAct a = r.2.report a (if a.found then Outc.late else Outc.fired) r.1 r.2.gt)))

/-- Proxied registers and the descriptors of a slice; a calibration table that passes its check is admitted as an action and
held with it. -/
def Obligations.SliceDescriptors : Prop :=
  (∀ (s : State) (n : Fin 16) (v : BitVec 32), v.toNat % 4 ≠ 3 → v.toNat / 256 % 32 ≤ 19 →
    (s.dev.own n → Becomes (.proxyWrite n 0x4E8 v) s (s.dev.pxyWrite n 0x4E8 v.toNat (.write 0x4E8))) ∧
    (s.dev.own n = false → Becomes (.proxyWrite n 0x4E8 v) s s.dev)) ∧
  (∀ (s : State) (n : Fin 16) (off : Nat) (v : BitVec 32), off < 0x4000 → off ≠ 0x4E8 →
    (Reg.fieldsAt (0x40000 + 0x4000 * n.val + off)).any (fun f => f.acc = .rw || f.acc = .w1c) = false →
    Becomes (.proxyWrite n off v) s s.dev) ∧
  (∀ (s : State) (n : Fin 16) (off : Nat), off < 0x4000 → s.dev.lk n = Lk.up →
    Becomes (.shadowRefreshRead n off) s (s.dev.pxyRead n off (.refresh off))) ∧
  (∀ (s : State) (n : Fin 16), s.dev.own n →
    let l := (s.dev.lnk n).dep.getD 0 + s.dev.rd (Reg.SLP_LEASE_L_MS n.val) * 1000000
    let a := (((s.dev.showOwn n false).mapLink n fun l => { l with rel := false, resync := false }).mapMot n fun m =>
      { m with rel := false }).learnDrop n
    let b := a.leaseChange n 0xFF (a.rd (Reg.SLP_STAT_EPOCH n.val)) (if (s.dev.lnk n).rel then 2 else 1)
    (l ≤ s.dev.gt → Becomes (.leaseLapse n) s (((b.calEndFired n
      (if bit (b.rd Reg.CTN_ISO_CE) n.val then Stat.engineLost else Stat.noLease)).waitsEnd n Stat.noLease false).flushAdm)) ∧
    (s.dev.gt < l → Becomes (.leaseLapse n) s s.dev)) ∧
  (∀ (s : State) (q : Fin 32) (b : List Byte), Passes s 0xA2 q b → let f := fetched s 0xA2 q b
    let n := Fin.ofNat 16 (dIndex b)
    (leAt b 16 8 ≠ f.2.sliceSerial n.val →
      Answers (.sliceConfirm q b) s 0xA2 q b f.2 (AdmRes.refuse Stat.badDesc)) ∧
    (leAt b 16 8 = f.2.sliceSerial n.val → (f.2.lnk n).confirm.isSome →
      Answers (.sliceConfirm q b) s 0xA2 q b f.2 (AdmRes.refuse Stat.busy)) ∧
    (leAt b 16 8 = f.2.sliceSerial n.val → (f.2.lnk n).confirm = none →
      let a := f.2.mapLink n fun l => { l with confirm := some (q.val, f.1), tries := 0 }
      (f.2.notOwned n.val = some Stat.foreignOwner →
        Answers (.sliceConfirm q b) s 0xA2 q b f.2 (AdmRes.refuse Stat.foreignOwner)) ∧
      (f.2.notOwned n.val ≠ some Stat.foreignOwner → Becomes (.sliceConfirm q b) s
        (if (a.lnk n).hash = a.ownHash n.val then a.setRecord n else a)))) ∧
  (∀ (s : State) (q : Fin 32) (b : List Byte), Passes s 0x43 q b →
    let d := (fetched s 0x43 q b).2
    let a := d.emitRead (leAt b 24 8) (leAt b 32 4)
    (∀ t, d.mastering = false → Answers (.calSwap q b t) s 0x43 q b d (AdmRes.refuse Stat.badDesc)) ∧
    (d.mastering → Answers (.calSwap q b none) s 0x43 q b (a.emitRead (leAt b 24 8) (leAt b 32 4))
      (AdmRes.refuse Stat.badDesc)) ∧
    (∀ t, d.mastering → a.tableOk b t = false →
      Answers (.calSwap q b (some t)) s 0x43 q b a (AdmRes.refuse Stat.badDesc))) ∧
  (∀ (s : State) (q : Fin 32) (b : List Byte), Passes s 0x52 q b → let f := fetched s 0x52 q b
    let n := Fin.ofNat 16 (dIndex b)
    f.2.lk n = Lk.up → f.2.probing n = false → f.2.ownership 0x52 b = none →
    Becomes (.ioProbe q b) s
      (f.2.pxyWrite n 0x4E8 (byteAt b 16 + 256 * byteAt b 17) (.probeWrite q.val f.1))) ∧
  (∀ (s : State) (q : Fin 32) (b : List Byte), Passes s 0x54 q b → let d := (fetched s 0x54 q b).2
    let n := Fin.ofNat 16 (dIndex b)
    d.ownership 0x54 b = none → d.rearmBar n = none →
    Answers (.safeRearm q b) s 0x54 q b (d.pxyWrite n 0x4E4 0 .rearm) (AdmRes.done 0 0)) ∧
  (∀ (s : State) (q : Fin 32) (b t : List Byte) (x : Dev) (r : Option AdmRes) (a : Act), Passes s 0x43 q b →
     let f := fetched s 0x43 q b
     let d := f.2.emitRead (leAt b 24 8) (leAt b 32 4)
     let n := Fin.ofNat 16 (dIndex b)
     let p := Fin.ofNat 2 (byteAt b 20)
     f.2.mastering → d.tableOk b t → d.admitAction 0x43 q.val f.1 b .c ((d.lnk n).cal[p]).isSome = (x, r) →
     x.ladle.acts.find? (fun y => y.ord = d.ladle.ord) = some a →
     ∃ e, (∀ y, r = some y → Answers (.calSwap q b (some t)) s 0x43 q b e y) ∧
       (e.lnk n).cal[p] = some { act := a, table := t, fired := false, tag := 0, lib := 0, node := 0, turn := 0 } ∧
       e.ladle = x.ladle)

/-- Power and reset of a slice: it comes up above 14.5 V with its persistent board, its boot count one higher, in GUARD, owned by
nobody; a supply below 13.5 V and a reset leave the persistent board alone. -/
def Obligations.SlicePower : Prop :=
  (∀ (s : State) (n : Fin 16) (b : Option Board) (cur : List Nat) (mv t : Nat), s.slices[n].on = false →
    (14500 < mv → ∃ x, SliceBecomes (.slicePowerUp n b cur mv t) s n x ∧ x.on ∧ x.arb = .guard ∧ x.grant = none ∧ x.gt = t ∧
      x.board = { b.getD s.slices[n].board with boot := ((b.getD s.slices[n].board).boot + 1) % 65536 }) ∧
    (mv ≤ 14500 → SliceBecomes (.slicePowerUp n b cur mv t) s n s.slices[n])) ∧
  (∀ (s : State) (n : Fin 16) (mv t : Nat), s.slices[n].on → mv < 13500 →
    ∃ x, SliceBecomes (.vsLow n mv t) s n x ∧ x.on = false ∧ x.board = s.slices[n].board) ∧
  (∀ (s : State) (n : Fin 16),
    SliceBecomes (.sliceReset n) s n (Slice.cold s.slices[n].tx s.slices[n].free s.slices[n].board))

/-! ## Field I/O and lamps (11, 12) -/

/-- Inputs of a slice (R291 to R298): what the samples of a current make of the level and the raw edge; a debounced change of an
input in its normal state, with and without a stamp; the entry to and the return from STUCK, CHATTER and WIREBREAK, each
reported with the value the state has; the feedbacks; the overflow of the edge buffer, reported once. -/
def Obligations.SliceInputs : Prop :=
  (∀ (c : Slice) (i : Fin 34) (k f : Nat), let p := c.sampleNs i.val
    let x := c.fio.ins[i]
    let y := (c.takeSamples i k f).fio.ins[i]
    (gridDown p c.gt < gridUp p f → c.takeSamples i k f = c) ∧
    (gridUp p f ≤ gridDown p c.gt →
      (2000 ≤ k → y.lvl = true) ∧ (k < 1500 → y.lvl = false) ∧ (1500 ≤ k → k < 2000 → y.lvl = x.lvl) ∧
      y.raw = c.raw i.val y.lvl ∧ (y.raw ≠ x.raw → y.first = gridUp p f) ∧ (y.raw = x.raw → y.first = x.first) ∧
      y.deb = x.deb)) ∧
  (∀ (c : Slice) (i : Fin 34) (deb : Bool) (act g : Nat), let x := c.fio.ins[i]
    let st := c.inState i.val
    let new := c.newState i deb act g
    let stuck := c.inProf i.val Reg.FIO_PROF_A_STUCK_S
    let lim := c.inProf i.val Reg.FIO_PROF_B_CHAT_N
    (c.broken i g → new = InSt.wireBreak) ∧
    (c.broken i g = false →
      (st = InSt.wireBreak → new = if sampledFor x.fine (c.inProf i.val Reg.FIO_PROF_B_WB_MS) g then InSt.normal else st) ∧
      (st = InSt.stuck → new = if x.raw then st else InSt.normal) ∧
      (st = InSt.normal → stuck ≠ 0 → deb → act + stuck * 1000000000 ≤ g → new = InSt.stuck) ∧
      (st = InSt.normal → stuck = 0 → (c.binNs i.val ≠ 0 ∧ lim < c.windowEdges i g → new = InSt.chatter) ∧
        (c.windowEdges i g ≤ lim → new = InSt.normal)) ∧
      (st = InSt.chatter → stuck = 0 → c.windowEdges i g ≤ lim →
        new = if 2 * c.windowEdges i g < lim then InSt.normal else InSt.chatter))) ∧
  (∀ (a : Slice) (i : Fin 34), let g := gridDown (a.sampleNs i.val) a.gt
    let x := a.fio.ins[i]
    let st := a.inState i.val
    let act := if x.raw then a.runGt i else x.active
    (st = InSt.normal → a.runDone i g → x.raw ≠ x.deb → a.newState i x.raw act g = InSt.normal →
      let b := a.mapIn i fun y => { y with deb := x.raw, active := act }
      (a.stamps i.val → a.colander i = (b.stampEdge i.val x.raw x.first).setVal i.val x.raw) ∧
      (a.stamps i.val = false → a.colander i = b.setVal i.val x.raw)) ∧
    (a.runDone i g = false → ∀ new, a.newState i x.deb x.active g = new →
      let b := a.mapIn i fun y => { y with deb := x.deb, active := x.active }
      (new = st → new = InSt.normal → a.colander i = b.setVal i.val x.deb) ∧
      (new ≠ st → new = InSt.stuck ∨ new = InSt.wireBreak → a.colander i = b.inTo i.val new (a.safeVal i.val)) ∧
      (new ≠ st → new = InSt.chatter → a.colander i = b.inTo i.val new (a.input i.val)) ∧
      (st = InSt.stuck ∨ st = InSt.wireBreak → new = InSt.normal →
        a.colander i = (a.mapIn i fun y => { y with deb := x.raw, active := g }).inTo i.val new x.raw))) ∧
  (∀ (s : State) (n : Fin 16) (k f t : Nat), let c := stands s n t
    (∀ i : Fin 34, i.val < 32 → SliceRuns (.inputValueChange n i k f t) s n ((c.takeSamples i k f).colander i)) ∧
    (∀ i : Fin 34, 32 ≤ i.val → SliceRuns (.inputValueChange n i k f t) s n ((c.takeSamples i k f).sfbRead i)) ∧
    (∀ i : Fin 32, let j : Fin 34 := i.castLE (by decide)
      SliceRuns (.inputStuck n i t) s n (c.colander j) ∧
      SliceRuns (.inputChatter n i k f t) s n ((c.takeSamples j k f).colander j) ∧
      SliceRuns (.wireBreak n i k f t) s n ((c.takeSamples j k f).colander j) ∧
      SliceRuns (.wireRestored n i k f t) s n ((c.takeSamples j k f).colander j)) ∧
    (c.fio.lost ≠ 0 → c.fio.edges.length ≤ 64 → SliceRuns (.edgeOverflow n t) s n
      ((c.evt .edgeOverflow 4 [pU 16 4 c.fio.lost]).mapFio fun x => { x with lost := 0 })) ∧
    (c.fio.lost = 0 ∨ 64 < c.fio.edges.length → SliceRuns (.edgeOverflow n t) s n c))

/-- Outputs and supply of a slice: the end of a pulse, latches, loads, the supply, the SAFE stages, the probe. -/
def Obligations.SliceOutputs : Prop :=
  ∀ (s : State) (n : Fin 16) (t : Nat), let c := stands s n t
    (∀ (i : Fin 16) (o e : Nat) (v : Bool), (c.fio.pulses.filter fun p => bit (c.unit i.val) p.1) = [(o, v, e)] →
      (e ≤ c.gt → SliceRuns (.pulseEnd n i t) s n
        ((c.mapFio fun x => { x with
          pulses := x.pulses.filter fun p => !(bit (c.unit i.val) p.1 && decide (p.2.2 ≤ c.gt)) }).setAction (2 ^ o)
            (if v then 2 ^ o else 0)))) ∧
    (∀ (i : Fin 16) (g : Nat), bit c.demand i.val → c.fio.vsOff = false → c.outFor i g 10 →
      let b := c.mapFio fun x => { x with latch := x.latch ||| c.unit i.val, trip := x.trip ||| 2 ^ i.val }
      SliceRuns (.outputLatch n i none g t) s n
        (if c.fio.latch &&& c.unit i.val = 0 then b.inc Reg.FIO_CNT_LATCH else b)) ∧
    (∀ (i : Fin 16) (g : Nat), c.outFor i g 10 = false → SliceRuns (.outputLatch n i none g t) s n c) ∧
    (∀ (i : Fin 16) (x : Int) (g : Nat), let b := c.stageTemp i x
      SliceRuns (.outputLatch n i (some x) g t) s n b ∧
      (165 < x → bit c.demand i.val → c.fio.vsOff = false → bit b.settle.fio.latch i.val) ∧
      (x ≤ 150 → bit b.fio.heat i.val = false)) ∧
    (∀ (i : Fin 16) (x g : Nat), SliceRuns (.openLoadDetect n i false x g t) s n (c.mapFio fun y =>
      { y with openL := setBit y.openL i (bit c.demand i.val && decide (x < 10000) && c.outFor i g 50 &&
          (c.set Reg.FIO_OUT_DIAG_OL_EN).testBit i.val) })) ∧
    (∀ (i : Fin 16) (x g : Nat), SliceRuns (.openLoadDetect n i true x g t) s n (c.mapFio fun y =>
      { y with shortV := setBit y.shortV i (!bit c.demand i.val && decide (c.rd Reg.FIO_VS < x + 3000) && c.outFor i g 50 &&
          (c.set Reg.FIO_OUT_DIAG_SB_EN).testBit i.val) })) ∧
    SliceRuns (.faultHoldEnd n t) s n c ∧
    (∀ mv, 13500 ≤ mv → let ok := decide (17000 ≤ mv) && decide (mv ≤ 33000)
      let b := ((c.wr Reg.FIO_VS mv).flag Reg.FIO_STAT_VS_OK ok).mapFio fun x =>
        { x with supply := !ok, vsOff := decide (mv < 16000) || (x.vsOff && decide (mv ≤ 16500)) }
      SliceRuns (.vsLow n mv t) s n b ∧ SliceRuns (.vsRestored n mv t) s n b ∧
        SliceRuns (.fieldSupplyRange n mv t) s n b) ∧
    (∀ (d : Fin 2) (why : Fin 3) (g : Nat),
      (c.stageBad why g → SliceRuns (.safeStageMismatch n d why g t) s n
        ((c.flag (if d = 0 then Reg.FIO_SAFE_STAT_MISM_A else Reg.FIO_SAFE_STAT_MISM_B) true).safeDrop 3)) ∧
      (c.stageBad why g = false → SliceRuns (.safeStageMismatch n d why g t) s n c)) ∧
    (c.rd Reg.FIO_STAT_PROBE = 1 →
      let due := c.fio.probeGt + probeNs (c.rd Reg.FIO_PROBE_STEP)
      let a := (c.flag Reg.FIO_STAT_PROBE false).flag Reg.FIO_PROBE_DONE true
      (due ≤ c.gt → SliceRuns (.probeStepDone n t) s n
        (a.flag Reg.FIO_PROBE_RESULT (!bit a.faults (a.rd Reg.FIO_PROBE_CHANNEL)))) ∧
      (c.gt < due → SliceRuns (.probeStepDone n t) s n c)) ∧
    (∀ x, SliceRuns (.outputTempWarning n x t) s n (c.mapFio fun y => { y with hot := decide (130 < x) })) ∧
    (∀ v : BitVec 32, v.toNat % 4 ≠ 3 → v.toNat / 256 % 32 ≤ 19 → s.dev.own n →
      Becomes (.fioProbeWrite n v) s (s.dev.pxyWrite n 0x4E8 v.toNat (.write 0x4E8)))

/-- Strings and Helea chains (R312 to R328): the derating each 100 ms, the pair tests, the string latches and their ends, the
boost and the pair in turn of a PWM period, all of them only where LSTR has power; frames, latches and checks of a chain. -/
def Obligations.LampsAndHelea : Prop :=
  ∀ (s : State) (n : Fin 16) (t : Nat), let c := stands s n t
    (c.lstrOn →
      (∀ (a b : Nat) (k : Int), (a < 50 ∨ 2000000 < a) → (b < 50 ∨ 2000000 < b) →
        c.setOn Reg.LMP_S_CFG_SRC_A = false → c.setOn Reg.LMP_S_CFG_SRC_B = false →
        (∀ g ∈ c.lamps.derGt, g + 100000000 ≤ c.gt) →
        let x := (((c.mapLamps fun l => { l with ntcA := true, ntcB := true, derGt := some c.gt }).wrI Reg.LMP_S_TEMP_DIE k).wrI
          Reg.LMP_S_TEMP_TA c.lamps.tempA).wrI Reg.LMP_S_TEMP_TB c.lamps.tempB
        SliceRuns (.deratingUpdate n a b k t) s n
          ((x.wr Reg.LMP_S_FACT_FA (x.factorA / 10)).wr Reg.LMP_S_FACT_FB (x.factorB / 10))) ∧
      (∀ (a b : Nat) (k : Int) (g : Nat), c.lamps.derGt = some g → c.gt < g + 100000000 →
        SliceRuns (.deratingUpdate n a b k t) s n c) ∧
      (∀ k : Fin 7, bit (c.set Reg.LMP_S_CFG_TEST_EN) k.val → c.lamps.pairGt[k] + 10000000000 ≤ c.gt →
        SliceRuns (.pairUntested n k t) s n (c.mapLamps fun l => { l with untested := setBit l.untested k.val true })) ∧
      (∀ k : Fin 8, c.strFits k.val → c.lamps.latch[k] = none →
        (10 ≤ c.lamps.lows[k] → SliceRuns (.stringOpen n k t) s n
          (((c.inc Reg.LMP_S_CNT_OPEN).latchStr (2 ^ k.val) 1).mapLamps fun l => { l with lows := l.lows.set k 0 })) ∧
        (c.lamps.lows[k] < 10 → SliceRuns (.stringOpen n k t) s n c)) ∧
      (∀ x : Int, c.lamps.hot = false → 135 < x → SliceRuns (.lampThermal n x t) s n
        ((c.mapLamps fun l => { l with hot := true }).latchStr (c.set Reg.LMP_S_CFG_STR_EN) 2)) ∧
      (∀ x : Int, x ≤ 125 → SliceRuns (.lampThermalClear n x t) s n
        ((c.mapLamps fun l => { l with hot := false }).unlatch fun k => c.lamps.latch[k] = some 2)) ∧
      (∀ (l : List (Fin 8 × Nat)) (fall : Nat), let b := c.boost l
        let k : Fin 7 := Fin.ofNat 7 b.lamps.pair
        (b.offWindow k = false → SliceRuns (.lampPwmPeriod n l fall t) s n
          (b.mapLamps fun x => { x with pair := b.nextPair })) ∧
        (b.offWindow k → bit (b.set Reg.LMP_S_CFG_TEST_EN) k.val →
          let y := (b.inc Reg.LMP_S_CNT_TEST).mapLamps fun x =>
            { x with untested := setBit x.untested k false, pairGt := x.pairGt.set k b.gt }
          let was := b.lamps.latch[k.castSucc] = some 0 ∧ b.lamps.latch[k.succ] = some 0
          let z := if 2000 < fall ∧ ¬was then (y.inc Reg.LMP_S_CNT_SHORT).latchStr (3 * 2 ^ k.val) 0 else y
          SliceRuns (.lampPwmPeriod n l fall t) s n (z.mapLamps fun x => { x with pair := z.nextPair })))) ∧
    (c.lstrOn = false → ∀ (a b : Nat) (x : Int) (k : Fin 7) (j : Fin 8) (l : List (Fin 8 × Nat)),
      ∀ i ∈ [Instr.deratingUpdate n a b x t, .pairUntested n k t, .stringOpen n j t, .lampThermal n x t,
        .lampThermalClear n x t, .lampPwmPeriod n l a t], SliceRuns i s n c) ∧
    (∀ p : Fin 2, SliceRuns (.heleaLatch n p t) s n
      (c.mapHel p fun h => { h with frame := h.frame.map fun f => { f with latched := decide (f.lam ≤ c.gt) } })) ∧
    (∀ (p : Fin 2) (m : Nat), let c := standsFiring s n t
      c.hcOn p → c.hels[p].frame = none → c.helShape p = some (m, false) → c.acts = [] → c.hels[p].swap = false →
      (c.latchesAt p (c.gt + helNs m) → SliceFires (.heleaFrameStart n p t) s n c
        (((c.emit (.helea p.val (c.hels[p].bytes p.val m))).inc fun n => Reg.HLC_CNT_FRAME n p.val).mapHel p fun h =>
          { h with
            frame := some {
              m := m, retest := false, lam := c.gt + helNs m, latched := false, checked := false, tail := h.tail p.val }
            count := (h.count + 1) % 65536 })) ∧
      (c.latchesAt p (c.gt + helNs m) = false → SliceFires (.heleaFrameStart n p t) s n c c)) ∧
    (∀ (p : Fin 2) (f : HFrame), c.hels[p].frame = some f →
      (f.checked → ∀ b k : Nat, SliceRuns (.chainCheck n p b k t) s n c) ∧
      (f.checked = false → c.hels[p].state = 1 →
        let a := c.mapHel p fun h => { h with frame := some { f with checked := true } }
        SliceRuns (.chainCheck n p 32 f.tail t) s n ((a.mapHel p fun h => { h with fails := 0 }).locateEnd p)))

/-! ## The duplex pair (15) -/

/-- Frames of the partner: one that fails its check is counted and has no other effect; what each kind does while the link is
UP. -/
def Obligations.PartnerFrames : Prop :=
  ∀ (s : State) (b : List Byte) (bad : Bool) (t : Nat), s.dev.pxFraming → let a := s.dev.at t
    ((∀ k, a.pexOk k b bad = false) →
      Becomes (.heartbeatReceived b bad t) s (a.inc Reg.PBX_CNT_ERR) ∧
      Becomes (.chunkReceived b bad t) s (a.inc Reg.PBX_CNT_ERR) ∧
      Becomes (.ackReceived b bad t) s (a.inc Reg.PBX_CNT_ERR) ∧
      Becomes (.healthReceived b bad t) s (a.inc Reg.PBX_CNT_ERR) ∧
      Becomes (.identReceived b bad t) s (a.inc Reg.PBX_CNT_ERR)) ∧
    (a.pexOk 0xC1 b bad →
      let c := ((((a.pexTrip b t).peerDiff b t).mapPbx fun p =>
        { p with got := true, miss := 0, rx := some (beAt b 4 4, t), peerGt := beAt b 8 8, gone := 0 }).wr
          Reg.PBX_HELD_PEER (beAt b 32 2)).deadStill
      (beAt b 32 2 ≠ 0 → c.on Reg.PBX_STAT_PRESUMED_DEAD = false) ∧
      (c.px = Px.refused → Becomes (.heartbeatReceived b bad t) s c) ∧
      (c.px ≠ Px.refused → (c.peerSeeds b).px = Px.up →
        Becomes (.heartbeatReceived b bad t) s ((c.peerSeeds b).peerSays b t fun x => x.takePool 16))) ∧
    (a.pexOk 0xC2 b bad → a.px = Px.up →
      let l := (if a.tvt.rxSeq = beAt b 8 4 then a.tvt.rx else []) ++ [(beAt b 12 4, (b.drop 16).take (b.length - 20))]
      let w := joined (l.filter fun p => p.1 != 0xFFFFFFFF)
      let d := a.mapTvt fun x => { x with rxSeq := beAt b 8 4, rx := l }
      let spoilt := l.any fun p => p.1 = 0xFFFFFFFF
      (w.length < 64 → b.length = 4084 → Becomes (.chunkReceived b bad t) s d) ∧
      (w.length < 64 → b.length < 4084 → Becomes (.chunkReceived b bad t) s (d.ckpWhole (beAt b 8 4) w spoilt)) ∧
      (64 ≤ w.length → leAt w 28 4 ≤ beAt b 12 4 + (b.length - 20) →
        Becomes (.chunkReceived b bad t) s (d.ckpWhole (beAt b 8 4) w spoilt)) ∧
      (64 ≤ w.length → beAt b 12 4 + (b.length - 20) < leAt w 28 4 → Becomes (.chunkReceived b bad t) s d)) ∧
    (∀ f, a.pexOk 0xC3 b bad → a.tvt.fly = some f → a.px = Px.up → beAt b 8 4 = f.img.seq →
      (byteAt b 12 ≠ 0 → Becomes (.ackReceived b bad t) s ((a.inc Reg.TVT_CNT_REFUSED).ckpAbandon)) ∧
      (byteAt b 12 = 0 → f.full → a.tvt.serve = [] → Becomes (.ackReceived b bad t) s
        ((((((a.wr Reg.TVT_TX_ACK f.img.seq).wr Reg.TVT_LAST_LAT ((a.gt - f.img.gt) / 1000)).inc Reg.TVT_CNT_FULL).mapTvt
          fun x =>
            { x with
              fly := none, base := some f.img, deltas := 0, full := false, serve := [], ackGt := a.gt,
              waitGt := none, stalls := 0 }).fenceMove f.img).handoverAck f))) ∧
    (a.pexOk 0xC4 b bad → a.px = Px.up →
      Becomes (.healthReceived b bad t) s
        ((((a.wr Reg.WHK_PEER_HEALTH_PASSED (beAt b 8 2)).wr Reg.WHK_PEER_HEALTH_FAILED (beAt b 10 2)).wr
          Reg.WHK_PEER_LAST (byteAt b 12)).raise .standbyHealth 0
            [pU 16 2 (beAt b 8 2), pU 18 2 (beAt b 10 2), pU 20 1 (byteAt b 12)])) ∧
    (∀ x, a.pexOk 0xC5 b bad → a.pbx.boot = some x → x ≠ beAt b 18 2 →
      Becomes (.identReceived b bad t) s (((a.mapPbx fun p => { p with boot := some (beAt b 18 2) }).pebexDrop).pebexLock))

/-- The states of the partner link and of this controller in the pair. -/
def Obligations.PartnerLink : Prop :=
  (∀ s : State, s.dev.pxFraming → s.dev.px = Px.refused →
    let a := (((s.dev.inc Reg.PBX_CNT_DROP).wr Reg.PBX_STAT_LANES 0).mapPbx fun p => { p with got := false, miss := 0 })
    Becomes .pebexDrop s (((((a.wr Reg.PBX_RETRY_STAT_ATTEMPTS 0).wr Reg.TSP_PEER_DIFF 0).mapTime fun x =>
      { x with peerOver := false }).mapPbx fun p => { p with dropGt := s.dev.gt }).setPx Px.search)) ∧
  (∀ (s : State) (i : Fin 2), s.dev.pxFraming →
    let m := setBit (s.dev.rd Reg.PBX_STAT_LANES) i.val false
    let a := (s.dev.wr Reg.PBX_STAT_LANES m).note 0x800B 4 80 0 0 [pU 28 1 0, pU 29 1 i.val]
    (bit (s.dev.rd Reg.PBX_STAT_LANES) i.val → m = 0 → Becomes (.laneLoss i) s a.pebexDrop) ∧
    (bit (s.dev.rd Reg.PBX_STAT_LANES) i.val → m ≠ 0 → Becomes (.laneLoss i) s (a.inc Reg.PBX_CNT_DEGR)) ∧
    Becomes (.laneRestored i) s (s.dev.wr Reg.PBX_STAT_LANES (setBit (s.dev.rd Reg.PBX_STAT_LANES) i.val true))) ∧
  (∀ s : State, s.dev.px = Px.search ∨ s.dev.px = Px.retry ∨ s.dev.px = Px.lost →
    Becomes .pebexLock s (((s.dev.setPx Px.ident).wr Reg.PBX_STAT_LANES 3).mapPbx fun p =>
      { p with retry := none, sent := [], rx := none })) ∧
  (∀ (s : State) (g : Nat), s.dev.px = Px.retry → s.dev.pbx.retry = some g →
    (g ≤ s.dev.gt → Becomes .pebexRetryExpiry s ((s.dev.setPx Px.lost).mapPbx fun p => { p with retry := none })) ∧
    (s.dev.gt < g → Becomes .pebexRetryExpiry s s.dev)) ∧
  (∀ (s : State) (v : BitVec 32), s.dev.px = Px.pending → s.dev.rd Reg.PBX_CONFIRM_LO = s.dev.rd Reg.PBX_PEER_SER_LO →
    v.toNat = s.dev.rd Reg.PBX_PEER_SER_HI →
    let lo := s.dev.rd Reg.PBX_PEER_SER_LO
    let hi := s.dev.rd Reg.PBX_PEER_SER_HI
    Becomes (.peerConfirm v) s
      ((((s.dev.mapNv fun x => { x with peer := some (hi * 2 ^ 32 + lo) }).wr Reg.PBX_REC_SER_LO lo).wr Reg.PBX_REC_SER_HI
        hi).pebexUp 1)) ∧
  (∀ (s : State) (g : Nat), s.dev.on Reg.PBX_CTRL_EN → s.dev.role = 3 → s.dev.px ≠ Px.up → s.dev.pbx.boot0 = some g →
    let due := g + s.dev.rd Reg.PBX_CFG_BOOT_WAIT_MS * 1000000
    (due ≤ s.dev.gt → Becomes .bootWaitElapsed s ((s.dev.mapPbx fun p => { p with boot0 := none }).setRole 0 1)) ∧
    (s.dev.gt < due → Becomes .bootWaitElapsed s s.dev)) ∧
  (∀ s : State, s.dev.peerDead → s.dev.on Reg.PBX_STAT_PRESUMED_DEAD = false → s.dev.role = 0 →
    let a := s.dev.flag Reg.PBX_STAT_PRESUMED_DEAD true
    a.role = 0 → Becomes .partnerPresumedDead s a) ∧
  (∀ s : State, s.dev.peerDead → s.dev.on Reg.PBX_STAT_PRESUMED_DEAD = false →
    let a := s.dev.flag Reg.PBX_STAT_PRESUMED_DEAD true
    a.role = 1 → Becomes .partnerPresumedDead s a.promote)

/-- Checkpoints, engine starts and handovers. -/
def Obligations.CheckpointsAndHandover : Prop :=
  (∀ s : State, s.dev.ckpDue → s.dev.ckpFull →
    ∃ d f, Becomes .checkpointSnapshot s d ∧ d.tvt.fly = some f ∧ f.full ∧ f.img.gt = s.dev.tickStart ∧
      d.tvt.seq = f.img.seq ∧ d.tvt.want = [] ∧ d.cars = s.dev.cars ∧ d.ladle = s.dev.ladle) ∧
  (∀ (s : State) (g : Nat), s.dev.px = Px.up → s.dev.tvt.waitGt = some g →
    let due := g + s.dev.rd Reg.TVT_STALL_STALL_MS * 1000000 * (s.dev.tvt.stalls + 1)
    (due ≤ s.dev.gt → Becomes .checkpointStall s ((s.dev.mapTvt fun t => { t with stalls := t.stalls + 1 }).raise
      .checkpointStall 0 [pU 16 4 ((s.dev.gt - s.dev.tvt.ackGt) / 1000000)])) ∧
    (s.dev.gt < due → Becomes .checkpointStall s s.dev)) ∧
  (∀ (s : State) (n : Fin 16), s.dev.dom (5 * n.val) = Dom.starting →
    let a := s.dev.setEngine n.val Dom.on
    a.imgSec (0x10 + n.val) = none → Becomes (.engineStartDone n) s ((a.freshCar n).takeCar n)) ∧
  (∀ (s : State) (q : Fin 32) (b : List Byte), Passes s 0x90 q b → let f := fetched s 0x90 q b
    let d := f.2
    d.px = Px.up → d.on Reg.PBX_STAT_PEER_READY → d.own (Fin.ofNat 16 (dIndex b)) →
    (∀ h ∈ d.pbx.handing, h.car ≠ dIndex b) →
    Becomes (.leaseRelease q b) s (d.mapPbx fun p =>
      { p with handing := p.handing ++
          [{ car := dIndex b, start := d.gt, who := some (q.val, f.1), closed := false, acked := false }] })) ∧
  (∀ (s : State) (q : Fin 32) (b : List Byte), Passes s 0x91 q b → let f := fetched s 0x91 q b
    let d := f.2
    d.px = Px.up → d.on Reg.PBX_STAT_PEER_READY → d.role = 0 → d.pbx.duty = none →
    Becomes (.dutyHandover q b) s (d.mapPbx fun p => { p with duty := some (q.val, f.1, d.gt) })) ∧
  (∀ (s : State) (q : Fin 32) (b : List Byte), Passes s 0x92 q b → let f := fetched s 0x92 q b
    Becomes (.checkpointNow q b) s (f.2.mapTvt fun t => { t with want := t.want ++ [(q.val, f.1, byteAt b 16)] })) ∧
  (∀ (s : State) (q : Fin 32) (b : List Byte), Passes s 0x93 q b → let d := (fetched s 0x93 q b).2
    (d.role = 1 → byteAt b 16 ≠ 0 →
      Answers (.standbyMode q b) s 0x93 q b (d.wr Reg.PBX_STAT_TESTED (byteAt b 16)) (AdmRes.done 0 0)) ∧
    (d.role ≠ 1 → Answers (.standbyMode q b) s 0x93 q b d (AdmRes.refuse Stat.busy))) ∧
  (∀ (s : State) (n : Fin 16),
    ((∃ h ∈ s.dev.pbx.handing, h.car = n.val ∧ h.start + 60000000000 ≤ s.dev.gt) →
      Becomes (.handoverWaitExpiry n) s (s.dev.mapPbx fun p =>
        { p with handing := p.handing.map fun h => if h.car = n.val then { h with closed := true } else h })) ∧
    ((∀ h ∈ s.dev.pbx.handing, h.car = n.val → s.dev.gt < h.start + 60000000000) →
      Becomes (.handoverWaitExpiry n) s s.dev))

/-! ## The Logbook (16) -/

/-- The descriptors of the Logbook. -/
def Obligations.LogDescriptors : Prop :=
  (∀ (s : State) (q : Fin 32) (b : List Byte), Passes s 0x70 q b → let d := (fetched s 0x70 q b).2
    let src := if bit (byteAt b 29) 0 then sortBy (fun (a b : Rec) => a.seq ≤ b.seq) d.logP.mirror else d.log.ring
    let r := readFrom (byteAt b 28) (leAt b 24 4) (src.filter fun r => leAt b 32 8 ≤ r.seq)
    let next := if r.1.isEmpty then leAt b 32 8 else r.2.getD (leAt b 32 8)
    let bad := src.filter fun x => leAt b 32 8 ≤ x.seq && x.torn && r.2.any fun e => decide (x.seq < e)
    d.log.clear = none → bit (byteAt b 29) 1 = false → d.mastering →
    Answers (.logRead q b) s 0x70 q b ((d.incBy Reg.LOG_CNT_CRC bad.length).dmaBlocks (leAt b 16 8) (r.1.map Rec.bytes))
      (AdmRes.readOnly next r.1.length)) ∧
  (∀ (s : State) (q : Fin 32) (b : List Byte), Passes s 0x71 q b → let d := (fetched s 0x71 q b).2
    let want := d.gt + leAt b 16 2 * 1000000
    let cap := d.gt + 10000000000
    d.log.clear = none → d.log.flushing = false → d.log.freeze = none →
    Answers (.logFreeze q b) s 0x71 q b
      ((d.mapLog fun x =>
        { x with freeze := some { start := d.gt, stop := min want cap, capped := decide (cap < want) } }).freezeEvent 0)
      (AdmRes.done 0 0)) ∧
  (∀ (s : State) (q : Fin 32) (b : List Byte), Passes s 0x72 q b →
    Answers (.logThaw q b) s 0x72 q b ((fetched s 0x72 q b).2.endFreeze 1) (AdmRes.done 0 0)) ∧
  (∀ (s : State) (q : Fin 32) (b : List Byte), Passes s 0x73 q b → let d := (fetched s 0x73 q b).2
    let auth := leAt b 48 4
    let r := d.checkAuth 1 auth s.otp.logKey (d.clearMsg auth) (cut b 16 32)
    d.log.freeze = none → d.log.flushing = false → d.log.clear = none →
    (r.1 = false → Answers (.logClear q b) s 0x73 q b r.2 (AdmRes.refuse Stat.authFail)) ∧
    (r.1 → Becomes (.logClear q b) s (r.2.mapLog fun x =>
      { x with clear := some { sq := q.val, dn := (fetched s 0x73 q b).1, num := r.2.logP.clears + 1, floor := r.2.log.seq - 1,
                               auth := auth, gt := r.2.gt, step := 0 } }))) ∧
  (∀ (d : Dev) (c : ClearRun), d.log.clear = some c →
    (c.step < 7 → d.clearStep.log.clear = some { c with step := c.step + 1 }) ∧
    (c.step = 3 → d.clearStep.logP = { d.logP with slotB := c.mark .committed }) ∧
    (c.step = 4 → let x := d.clearStep.logP
      x.clears = c.num ∧ x.clrFloor = c.floor ∧ x.clrAuth = c.auth ∧ x.pins = 0 ∧
        (∀ r ∈ x.mirror ++ d.clearStep.log.ring, c.floor < r.seq)) ∧
    (c.step = 7 → let x := d.mapLog fun y => { y with clear := none }
      d.clearStep = (x.mapLogP fun y => { y with slotB := c.mark .done }).answer c.sq c.dn (AdmRes.done 0 0)))

/-- What the Logbook does by itself: a staged record goes into the ring, or into holding while frozen; the ring is mirrored
record by record; a power failure flushes; drops are reported. -/
def Obligations.LogService : Prop :=
  (∀ (s : State) (r : Rec) (l : List Rec), s.dev.log.staging = r :: l →
    let pop := s.dev.mapLog fun x => { x with staging := l }
    (s.dev.log.freeze = none → s.dev.on Reg.LOG_STAT_READY → Becomes .ringWrite s (pop.ringPut r)) ∧
    (s.dev.log.freeze.isSome → s.dev.log.holding.length < 8192 →
      Becomes .ringWrite s (pop.mapLog fun x => { x with holding := x.holding ++ [r] })) ∧
    (s.dev.log.freeze.isSome → 8192 ≤ s.dev.log.holding.length → r.sev < 6 →
      Becomes .ringWrite s (pop.logDropped r.sev)) ∧
    (s.dev.log.freeze.isSome → 8192 ≤ s.dev.log.holding.length → 6 ≤ r.sev →
      let y := { r with bypass := true }
      let x := (pop.inc Reg.LOG_CNT_BYPASS).ringPut y
      Becomes .ringWrite s
        (if x.log.ring.contains y && !r.mirrored && x.on Reg.LOG_STAT_P_READY then x.mirrorRec y false else x))) ∧
  (∀ s : State, s.dev.log.todo ≠ [] → Becomes .mirrorCopy s s.dev.flushNext) ∧
  (∀ (s : State) (r : Rec), s.dev.log.todo = [] → s.dev.log.freeze = none → s.dev.on Reg.LOG_STAT_P_READY →
    (s.dev.log.ring.find? fun x => x.unmirrored && decide (s.dev.log.mirPtr ≤ x.seq)) = some r →
    Becomes .mirrorCopy s ((s.dev.mirrorRec r false).mapLog fun x => { x with mirPtr := r.seq + 1 })) ∧
  (∀ (s : State) (f : Freeze), s.dev.log.freeze = some f →
    (f.stop ≤ s.dev.gt → Becomes .freezeEnd s (s.dev.endFreeze (if f.capped then 2 else 1))) ∧
    (s.dev.gt < f.stop → Becomes .freezeEnd s s.dev)) ∧
  (∀ (s : State) (k : Nat), 0 < k → s.dev.log.drops = #v[0, 0, 0, 0, 0, 0, 0, k] → s.dev.log.dropGt[7] = none →
    Becomes .logDropReport s
      ((s.dev.mapLog fun x => { x with drops := x.drops.set 7 0, dropGt := x.dropGt.set 7 (some s.dev.gt) }).raise .logDrop 0
        [pU 16 1 7, pU 20 4 k])) ∧
  (∀ s : State, s.dev.on Reg.LOG_CTRL_PF_EN → s.dev.log.flushing = false →
    (s.dev.flushSet = [] → Becomes .pfail s
      (((s.dev.note 0x800C 6 81 0 0 [pU 28 4 0]).mapLog fun x => { x with flushing := true, todo := [] }).mapLogP fun x =>
        { x with flush := .done 0 0 })) ∧
    (s.dev.flushSet ≠ [] → ∃ d, Becomes .pfail s d ∧ d.log.flushing ∧
      d.logP.flush.planned = s.dev.flushSet.length ∧ d.cars = s.dev.cars ∧ d.ladle = s.dev.ladle)) ∧
  (∀ s : State,
    (s.dev.log.flushing → Becomes .pfailReturn s
      ((s.dev.mapLog fun x => { x with flushing := false, todo := [] }).mapLogP fun x =>
        { x with flush := .done x.flush.planned x.flush.written })) ∧
    (s.dev.log.flushing = false → Becomes .pfailReturn s s.dev))

/-- A record below the minimum severity is discarded and not counted; one of S4 or above enters staging while it has room, with
the next SEQ, and nothing is dropped; an event is offered as a record of its own code and severity (R403, R405, R411). -/
def Obligations.RecordsOffered : Prop :=
  (∀ (d : Dev) (r : Rec), r.sev < d.rd Reg.LOG_CTRL_MIN_SEV → d.record r = d) ∧
  (∀ (d : Dev) (r : Rec), 4 ≤ r.sev → d.rd Reg.LOG_CTRL_MIN_SEV ≤ 3 → d.log.flushing = false → d.log.staging.length < 4096 →
    ∃ x, (d.record r).log.staging = d.log.staging ++ [x] ∧ x.sev = r.sev ∧ x.code = r.code ∧ x.pay = r.pay ∧
      x.seq = d.log.seq ∧ (d.record r).log.seq = d.log.seq + 1 ∧ (d.record r).log.drops = d.log.drops) ∧
  (∀ (d : Dev) (e : Ev) (u : Nat) (pay : List Part), ∃ r : Rec, r.code = e.code ∧ r.sev = e.sev ∧
    (d.raise e u pay).log = ((d.countEvt (d.mkEvt e e.sev u pay)).record r).log)

/-! ## Whisk (17) -/

/-- Tests, spares and the health report. -/
def Obligations.WhiskCommands : Prop :=
  (∀ (s : State) (q : Fin 32) (b : List Byte), Passes s 0x80 q b → let d := (fetched s 0x80 q b).2
    let t : Test := { domain := byteAt b 16, kind := byteAt b 17, pset := byteAt b 18, asked := true }
    (d.testable t.domain → d.whk.queue.length < 16 → Answers (.bistRun q b) s 0x80 q b
      ((d.mapWhk fun w => { w with queue := w.queue ++ [t] }).testNext) (AdmRes.done 0 0)) ∧
    (d.testable t.domain = false → Answers (.bistRun q b) s 0x80 q b d (AdmRes.refuse Stat.busy))) ∧
  (∀ (s : State) (q : Fin 32) (b : List Byte), Passes s 0x81 q b → let d := (fetched s 0x81 q b).2
    (d.testable (byteAt b 16) = false → Answers (.repairSoft q b) s 0x81 q b d (AdmRes.refuse Stat.busy)) ∧
    (∀ l r, d.testable (byteAt b 16) →
      (d.whk.mem.find? fun p => p.1 = byteAt b 16) = some (byteAt b 16, l) →
      (l.find? fun r => r.mac = byteAt b 17) = some r → r.ok = false → r.ovf = false →
      let rows := distinct (r.pairs.map (·.1))
      let free := d.rowsFree (byteAt b 16) (byteAt b 17)
      rows.length ≤ free.length →
      let x := d.addSpares ((rows.zip free).map fun p =>
        { domain := byteAt b 16, mac := byteAt b 17, row := some p.2, value := p.1, hard := false })
      Answers (.repairSoft q b) s 0x81 q b x (AdmRes.done 0 (x.sparesInfo (byteAt b 16) (byteAt b 17))))) ∧
  (∀ (s : State) (q : Fin 32) (b : List Byte) (k : Option (Fin 3)), Passes s 0x82 q b →
    let r := (fetched s 0x82 q b).2.repairHard s.otp (byteAt b 16) (byteAt b 17) (leAt b 20 4) (cut b 24 32)
      (k.map (·.val))
    (∀ y, r.2.2 = some y → exec (.repairHard q b k) s = .next { s with
      dev := r.1.admSet q.val (fetched s 0x82 q b).1 y, otp := { s.otp with hard := s.otp.hard ++ r.2.1 } }) ∧
    (((fetched s 0x82 q b).2.sparesOf (byteAt b 16) (byteAt b 17)).filter (fun x => !x.hard) = [] →
      r.2.1 = [] ∧ r.2.2 = some (AdmRes.refuse Stat.busy))) ∧
  (∀ s : State, s.dev.tested → s.dev.coldDomains ≠ [] → s.dev.healthDue → s.dev.px ≠ Px.up →
    let l := s.dev.coldDomains
    let ok := (l.filter fun d => s.dev.lastLogic d = some true && s.dev.lastMem d = some true).length
    let bad := (l.filter fun d => s.dev.lastLogic d = some false || s.dev.lastMem d = some false).length
    let a := s.dev.mapWhk fun w => { w with healthGt := some s.dev.tickStart }
    let d := ((a.wr Reg.WHK_HEALTH_PASSED ok).wr Reg.WHK_HEALTH_FAILED bad).wr Reg.WHK_HEALTH_LAST
      (s.dev.whk.seen.getD 0)
    d.px ≠ Px.up → Becomes .healthReport s d) ∧
  (∀ s : State, s.dev.healthDue = false → Becomes .healthReport s s.dev) ∧
  (∀ (s : State) (k : Nat) (l : List Nat), s.dev.tested → s.dev.whk.run = none → s.dev.whk.queue = [] →
    s.dev.coldDomains = k :: l → s.dev.whk.last = none → s.dev.whk.gapGt ≤ s.dev.gt →
    Becomes .rollingBistStep s
      (s.dev.testBegin { domain := k, kind := 0, pset := s.dev.rd Reg.WHK_CTRL_ROLL_PSET, asked := false })) ∧
  (∀ (s : State) (t : Test) (m : Vector (BitVec 64) 4) (c : Vector (BitVec 64) 64), s.dev.whk.run = some t → t.kind = 0 →
    let g := bistSig s.otp.bist t.domain
    let r := logicRes g (s.dev.on Reg.WHK_CTRL_DIAG_EN) t.pset m c
    (s.dev.logicRan t r.diag = false → Becomes (.bistTestDone (.logic m c)) s s.dev) ∧
    (s.dev.logicRan t r.diag → t.asked →
      Becomes (.bistTestDone (.logic m c)) s (((s.dev.testSeen t).logicDone t.domain true r).testOver t)) ∧
    (r.pass ↔ ∀ k : Fin 4, k.val ≤ t.pset → m[k] = g.sets[k])) ∧
  (∀ (s : State) (t : Test) (l : List (Fin 64 × List ReadErr)), s.dev.whk.run = some t →
    t.kind = 1 → t.asked → Becomes (.bistTestDone (.memory l)) s
      (((s.dev.testSeen t).memDone t.domain true (s.dev.memRes t.domain l)).testOver t))

/-! ## Power, clock and reset (18) -/

/-- Resets (R451 to R456): what each of them leaves and what stays; a controller in reset is released by start-up alone. -/
def Obligations.ControllerResets : Prop :=
  (∀ s : State, ∃ d, Becomes .powerOn s d ∧ d.gt = 0 ∧ d.on Reg.TSP_STAT_GT_VALID = false ∧ d.locked = false ∧ d.inReset ∧
    d.ladle.acts = [] ∧ d.nv.boots = (s.dev.nv.boots + 1) % 65536 ∧ d.nv.marker = s.dev.nv.marker ∧
    d.logP = s.dev.logP) ∧
  (∀ (s : State) (k : Bool),
    Becomes (.nreset k) s (s.dev.ctrlReset 2 k) ∧ Becomes .brownout s (s.dev.ctrlReset 1 false) ∧
    (s.dev.inReset = false →
      let g := s.dev.tickStart + s.dev.rd Reg.RST_CFG_WDT_MS * 1000000
      let hold := s.dev.rd Reg.PTP_STAT_STATE = Servo.holdover
      Becomes (.systemWatchdog k) s ((s.dev.mapTime fun x =>
        { x with gt := max x.gt g, holdNs := if hold then x.holdNs + (g - x.gt) else x.holdNs }).ctrlReset 4 k)) ∧
    (s.dev.inReset → Becomes (.systemWatchdog k) s s.dev) ∧
    (∀ t, (115 < t → Becomes (.thermalShutdown t k) s ((s.dev.seeTj t).ctrlReset 6 k)) ∧
      (t ≤ 115 → Becomes (.thermalShutdown t k) s (s.dev.seeTj t)))) ∧
  (∀ (s : State) (c : Nat) (k : Bool), c < 8 → let d := s.dev.ctrlReset c k
    d.gt = s.dev.gt ∧ d.rd Reg.RST_STAT_CAUSE = c ∧ d.locked = false ∧ d.ladle.acts = [] ∧ d.nv = s.dev.nv ∧
      d.logP = s.dev.logP ∧ d.rd Reg.RST_CNT = (s.dev.rd Reg.RST_CNT + 1) % 2 ^ 32) ∧
  (∀ (s : State) (v : BitVec 32) (k : Bool),
    (Reg.RST_CTRL_KEY.cut v.toNat ≠ 0xA5C3 → Becomes (.softwareReset v k) s (s.dev.inc Reg.RST_CNT_REFUSED)) ∧
    (Reg.RST_CTRL_KEY.cut v.toNat = 0xA5C3 → Reg.RST_CTRL_GO.cut v.toNat ≠ 0 →
      (s.dev.locked = false → Becomes (.softwareReset v k) s (s.dev.endSoon 3 k)) ∧
      (s.dev.locked → s.dev.on Reg.RST_CFG_SW_EN = false →
        Becomes (.softwareReset v k) s (s.dev.inc Reg.RST_CNT_REFUSED)))) ∧
  (∀ (s : State) (l k : Bool), s.dev.inReset = false →
    Becomes (.controllerFault l k) s
      ((((s.dev.uncorr !l).note 0x8007 7 83 0 0 [pU 28 1 5]).mirrorLast 0x8007).endSoon 5 (k && !l))) ∧
  (∀ (s : State) (b : BootIn), s.dev.inReset → s.dev.released b →
    let a := (s.dev.bootEarly s.otp b).wr Reg.RST_STAT_STEP 6
    let r := (a.wr Reg.PBX_STAT_TESTED (a.rd Reg.PBX_CTRL_TESTED)).imgBoot s.otp
    let e := (r.2.startPorts s.otp.bist b.tests).flag Reg.WHK_STAT_BOOT_DONE true
    let d : Dev := { e with sys := { e.sys with release := (e.gt : Int) - b.ms * 1000000 } }
    (r.1 = false → Becomes (.startUp b) s d) ∧ (r.1 → Becomes (.startUp b) s (d.lockDone 1)))

/-- Domains, clocks, temperature and Ethernet links. -/
def Obligations.PowerService : Prop :=
  (∀ (s : State) (k : Fin 112),
    (s.dev.on Reg.PWR_CTRL_AUTO_IDLE → s.dev.dom k.val = Dom.on → s.dev.idleOk k.val →
      Becomes (.domainIdle k) s (s.dev.setDom k.val Dom.idle)) ∧
    (s.dev.dom k.val = Dom.idle → Becomes (.domainWake k) s (s.dev.setDom k.val Dom.on))) ∧
  (∀ (s : State) (n : Fin 16) (k : Bool), let d := s.dev.inc Reg.CLK_CNT_UNLOCK
    Becomes (.pllUnlock (.engine n) k) s { d with sys := { s.dev.sys with unlocked := setBit s.dev.sys.unlocked n.val true } }) ∧
  (∀ (s : State) (k : Bool), Becomes (.pllUnlock .spine k) s (s.dev.ctrlReset 7 k)) ∧
  (∀ (s : State) (k : Bool), s.dev.host.refHeld = false →
    ∃ d, Becomes (.pllUnlock .host k) s d ∧ d.host.refHeld ∧ d.cars = s.dev.cars ∧ d.ladle = s.dev.ladle ∧ d.gt = s.dev.gt) ∧
  (∀ (s : State) (speed : Fin 3) (x2 : Bool), s.dev.inReset = false →
    Becomes (.pcieRefclkRestored speed x2) s
      ((((s.dev.flag Reg.CLK_STAT_HOST_LOCK true).flag Reg.CLK_STAT_PCIE_REF_OK true).mapHost fun h =>
        { h with refHeld := false }).linkTrained speed x2)) ∧
  (∀ (s : State) (t : Int),
    (100 < t → (s.dev.seeTj t).on Reg.PWR_MON_TWARN = false →
      Becomes (.thermalWarning t) s (((s.dev.seeTj t).flag Reg.PWR_MON_TWARN true).warnRecord)) ∧
    (t ≤ 100 → Becomes (.thermalWarning t) s (s.dev.seeTj t)) ∧
    (t ≤ 95 → Becomes (.thermalWarningClear t) s ((s.dev.seeTj t).flag Reg.PWR_MON_TWARN false)) ∧
    (95 < t → Becomes (.thermalWarningClear t) s (s.dev.seeTj t))) ∧
  (∀ (s : State) (p : Fin 2) (gig : Bool), s.dev.on (if p = 0 then Reg.CTN_ISO_IO_ETH0 else Reg.CTN_ISO_IO_ETH1) = false →
    (let d := (s.dev.flag (Reg.PTP_ETH_STAT_LINK p.val) true).flag (Reg.PTP_ETH_STAT_SPEED p.val) gig
     Becomes (.ethLinkChange p true gig) s ((d.cueFirstAll d.gt).cueSecondAll d.gt)) ∧
    (s.dev.actPort = p → Becomes (.ethLinkChange p false gig) s s.dev.ptpLinkLost) ∧
    (s.dev.actPort ≠ p → Becomes (.ethLinkChange p false gig) s (s.dev.flag (Reg.PTP_ETH_STAT_LINK p.val) false)))

/-! ## Setup, security and registers (19) -/

/-- Accesses of the host: one to BAR0 of another size or alignment is counted, a read gives 0 and a write changes nothing
else (R67); a window of a car that is not enabled reads 0 and ignores writes (R468); BAR2 reads 0 everywhere, and a write there
that is no doorbell is counted (R67, R74); a read of configuration space gives its register; a controller that the host cannot
reach takes none. -/
def Obligations.BarAccesses : Prop :=
  (∀ (s : State) (off : Fin 1048576) (size : Fin 9), s.dev.reachable → size.val ≠ 4 ∨ off.val % 4 ≠ 0 →
    Becomes (.latchedRead (.bar0 off size)) s ((s.dev.incSat Reg.HST_VIOL_BAR_SIZE).emitHost (.readData off.val 0)) ∧
    (∀ v, Becomes (.registerWrite (.bar0 off size v)) s (s.dev.linkUsed.incSat Reg.HST_VIOL_BAR_SIZE))) ∧
  (∀ (s : State) (off : Fin 1048576), s.dev.reachable → off.val % 4 = 0 → 0x20000 ≤ off.val →
    s.dev.carOn (carOf off.val).val = false → s.dev.sys.latch = [] → pairLow off.val = false →
    Becomes (.latchedRead (.bar0 off 4)) s (s.dev.emitHost (.readData off.val 0)) ∧
    (∀ v, Becomes (.registerWrite (.bar0 off 4 v)) s s.dev.linkUsed)) ∧
  (∀ s : State, s.dev.reachable = false →
    (∀ r, Becomes (.latchedRead r) s s.dev) ∧ ∀ w, Becomes (.registerWrite w) s s.dev) ∧
  (∀ (s : State) (off : Fin 1048576) (v : BitVec 32), s.dev.reachable → off.val % 4 = 0 →
    Becomes (.registerWrite (.bar0 off 4 v)) s (s.dev.linkUsed.busWr s.otp off.val v.toNat)) ∧
  (∀ (s : State) (off : Fin 8192) (size : Fin 9), s.dev.reachable →
    Becomes (.latchedRead (.bar2 off size)) s (s.dev.emitHost (.readBar2 off.val 0)) ∧
    (off.val % 8 ≠ 0 ∨ (size.val ≠ 4 ∧ size.val ≠ 8) →
      ∀ v, Becomes (.registerWrite (.bar2 off size v)) s (s.dev.linkUsed.incSat Reg.HST_VIOL_DB_FORM))) ∧
  (∀ (s : State) (r : ConfReg), s.dev.reachable →
    Becomes (.latchedRead (.conf r)) s (s.dev.emitHost (.readConf r (s.dev.confRd s.otp r))))

/-- Lock, car enable and OTP. -/
def Obligations.SetupCommands : Prop :=
  (∀ (s : State) (v : BitVec 32), Reg.GLB_LOCK_KEY.cut v.toNat = 0x5E7C → Reg.GLB_LOCK.cut v.toNat ≠ 0 →
    s.dev.inReset = false → s.dev.on Reg.OTP_STAT_IMG_REQ = false → s.dev.locked = false →
    (s.dev.lockFail = none → Becomes (.lockRequest v) s (s.dev.lockDone 0)) ∧
    (∀ blk unit chk, s.dev.lockFail = some (blk, unit, chk) →
      let a := ((s.dev.wr Reg.GLB_LOCK_ERR_BLOCK blk).wr Reg.GLB_LOCK_ERR_UNIT unit).wr Reg.GLB_LOCK_ERR_CHECK chk
      Becomes (.lockRequest v) s ((a.flag Reg.GLB_LOCK_ERR_VALID true).note 0x800F 3 83 0 0
        [pU 28 1 blk, pU 29 1 unit, pU 30 1 chk, pU 31 1 0]))) ∧
  (∀ (s : State) (v : BitVec 32) (l : List (Fin 112 × TestEnd)), s.dev.inReset = false →
    (s.dev.locked → Becomes (.carEnableWrite v l) s ((s.dev.inc Reg.GLB_CNT_LOCKWR).startPorts s.otp.bist l)) ∧
    (s.dev.locked = false → Becomes (.carEnableWrite v l) s
      ((s.dev.wr Reg.GLB_CAR_EN_MASK (s.dev.rd Reg.GLB_CAR_EN_MASK ||| (v.toNat % 65536))).startPorts s.otp.bist l))) ∧
  (∀ (s : State) (v : BitVec 32), Reg.SEC_PROG_GO_KEY.cut v.toNat = 0x0F7A → Reg.SEC_PROG_GO.cut v.toNat ≠ 0 →
    s.dev.sys.prog = none →
    (s.dev.progRefused s.otp (s.dev.rd Reg.SEC_PROG_SEL_ITEM) → Becomes (.otpProgram v) s
      ((s.dev.flag Reg.SEC_PROG_STAT_DONE true).wr Reg.SEC_PROG_STAT_RESULT 1)) ∧
    (s.dev.progRefused s.otp (s.dev.rd Reg.SEC_PROG_SEL_ITEM) = false → ∃ d i x, Becomes (.otpProgram v) s d ∧
      d.sys.prog = some (i, x) ∧ i = s.dev.rd Reg.SEC_PROG_SEL_ITEM ∧ x.length = 32 ∧
      d.rd Reg.SEC_PROG_STAT_DONE = 0)) ∧
  (∀ (s : State) (i : Nat) (x : List Byte), s.dev.sys.prog = some (i, x) →
    let a : Dev := { s.dev with sys := { s.dev.sys with prog := none } }
    exec (.otpProgramDone false) s = .next { s with
      otp := { s.otp with spoiled := setBit s.otp.spoiled i true },
      dev := (a.flag Reg.SEC_PROG_STAT_DONE true).wr Reg.SEC_PROG_STAT_RESULT 2 } ∧
    exec (.otpProgramDone true) s = .next { s with
      otp := s.otp.program i x,
      dev := ((a.loadOtp (s.otp.program i x)).flag Reg.SEC_PROG_STAT_DONE true).wr Reg.SEC_PROG_STAT_RESULT 0 })

/-- Images: one that does not check is refused, BAD_DESC for its form and AUTH_FAIL for the rest; one that checks, where none is
committed, is stored in slot 0 and staged; a commit with nothing staged is refused BUSY, one after the lock writes the
commit. -/
def Obligations.ImageDescriptors : Prop :=
  (∀ (s : State) (q : Fin 32) (b : List Byte), Passes s 0xA0 q b →
    let f := (fetched s 0xA0 q b).2
    let d := f.emitRead (leAt b 16 8) (leAt b 24 4)
    (f.mastering → Answers (.imageLoad q b none) s 0xA0 q b (d.emitRead (leAt b 16 8) (leAt b 24 4))
      (AdmRes.refuse Stat.badDesc)) ∧
    (f.mastering = false → ∀ m, Answers (.imageLoad q b m) s 0xA0 q b f (AdmRes.refuse Stat.badDesc)) ∧
    (∀ m, f.mastering → d.imgCheck s.otp (leAt b 24 4) m = .inr 0 →
      Answers (.imageLoad q b (some m)) s 0xA0 q b d (AdmRes.refuse Stat.badDesc)) ∧
    (∀ m k, f.mastering → d.imgCheck s.otp (leAt b 24 4) m = .inr (k + 1) →
      Answers (.imageLoad q b (some m)) s 0xA0 q b (d.authFailed 0 0) (AdmRes.refuse Stat.authFail)) ∧
    (∀ m k, f.mastering → d.imgCheck s.otp (leAt b 24 4) m = .inl k → d.nv.committed = none →
      ∃ x, Answers (.imageLoad q b (some m)) s 0xA0 q b x (AdmRes.done (leAt (imgHash m) 0 8) 0) ∧
        x.nv.images[0] = some m ∧ x.sys.staged = some 0 ∧ x.rd Reg.SEC_IMG_STAT_STAGED = 1)) ∧
  (∀ (s : State) (q : Fin 32) (b : List Byte), Passes s 0xA1 q b → let d := (fetched s 0xA1 q b).2
    (d.sys.staged = none → Answers (.imageCommit q b) s 0xA1 q b d (AdmRes.refuse Stat.busy)) ∧
    (∀ k, d.sys.staged = some k → d.locked →
      Answers (.imageCommit q b) s 0xA1 q b (d.writeCommit k) (AdmRes.done 0 0)))

/-- The block at reset (R451, R457): Group Time 0 and not valid, not locked, held in reset with cause power-on, no descriptor,
action, engine or slice running, nothing waiting; OTP keeps all that a blank part holds. The values the spec does not state
are the model's (log entry 8). -/
def Obligations.AtReset : Prop :=
  let d := State.reset.dev
  Grown Otp.blank State.reset.otp ∧ State.reset.pending = [] ∧ d.gt = 0 ∧ d.rd Reg.TSP_STAT_GT_VALID = 0 ∧ d.locked = false ∧ d.inReset ∧
    d.rd Reg.RST_STAT_CAUSE = 0 ∧ d.ladle.acts = [] ∧ d.host.adm = [] ∧ d.host.backlog = [] ∧
    (∀ n : Fin 16, d.engineOn n.val = false ∧ d.own n = false ∧ State.reset.slices[n].on = false)
end

