-- ==== Sys2Proof/Laws/State.lean ====
section
/-! SUPPORT. One lemma for each field of the controller's state and each of its updates, true by definition. -/

namespace Sys2Proof.Machine

/-! mapHost -/

@[simp] theorem Dev.mapHost_tx (s : Dev) (f : HostSt → HostSt) : (s.mapHost f).tx = s.tx := rfl
@[simp] theorem Dev.mapHost_free (s : Dev) (f : HostSt → HostSt) : (s.mapHost f).free = s.free := rfl
@[simp] theorem Dev.mapHost_regs (s : Dev) (f : HostSt → HostSt) : (s.mapHost f).regs = s.regs := rfl
@[simp] theorem Dev.mapHost_rwt (s : Dev) (f : HostSt → HostSt) : (s.mapHost f).rwt = s.rwt := rfl
@[simp] theorem Dev.mapHost_time (s : Dev) (f : HostSt → HostSt) : (s.mapHost f).time = s.time := rfl
@[simp] theorem Dev.mapHost_host (s : Dev) (f : HostSt → HostSt) : (s.mapHost f).host = f s.host := rfl
@[simp] theorem Dev.mapHost_ladle (s : Dev) (f : HostSt → HostSt) : (s.mapHost f).ladle = s.ladle := rfl
@[simp] theorem Dev.mapHost_log (s : Dev) (f : HostSt → HostSt) : (s.mapHost f).log = s.log := rfl
@[simp] theorem Dev.mapHost_logP (s : Dev) (f : HostSt → HostSt) : (s.mapHost f).logP = s.logP := rfl
@[simp] theorem Dev.mapHost_nv (s : Dev) (f : HostSt → HostSt) : (s.mapHost f).nv = s.nv := rfl
@[simp] theorem Dev.mapHost_cars (s : Dev) (f : HostSt → HostSt) : (s.mapHost f).cars = s.cars := rfl
@[simp] theorem Dev.mapHost_evrs (s : Dev) (f : HostSt → HostSt) : (s.mapHost f).evrs = s.evrs := rfl
@[simp] theorem Dev.mapHost_links (s : Dev) (f : HostSt → HostSt) : (s.mapHost f).links = s.links := rfl
@[simp] theorem Dev.mapHost_bus (s : Dev) (f : HostSt → HostSt) : (s.mapHost f).bus = s.bus := rfl
@[simp] theorem Dev.mapHost_ctn (s : Dev) (f : HostSt → HostSt) : (s.mapHost f).ctn = s.ctn := rfl
@[simp] theorem Dev.mapHost_pbx (s : Dev) (f : HostSt → HostSt) : (s.mapHost f).pbx = s.pbx := rfl
@[simp] theorem Dev.mapHost_tvt (s : Dev) (f : HostSt → HostSt) : (s.mapHost f).tvt = s.tvt := rfl
@[simp] theorem Dev.mapHost_whk (s : Dev) (f : HostSt → HostSt) : (s.mapHost f).whk = s.whk := rfl
@[simp] theorem Dev.mapHost_sys (s : Dev) (f : HostSt → HostSt) : (s.mapHost f).sys = s.sys := rfl

/-! mapTime -/

@[simp] theorem Dev.mapTime_tx (s : Dev) (f : TimeSt → TimeSt) : (s.mapTime f).tx = s.tx := rfl
@[simp] theorem Dev.mapTime_free (s : Dev) (f : TimeSt → TimeSt) : (s.mapTime f).free = s.free := rfl
@[simp] theorem Dev.mapTime_regs (s : Dev) (f : TimeSt → TimeSt) : (s.mapTime f).regs = s.regs := rfl
@[simp] theorem Dev.mapTime_rwt (s : Dev) (f : TimeSt → TimeSt) : (s.mapTime f).rwt = s.rwt := rfl
@[simp] theorem Dev.mapTime_time (s : Dev) (f : TimeSt → TimeSt) : (s.mapTime f).time = f s.time := rfl
@[simp] theorem Dev.mapTime_host (s : Dev) (f : TimeSt → TimeSt) : (s.mapTime f).host = s.host := rfl
@[simp] theorem Dev.mapTime_ladle (s : Dev) (f : TimeSt → TimeSt) : (s.mapTime f).ladle = s.ladle := rfl
@[simp] theorem Dev.mapTime_log (s : Dev) (f : TimeSt → TimeSt) : (s.mapTime f).log = s.log := rfl
@[simp] theorem Dev.mapTime_logP (s : Dev) (f : TimeSt → TimeSt) : (s.mapTime f).logP = s.logP := rfl
@[simp] theorem Dev.mapTime_nv (s : Dev) (f : TimeSt → TimeSt) : (s.mapTime f).nv = s.nv := rfl
@[simp] theorem Dev.mapTime_cars (s : Dev) (f : TimeSt → TimeSt) : (s.mapTime f).cars = s.cars := rfl
@[simp] theorem Dev.mapTime_evrs (s : Dev) (f : TimeSt → TimeSt) : (s.mapTime f).evrs = s.evrs := rfl
@[simp] theorem Dev.mapTime_links (s : Dev) (f : TimeSt → TimeSt) : (s.mapTime f).links = s.links := rfl
@[simp] theorem Dev.mapTime_bus (s : Dev) (f : TimeSt → TimeSt) : (s.mapTime f).bus = s.bus := rfl
@[simp] theorem Dev.mapTime_ctn (s : Dev) (f : TimeSt → TimeSt) : (s.mapTime f).ctn = s.ctn := rfl
@[simp] theorem Dev.mapTime_pbx (s : Dev) (f : TimeSt → TimeSt) : (s.mapTime f).pbx = s.pbx := rfl
@[simp] theorem Dev.mapTime_tvt (s : Dev) (f : TimeSt → TimeSt) : (s.mapTime f).tvt = s.tvt := rfl
@[simp] theorem Dev.mapTime_whk (s : Dev) (f : TimeSt → TimeSt) : (s.mapTime f).whk = s.whk := rfl
@[simp] theorem Dev.mapTime_sys (s : Dev) (f : TimeSt → TimeSt) : (s.mapTime f).sys = s.sys := rfl

/-! mapLdl -/

@[simp] theorem Dev.mapLdl_tx (s : Dev) (f : LadleSt → LadleSt) : (s.mapLdl f).tx = s.tx := rfl
@[simp] theorem Dev.mapLdl_free (s : Dev) (f : LadleSt → LadleSt) : (s.mapLdl f).free = s.free := rfl
@[simp] theorem Dev.mapLdl_regs (s : Dev) (f : LadleSt → LadleSt) : (s.mapLdl f).regs = s.regs := rfl
@[simp] theorem Dev.mapLdl_rwt (s : Dev) (f : LadleSt → LadleSt) : (s.mapLdl f).rwt = s.rwt := rfl
@[simp] theorem Dev.mapLdl_time (s : Dev) (f : LadleSt → LadleSt) : (s.mapLdl f).time = s.time := rfl
@[simp] theorem Dev.mapLdl_host (s : Dev) (f : LadleSt → LadleSt) : (s.mapLdl f).host = s.host := rfl
@[simp] theorem Dev.mapLdl_ladle (s : Dev) (f : LadleSt → LadleSt) : (s.mapLdl f).ladle = f s.ladle := rfl
@[simp] theorem Dev.mapLdl_log (s : Dev) (f : LadleSt → LadleSt) : (s.mapLdl f).log = s.log := rfl
@[simp] theorem Dev.mapLdl_logP (s : Dev) (f : LadleSt → LadleSt) : (s.mapLdl f).logP = s.logP := rfl
@[simp] theorem Dev.mapLdl_nv (s : Dev) (f : LadleSt → LadleSt) : (s.mapLdl f).nv = s.nv := rfl
@[simp] theorem Dev.mapLdl_cars (s : Dev) (f : LadleSt → LadleSt) : (s.mapLdl f).cars = s.cars := rfl
@[simp] theorem Dev.mapLdl_evrs (s : Dev) (f : LadleSt → LadleSt) : (s.mapLdl f).evrs = s.evrs := rfl
@[simp] theorem Dev.mapLdl_links (s : Dev) (f : LadleSt → LadleSt) : (s.mapLdl f).links = s.links := rfl
@[simp] theorem Dev.mapLdl_bus (s : Dev) (f : LadleSt → LadleSt) : (s.mapLdl f).bus = s.bus := rfl
@[simp] theorem Dev.mapLdl_ctn (s : Dev) (f : LadleSt → LadleSt) : (s.mapLdl f).ctn = s.ctn := rfl
@[simp] theorem Dev.mapLdl_pbx (s : Dev) (f : LadleSt → LadleSt) : (s.mapLdl f).pbx = s.pbx := rfl
@[simp] theorem Dev.mapLdl_tvt (s : Dev) (f : LadleSt → LadleSt) : (s.mapLdl f).tvt = s.tvt := rfl
@[simp] theorem Dev.mapLdl_whk (s : Dev) (f : LadleSt → LadleSt) : (s.mapLdl f).whk = s.whk := rfl
@[simp] theorem Dev.mapLdl_sys (s : Dev) (f : LadleSt → LadleSt) : (s.mapLdl f).sys = s.sys := rfl

/-! mapLog -/

@[simp] theorem Dev.mapLog_tx (s : Dev) (f : LogSt → LogSt) : (s.mapLog f).tx = s.tx := rfl
@[simp] theorem Dev.mapLog_free (s : Dev) (f : LogSt → LogSt) : (s.mapLog f).free = s.free := rfl
@[simp] theorem Dev.mapLog_regs (s : Dev) (f : LogSt → LogSt) : (s.mapLog f).regs = s.regs := rfl
@[simp] theorem Dev.mapLog_rwt (s : Dev) (f : LogSt → LogSt) : (s.mapLog f).rwt = s.rwt := rfl
@[simp] theorem Dev.mapLog_time (s : Dev) (f : LogSt → LogSt) : (s.mapLog f).time = s.time := rfl
@[simp] theorem Dev.mapLog_host (s : Dev) (f : LogSt → LogSt) : (s.mapLog f).host = s.host := rfl
@[simp] theorem Dev.mapLog_ladle (s : Dev) (f : LogSt → LogSt) : (s.mapLog f).ladle = s.ladle := rfl
@[simp] theorem Dev.mapLog_log (s : Dev) (f : LogSt → LogSt) : (s.mapLog f).log = f s.log := rfl
@[simp] theorem Dev.mapLog_logP (s : Dev) (f : LogSt → LogSt) : (s.mapLog f).logP = s.logP := rfl
@[simp] theorem Dev.mapLog_nv (s : Dev) (f : LogSt → LogSt) : (s.mapLog f).nv = s.nv := rfl
@[simp] theorem Dev.mapLog_cars (s : Dev) (f : LogSt → LogSt) : (s.mapLog f).cars = s.cars := rfl
@[simp] theorem Dev.mapLog_evrs (s : Dev) (f : LogSt → LogSt) : (s.mapLog f).evrs = s.evrs := rfl
@[simp] theorem Dev.mapLog_links (s : Dev) (f : LogSt → LogSt) : (s.mapLog f).links = s.links := rfl
@[simp] theorem Dev.mapLog_bus (s : Dev) (f : LogSt → LogSt) : (s.mapLog f).bus = s.bus := rfl
@[simp] theorem Dev.mapLog_ctn (s : Dev) (f : LogSt → LogSt) : (s.mapLog f).ctn = s.ctn := rfl
@[simp] theorem Dev.mapLog_pbx (s : Dev) (f : LogSt → LogSt) : (s.mapLog f).pbx = s.pbx := rfl
@[simp] theorem Dev.mapLog_tvt (s : Dev) (f : LogSt → LogSt) : (s.mapLog f).tvt = s.tvt := rfl
@[simp] theorem Dev.mapLog_whk (s : Dev) (f : LogSt → LogSt) : (s.mapLog f).whk = s.whk := rfl
@[simp] theorem Dev.mapLog_sys (s : Dev) (f : LogSt → LogSt) : (s.mapLog f).sys = s.sys := rfl

/-! mapLogP -/

@[simp] theorem Dev.mapLogP_tx (s : Dev) (f : LogPersist → LogPersist) : (s.mapLogP f).tx = s.tx := rfl
@[simp] theorem Dev.mapLogP_free (s : Dev) (f : LogPersist → LogPersist) : (s.mapLogP f).free = s.free := rfl
@[simp] theorem Dev.mapLogP_regs (s : Dev) (f : LogPersist → LogPersist) : (s.mapLogP f).regs = s.regs := rfl
@[simp] theorem Dev.mapLogP_rwt (s : Dev) (f : LogPersist → LogPersist) : (s.mapLogP f).rwt = s.rwt := rfl
@[simp] theorem Dev.mapLogP_time (s : Dev) (f : LogPersist → LogPersist) : (s.mapLogP f).time = s.time := rfl
@[simp] theorem Dev.mapLogP_host (s : Dev) (f : LogPersist → LogPersist) : (s.mapLogP f).host = s.host := rfl
@[simp] theorem Dev.mapLogP_ladle (s : Dev) (f : LogPersist → LogPersist) : (s.mapLogP f).ladle = s.ladle := rfl
@[simp] theorem Dev.mapLogP_log (s : Dev) (f : LogPersist → LogPersist) : (s.mapLogP f).log = s.log := rfl
@[simp] theorem Dev.mapLogP_logP (s : Dev) (f : LogPersist → LogPersist) : (s.mapLogP f).logP = f s.logP := rfl
@[simp] theorem Dev.mapLogP_nv (s : Dev) (f : LogPersist → LogPersist) : (s.mapLogP f).nv = s.nv := rfl
@[simp] theorem Dev.mapLogP_cars (s : Dev) (f : LogPersist → LogPersist) : (s.mapLogP f).cars = s.cars := rfl
@[simp] theorem Dev.mapLogP_evrs (s : Dev) (f : LogPersist → LogPersist) : (s.mapLogP f).evrs = s.evrs := rfl
@[simp] theorem Dev.mapLogP_links (s : Dev) (f : LogPersist → LogPersist) : (s.mapLogP f).links = s.links := rfl
@[simp] theorem Dev.mapLogP_bus (s : Dev) (f : LogPersist → LogPersist) : (s.mapLogP f).bus = s.bus := rfl
@[simp] theorem Dev.mapLogP_ctn (s : Dev) (f : LogPersist → LogPersist) : (s.mapLogP f).ctn = s.ctn := rfl
@[simp] theorem Dev.mapLogP_pbx (s : Dev) (f : LogPersist → LogPersist) : (s.mapLogP f).pbx = s.pbx := rfl
@[simp] theorem Dev.mapLogP_tvt (s : Dev) (f : LogPersist → LogPersist) : (s.mapLogP f).tvt = s.tvt := rfl
@[simp] theorem Dev.mapLogP_whk (s : Dev) (f : LogPersist → LogPersist) : (s.mapLogP f).whk = s.whk := rfl
@[simp] theorem Dev.mapLogP_sys (s : Dev) (f : LogPersist → LogPersist) : (s.mapLogP f).sys = s.sys := rfl

/-! mapNv -/

@[simp] theorem Dev.mapNv_tx (s : Dev) (f : Nv → Nv) : (s.mapNv f).tx = s.tx := rfl
@[simp] theorem Dev.mapNv_free (s : Dev) (f : Nv → Nv) : (s.mapNv f).free = s.free := rfl
@[simp] theorem Dev.mapNv_regs (s : Dev) (f : Nv → Nv) : (s.mapNv f).regs = s.regs := rfl
@[simp] theorem Dev.mapNv_rwt (s : Dev) (f : Nv → Nv) : (s.mapNv f).rwt = s.rwt := rfl
@[simp] theorem Dev.mapNv_time (s : Dev) (f : Nv → Nv) : (s.mapNv f).time = s.time := rfl
@[simp] theorem Dev.mapNv_host (s : Dev) (f : Nv → Nv) : (s.mapNv f).host = s.host := rfl
@[simp] theorem Dev.mapNv_ladle (s : Dev) (f : Nv → Nv) : (s.mapNv f).ladle = s.ladle := rfl
@[simp] theorem Dev.mapNv_log (s : Dev) (f : Nv → Nv) : (s.mapNv f).log = s.log := rfl
@[simp] theorem Dev.mapNv_logP (s : Dev) (f : Nv → Nv) : (s.mapNv f).logP = s.logP := rfl
@[simp] theorem Dev.mapNv_nv (s : Dev) (f : Nv → Nv) : (s.mapNv f).nv = f s.nv := rfl
@[simp] theorem Dev.mapNv_cars (s : Dev) (f : Nv → Nv) : (s.mapNv f).cars = s.cars := rfl
@[simp] theorem Dev.mapNv_evrs (s : Dev) (f : Nv → Nv) : (s.mapNv f).evrs = s.evrs := rfl
@[simp] theorem Dev.mapNv_links (s : Dev) (f : Nv → Nv) : (s.mapNv f).links = s.links := rfl
@[simp] theorem Dev.mapNv_bus (s : Dev) (f : Nv → Nv) : (s.mapNv f).bus = s.bus := rfl
@[simp] theorem Dev.mapNv_ctn (s : Dev) (f : Nv → Nv) : (s.mapNv f).ctn = s.ctn := rfl
@[simp] theorem Dev.mapNv_pbx (s : Dev) (f : Nv → Nv) : (s.mapNv f).pbx = s.pbx := rfl
@[simp] theorem Dev.mapNv_tvt (s : Dev) (f : Nv → Nv) : (s.mapNv f).tvt = s.tvt := rfl
@[simp] theorem Dev.mapNv_whk (s : Dev) (f : Nv → Nv) : (s.mapNv f).whk = s.whk := rfl
@[simp] theorem Dev.mapNv_sys (s : Dev) (f : Nv → Nv) : (s.mapNv f).sys = s.sys := rfl

/-! mapPbx -/

@[simp] theorem Dev.mapPbx_tx (s : Dev) (f : Pbx → Pbx) : (s.mapPbx f).tx = s.tx := rfl
@[simp] theorem Dev.mapPbx_free (s : Dev) (f : Pbx → Pbx) : (s.mapPbx f).free = s.free := rfl
@[simp] theorem Dev.mapPbx_regs (s : Dev) (f : Pbx → Pbx) : (s.mapPbx f).regs = s.regs := rfl
@[simp] theorem Dev.mapPbx_rwt (s : Dev) (f : Pbx → Pbx) : (s.mapPbx f).rwt = s.rwt := rfl
@[simp] theorem Dev.mapPbx_time (s : Dev) (f : Pbx → Pbx) : (s.mapPbx f).time = s.time := rfl
@[simp] theorem Dev.mapPbx_host (s : Dev) (f : Pbx → Pbx) : (s.mapPbx f).host = s.host := rfl
@[simp] theorem Dev.mapPbx_ladle (s : Dev) (f : Pbx → Pbx) : (s.mapPbx f).ladle = s.ladle := rfl
@[simp] theorem Dev.mapPbx_log (s : Dev) (f : Pbx → Pbx) : (s.mapPbx f).log = s.log := rfl
@[simp] theorem Dev.mapPbx_logP (s : Dev) (f : Pbx → Pbx) : (s.mapPbx f).logP = s.logP := rfl
@[simp] theorem Dev.mapPbx_nv (s : Dev) (f : Pbx → Pbx) : (s.mapPbx f).nv = s.nv := rfl
@[simp] theorem Dev.mapPbx_cars (s : Dev) (f : Pbx → Pbx) : (s.mapPbx f).cars = s.cars := rfl
@[simp] theorem Dev.mapPbx_evrs (s : Dev) (f : Pbx → Pbx) : (s.mapPbx f).evrs = s.evrs := rfl
@[simp] theorem Dev.mapPbx_links (s : Dev) (f : Pbx → Pbx) : (s.mapPbx f).links = s.links := rfl
@[simp] theorem Dev.mapPbx_bus (s : Dev) (f : Pbx → Pbx) : (s.mapPbx f).bus = s.bus := rfl
@[simp] theorem Dev.mapPbx_ctn (s : Dev) (f : Pbx → Pbx) : (s.mapPbx f).ctn = s.ctn := rfl
@[simp] theorem Dev.mapPbx_pbx (s : Dev) (f : Pbx → Pbx) : (s.mapPbx f).pbx = f s.pbx := rfl
@[simp] theorem Dev.mapPbx_tvt (s : Dev) (f : Pbx → Pbx) : (s.mapPbx f).tvt = s.tvt := rfl
@[simp] theorem Dev.mapPbx_whk (s : Dev) (f : Pbx → Pbx) : (s.mapPbx f).whk = s.whk := rfl
@[simp] theorem Dev.mapPbx_sys (s : Dev) (f : Pbx → Pbx) : (s.mapPbx f).sys = s.sys := rfl

/-! mapTvt -/

@[simp] theorem Dev.mapTvt_tx (s : Dev) (f : Tvt → Tvt) : (s.mapTvt f).tx = s.tx := rfl
@[simp] theorem Dev.mapTvt_free (s : Dev) (f : Tvt → Tvt) : (s.mapTvt f).free = s.free := rfl
@[simp] theorem Dev.mapTvt_regs (s : Dev) (f : Tvt → Tvt) : (s.mapTvt f).regs = s.regs := rfl
@[simp] theorem Dev.mapTvt_rwt (s : Dev) (f : Tvt → Tvt) : (s.mapTvt f).rwt = s.rwt := rfl
@[simp] theorem Dev.mapTvt_time (s : Dev) (f : Tvt → Tvt) : (s.mapTvt f).time = s.time := rfl
@[simp] theorem Dev.mapTvt_host (s : Dev) (f : Tvt → Tvt) : (s.mapTvt f).host = s.host := rfl
@[simp] theorem Dev.mapTvt_ladle (s : Dev) (f : Tvt → Tvt) : (s.mapTvt f).ladle = s.ladle := rfl
@[simp] theorem Dev.mapTvt_log (s : Dev) (f : Tvt → Tvt) : (s.mapTvt f).log = s.log := rfl
@[simp] theorem Dev.mapTvt_logP (s : Dev) (f : Tvt → Tvt) : (s.mapTvt f).logP = s.logP := rfl
@[simp] theorem Dev.mapTvt_nv (s : Dev) (f : Tvt → Tvt) : (s.mapTvt f).nv = s.nv := rfl
@[simp] theorem Dev.mapTvt_cars (s : Dev) (f : Tvt → Tvt) : (s.mapTvt f).cars = s.cars := rfl
@[simp] theorem Dev.mapTvt_evrs (s : Dev) (f : Tvt → Tvt) : (s.mapTvt f).evrs = s.evrs := rfl
@[simp] theorem Dev.mapTvt_links (s : Dev) (f : Tvt → Tvt) : (s.mapTvt f).links = s.links := rfl
@[simp] theorem Dev.mapTvt_bus (s : Dev) (f : Tvt → Tvt) : (s.mapTvt f).bus = s.bus := rfl
@[simp] theorem Dev.mapTvt_ctn (s : Dev) (f : Tvt → Tvt) : (s.mapTvt f).ctn = s.ctn := rfl
@[simp] theorem Dev.mapTvt_pbx (s : Dev) (f : Tvt → Tvt) : (s.mapTvt f).pbx = s.pbx := rfl
@[simp] theorem Dev.mapTvt_tvt (s : Dev) (f : Tvt → Tvt) : (s.mapTvt f).tvt = f s.tvt := rfl
@[simp] theorem Dev.mapTvt_whk (s : Dev) (f : Tvt → Tvt) : (s.mapTvt f).whk = s.whk := rfl
@[simp] theorem Dev.mapTvt_sys (s : Dev) (f : Tvt → Tvt) : (s.mapTvt f).sys = s.sys := rfl

/-! mapCtn -/

@[simp] theorem Dev.mapCtn_tx (s : Dev) (f : Ctn → Ctn) : (s.mapCtn f).tx = s.tx := rfl
@[simp] theorem Dev.mapCtn_free (s : Dev) (f : Ctn → Ctn) : (s.mapCtn f).free = s.free := rfl
@[simp] theorem Dev.mapCtn_regs (s : Dev) (f : Ctn → Ctn) : (s.mapCtn f).regs = s.regs := rfl
@[simp] theorem Dev.mapCtn_rwt (s : Dev) (f : Ctn → Ctn) : (s.mapCtn f).rwt = s.rwt := rfl
@[simp] theorem Dev.mapCtn_time (s : Dev) (f : Ctn → Ctn) : (s.mapCtn f).time = s.time := rfl
@[simp] theorem Dev.mapCtn_host (s : Dev) (f : Ctn → Ctn) : (s.mapCtn f).host = s.host := rfl
@[simp] theorem Dev.mapCtn_ladle (s : Dev) (f : Ctn → Ctn) : (s.mapCtn f).ladle = s.ladle := rfl
@[simp] theorem Dev.mapCtn_log (s : Dev) (f : Ctn → Ctn) : (s.mapCtn f).log = s.log := rfl
@[simp] theorem Dev.mapCtn_logP (s : Dev) (f : Ctn → Ctn) : (s.mapCtn f).logP = s.logP := rfl
@[simp] theorem Dev.mapCtn_nv (s : Dev) (f : Ctn → Ctn) : (s.mapCtn f).nv = s.nv := rfl
@[simp] theorem Dev.mapCtn_cars (s : Dev) (f : Ctn → Ctn) : (s.mapCtn f).cars = s.cars := rfl
@[simp] theorem Dev.mapCtn_evrs (s : Dev) (f : Ctn → Ctn) : (s.mapCtn f).evrs = s.evrs := rfl
@[simp] theorem Dev.mapCtn_links (s : Dev) (f : Ctn → Ctn) : (s.mapCtn f).links = s.links := rfl
@[simp] theorem Dev.mapCtn_bus (s : Dev) (f : Ctn → Ctn) : (s.mapCtn f).bus = s.bus := rfl
@[simp] theorem Dev.mapCtn_ctn (s : Dev) (f : Ctn → Ctn) : (s.mapCtn f).ctn = f s.ctn := rfl
@[simp] theorem Dev.mapCtn_pbx (s : Dev) (f : Ctn → Ctn) : (s.mapCtn f).pbx = s.pbx := rfl
@[simp] theorem Dev.mapCtn_tvt (s : Dev) (f : Ctn → Ctn) : (s.mapCtn f).tvt = s.tvt := rfl
@[simp] theorem Dev.mapCtn_whk (s : Dev) (f : Ctn → Ctn) : (s.mapCtn f).whk = s.whk := rfl
@[simp] theorem Dev.mapCtn_sys (s : Dev) (f : Ctn → Ctn) : (s.mapCtn f).sys = s.sys := rfl

/-! mapWhk -/

@[simp] theorem Dev.mapWhk_tx (s : Dev) (f : Whk → Whk) : (s.mapWhk f).tx = s.tx := rfl
@[simp] theorem Dev.mapWhk_free (s : Dev) (f : Whk → Whk) : (s.mapWhk f).free = s.free := rfl
@[simp] theorem Dev.mapWhk_regs (s : Dev) (f : Whk → Whk) : (s.mapWhk f).regs = s.regs := rfl
@[simp] theorem Dev.mapWhk_rwt (s : Dev) (f : Whk → Whk) : (s.mapWhk f).rwt = s.rwt := rfl
@[simp] theorem Dev.mapWhk_time (s : Dev) (f : Whk → Whk) : (s.mapWhk f).time = s.time := rfl
@[simp] theorem Dev.mapWhk_host (s : Dev) (f : Whk → Whk) : (s.mapWhk f).host = s.host := rfl
@[simp] theorem Dev.mapWhk_ladle (s : Dev) (f : Whk → Whk) : (s.mapWhk f).ladle = s.ladle := rfl
@[simp] theorem Dev.mapWhk_log (s : Dev) (f : Whk → Whk) : (s.mapWhk f).log = s.log := rfl
@[simp] theorem Dev.mapWhk_logP (s : Dev) (f : Whk → Whk) : (s.mapWhk f).logP = s.logP := rfl
@[simp] theorem Dev.mapWhk_nv (s : Dev) (f : Whk → Whk) : (s.mapWhk f).nv = s.nv := rfl
@[simp] theorem Dev.mapWhk_cars (s : Dev) (f : Whk → Whk) : (s.mapWhk f).cars = s.cars := rfl
@[simp] theorem Dev.mapWhk_evrs (s : Dev) (f : Whk → Whk) : (s.mapWhk f).evrs = s.evrs := rfl
@[simp] theorem Dev.mapWhk_links (s : Dev) (f : Whk → Whk) : (s.mapWhk f).links = s.links := rfl
@[simp] theorem Dev.mapWhk_bus (s : Dev) (f : Whk → Whk) : (s.mapWhk f).bus = s.bus := rfl
@[simp] theorem Dev.mapWhk_ctn (s : Dev) (f : Whk → Whk) : (s.mapWhk f).ctn = s.ctn := rfl
@[simp] theorem Dev.mapWhk_pbx (s : Dev) (f : Whk → Whk) : (s.mapWhk f).pbx = s.pbx := rfl
@[simp] theorem Dev.mapWhk_tvt (s : Dev) (f : Whk → Whk) : (s.mapWhk f).tvt = s.tvt := rfl
@[simp] theorem Dev.mapWhk_whk (s : Dev) (f : Whk → Whk) : (s.mapWhk f).whk = f s.whk := rfl
@[simp] theorem Dev.mapWhk_sys (s : Dev) (f : Whk → Whk) : (s.mapWhk f).sys = s.sys := rfl

/-! mapLink -/

@[simp] theorem Dev.mapLink_tx (s : Dev) (n : Fin 16) (f : CLink → CLink) : (s.mapLink n f).tx = s.tx := rfl
@[simp] theorem Dev.mapLink_free (s : Dev) (n : Fin 16) (f : CLink → CLink) : (s.mapLink n f).free = s.free := rfl
@[simp] theorem Dev.mapLink_regs (s : Dev) (n : Fin 16) (f : CLink → CLink) : (s.mapLink n f).regs = s.regs := rfl
@[simp] theorem Dev.mapLink_rwt (s : Dev) (n : Fin 16) (f : CLink → CLink) : (s.mapLink n f).rwt = s.rwt := rfl
@[simp] theorem Dev.mapLink_time (s : Dev) (n : Fin 16) (f : CLink → CLink) : (s.mapLink n f).time = s.time := rfl
@[simp] theorem Dev.mapLink_host (s : Dev) (n : Fin 16) (f : CLink → CLink) : (s.mapLink n f).host = s.host := rfl
@[simp] theorem Dev.mapLink_ladle (s : Dev) (n : Fin 16) (f : CLink → CLink) : (s.mapLink n f).ladle = s.ladle := rfl
@[simp] theorem Dev.mapLink_log (s : Dev) (n : Fin 16) (f : CLink → CLink) : (s.mapLink n f).log = s.log := rfl
@[simp] theorem Dev.mapLink_logP (s : Dev) (n : Fin 16) (f : CLink → CLink) : (s.mapLink n f).logP = s.logP := rfl
@[simp] theorem Dev.mapLink_nv (s : Dev) (n : Fin 16) (f : CLink → CLink) : (s.mapLink n f).nv = s.nv := rfl
@[simp] theorem Dev.mapLink_cars (s : Dev) (n : Fin 16) (f : CLink → CLink) : (s.mapLink n f).cars = s.cars := rfl
@[simp] theorem Dev.mapLink_evrs (s : Dev) (n : Fin 16) (f : CLink → CLink) : (s.mapLink n f).evrs = s.evrs := rfl
@[simp] theorem Dev.mapLink_links (s : Dev) (n : Fin 16) (f : CLink → CLink) : (s.mapLink n f).links = s.links.set n (f s.links[n]) := rfl
@[simp] theorem Dev.mapLink_bus (s : Dev) (n : Fin 16) (f : CLink → CLink) : (s.mapLink n f).bus = s.bus := rfl
@[simp] theorem Dev.mapLink_ctn (s : Dev) (n : Fin 16) (f : CLink → CLink) : (s.mapLink n f).ctn = s.ctn := rfl
@[simp] theorem Dev.mapLink_pbx (s : Dev) (n : Fin 16) (f : CLink → CLink) : (s.mapLink n f).pbx = s.pbx := rfl
@[simp] theorem Dev.mapLink_tvt (s : Dev) (n : Fin 16) (f : CLink → CLink) : (s.mapLink n f).tvt = s.tvt := rfl
@[simp] theorem Dev.mapLink_whk (s : Dev) (n : Fin 16) (f : CLink → CLink) : (s.mapLink n f).whk = s.whk := rfl
@[simp] theorem Dev.mapLink_sys (s : Dev) (n : Fin 16) (f : CLink → CLink) : (s.mapLink n f).sys = s.sys := rfl

/-! mapChan -/

@[simp] theorem Dev.mapChan_tx (s : Dev) (c : Fin 4) (f : Chan → Chan) : (s.mapChan c f).tx = s.tx := rfl
@[simp] theorem Dev.mapChan_free (s : Dev) (c : Fin 4) (f : Chan → Chan) : (s.mapChan c f).free = s.free := rfl
@[simp] theorem Dev.mapChan_regs (s : Dev) (c : Fin 4) (f : Chan → Chan) : (s.mapChan c f).regs = s.regs := rfl
@[simp] theorem Dev.mapChan_rwt (s : Dev) (c : Fin 4) (f : Chan → Chan) : (s.mapChan c f).rwt = s.rwt := rfl
@[simp] theorem Dev.mapChan_time (s : Dev) (c : Fin 4) (f : Chan → Chan) : (s.mapChan c f).time = s.time := rfl
@[simp] theorem Dev.mapChan_host (s : Dev) (c : Fin 4) (f : Chan → Chan) : (s.mapChan c f).host = s.host := rfl
@[simp] theorem Dev.mapChan_ladle (s : Dev) (c : Fin 4) (f : Chan → Chan) : (s.mapChan c f).ladle = s.ladle := rfl
@[simp] theorem Dev.mapChan_log (s : Dev) (c : Fin 4) (f : Chan → Chan) : (s.mapChan c f).log = s.log := rfl
@[simp] theorem Dev.mapChan_logP (s : Dev) (c : Fin 4) (f : Chan → Chan) : (s.mapChan c f).logP = s.logP := rfl
@[simp] theorem Dev.mapChan_nv (s : Dev) (c : Fin 4) (f : Chan → Chan) : (s.mapChan c f).nv = s.nv := rfl
@[simp] theorem Dev.mapChan_cars (s : Dev) (c : Fin 4) (f : Chan → Chan) : (s.mapChan c f).cars = s.cars := rfl
@[simp] theorem Dev.mapChan_evrs (s : Dev) (c : Fin 4) (f : Chan → Chan) : (s.mapChan c f).evrs = s.evrs := rfl
@[simp] theorem Dev.mapChan_links (s : Dev) (c : Fin 4) (f : Chan → Chan) : (s.mapChan c f).links = s.links := rfl
@[simp] theorem Dev.mapChan_bus (s : Dev) (c : Fin 4) (f : Chan → Chan) : (s.mapChan c f).bus = s.bus.set c (f s.bus[c]) := rfl
@[simp] theorem Dev.mapChan_ctn (s : Dev) (c : Fin 4) (f : Chan → Chan) : (s.mapChan c f).ctn = s.ctn := rfl
@[simp] theorem Dev.mapChan_pbx (s : Dev) (c : Fin 4) (f : Chan → Chan) : (s.mapChan c f).pbx = s.pbx := rfl
@[simp] theorem Dev.mapChan_tvt (s : Dev) (c : Fin 4) (f : Chan → Chan) : (s.mapChan c f).tvt = s.tvt := rfl
@[simp] theorem Dev.mapChan_whk (s : Dev) (c : Fin 4) (f : Chan → Chan) : (s.mapChan c f).whk = s.whk := rfl
@[simp] theorem Dev.mapChan_sys (s : Dev) (c : Fin 4) (f : Chan → Chan) : (s.mapChan c f).sys = s.sys := rfl

/-! mapCar -/

@[simp] theorem Dev.mapCar_tx (s : Dev) (n : Fin 16) (f : Car → Car) : (s.mapCar n f).tx = s.tx := rfl
@[simp] theorem Dev.mapCar_free (s : Dev) (n : Fin 16) (f : Car → Car) : (s.mapCar n f).free = s.free := rfl
@[simp] theorem Dev.mapCar_regs (s : Dev) (n : Fin 16) (f : Car → Car) : (s.mapCar n f).regs = s.regs := rfl
@[simp] theorem Dev.mapCar_rwt (s : Dev) (n : Fin 16) (f : Car → Car) : (s.mapCar n f).rwt = s.rwt := rfl
@[simp] theorem Dev.mapCar_time (s : Dev) (n : Fin 16) (f : Car → Car) : (s.mapCar n f).time = s.time := rfl
@[simp] theorem Dev.mapCar_host (s : Dev) (n : Fin 16) (f : Car → Car) : (s.mapCar n f).host = s.host := rfl
@[simp] theorem Dev.mapCar_ladle (s : Dev) (n : Fin 16) (f : Car → Car) : (s.mapCar n f).ladle = s.ladle := rfl
@[simp] theorem Dev.mapCar_log (s : Dev) (n : Fin 16) (f : Car → Car) : (s.mapCar n f).log = s.log := rfl
@[simp] theorem Dev.mapCar_logP (s : Dev) (n : Fin 16) (f : Car → Car) : (s.mapCar n f).logP = s.logP := rfl
@[simp] theorem Dev.mapCar_nv (s : Dev) (n : Fin 16) (f : Car → Car) : (s.mapCar n f).nv = s.nv := rfl
@[simp] theorem Dev.mapCar_cars (s : Dev) (n : Fin 16) (f : Car → Car) : (s.mapCar n f).cars = s.cars.set n (f s.cars[n]) := rfl
@[simp] theorem Dev.mapCar_evrs (s : Dev) (n : Fin 16) (f : Car → Car) : (s.mapCar n f).evrs = s.evrs := rfl
@[simp] theorem Dev.mapCar_links (s : Dev) (n : Fin 16) (f : Car → Car) : (s.mapCar n f).links = s.links := rfl
@[simp] theorem Dev.mapCar_bus (s : Dev) (n : Fin 16) (f : Car → Car) : (s.mapCar n f).bus = s.bus := rfl
@[simp] theorem Dev.mapCar_ctn (s : Dev) (n : Fin 16) (f : Car → Car) : (s.mapCar n f).ctn = s.ctn := rfl
@[simp] theorem Dev.mapCar_pbx (s : Dev) (n : Fin 16) (f : Car → Car) : (s.mapCar n f).pbx = s.pbx := rfl
@[simp] theorem Dev.mapCar_tvt (s : Dev) (n : Fin 16) (f : Car → Car) : (s.mapCar n f).tvt = s.tvt := rfl
@[simp] theorem Dev.mapCar_whk (s : Dev) (n : Fin 16) (f : Car → Car) : (s.mapCar n f).whk = s.whk := rfl
@[simp] theorem Dev.mapCar_sys (s : Dev) (n : Fin 16) (f : Car → Car) : (s.mapCar n f).sys = s.sys := rfl

/-! wr -/

@[simp] theorem Dev.wr_tx (s : Dev) (f : RF) (v : Nat) : (s.wr f v).tx = s.tx := rfl
@[simp] theorem Dev.wr_free (s : Dev) (f : RF) (v : Nat) : (s.wr f v).free = s.free := rfl
@[simp] theorem Dev.wr_regs (s : Dev) (f : RF) (v : Nat) : (s.wr f v).regs = s.regs.wr f v := rfl
@[simp] theorem Dev.wr_rwt (s : Dev) (f : RF) (v : Nat) : (s.wr f v).rwt = s.rwt := rfl
@[simp] theorem Dev.wr_time (s : Dev) (f : RF) (v : Nat) : (s.wr f v).time = s.time := rfl
@[simp] theorem Dev.wr_host (s : Dev) (f : RF) (v : Nat) : (s.wr f v).host = s.host := rfl
@[simp] theorem Dev.wr_ladle (s : Dev) (f : RF) (v : Nat) : (s.wr f v).ladle = s.ladle := rfl
@[simp] theorem Dev.wr_log (s : Dev) (f : RF) (v : Nat) : (s.wr f v).log = s.log := rfl
@[simp] theorem Dev.wr_logP (s : Dev) (f : RF) (v : Nat) : (s.wr f v).logP = s.logP := rfl
@[simp] theorem Dev.wr_nv (s : Dev) (f : RF) (v : Nat) : (s.wr f v).nv = s.nv := rfl
@[simp] theorem Dev.wr_cars (s : Dev) (f : RF) (v : Nat) : (s.wr f v).cars = s.cars := rfl
@[simp] theorem Dev.wr_evrs (s : Dev) (f : RF) (v : Nat) : (s.wr f v).evrs = s.evrs := rfl
@[simp] theorem Dev.wr_links (s : Dev) (f : RF) (v : Nat) : (s.wr f v).links = s.links := rfl
@[simp] theorem Dev.wr_bus (s : Dev) (f : RF) (v : Nat) : (s.wr f v).bus = s.bus := rfl
@[simp] theorem Dev.wr_ctn (s : Dev) (f : RF) (v : Nat) : (s.wr f v).ctn = s.ctn := rfl
@[simp] theorem Dev.wr_pbx (s : Dev) (f : RF) (v : Nat) : (s.wr f v).pbx = s.pbx := rfl
@[simp] theorem Dev.wr_tvt (s : Dev) (f : RF) (v : Nat) : (s.wr f v).tvt = s.tvt := rfl
@[simp] theorem Dev.wr_whk (s : Dev) (f : RF) (v : Nat) : (s.wr f v).whk = s.whk := rfl
@[simp] theorem Dev.wr_sys (s : Dev) (f : RF) (v : Nat) : (s.wr f v).sys = s.sys := rfl

/-! flag -/

@[simp] theorem Dev.flag_tx (s : Dev) (f : RF) (b : Bool) : (s.flag f b).tx = s.tx := rfl
@[simp] theorem Dev.flag_free (s : Dev) (f : RF) (b : Bool) : (s.flag f b).free = s.free := rfl
@[simp] theorem Dev.flag_regs (s : Dev) (f : RF) (b : Bool) : (s.flag f b).regs = s.regs.wr f (b2n b) := rfl
@[simp] theorem Dev.flag_rwt (s : Dev) (f : RF) (b : Bool) : (s.flag f b).rwt = s.rwt := rfl
@[simp] theorem Dev.flag_time (s : Dev) (f : RF) (b : Bool) : (s.flag f b).time = s.time := rfl
@[simp] theorem Dev.flag_host (s : Dev) (f : RF) (b : Bool) : (s.flag f b).host = s.host := rfl
@[simp] theorem Dev.flag_ladle (s : Dev) (f : RF) (b : Bool) : (s.flag f b).ladle = s.ladle := rfl
@[simp] theorem Dev.flag_log (s : Dev) (f : RF) (b : Bool) : (s.flag f b).log = s.log := rfl
@[simp] theorem Dev.flag_logP (s : Dev) (f : RF) (b : Bool) : (s.flag f b).logP = s.logP := rfl
@[simp] theorem Dev.flag_nv (s : Dev) (f : RF) (b : Bool) : (s.flag f b).nv = s.nv := rfl
@[simp] theorem Dev.flag_cars (s : Dev) (f : RF) (b : Bool) : (s.flag f b).cars = s.cars := rfl
@[simp] theorem Dev.flag_evrs (s : Dev) (f : RF) (b : Bool) : (s.flag f b).evrs = s.evrs := rfl
@[simp] theorem Dev.flag_links (s : Dev) (f : RF) (b : Bool) : (s.flag f b).links = s.links := rfl
@[simp] theorem Dev.flag_bus (s : Dev) (f : RF) (b : Bool) : (s.flag f b).bus = s.bus := rfl
@[simp] theorem Dev.flag_ctn (s : Dev) (f : RF) (b : Bool) : (s.flag f b).ctn = s.ctn := rfl
@[simp] theorem Dev.flag_pbx (s : Dev) (f : RF) (b : Bool) : (s.flag f b).pbx = s.pbx := rfl
@[simp] theorem Dev.flag_tvt (s : Dev) (f : RF) (b : Bool) : (s.flag f b).tvt = s.tvt := rfl
@[simp] theorem Dev.flag_whk (s : Dev) (f : RF) (b : Bool) : (s.flag f b).whk = s.whk := rfl
@[simp] theorem Dev.flag_sys (s : Dev) (f : RF) (b : Bool) : (s.flag f b).sys = s.sys := rfl

/-! wrI -/

@[simp] theorem Dev.wrI_tx (s : Dev) (f : RF) (x : Int) : (s.wrI f x).tx = s.tx := rfl
@[simp] theorem Dev.wrI_free (s : Dev) (f : RF) (x : Int) : (s.wrI f x).free = s.free := rfl
@[simp] theorem Dev.wrI_regs (s : Dev) (f : RF) (x : Int) : (s.wrI f x).regs = s.regs.wr f (ofSigned f.w x) := rfl
@[simp] theorem Dev.wrI_rwt (s : Dev) (f : RF) (x : Int) : (s.wrI f x).rwt = s.rwt := rfl
@[simp] theorem Dev.wrI_time (s : Dev) (f : RF) (x : Int) : (s.wrI f x).time = s.time := rfl
@[simp] theorem Dev.wrI_host (s : Dev) (f : RF) (x : Int) : (s.wrI f x).host = s.host := rfl
@[simp] theorem Dev.wrI_ladle (s : Dev) (f : RF) (x : Int) : (s.wrI f x).ladle = s.ladle := rfl
@[simp] theorem Dev.wrI_log (s : Dev) (f : RF) (x : Int) : (s.wrI f x).log = s.log := rfl
@[simp] theorem Dev.wrI_logP (s : Dev) (f : RF) (x : Int) : (s.wrI f x).logP = s.logP := rfl
@[simp] theorem Dev.wrI_nv (s : Dev) (f : RF) (x : Int) : (s.wrI f x).nv = s.nv := rfl
@[simp] theorem Dev.wrI_cars (s : Dev) (f : RF) (x : Int) : (s.wrI f x).cars = s.cars := rfl
@[simp] theorem Dev.wrI_evrs (s : Dev) (f : RF) (x : Int) : (s.wrI f x).evrs = s.evrs := rfl
@[simp] theorem Dev.wrI_links (s : Dev) (f : RF) (x : Int) : (s.wrI f x).links = s.links := rfl
@[simp] theorem Dev.wrI_bus (s : Dev) (f : RF) (x : Int) : (s.wrI f x).bus = s.bus := rfl
@[simp] theorem Dev.wrI_ctn (s : Dev) (f : RF) (x : Int) : (s.wrI f x).ctn = s.ctn := rfl
@[simp] theorem Dev.wrI_pbx (s : Dev) (f : RF) (x : Int) : (s.wrI f x).pbx = s.pbx := rfl
@[simp] theorem Dev.wrI_tvt (s : Dev) (f : RF) (x : Int) : (s.wrI f x).tvt = s.tvt := rfl
@[simp] theorem Dev.wrI_whk (s : Dev) (f : RF) (x : Int) : (s.wrI f x).whk = s.whk := rfl
@[simp] theorem Dev.wrI_sys (s : Dev) (f : RF) (x : Int) : (s.wrI f x).sys = s.sys := rfl

/-! inc -/

@[simp] theorem Dev.inc_tx (s : Dev) (f : RF) : (s.inc f).tx = s.tx := rfl
@[simp] theorem Dev.inc_free (s : Dev) (f : RF) : (s.inc f).free = s.free := rfl
@[simp] theorem Dev.inc_regs (s : Dev) (f : RF) : (s.inc f).regs = s.regs.wr f (s.rd f + 1) := rfl
@[simp] theorem Dev.inc_rwt (s : Dev) (f : RF) : (s.inc f).rwt = s.rwt := rfl
@[simp] theorem Dev.inc_time (s : Dev) (f : RF) : (s.inc f).time = s.time := rfl
@[simp] theorem Dev.inc_host (s : Dev) (f : RF) : (s.inc f).host = s.host := rfl
@[simp] theorem Dev.inc_ladle (s : Dev) (f : RF) : (s.inc f).ladle = s.ladle := rfl
@[simp] theorem Dev.inc_log (s : Dev) (f : RF) : (s.inc f).log = s.log := rfl
@[simp] theorem Dev.inc_logP (s : Dev) (f : RF) : (s.inc f).logP = s.logP := rfl
@[simp] theorem Dev.inc_nv (s : Dev) (f : RF) : (s.inc f).nv = s.nv := rfl
@[simp] theorem Dev.inc_cars (s : Dev) (f : RF) : (s.inc f).cars = s.cars := rfl
@[simp] theorem Dev.inc_evrs (s : Dev) (f : RF) : (s.inc f).evrs = s.evrs := rfl
@[simp] theorem Dev.inc_links (s : Dev) (f : RF) : (s.inc f).links = s.links := rfl
@[simp] theorem Dev.inc_bus (s : Dev) (f : RF) : (s.inc f).bus = s.bus := rfl
@[simp] theorem Dev.inc_ctn (s : Dev) (f : RF) : (s.inc f).ctn = s.ctn := rfl
@[simp] theorem Dev.inc_pbx (s : Dev) (f : RF) : (s.inc f).pbx = s.pbx := rfl
@[simp] theorem Dev.inc_tvt (s : Dev) (f : RF) : (s.inc f).tvt = s.tvt := rfl
@[simp] theorem Dev.inc_whk (s : Dev) (f : RF) : (s.inc f).whk = s.whk := rfl
@[simp] theorem Dev.inc_sys (s : Dev) (f : RF) : (s.inc f).sys = s.sys := rfl

/-! incBy -/

@[simp] theorem Dev.incBy_tx (s : Dev) (f : RF) (n : Nat) : (s.incBy f n).tx = s.tx := rfl
@[simp] theorem Dev.incBy_free (s : Dev) (f : RF) (n : Nat) : (s.incBy f n).free = s.free := rfl
@[simp] theorem Dev.incBy_regs (s : Dev) (f : RF) (n : Nat) : (s.incBy f n).regs = s.regs.wr f (s.rd f + n) := rfl
@[simp] theorem Dev.incBy_rwt (s : Dev) (f : RF) (n : Nat) : (s.incBy f n).rwt = s.rwt := rfl
@[simp] theorem Dev.incBy_time (s : Dev) (f : RF) (n : Nat) : (s.incBy f n).time = s.time := rfl
@[simp] theorem Dev.incBy_host (s : Dev) (f : RF) (n : Nat) : (s.incBy f n).host = s.host := rfl
@[simp] theorem Dev.incBy_ladle (s : Dev) (f : RF) (n : Nat) : (s.incBy f n).ladle = s.ladle := rfl
@[simp] theorem Dev.incBy_log (s : Dev) (f : RF) (n : Nat) : (s.incBy f n).log = s.log := rfl
@[simp] theorem Dev.incBy_logP (s : Dev) (f : RF) (n : Nat) : (s.incBy f n).logP = s.logP := rfl
@[simp] theorem Dev.incBy_nv (s : Dev) (f : RF) (n : Nat) : (s.incBy f n).nv = s.nv := rfl
@[simp] theorem Dev.incBy_cars (s : Dev) (f : RF) (n : Nat) : (s.incBy f n).cars = s.cars := rfl
@[simp] theorem Dev.incBy_evrs (s : Dev) (f : RF) (n : Nat) : (s.incBy f n).evrs = s.evrs := rfl
@[simp] theorem Dev.incBy_links (s : Dev) (f : RF) (n : Nat) : (s.incBy f n).links = s.links := rfl
@[simp] theorem Dev.incBy_bus (s : Dev) (f : RF) (n : Nat) : (s.incBy f n).bus = s.bus := rfl
@[simp] theorem Dev.incBy_ctn (s : Dev) (f : RF) (n : Nat) : (s.incBy f n).ctn = s.ctn := rfl
@[simp] theorem Dev.incBy_pbx (s : Dev) (f : RF) (n : Nat) : (s.incBy f n).pbx = s.pbx := rfl
@[simp] theorem Dev.incBy_tvt (s : Dev) (f : RF) (n : Nat) : (s.incBy f n).tvt = s.tvt := rfl
@[simp] theorem Dev.incBy_whk (s : Dev) (f : RF) (n : Nat) : (s.incBy f n).whk = s.whk := rfl
@[simp] theorem Dev.incBy_sys (s : Dev) (f : RF) (n : Nat) : (s.incBy f n).sys = s.sys := rfl

/-! incSat -/

@[simp] theorem Dev.incSat_tx (s : Dev) (f : RF) : (s.incSat f).tx = s.tx := rfl
@[simp] theorem Dev.incSat_free (s : Dev) (f : RF) : (s.incSat f).free = s.free := rfl
@[simp] theorem Dev.incSat_regs (s : Dev) (f : RF) : (s.incSat f).regs = s.regs.wr f (satInc (2 ^ f.w - 1) (s.rd f)) := rfl
@[simp] theorem Dev.incSat_rwt (s : Dev) (f : RF) : (s.incSat f).rwt = s.rwt := rfl
@[simp] theorem Dev.incSat_time (s : Dev) (f : RF) : (s.incSat f).time = s.time := rfl
@[simp] theorem Dev.incSat_host (s : Dev) (f : RF) : (s.incSat f).host = s.host := rfl
@[simp] theorem Dev.incSat_ladle (s : Dev) (f : RF) : (s.incSat f).ladle = s.ladle := rfl
@[simp] theorem Dev.incSat_log (s : Dev) (f : RF) : (s.incSat f).log = s.log := rfl
@[simp] theorem Dev.incSat_logP (s : Dev) (f : RF) : (s.incSat f).logP = s.logP := rfl
@[simp] theorem Dev.incSat_nv (s : Dev) (f : RF) : (s.incSat f).nv = s.nv := rfl
@[simp] theorem Dev.incSat_cars (s : Dev) (f : RF) : (s.incSat f).cars = s.cars := rfl
@[simp] theorem Dev.incSat_evrs (s : Dev) (f : RF) : (s.incSat f).evrs = s.evrs := rfl
@[simp] theorem Dev.incSat_links (s : Dev) (f : RF) : (s.incSat f).links = s.links := rfl
@[simp] theorem Dev.incSat_bus (s : Dev) (f : RF) : (s.incSat f).bus = s.bus := rfl
@[simp] theorem Dev.incSat_ctn (s : Dev) (f : RF) : (s.incSat f).ctn = s.ctn := rfl
@[simp] theorem Dev.incSat_pbx (s : Dev) (f : RF) : (s.incSat f).pbx = s.pbx := rfl
@[simp] theorem Dev.incSat_tvt (s : Dev) (f : RF) : (s.incSat f).tvt = s.tvt := rfl
@[simp] theorem Dev.incSat_whk (s : Dev) (f : RF) : (s.incSat f).whk = s.whk := rfl
@[simp] theorem Dev.incSat_sys (s : Dev) (f : RF) : (s.incSat f).sys = s.sys := rfl

/-! emit -/

@[simp] theorem Dev.emit_tx (s : Dev) (o : Out) : (s.emit o).tx = o :: s.tx := rfl
@[simp] theorem Dev.emit_free (s : Dev) (o : Out) : (s.emit o).free = s.free := rfl
@[simp] theorem Dev.emit_regs (s : Dev) (o : Out) : (s.emit o).regs = s.regs := rfl
@[simp] theorem Dev.emit_rwt (s : Dev) (o : Out) : (s.emit o).rwt = s.rwt := rfl
@[simp] theorem Dev.emit_time (s : Dev) (o : Out) : (s.emit o).time = s.time := rfl
@[simp] theorem Dev.emit_host (s : Dev) (o : Out) : (s.emit o).host = s.host := rfl
@[simp] theorem Dev.emit_ladle (s : Dev) (o : Out) : (s.emit o).ladle = s.ladle := rfl
@[simp] theorem Dev.emit_log (s : Dev) (o : Out) : (s.emit o).log = s.log := rfl
@[simp] theorem Dev.emit_logP (s : Dev) (o : Out) : (s.emit o).logP = s.logP := rfl
@[simp] theorem Dev.emit_nv (s : Dev) (o : Out) : (s.emit o).nv = s.nv := rfl
@[simp] theorem Dev.emit_cars (s : Dev) (o : Out) : (s.emit o).cars = s.cars := rfl
@[simp] theorem Dev.emit_evrs (s : Dev) (o : Out) : (s.emit o).evrs = s.evrs := rfl
@[simp] theorem Dev.emit_links (s : Dev) (o : Out) : (s.emit o).links = s.links := rfl
@[simp] theorem Dev.emit_bus (s : Dev) (o : Out) : (s.emit o).bus = s.bus := rfl
@[simp] theorem Dev.emit_ctn (s : Dev) (o : Out) : (s.emit o).ctn = s.ctn := rfl
@[simp] theorem Dev.emit_pbx (s : Dev) (o : Out) : (s.emit o).pbx = s.pbx := rfl
@[simp] theorem Dev.emit_tvt (s : Dev) (o : Out) : (s.emit o).tvt = s.tvt := rfl
@[simp] theorem Dev.emit_whk (s : Dev) (o : Out) : (s.emit o).whk = s.whk := rfl
@[simp] theorem Dev.emit_sys (s : Dev) (o : Out) : (s.emit o).sys = s.sys := rfl

/-! emitHost -/

@[simp] theorem Dev.emitHost_tx (s : Dev) (o : Out) : (s.emitHost o).tx = o :: s.tx := rfl
@[simp] theorem Dev.emitHost_free (s : Dev) (o : Out) : (s.emitHost o).free = s.free := rfl
@[simp] theorem Dev.emitHost_regs (s : Dev) (o : Out) : (s.emitHost o).regs = s.regs := rfl
@[simp] theorem Dev.emitHost_rwt (s : Dev) (o : Out) : (s.emitHost o).rwt = s.rwt := rfl
@[simp] theorem Dev.emitHost_time (s : Dev) (o : Out) : (s.emitHost o).time = s.time := rfl
@[simp] theorem Dev.emitHost_host (s : Dev) (o : Out) : (s.emitHost o).host = { s.host with inL1 := false, busyGt := s.time.gt } := rfl
@[simp] theorem Dev.emitHost_ladle (s : Dev) (o : Out) : (s.emitHost o).ladle = s.ladle := rfl
@[simp] theorem Dev.emitHost_log (s : Dev) (o : Out) : (s.emitHost o).log = s.log := rfl
@[simp] theorem Dev.emitHost_logP (s : Dev) (o : Out) : (s.emitHost o).logP = s.logP := rfl
@[simp] theorem Dev.emitHost_nv (s : Dev) (o : Out) : (s.emitHost o).nv = s.nv := rfl
@[simp] theorem Dev.emitHost_cars (s : Dev) (o : Out) : (s.emitHost o).cars = s.cars := rfl
@[simp] theorem Dev.emitHost_evrs (s : Dev) (o : Out) : (s.emitHost o).evrs = s.evrs := rfl
@[simp] theorem Dev.emitHost_links (s : Dev) (o : Out) : (s.emitHost o).links = s.links := rfl
@[simp] theorem Dev.emitHost_bus (s : Dev) (o : Out) : (s.emitHost o).bus = s.bus := rfl
@[simp] theorem Dev.emitHost_ctn (s : Dev) (o : Out) : (s.emitHost o).ctn = s.ctn := rfl
@[simp] theorem Dev.emitHost_pbx (s : Dev) (o : Out) : (s.emitHost o).pbx = s.pbx := rfl
@[simp] theorem Dev.emitHost_tvt (s : Dev) (o : Out) : (s.emitHost o).tvt = s.tvt := rfl
@[simp] theorem Dev.emitHost_whk (s : Dev) (o : Out) : (s.emitHost o).whk = s.whk := rfl
@[simp] theorem Dev.emitHost_sys (s : Dev) (o : Out) : (s.emitHost o).sys = s.sys := rfl

/-! What a register reads depends on the register map alone -/

@[simp] theorem Dev.mapHost_rd (s : Dev) (g : HostSt → HostSt) (f : RF) : (s.mapHost g).rd f = s.rd f := rfl
@[simp] theorem Dev.mapTime_rd (s : Dev) (g : TimeSt → TimeSt) (f : RF) : (s.mapTime g).rd f = s.rd f := rfl
@[simp] theorem Dev.mapLdl_rd (s : Dev) (g : LadleSt → LadleSt) (f : RF) : (s.mapLdl g).rd f = s.rd f := rfl
@[simp] theorem Dev.mapLog_rd (s : Dev) (g : LogSt → LogSt) (f : RF) : (s.mapLog g).rd f = s.rd f := rfl
@[simp] theorem Dev.mapLogP_rd (s : Dev) (g : LogPersist → LogPersist) (f : RF) : (s.mapLogP g).rd f = s.rd f := rfl
@[simp] theorem Dev.mapNv_rd (s : Dev) (g : Nv → Nv) (f : RF) : (s.mapNv g).rd f = s.rd f := rfl
@[simp] theorem Dev.mapPbx_rd (s : Dev) (g : Pbx → Pbx) (f : RF) : (s.mapPbx g).rd f = s.rd f := rfl
@[simp] theorem Dev.mapTvt_rd (s : Dev) (g : Tvt → Tvt) (f : RF) : (s.mapTvt g).rd f = s.rd f := rfl
@[simp] theorem Dev.mapCtn_rd (s : Dev) (g : Ctn → Ctn) (f : RF) : (s.mapCtn g).rd f = s.rd f := rfl
@[simp] theorem Dev.mapWhk_rd (s : Dev) (g : Whk → Whk) (f : RF) : (s.mapWhk g).rd f = s.rd f := rfl
@[simp] theorem Dev.mapLink_rd (s : Dev) (n : Fin 16) (g : CLink → CLink) (f : RF) : (s.mapLink n g).rd f = s.rd f := rfl
@[simp] theorem Dev.mapChan_rd (s : Dev) (c : Fin 4) (g : Chan → Chan) (f : RF) : (s.mapChan c g).rd f = s.rd f := rfl
@[simp] theorem Dev.mapCar_rd (s : Dev) (n : Fin 16) (g : Car → Car) (f : RF) : (s.mapCar n g).rd f = s.rd f := rfl
@[simp] theorem Dev.emit_rd (s : Dev) (o : Out) (f : RF) : (s.emit o).rd f = s.rd f := rfl
@[simp] theorem Dev.emitHost_rd (s : Dev) (o : Out) (f : RF) : (s.emitHost o).rd f = s.rd f := rfl

end Sys2Proof.Machine
end

