-- ==== Sys2Proof/Laws/Ops.lean ====
section
/-! SUPPORT. The laws of the register map: read after write, writes to other fields, the canonical form. -/

namespace Sys2Proof.Machine

/-! Read after write -/

theorem RegMap.get_put_same (m : RegMap) (k v : Nat) : (m.put k v).get k = v := by
  induction m with
  | nil => simp [RegMap.put, RegMap.get]
  | cons p m ih =>
    obtain ⟨a, w⟩ := p
    simp only [RegMap.put]
    split
    · simp [RegMap.get]
    · split
      · simp [RegMap.get]
      · rename_i _ h
        have e : ¬a = k := fun e => h e.symm
        simp [RegMap.get, e, ih]

theorem RegMap.get_put_ne (m : RegMap) (k v : Nat) {j : Nat} (h : j ≠ k) : (m.put k v).get j = m.get j := by
  induction m with
  | nil => simp [RegMap.put, RegMap.get, h.symm]
  | cons p m ih =>
    obtain ⟨a, w⟩ := p
    simp only [RegMap.put]
    split
    · simp [RegMap.get, h.symm]
    · split
      · rename_i e
        subst e
        simp [RegMap.get, h.symm]
      · simp [RegMap.get, ih]

theorem RegMap.get_drop_same (m : RegMap) (k : Nat) : RegMap.get (m.filter fun p => p.1 ≠ k) k = 0 := by
  induction m with
  | nil => simp [RegMap.get]
  | cons p m ih =>
    obtain ⟨a, w⟩ := p
    by_cases h : a = k <;> simp [List.filter, RegMap.get, h] <;> simpa using ih

theorem RegMap.get_drop_ne (m : RegMap) (k : Nat) {j : Nat} (h : j ≠ k) :
    RegMap.get (m.filter fun p => p.1 ≠ k) j = m.get j := by
  induction m with
  | nil => simp [RegMap.get]
  | cons p m ih =>
    obtain ⟨a, w⟩ := p
    by_cases e : a = k
    · subst e
      simpa [List.filter, RegMap.get, h.symm] using ih
    · simp only [ne_eq, e, not_false_eq_true, decide_true, List.filter_cons_of_pos, RegMap.get]
      simpa using congrArg (fun x => if a = j then w else x) ih

@[simp] theorem RegMap.get_set_same (m : RegMap) (k v : Nat) : (m.set k v).get k = v := by
  by_cases h : v = 0
  · simpa [RegMap.set, h] using RegMap.get_drop_same m k
  · simp [RegMap.set, h, RegMap.get_put_same]

theorem RegMap.get_set_ne (m : RegMap) (k v : Nat) {j : Nat} (h : j ≠ k) : (m.set k v).get j = m.get j := by
  by_cases e : v = 0
  · simpa [RegMap.set, e] using RegMap.get_drop_ne m k h
  · simp [RegMap.set, e, RegMap.get_put_ne m k v h]

theorem RegMap.rd_wr_same (m : RegMap) (f : RF) (v : Nat) : (m.wr f v).rd f = v % 2 ^ f.w := by
  simp [RegMap.wr, RegMap.rd]

theorem RegMap.rd_wr_ne (m : RegMap) (f g : RF) (v : Nat) (h : g.key ≠ f.key) : (m.wr f v).rd g = m.rd g := by
  simp [RegMap.wr, RegMap.rd, RegMap.get_set_ne _ _ _ h]

theorem RegMap.rd_lt (m : RegMap) (f : RF) : m.rd f < 2 ^ f.w := Nat.mod_lt _ (Nat.two_pow_pos _)

/-- A field never reads a value its width cannot hold. -/
theorem Dev.rd_lt (s : Dev) (f : RF) : s.rd f < 2 ^ f.w := RegMap.rd_lt ..

@[simp] theorem Dev.rd_wr_same (s : Dev) (f : RF) (v : Nat) : (s.wr f v).rd f = v % 2 ^ f.w :=
  RegMap.rd_wr_same ..

theorem Dev.rd_wr_ne (s : Dev) (f g : RF) (v : Nat) (h : g.key ≠ f.key) : (s.wr f v).rd g = s.rd g :=
  RegMap.rd_wr_ne _ _ _ _ h

/-! The canonical form -/

theorem RegMap.wfFrom_mono {lo lo' : Nat} (h : lo' ≤ lo) : ∀ {m : RegMap}, m.wfFrom lo → m.wfFrom lo'
  | [], _ => rfl
  | (_, _) :: _, w => by
    simp only [RegMap.wfFrom, Bool.and_eq_true, decide_eq_true_eq] at w ⊢
    exact ⟨⟨Nat.le_trans h w.1.1, w.1.2⟩, w.2⟩

theorem RegMap.wfFrom_put {k v : Nat} (hv : v ≠ 0) : ∀ {m : RegMap} {lo : Nat}, lo ≤ k → m.wfFrom lo → (m.put k v).wfFrom lo
  | [], lo, hk, _ => by simp [RegMap.put, RegMap.wfFrom, hk, hv]
  | (a, w) :: m, lo, hk, h => by
    simp only [RegMap.wfFrom, Bool.and_eq_true, decide_eq_true_eq] at h
    simp only [RegMap.put]
    split
    · rename_i l
      simp [RegMap.wfFrom, hk, hv, h.1.2, h.2]
      omega
    · split
      · rename_i e
        subst e
        simp [RegMap.wfFrom, hk, hv, h.2]
      · have l : a + 1 ≤ k := by omega
        simp [RegMap.wfFrom, h.1.1, h.1.2, RegMap.wfFrom_put hv l h.2]

theorem RegMap.wfFrom_filter (p : Nat × Nat → Bool) : ∀ {m : RegMap} {lo : Nat}, m.wfFrom lo →
    RegMap.wfFrom lo (m.filter p)
  | [], _, _ => rfl
  | (a, w) :: m, lo, h => by
    simp only [RegMap.wfFrom, Bool.and_eq_true, decide_eq_true_eq] at h
    simp only [List.filter]
    split
    · simp [RegMap.wfFrom, h.1.1, h.1.2, RegMap.wfFrom_filter p h.2]
    · exact RegMap.wfFrom_mono (Nat.le_succ_of_le h.1.1) (RegMap.wfFrom_filter p h.2)

/-- Every write keeps the canonical form. -/
theorem RegMap.wf_set {m : RegMap} (k v : Nat) (h : m.wf) : (m.set k v).wf := by
  by_cases e : v = 0
  · simpa [RegMap.set, e, RegMap.wf] using RegMap.wfFrom_filter (fun p => p.1 ≠ k) h
  · simpa [RegMap.set, e, RegMap.wf] using RegMap.wfFrom_put e (Nat.zero_le k) h

theorem Dev.wf_wr {s : Dev} (f : RF) (v : Nat) (h : s.regs.wf) : (s.wr f v).regs.wf := RegMap.wf_set _ _ h

end Sys2Proof.Machine
end

