-- ==== Sys2Proof/Laws/Flags.lean ====
section
/-! SUPPORT. What writing a record and raising an event leave unchanged. -/

namespace Sys2Proof.Safety

open Sys2Proof.Machine

theorem SameCore.rfl' (s : Dev) : SameCore s s := by constructor <;> rfl

theorem SameCore.trans {s t u : Dev} (h : SameCore s t) (k : SameCore t u) : SameCore s u := by
  constructor
  · rw [k.free, h.free]
  · rw [k.rwt, h.rwt]
  · rw [k.time, h.time]
  · rw [k.ladle, h.ladle]
  · rw [k.nv, h.nv]
  · rw [k.cars, h.cars]
  · rw [k.evrs, h.evrs]
  · rw [k.links, h.links]
  · rw [k.bus, h.bus]
  · rw [k.ctn, h.ctn]
  · rw [k.pbx, h.pbx]
  · rw [k.tvt, h.tvt]
  · rw [k.whk, h.whk]
  · rw [k.sys, h.sys]

theorem Quiet.refl (s : Dev) : Quiet s s := ⟨SameCore.rfl' s, fun _ _ => rfl⟩

theorem Quiet.trans {s t u : Dev} (h : Quiet s t) (k : Quiet t u) : Quiet s u :=
  ⟨h.core.trans k.core, fun f a => (k.rd f a).trans (h.rd f a)⟩

end Sys2Proof.Safety

namespace Sys2Proof.Machine

open Sys2Proof.Safety

/-- A write of one of the event fields is quiet. -/
theorem Dev.quiet_wr (s : Dev) {g : RF} (h : g ∈ eventFields) (v : Nat) : Quiet s (s.wr g v) :=
  ⟨by constructor <;> rfl, fun f a => Dev.rd_wr_ne s g f v (a g h)⟩

/-- An update outside the core and the registers is quiet. -/
theorem Dev.quiet_of {s t : Dev} (c : SameCore s t) (r : t.regs = s.regs) : Quiet s t :=
  ⟨c, fun f _ => by simp [Dev.rd, r]⟩

theorem mem_lost {k : Nat} (h : k < 8) : Reg.RNG_EQ_LOST k ∈ eventFields := by
  simp [eventFields]; exact .inr (.inr (.inr ⟨k, h, .inr (.inl rfl)⟩))

theorem mem_tail {k : Nat} (h : k < 8) : Reg.RNG_EQ_STAT_TAIL k ∈ eventFields := by
  simp [eventFields]; exact .inr (.inr (.inr ⟨k, h, .inr (.inr (.inl rfl))⟩))

theorem mem_phase {k : Nat} (h : k < 8) : Reg.RNG_EQ_HEAD_PHASE k ∈ eventFields := by
  simp [eventFields]; exact .inr (.inr (.inr ⟨k, h, .inr (.inr (.inr rfl))⟩))

theorem mem_drop {k : Nat} (h : k < 8) : Reg.LOG_DROP k ∈ eventFields := by
  simp [eventFields]; exact .inr (.inr (.inr ⟨k, h, .inl rfl⟩))

theorem Dev.logDropped_quiet (s : Dev) (sev : Nat) : Quiet s (s.logDropped sev) :=
  (s.quiet_wr (mem_drop (Nat.mod_lt sev (by decide))) _).trans
    (Dev.quiet_of (by constructor <;> rfl) rfl)

theorem Dev.record_quiet (s : Dev) (r : Rec) : Quiet s (s.record r) := by
  unfold Dev.record
  split
  · exact Quiet.refl s
  · split
    · exact s.logDropped_quiet _
    · simp only [Dev.logReserve]
      split <;> exact Dev.quiet_of (by constructor <;> rfl) rfl

theorem Dev.note_quiet (s : Dev) (code sev src tclass tindex : Nat) (pay : List Part) :
    Quiet s (s.note code sev src tclass tindex pay) := s.record_quiet _

theorem Dev.emitHost_quiet (s : Dev) (o : Out) : Quiet s (s.emitHost o) := Dev.quiet_of (by constructor <;> rfl) rfl

theorem Dev.eqWrite_quiet (s : Dev) {e : Nat} (h : e < 8) (v : Evt) : Quiet s (s.eqWrite e v) := by
  simp only [Dev.eqWrite]
  generalize (if _ = 0 then _ else _ : Nat) = ph
  split
  · refine Quiet.trans ?_ (Dev.quiet_of (s := Dev.wr _ (Reg.RNG_EQ_HEAD_PHASE e) _) (by constructor <;> rfl) rfl)
    refine Quiet.trans ?_ (Dev.quiet_wr _ (mem_phase h) _)
    refine Quiet.trans ?_ (Dev.quiet_wr _ (mem_tail h) _)
    exact Dev.emitHost_quiet _ _
  · refine Quiet.trans ?_ (Dev.quiet_wr _ (mem_phase h) _)
    refine Quiet.trans ?_ (Dev.quiet_wr _ (mem_tail h) _)
    exact Dev.emitHost_quiet _ _

theorem Dev.wakeReason_quiet (s : Dev) (e : Nat) : Quiet s (s.wakeReason e) := by
  simp only [Dev.wakeReason]
  split
  · exact Dev.quiet_of (by constructor <;> rfl) rfl
  · exact ((s.quiet_wr (by simp [eventFields]) _).trans (Dev.quiet_wr _ (g := Reg.HST_WAKE_RSN_EQ) (by simp [eventFields]) _)).trans
      (Dev.quiet_of (by constructor <;> rfl) rfl)

theorem Dev.incSat_quiet (s : Dev) {g : RF} (h : g ∈ eventFields) : Quiet s (s.incSat g) := s.quiet_wr h _

theorem Dev.eqPost_quiet (s : Dev) {e : Nat} (h : e < 8) (v : Evt) : Quiet s (s.eqPost e v) := by
  unfold Dev.eqPost
  split
  · exact s.quiet_wr (mem_lost h) _
  · split
    · simp only []
      generalize ((s.on Reg.HST_STAT_D3 || s.host.recov) && bit (s.rd Reg.HST_WAKE_EN_EQ) e) = w
      refine Quiet.trans (t := if w then s.wakeReason e else s) ?_ ?_
      · split
        · exact s.wakeReason_quiet e
        · exact Quiet.refl s
      · generalize (if w then s.wakeReason e else s) = t
        split
        · exact (t.quiet_wr (mem_lost h) _).trans (Dev.incSat_quiet _ (by simp [eventFields]))
        · exact Dev.quiet_of (by constructor <;> rfl) rfl
    · split
      · exact s.quiet_wr (mem_lost h) _
      · exact s.eqWrite_quiet h v

theorem Dev.rdForce_lt (s : Dev) (f : RF) : s.rdForce f < 2 ^ f.w := by
  unfold Dev.rdForce
  split
  · exact Nat.mod_lt _ (Nat.two_pow_pos _)
  · exact s.rd_lt f

theorem Dev.steer_quiet (s : Dev) (v : Evt) : Quiet s (s.steer v) := by
  unfold Dev.steer
  split
  · exact s.eqPost_quiet (s.rdForce_lt (Reg.EVT_STEER_EQ v.src)) v
  · exact Quiet.refl s

/-- Raising an event changes no core part and no register apart from those of events. -/
theorem Dev.raiseSev_quiet (s : Dev) (e : Ev) (sev u : Nat) (pay ext : List Part) : Quiet s (s.raiseSev e sev u pay ext) :=
  ((Dev.quiet_of (s := s) (t := s.countEvt (s.mkEvt e sev u pay)) (by constructor <;> rfl) rfl).trans
    (Dev.record_quiet _ _)).trans (Dev.steer_quiet _ _)

theorem Dev.raise_quiet (s : Dev) (e : Ev) (u : Nat) (pay : List Part) : Quiet s (s.raise e u pay) :=
  s.raiseSev_quiet e e.sev u pay []

end Sys2Proof.Machine
end

