-- ==== Sys2Proof/Laws/Rings.lean ====
section
/-! SUPPORT. Posting a completion changes the host island, the Logbook and the registers of the rings alone. -/

namespace Sys2Proof.Machine

open Sys2Proof.Safety

theorem Dev.moderate_core (s : Dev) (i : Nat) (b : Bool) : SameCore s (s.moderate i b) := by
  unfold Dev.moderate; split <;> constructor <;> rfl

theorem Dev.cqWrite_core (s : Dev) (q : Nat) (c : Cqe) : SameCore s (s.cqWrite q c) := by
  refine SameCore.trans ?_ (Dev.moderate_core _ _ _)
  constructor <;> rfl

theorem Dev.traceAdd_core (s : Dev) (c : Cqe) (f : Nat) : SameCore s (s.traceAdd c f) := by
  unfold Dev.traceAdd; split <;> constructor <;> rfl

/-- Making room in the backlog changes the backlog, its counter and the Logbook alone. -/
theorem Dev.backRoom_core (s : Dev) : SameCore s s.backRoom := by
  simp only [Dev.backRoom]
  split
  · split
    · refine SameCore.trans (t := Dev.note _ 0x800A 5 42 0 0 _) ?_ (by constructor <;> rfl)
      exact SameCore.trans (by constructor <;> rfl) (Dev.note_quiet _ 0x800A 5 42 0 0 _).core
    · constructor <;> rfl
  · constructor <;> rfl

theorem Dev.backPush_core (s : Dev) (q : Nat) (c : Cqe) : SameCore s (s.backPush q c) :=
  SameCore.trans (Dev.backRoom_core s) (by constructor <;> rfl)

theorem Dev.post_core (s : Dev) (q dn : Nat) (c : Cqe) (f : Bool) : SameCore s (s.post q dn c f) := by
  simp only [Dev.post]
  split
  · exact (Dev.traceAdd_core ..).trans (Dev.backPush_core ..)
  · split
    · exact (Dev.traceAdd_core ..).trans (Dev.cqWrite_core ..)
    · exact (Dev.traceAdd_core ..).trans (Dev.backPush_core ..)

theorem Dev.postFinal_core (s : Dev) (q dn : Nat) (c : Cqe) : SameCore s (s.postFinal q dn c) := Dev.post_core ..

theorem Dev.postAdm_core (s : Dev) (q dn : Nat) (c : Cqe) : SameCore s (s.postAdm q dn c) := Dev.post_core ..

theorem Dev.dseqAdvance_core (sq : Nat) : ∀ (n : Nat) (s : Dev), SameCore s (s.dseqAdvance sq n)
  | 0, s => SameCore.rfl' s
  | n + 1, s => by
    simp only [Dev.dseqAdvance]
    split
    · exact SameCore.trans (by constructor <;> rfl) (Dev.dseqAdvance_core sq n _)
    · exact SameCore.rfl' s

theorem Dev.markInert_core (s : Dev) (sq dn : Nat) : SameCore s (s.markInert sq dn) := by
  simp only [Dev.markInert]
  split
  · refine SameCore.trans ?_ (Dev.dseqAdvance_core ..)
    constructor <;> rfl
  · constructor <;> rfl

theorem Dev.flushFrom_core : ∀ (l : List AdmSlot) (h : List (Nat × Nat)) (s : Dev), SameCore s (s.flushFrom h l)
  | [], _, s => SameCore.rfl' s
  | a :: l, h, s => by
    simp only [Dev.flushFrom]
    split
    · split
      · exact Dev.flushFrom_core l _ s
      · refine SameCore.trans ?_ (Dev.flushFrom_core l _ _)
        split
        · refine SameCore.trans ?_ (Dev.postFinal_core ..)
          refine SameCore.trans ?_ (Dev.postAdm_core ..)
          constructor <;> rfl
        · refine SameCore.trans ?_ (Dev.postAdm_core ..)
          constructor <;> rfl
    · exact Dev.flushFrom_core l _ s

theorem Dev.flushAdm_core (s : Dev) : SameCore s s.flushAdm := Dev.flushFrom_core ..

/-- The result of an admission, set and posted, changes no core part. -/
theorem Dev.admSet_core (s : Dev) (sq dn : Nat) (r : AdmRes) : SameCore s (s.admSet sq dn r) := by
  simp only [Dev.admSet]
  refine SameCore.trans ?_ (Dev.flushAdm_core _)
  split
  · refine SameCore.trans ?_ (Dev.markInert_core ..)
    constructor <;> rfl
  · constructor <;> rfl

theorem Dev.finalize_core (s : Dev) (dn : Nat) (c : Cqe) : SameCore s (s.finalize dn c) := by
  simp only [Dev.finalize]
  split
  · constructor <;> rfl
  · exact Dev.postFinal_core ..

theorem Dev.drainFrom_core (q : Nat) : ∀ (l : List BackEnt) (s : Dev), SameCore s (s.drainFrom q l)
  | [], s => SameCore.rfl' s
  | b :: l, s => by
    simp only [Dev.drainFrom]
    split
    · refine SameCore.trans ?_ (Dev.drainFrom_core q l _)
      refine SameCore.trans ?_ (Dev.cqWrite_core ..)
      constructor <;> rfl
    · exact Dev.drainFrom_core q l s

theorem Dev.drainCq_core (s : Dev) (q : Nat) : SameCore s (s.drainCq q) := Dev.drainFrom_core ..

theorem Dev.moveHead_core (s : Dev) (q n : Nat) : SameCore s (s.moveHead q n) := by
  unfold Dev.moveHead; split <;> constructor <;> rfl

/-- Counting a descriptor changes the registers of its ring and the admission slots alone. -/
theorem Dev.fetchOne_core (s : Dev) (q : Nat) (b : List Byte) (op : Nat) : SameCore s (s.fetchOne q b op).2 := by
  simp only [Dev.fetchOne]
  split
  · constructor <;> rfl
  · refine SameCore.trans (t := (s.inc (Reg.RNG_SQ_SEQ q)).moveHead q _) ?_ (by constructor <;> rfl)
    exact SameCore.trans (by constructor <;> rfl) (Dev.moveHead_core ..)

end Sys2Proof.Machine
end

