-- ==== Sys2Proof/Laws/Admit.lean ====
section
/-! SUPPORT. What the admission of a descriptor comes to: refused by a common check, or handed to its opcode. -/

namespace Sys2Proof.Machine

theorem Dev.admit_refused {s : Dev} {op sq : Nat} {b : List Byte} (go : Dev → Nat → Admission) {st : Nat}
    (h : (s.fetchOne sq b op).2.precheck op sq b = some st) :
    s.tryAdmit op sq b go = (s.fetchOne sq b op).2.admSet sq (s.fetchOne sq b op).1 (AdmRes.refuse st) := by
  unfold Dev.tryAdmit
  revert h
  generalize s.fetchOne sq b op = p
  obtain ⟨dn, d⟩ := p
  intro h
  simp only [h]

/-- Past the common checks with a result: the effect is taken and the admission answered. -/
theorem Dev.admit_done {s : Dev} {op sq : Nat} {b : List Byte} (go : Dev → Nat → Admission) {x : Dev} {r : AdmRes}
    (h : (s.fetchOne sq b op).2.precheck op sq b = none)
    (g : go (s.fetchOne sq b op).2 (s.fetchOne sq b op).1 = (x, some r)) :
    s.tryAdmit op sq b go = x.admSet sq (s.fetchOne sq b op).1 r := by
  unfold Dev.tryAdmit
  revert h g
  generalize s.fetchOne sq b op = p
  obtain ⟨dn, d⟩ := p
  intro h g
  simp only [h, g]

/-- Past the common checks into a long operation: the effect is taken and the admission waits. -/
theorem Dev.admit_long {s : Dev} {op sq : Nat} {b : List Byte} (go : Dev → Nat → Admission) {x : Dev}
    (h : (s.fetchOne sq b op).2.precheck op sq b = none)
    (g : go (s.fetchOne sq b op).2 (s.fetchOne sq b op).1 = (x, none)) :
    s.tryAdmit op sq b go = x := by
  unfold Dev.tryAdmit
  revert h g
  generalize s.fetchOne sq b op = p
  obtain ⟨dn, d⟩ := p
  intro h g
  simp only [h, g]

end Sys2Proof.Machine
end

