-- ==== Sys2Proof/Laws/Slice.lean ====
section
/-! SUPPORT. One lemma for each field of a slice and each of its updates; what queueing a record and settling the outputs
leave unchanged. -/

namespace Sys2Proof.Machine

/-! wr -/

@[simp] theorem Slice.wr_tx (s : Slice) (f : Nat → RF) (v : Nat) : (s.wr f v).tx = s.tx := rfl
@[simp] theorem Slice.wr_free (s : Slice) (f : Nat → RF) (v : Nat) : (s.wr f v).free = s.free := rfl
@[simp] theorem Slice.wr_board (s : Slice) (f : Nat → RF) (v : Nat) : (s.wr f v).board = s.board := rfl
@[simp] theorem Slice.wr_on (s : Slice) (f : Nat → RF) (v : Nat) : (s.wr f v).on = s.on := rfl
@[simp] theorem Slice.wr_gt (s : Slice) (f : Nat → RF) (v : Nat) : (s.wr f v).gt = s.gt := rfl
@[simp] theorem Slice.wr_markGt (s : Slice) (f : Nat → RF) (v : Nat) : (s.wr f v).markGt = s.markGt := rfl
@[simp] theorem Slice.wr_guardGt (s : Slice) (f : Nat → RF) (v : Nat) : (s.wr f v).guardGt = s.guardGt := rfl
@[simp] theorem Slice.wr_cfgGt (s : Slice) (f : Nat → RF) (v : Nat) : (s.wr f v).cfgGt = s.cfgGt := rfl
@[simp] theorem Slice.wr_aligned (s : Slice) (f : Nat → RF) (v : Nat) : (s.wr f v).aligned = s.aligned := rfl
@[simp] theorem Slice.wr_slew (s : Slice) (f : Nat → RF) (v : Nat) : (s.wr f v).slew = s.slew := rfl
@[simp] theorem Slice.wr_regs (s : Slice) (f : Nat → RF) (v : Nat) : (s.wr f v).regs = s.regs.wr (f 0) v := rfl
@[simp] theorem Slice.wr_cfg (s : Slice) (f : Nat → RF) (v : Nat) : (s.wr f v).cfg = s.cfg := rfl
@[simp] theorem Slice.wr_cfgNext (s : Slice) (f : Nat → RF) (v : Nat) : (s.wr f v).cfgNext = s.cfgNext := rfl
@[simp] theorem Slice.wr_cfgRx (s : Slice) (f : Nat → RF) (v : Nat) : (s.wr f v).cfgRx = s.cfgRx := rfl
@[simp] theorem Slice.wr_arb (s : Slice) (f : Nat → RF) (v : Nat) : (s.wr f v).arb = s.arb := rfl
@[simp] theorem Slice.wr_grant (s : Slice) (f : Nat → RF) (v : Nat) : (s.wr f v).grant = s.grant := rfl
@[simp] theorem Slice.wr_ports (s : Slice) (f : Nat → RF) (v : Nat) : (s.wr f v).ports = s.ports := rfl
@[simp] theorem Slice.wr_acts (s : Slice) (f : Nat → RF) (v : Nat) : (s.wr f v).acts = s.acts := rfl
@[simp] theorem Slice.wr_room (s : Slice) (f : Nat → RF) (v : Nat) : (s.wr f v).room = s.room := rfl
@[simp] theorem Slice.wr_doors (s : Slice) (f : Nat → RF) (v : Nat) : (s.wr f v).doors = s.doors := rfl
@[simp] theorem Slice.wr_fio (s : Slice) (f : Nat → RF) (v : Nat) : (s.wr f v).fio = s.fio := rfl
@[simp] theorem Slice.wr_lse (s : Slice) (f : Nat → RF) (v : Nat) : (s.wr f v).lse = s.lse := rfl
@[simp] theorem Slice.wr_lamps (s : Slice) (f : Nat → RF) (v : Nat) : (s.wr f v).lamps = s.lamps := rfl
@[simp] theorem Slice.wr_hels (s : Slice) (f : Nat → RF) (v : Nat) : (s.wr f v).hels = s.hels := rfl

/-! inc -/

@[simp] theorem Slice.inc_tx (s : Slice) (f : Nat → RF) : (s.inc f).tx = s.tx := rfl
@[simp] theorem Slice.inc_free (s : Slice) (f : Nat → RF) : (s.inc f).free = s.free := rfl
@[simp] theorem Slice.inc_board (s : Slice) (f : Nat → RF) : (s.inc f).board = s.board := rfl
@[simp] theorem Slice.inc_on (s : Slice) (f : Nat → RF) : (s.inc f).on = s.on := rfl
@[simp] theorem Slice.inc_gt (s : Slice) (f : Nat → RF) : (s.inc f).gt = s.gt := rfl
@[simp] theorem Slice.inc_markGt (s : Slice) (f : Nat → RF) : (s.inc f).markGt = s.markGt := rfl
@[simp] theorem Slice.inc_guardGt (s : Slice) (f : Nat → RF) : (s.inc f).guardGt = s.guardGt := rfl
@[simp] theorem Slice.inc_cfgGt (s : Slice) (f : Nat → RF) : (s.inc f).cfgGt = s.cfgGt := rfl
@[simp] theorem Slice.inc_aligned (s : Slice) (f : Nat → RF) : (s.inc f).aligned = s.aligned := rfl
@[simp] theorem Slice.inc_slew (s : Slice) (f : Nat → RF) : (s.inc f).slew = s.slew := rfl
@[simp] theorem Slice.inc_regs (s : Slice) (f : Nat → RF) : (s.inc f).regs = s.regs.wr (f 0) (s.rd f + 1) := rfl
@[simp] theorem Slice.inc_cfg (s : Slice) (f : Nat → RF) : (s.inc f).cfg = s.cfg := rfl
@[simp] theorem Slice.inc_cfgNext (s : Slice) (f : Nat → RF) : (s.inc f).cfgNext = s.cfgNext := rfl
@[simp] theorem Slice.inc_cfgRx (s : Slice) (f : Nat → RF) : (s.inc f).cfgRx = s.cfgRx := rfl
@[simp] theorem Slice.inc_arb (s : Slice) (f : Nat → RF) : (s.inc f).arb = s.arb := rfl
@[simp] theorem Slice.inc_grant (s : Slice) (f : Nat → RF) : (s.inc f).grant = s.grant := rfl
@[simp] theorem Slice.inc_ports (s : Slice) (f : Nat → RF) : (s.inc f).ports = s.ports := rfl
@[simp] theorem Slice.inc_acts (s : Slice) (f : Nat → RF) : (s.inc f).acts = s.acts := rfl
@[simp] theorem Slice.inc_room (s : Slice) (f : Nat → RF) : (s.inc f).room = s.room := rfl
@[simp] theorem Slice.inc_doors (s : Slice) (f : Nat → RF) : (s.inc f).doors = s.doors := rfl
@[simp] theorem Slice.inc_fio (s : Slice) (f : Nat → RF) : (s.inc f).fio = s.fio := rfl
@[simp] theorem Slice.inc_lse (s : Slice) (f : Nat → RF) : (s.inc f).lse = s.lse := rfl
@[simp] theorem Slice.inc_lamps (s : Slice) (f : Nat → RF) : (s.inc f).lamps = s.lamps := rfl
@[simp] theorem Slice.inc_hels (s : Slice) (f : Nat → RF) : (s.inc f).hels = s.hels := rfl

/-! flag -/

@[simp] theorem Slice.flag_tx (s : Slice) (f : Nat → RF) (b : Bool) : (s.flag f b).tx = s.tx := rfl
@[simp] theorem Slice.flag_free (s : Slice) (f : Nat → RF) (b : Bool) : (s.flag f b).free = s.free := rfl
@[simp] theorem Slice.flag_board (s : Slice) (f : Nat → RF) (b : Bool) : (s.flag f b).board = s.board := rfl
@[simp] theorem Slice.flag_on (s : Slice) (f : Nat → RF) (b : Bool) : (s.flag f b).on = s.on := rfl
@[simp] theorem Slice.flag_gt (s : Slice) (f : Nat → RF) (b : Bool) : (s.flag f b).gt = s.gt := rfl
@[simp] theorem Slice.flag_markGt (s : Slice) (f : Nat → RF) (b : Bool) : (s.flag f b).markGt = s.markGt := rfl
@[simp] theorem Slice.flag_guardGt (s : Slice) (f : Nat → RF) (b : Bool) : (s.flag f b).guardGt = s.guardGt := rfl
@[simp] theorem Slice.flag_cfgGt (s : Slice) (f : Nat → RF) (b : Bool) : (s.flag f b).cfgGt = s.cfgGt := rfl
@[simp] theorem Slice.flag_aligned (s : Slice) (f : Nat → RF) (b : Bool) : (s.flag f b).aligned = s.aligned := rfl
@[simp] theorem Slice.flag_slew (s : Slice) (f : Nat → RF) (b : Bool) : (s.flag f b).slew = s.slew := rfl
@[simp] theorem Slice.flag_regs (s : Slice) (f : Nat → RF) (b : Bool) : (s.flag f b).regs = s.regs.wr (f 0) (b2n b) := rfl
@[simp] theorem Slice.flag_cfg (s : Slice) (f : Nat → RF) (b : Bool) : (s.flag f b).cfg = s.cfg := rfl
@[simp] theorem Slice.flag_cfgNext (s : Slice) (f : Nat → RF) (b : Bool) : (s.flag f b).cfgNext = s.cfgNext := rfl
@[simp] theorem Slice.flag_cfgRx (s : Slice) (f : Nat → RF) (b : Bool) : (s.flag f b).cfgRx = s.cfgRx := rfl
@[simp] theorem Slice.flag_arb (s : Slice) (f : Nat → RF) (b : Bool) : (s.flag f b).arb = s.arb := rfl
@[simp] theorem Slice.flag_grant (s : Slice) (f : Nat → RF) (b : Bool) : (s.flag f b).grant = s.grant := rfl
@[simp] theorem Slice.flag_ports (s : Slice) (f : Nat → RF) (b : Bool) : (s.flag f b).ports = s.ports := rfl
@[simp] theorem Slice.flag_acts (s : Slice) (f : Nat → RF) (b : Bool) : (s.flag f b).acts = s.acts := rfl
@[simp] theorem Slice.flag_room (s : Slice) (f : Nat → RF) (b : Bool) : (s.flag f b).room = s.room := rfl
@[simp] theorem Slice.flag_doors (s : Slice) (f : Nat → RF) (b : Bool) : (s.flag f b).doors = s.doors := rfl
@[simp] theorem Slice.flag_fio (s : Slice) (f : Nat → RF) (b : Bool) : (s.flag f b).fio = s.fio := rfl
@[simp] theorem Slice.flag_lse (s : Slice) (f : Nat → RF) (b : Bool) : (s.flag f b).lse = s.lse := rfl
@[simp] theorem Slice.flag_lamps (s : Slice) (f : Nat → RF) (b : Bool) : (s.flag f b).lamps = s.lamps := rfl
@[simp] theorem Slice.flag_hels (s : Slice) (f : Nat → RF) (b : Bool) : (s.flag f b).hels = s.hels := rfl

/-! mapPort -/

@[simp] theorem Slice.mapPort_tx (s : Slice) (p : Fin 2) (f : SPort → SPort) : (s.mapPort p f).tx = s.tx := rfl
@[simp] theorem Slice.mapPort_free (s : Slice) (p : Fin 2) (f : SPort → SPort) : (s.mapPort p f).free = s.free := rfl
@[simp] theorem Slice.mapPort_board (s : Slice) (p : Fin 2) (f : SPort → SPort) : (s.mapPort p f).board = s.board := rfl
@[simp] theorem Slice.mapPort_on (s : Slice) (p : Fin 2) (f : SPort → SPort) : (s.mapPort p f).on = s.on := rfl
@[simp] theorem Slice.mapPort_gt (s : Slice) (p : Fin 2) (f : SPort → SPort) : (s.mapPort p f).gt = s.gt := rfl
@[simp] theorem Slice.mapPort_markGt (s : Slice) (p : Fin 2) (f : SPort → SPort) : (s.mapPort p f).markGt = s.markGt := rfl
@[simp] theorem Slice.mapPort_guardGt (s : Slice) (p : Fin 2) (f : SPort → SPort) : (s.mapPort p f).guardGt = s.guardGt := rfl
@[simp] theorem Slice.mapPort_cfgGt (s : Slice) (p : Fin 2) (f : SPort → SPort) : (s.mapPort p f).cfgGt = s.cfgGt := rfl
@[simp] theorem Slice.mapPort_aligned (s : Slice) (p : Fin 2) (f : SPort → SPort) : (s.mapPort p f).aligned = s.aligned := rfl
@[simp] theorem Slice.mapPort_slew (s : Slice) (p : Fin 2) (f : SPort → SPort) : (s.mapPort p f).slew = s.slew := rfl
@[simp] theorem Slice.mapPort_regs (s : Slice) (p : Fin 2) (f : SPort → SPort) : (s.mapPort p f).regs = s.regs := rfl
@[simp] theorem Slice.mapPort_cfg (s : Slice) (p : Fin 2) (f : SPort → SPort) : (s.mapPort p f).cfg = s.cfg := rfl
@[simp] theorem Slice.mapPort_cfgNext (s : Slice) (p : Fin 2) (f : SPort → SPort) : (s.mapPort p f).cfgNext = s.cfgNext := rfl
@[simp] theorem Slice.mapPort_cfgRx (s : Slice) (p : Fin 2) (f : SPort → SPort) : (s.mapPort p f).cfgRx = s.cfgRx := rfl
@[simp] theorem Slice.mapPort_arb (s : Slice) (p : Fin 2) (f : SPort → SPort) : (s.mapPort p f).arb = s.arb := rfl
@[simp] theorem Slice.mapPort_grant (s : Slice) (p : Fin 2) (f : SPort → SPort) : (s.mapPort p f).grant = s.grant := rfl
@[simp] theorem Slice.mapPort_ports (s : Slice) (p : Fin 2) (f : SPort → SPort) : (s.mapPort p f).ports = s.ports.set p (f s.ports[p]) := rfl
@[simp] theorem Slice.mapPort_acts (s : Slice) (p : Fin 2) (f : SPort → SPort) : (s.mapPort p f).acts = s.acts := rfl
@[simp] theorem Slice.mapPort_room (s : Slice) (p : Fin 2) (f : SPort → SPort) : (s.mapPort p f).room = s.room := rfl
@[simp] theorem Slice.mapPort_doors (s : Slice) (p : Fin 2) (f : SPort → SPort) : (s.mapPort p f).doors = s.doors := rfl
@[simp] theorem Slice.mapPort_fio (s : Slice) (p : Fin 2) (f : SPort → SPort) : (s.mapPort p f).fio = s.fio := rfl
@[simp] theorem Slice.mapPort_lse (s : Slice) (p : Fin 2) (f : SPort → SPort) : (s.mapPort p f).lse = s.lse := rfl
@[simp] theorem Slice.mapPort_lamps (s : Slice) (p : Fin 2) (f : SPort → SPort) : (s.mapPort p f).lamps = s.lamps := rfl
@[simp] theorem Slice.mapPort_hels (s : Slice) (p : Fin 2) (f : SPort → SPort) : (s.mapPort p f).hels = s.hels := rfl

/-! mapDoor -/

@[simp] theorem Slice.mapDoor_tx (s : Slice) (d : Fin 2) (f : Door → Door) : (s.mapDoor d f).tx = s.tx := rfl
@[simp] theorem Slice.mapDoor_free (s : Slice) (d : Fin 2) (f : Door → Door) : (s.mapDoor d f).free = s.free := rfl
@[simp] theorem Slice.mapDoor_board (s : Slice) (d : Fin 2) (f : Door → Door) : (s.mapDoor d f).board = s.board := rfl
@[simp] theorem Slice.mapDoor_on (s : Slice) (d : Fin 2) (f : Door → Door) : (s.mapDoor d f).on = s.on := rfl
@[simp] theorem Slice.mapDoor_gt (s : Slice) (d : Fin 2) (f : Door → Door) : (s.mapDoor d f).gt = s.gt := rfl
@[simp] theorem Slice.mapDoor_markGt (s : Slice) (d : Fin 2) (f : Door → Door) : (s.mapDoor d f).markGt = s.markGt := rfl
@[simp] theorem Slice.mapDoor_guardGt (s : Slice) (d : Fin 2) (f : Door → Door) : (s.mapDoor d f).guardGt = s.guardGt := rfl
@[simp] theorem Slice.mapDoor_cfgGt (s : Slice) (d : Fin 2) (f : Door → Door) : (s.mapDoor d f).cfgGt = s.cfgGt := rfl
@[simp] theorem Slice.mapDoor_aligned (s : Slice) (d : Fin 2) (f : Door → Door) : (s.mapDoor d f).aligned = s.aligned := rfl
@[simp] theorem Slice.mapDoor_slew (s : Slice) (d : Fin 2) (f : Door → Door) : (s.mapDoor d f).slew = s.slew := rfl
@[simp] theorem Slice.mapDoor_regs (s : Slice) (d : Fin 2) (f : Door → Door) : (s.mapDoor d f).regs = s.regs := rfl
@[simp] theorem Slice.mapDoor_cfg (s : Slice) (d : Fin 2) (f : Door → Door) : (s.mapDoor d f).cfg = s.cfg := rfl
@[simp] theorem Slice.mapDoor_cfgNext (s : Slice) (d : Fin 2) (f : Door → Door) : (s.mapDoor d f).cfgNext = s.cfgNext := rfl
@[simp] theorem Slice.mapDoor_cfgRx (s : Slice) (d : Fin 2) (f : Door → Door) : (s.mapDoor d f).cfgRx = s.cfgRx := rfl
@[simp] theorem Slice.mapDoor_arb (s : Slice) (d : Fin 2) (f : Door → Door) : (s.mapDoor d f).arb = s.arb := rfl
@[simp] theorem Slice.mapDoor_grant (s : Slice) (d : Fin 2) (f : Door → Door) : (s.mapDoor d f).grant = s.grant := rfl
@[simp] theorem Slice.mapDoor_ports (s : Slice) (d : Fin 2) (f : Door → Door) : (s.mapDoor d f).ports = s.ports := rfl
@[simp] theorem Slice.mapDoor_acts (s : Slice) (d : Fin 2) (f : Door → Door) : (s.mapDoor d f).acts = s.acts := rfl
@[simp] theorem Slice.mapDoor_room (s : Slice) (d : Fin 2) (f : Door → Door) : (s.mapDoor d f).room = s.room := rfl
@[simp] theorem Slice.mapDoor_doors (s : Slice) (d : Fin 2) (f : Door → Door) : (s.mapDoor d f).doors = s.doors.set d (f s.doors[d]) := rfl
@[simp] theorem Slice.mapDoor_fio (s : Slice) (d : Fin 2) (f : Door → Door) : (s.mapDoor d f).fio = s.fio := rfl
@[simp] theorem Slice.mapDoor_lse (s : Slice) (d : Fin 2) (f : Door → Door) : (s.mapDoor d f).lse = s.lse := rfl
@[simp] theorem Slice.mapDoor_lamps (s : Slice) (d : Fin 2) (f : Door → Door) : (s.mapDoor d f).lamps = s.lamps := rfl
@[simp] theorem Slice.mapDoor_hels (s : Slice) (d : Fin 2) (f : Door → Door) : (s.mapDoor d f).hels = s.hels := rfl

/-! mapHel -/

@[simp] theorem Slice.mapHel_tx (s : Slice) (p : Fin 2) (f : Hel → Hel) : (s.mapHel p f).tx = s.tx := rfl
@[simp] theorem Slice.mapHel_free (s : Slice) (p : Fin 2) (f : Hel → Hel) : (s.mapHel p f).free = s.free := rfl
@[simp] theorem Slice.mapHel_board (s : Slice) (p : Fin 2) (f : Hel → Hel) : (s.mapHel p f).board = s.board := rfl
@[simp] theorem Slice.mapHel_on (s : Slice) (p : Fin 2) (f : Hel → Hel) : (s.mapHel p f).on = s.on := rfl
@[simp] theorem Slice.mapHel_gt (s : Slice) (p : Fin 2) (f : Hel → Hel) : (s.mapHel p f).gt = s.gt := rfl
@[simp] theorem Slice.mapHel_markGt (s : Slice) (p : Fin 2) (f : Hel → Hel) : (s.mapHel p f).markGt = s.markGt := rfl
@[simp] theorem Slice.mapHel_guardGt (s : Slice) (p : Fin 2) (f : Hel → Hel) : (s.mapHel p f).guardGt = s.guardGt := rfl
@[simp] theorem Slice.mapHel_cfgGt (s : Slice) (p : Fin 2) (f : Hel → Hel) : (s.mapHel p f).cfgGt = s.cfgGt := rfl
@[simp] theorem Slice.mapHel_aligned (s : Slice) (p : Fin 2) (f : Hel → Hel) : (s.mapHel p f).aligned = s.aligned := rfl
@[simp] theorem Slice.mapHel_slew (s : Slice) (p : Fin 2) (f : Hel → Hel) : (s.mapHel p f).slew = s.slew := rfl
@[simp] theorem Slice.mapHel_regs (s : Slice) (p : Fin 2) (f : Hel → Hel) : (s.mapHel p f).regs = s.regs := rfl
@[simp] theorem Slice.mapHel_cfg (s : Slice) (p : Fin 2) (f : Hel → Hel) : (s.mapHel p f).cfg = s.cfg := rfl
@[simp] theorem Slice.mapHel_cfgNext (s : Slice) (p : Fin 2) (f : Hel → Hel) : (s.mapHel p f).cfgNext = s.cfgNext := rfl
@[simp] theorem Slice.mapHel_cfgRx (s : Slice) (p : Fin 2) (f : Hel → Hel) : (s.mapHel p f).cfgRx = s.cfgRx := rfl
@[simp] theorem Slice.mapHel_arb (s : Slice) (p : Fin 2) (f : Hel → Hel) : (s.mapHel p f).arb = s.arb := rfl
@[simp] theorem Slice.mapHel_grant (s : Slice) (p : Fin 2) (f : Hel → Hel) : (s.mapHel p f).grant = s.grant := rfl
@[simp] theorem Slice.mapHel_ports (s : Slice) (p : Fin 2) (f : Hel → Hel) : (s.mapHel p f).ports = s.ports := rfl
@[simp] theorem Slice.mapHel_acts (s : Slice) (p : Fin 2) (f : Hel → Hel) : (s.mapHel p f).acts = s.acts := rfl
@[simp] theorem Slice.mapHel_room (s : Slice) (p : Fin 2) (f : Hel → Hel) : (s.mapHel p f).room = s.room := rfl
@[simp] theorem Slice.mapHel_doors (s : Slice) (p : Fin 2) (f : Hel → Hel) : (s.mapHel p f).doors = s.doors := rfl
@[simp] theorem Slice.mapHel_fio (s : Slice) (p : Fin 2) (f : Hel → Hel) : (s.mapHel p f).fio = s.fio := rfl
@[simp] theorem Slice.mapHel_lse (s : Slice) (p : Fin 2) (f : Hel → Hel) : (s.mapHel p f).lse = s.lse := rfl
@[simp] theorem Slice.mapHel_lamps (s : Slice) (p : Fin 2) (f : Hel → Hel) : (s.mapHel p f).lamps = s.lamps := rfl
@[simp] theorem Slice.mapHel_hels (s : Slice) (p : Fin 2) (f : Hel → Hel) : (s.mapHel p f).hels = s.hels.set p (f s.hels[p]) := rfl

/-! mapFio -/

@[simp] theorem Slice.mapFio_tx (s : Slice) (f : Fio → Fio) : (s.mapFio f).tx = s.tx := rfl
@[simp] theorem Slice.mapFio_free (s : Slice) (f : Fio → Fio) : (s.mapFio f).free = s.free := rfl
@[simp] theorem Slice.mapFio_board (s : Slice) (f : Fio → Fio) : (s.mapFio f).board = s.board := rfl
@[simp] theorem Slice.mapFio_on (s : Slice) (f : Fio → Fio) : (s.mapFio f).on = s.on := rfl
@[simp] theorem Slice.mapFio_gt (s : Slice) (f : Fio → Fio) : (s.mapFio f).gt = s.gt := rfl
@[simp] theorem Slice.mapFio_markGt (s : Slice) (f : Fio → Fio) : (s.mapFio f).markGt = s.markGt := rfl
@[simp] theorem Slice.mapFio_guardGt (s : Slice) (f : Fio → Fio) : (s.mapFio f).guardGt = s.guardGt := rfl
@[simp] theorem Slice.mapFio_cfgGt (s : Slice) (f : Fio → Fio) : (s.mapFio f).cfgGt = s.cfgGt := rfl
@[simp] theorem Slice.mapFio_aligned (s : Slice) (f : Fio → Fio) : (s.mapFio f).aligned = s.aligned := rfl
@[simp] theorem Slice.mapFio_slew (s : Slice) (f : Fio → Fio) : (s.mapFio f).slew = s.slew := rfl
@[simp] theorem Slice.mapFio_regs (s : Slice) (f : Fio → Fio) : (s.mapFio f).regs = s.regs := rfl
@[simp] theorem Slice.mapFio_cfg (s : Slice) (f : Fio → Fio) : (s.mapFio f).cfg = s.cfg := rfl
@[simp] theorem Slice.mapFio_cfgNext (s : Slice) (f : Fio → Fio) : (s.mapFio f).cfgNext = s.cfgNext := rfl
@[simp] theorem Slice.mapFio_cfgRx (s : Slice) (f : Fio → Fio) : (s.mapFio f).cfgRx = s.cfgRx := rfl
@[simp] theorem Slice.mapFio_arb (s : Slice) (f : Fio → Fio) : (s.mapFio f).arb = s.arb := rfl
@[simp] theorem Slice.mapFio_grant (s : Slice) (f : Fio → Fio) : (s.mapFio f).grant = s.grant := rfl
@[simp] theorem Slice.mapFio_ports (s : Slice) (f : Fio → Fio) : (s.mapFio f).ports = s.ports := rfl
@[simp] theorem Slice.mapFio_acts (s : Slice) (f : Fio → Fio) : (s.mapFio f).acts = s.acts := rfl
@[simp] theorem Slice.mapFio_room (s : Slice) (f : Fio → Fio) : (s.mapFio f).room = s.room := rfl
@[simp] theorem Slice.mapFio_doors (s : Slice) (f : Fio → Fio) : (s.mapFio f).doors = s.doors := rfl
@[simp] theorem Slice.mapFio_fio (s : Slice) (f : Fio → Fio) : (s.mapFio f).fio = f s.fio := rfl
@[simp] theorem Slice.mapFio_lse (s : Slice) (f : Fio → Fio) : (s.mapFio f).lse = s.lse := rfl
@[simp] theorem Slice.mapFio_lamps (s : Slice) (f : Fio → Fio) : (s.mapFio f).lamps = s.lamps := rfl
@[simp] theorem Slice.mapFio_hels (s : Slice) (f : Fio → Fio) : (s.mapFio f).hels = s.hels := rfl

/-! mapLse -/

@[simp] theorem Slice.mapLse_tx (s : Slice) (f : Lse → Lse) : (s.mapLse f).tx = s.tx := rfl
@[simp] theorem Slice.mapLse_free (s : Slice) (f : Lse → Lse) : (s.mapLse f).free = s.free := rfl
@[simp] theorem Slice.mapLse_board (s : Slice) (f : Lse → Lse) : (s.mapLse f).board = s.board := rfl
@[simp] theorem Slice.mapLse_on (s : Slice) (f : Lse → Lse) : (s.mapLse f).on = s.on := rfl
@[simp] theorem Slice.mapLse_gt (s : Slice) (f : Lse → Lse) : (s.mapLse f).gt = s.gt := rfl
@[simp] theorem Slice.mapLse_markGt (s : Slice) (f : Lse → Lse) : (s.mapLse f).markGt = s.markGt := rfl
@[simp] theorem Slice.mapLse_guardGt (s : Slice) (f : Lse → Lse) : (s.mapLse f).guardGt = s.guardGt := rfl
@[simp] theorem Slice.mapLse_cfgGt (s : Slice) (f : Lse → Lse) : (s.mapLse f).cfgGt = s.cfgGt := rfl
@[simp] theorem Slice.mapLse_aligned (s : Slice) (f : Lse → Lse) : (s.mapLse f).aligned = s.aligned := rfl
@[simp] theorem Slice.mapLse_slew (s : Slice) (f : Lse → Lse) : (s.mapLse f).slew = s.slew := rfl
@[simp] theorem Slice.mapLse_regs (s : Slice) (f : Lse → Lse) : (s.mapLse f).regs = s.regs := rfl
@[simp] theorem Slice.mapLse_cfg (s : Slice) (f : Lse → Lse) : (s.mapLse f).cfg = s.cfg := rfl
@[simp] theorem Slice.mapLse_cfgNext (s : Slice) (f : Lse → Lse) : (s.mapLse f).cfgNext = s.cfgNext := rfl
@[simp] theorem Slice.mapLse_cfgRx (s : Slice) (f : Lse → Lse) : (s.mapLse f).cfgRx = s.cfgRx := rfl
@[simp] theorem Slice.mapLse_arb (s : Slice) (f : Lse → Lse) : (s.mapLse f).arb = s.arb := rfl
@[simp] theorem Slice.mapLse_grant (s : Slice) (f : Lse → Lse) : (s.mapLse f).grant = s.grant := rfl
@[simp] theorem Slice.mapLse_ports (s : Slice) (f : Lse → Lse) : (s.mapLse f).ports = s.ports := rfl
@[simp] theorem Slice.mapLse_acts (s : Slice) (f : Lse → Lse) : (s.mapLse f).acts = s.acts := rfl
@[simp] theorem Slice.mapLse_room (s : Slice) (f : Lse → Lse) : (s.mapLse f).room = s.room := rfl
@[simp] theorem Slice.mapLse_doors (s : Slice) (f : Lse → Lse) : (s.mapLse f).doors = s.doors := rfl
@[simp] theorem Slice.mapLse_fio (s : Slice) (f : Lse → Lse) : (s.mapLse f).fio = s.fio := rfl
@[simp] theorem Slice.mapLse_lse (s : Slice) (f : Lse → Lse) : (s.mapLse f).lse = f s.lse := rfl
@[simp] theorem Slice.mapLse_lamps (s : Slice) (f : Lse → Lse) : (s.mapLse f).lamps = s.lamps := rfl
@[simp] theorem Slice.mapLse_hels (s : Slice) (f : Lse → Lse) : (s.mapLse f).hels = s.hels := rfl

/-! mapLamps -/

@[simp] theorem Slice.mapLamps_tx (s : Slice) (f : Lamps → Lamps) : (s.mapLamps f).tx = s.tx := rfl
@[simp] theorem Slice.mapLamps_free (s : Slice) (f : Lamps → Lamps) : (s.mapLamps f).free = s.free := rfl
@[simp] theorem Slice.mapLamps_board (s : Slice) (f : Lamps → Lamps) : (s.mapLamps f).board = s.board := rfl
@[simp] theorem Slice.mapLamps_on (s : Slice) (f : Lamps → Lamps) : (s.mapLamps f).on = s.on := rfl
@[simp] theorem Slice.mapLamps_gt (s : Slice) (f : Lamps → Lamps) : (s.mapLamps f).gt = s.gt := rfl
@[simp] theorem Slice.mapLamps_markGt (s : Slice) (f : Lamps → Lamps) : (s.mapLamps f).markGt = s.markGt := rfl
@[simp] theorem Slice.mapLamps_guardGt (s : Slice) (f : Lamps → Lamps) : (s.mapLamps f).guardGt = s.guardGt := rfl
@[simp] theorem Slice.mapLamps_cfgGt (s : Slice) (f : Lamps → Lamps) : (s.mapLamps f).cfgGt = s.cfgGt := rfl
@[simp] theorem Slice.mapLamps_aligned (s : Slice) (f : Lamps → Lamps) : (s.mapLamps f).aligned = s.aligned := rfl
@[simp] theorem Slice.mapLamps_slew (s : Slice) (f : Lamps → Lamps) : (s.mapLamps f).slew = s.slew := rfl
@[simp] theorem Slice.mapLamps_regs (s : Slice) (f : Lamps → Lamps) : (s.mapLamps f).regs = s.regs := rfl
@[simp] theorem Slice.mapLamps_cfg (s : Slice) (f : Lamps → Lamps) : (s.mapLamps f).cfg = s.cfg := rfl
@[simp] theorem Slice.mapLamps_cfgNext (s : Slice) (f : Lamps → Lamps) : (s.mapLamps f).cfgNext = s.cfgNext := rfl
@[simp] theorem Slice.mapLamps_cfgRx (s : Slice) (f : Lamps → Lamps) : (s.mapLamps f).cfgRx = s.cfgRx := rfl
@[simp] theorem Slice.mapLamps_arb (s : Slice) (f : Lamps → Lamps) : (s.mapLamps f).arb = s.arb := rfl
@[simp] theorem Slice.mapLamps_grant (s : Slice) (f : Lamps → Lamps) : (s.mapLamps f).grant = s.grant := rfl
@[simp] theorem Slice.mapLamps_ports (s : Slice) (f : Lamps → Lamps) : (s.mapLamps f).ports = s.ports := rfl
@[simp] theorem Slice.mapLamps_acts (s : Slice) (f : Lamps → Lamps) : (s.mapLamps f).acts = s.acts := rfl
@[simp] theorem Slice.mapLamps_room (s : Slice) (f : Lamps → Lamps) : (s.mapLamps f).room = s.room := rfl
@[simp] theorem Slice.mapLamps_doors (s : Slice) (f : Lamps → Lamps) : (s.mapLamps f).doors = s.doors := rfl
@[simp] theorem Slice.mapLamps_fio (s : Slice) (f : Lamps → Lamps) : (s.mapLamps f).fio = s.fio := rfl
@[simp] theorem Slice.mapLamps_lse (s : Slice) (f : Lamps → Lamps) : (s.mapLamps f).lse = s.lse := rfl
@[simp] theorem Slice.mapLamps_lamps (s : Slice) (f : Lamps → Lamps) : (s.mapLamps f).lamps = f s.lamps := rfl
@[simp] theorem Slice.mapLamps_hels (s : Slice) (f : Lamps → Lamps) : (s.mapLamps f).hels = s.hels := rfl

/-! emit -/

@[simp] theorem Slice.emit_tx (s : Slice) (o : SOut) : (s.emit o).tx = o :: s.tx := rfl
@[simp] theorem Slice.emit_free (s : Slice) (o : SOut) : (s.emit o).free = s.free := rfl
@[simp] theorem Slice.emit_board (s : Slice) (o : SOut) : (s.emit o).board = s.board := rfl
@[simp] theorem Slice.emit_on (s : Slice) (o : SOut) : (s.emit o).on = s.on := rfl
@[simp] theorem Slice.emit_gt (s : Slice) (o : SOut) : (s.emit o).gt = s.gt := rfl
@[simp] theorem Slice.emit_markGt (s : Slice) (o : SOut) : (s.emit o).markGt = s.markGt := rfl
@[simp] theorem Slice.emit_guardGt (s : Slice) (o : SOut) : (s.emit o).guardGt = s.guardGt := rfl
@[simp] theorem Slice.emit_cfgGt (s : Slice) (o : SOut) : (s.emit o).cfgGt = s.cfgGt := rfl
@[simp] theorem Slice.emit_aligned (s : Slice) (o : SOut) : (s.emit o).aligned = s.aligned := rfl
@[simp] theorem Slice.emit_slew (s : Slice) (o : SOut) : (s.emit o).slew = s.slew := rfl
@[simp] theorem Slice.emit_regs (s : Slice) (o : SOut) : (s.emit o).regs = s.regs := rfl
@[simp] theorem Slice.emit_cfg (s : Slice) (o : SOut) : (s.emit o).cfg = s.cfg := rfl
@[simp] theorem Slice.emit_cfgNext (s : Slice) (o : SOut) : (s.emit o).cfgNext = s.cfgNext := rfl
@[simp] theorem Slice.emit_cfgRx (s : Slice) (o : SOut) : (s.emit o).cfgRx = s.cfgRx := rfl
@[simp] theorem Slice.emit_arb (s : Slice) (o : SOut) : (s.emit o).arb = s.arb := rfl
@[simp] theorem Slice.emit_grant (s : Slice) (o : SOut) : (s.emit o).grant = s.grant := rfl
@[simp] theorem Slice.emit_ports (s : Slice) (o : SOut) : (s.emit o).ports = s.ports := rfl
@[simp] theorem Slice.emit_acts (s : Slice) (o : SOut) : (s.emit o).acts = s.acts := rfl
@[simp] theorem Slice.emit_room (s : Slice) (o : SOut) : (s.emit o).room = s.room := rfl
@[simp] theorem Slice.emit_doors (s : Slice) (o : SOut) : (s.emit o).doors = s.doors := rfl
@[simp] theorem Slice.emit_fio (s : Slice) (o : SOut) : (s.emit o).fio = s.fio := rfl
@[simp] theorem Slice.emit_lse (s : Slice) (o : SOut) : (s.emit o).lse = s.lse := rfl
@[simp] theorem Slice.emit_lamps (s : Slice) (o : SOut) : (s.emit o).lamps = s.lamps := rfl
@[simp] theorem Slice.emit_hels (s : Slice) (o : SOut) : (s.emit o).hels = s.hels := rfl

theorem Slice.rd_wr_same (s : Slice) (f : Nat → RF) (v : Nat) : (s.wr f v).rd f = v % 2 ^ (f 0).w := RegMap.rd_wr_same ..

theorem Slice.rd_wr_ne (s : Slice) (f g : Nat → RF) (v : Nat) (h : (g 0).key ≠ (f 0).key) : (s.wr f v).rd g = s.rd g :=
  RegMap.rd_wr_ne _ _ _ _ h

/-- Settings are read from the active configuration alone. -/
theorem Slice.set_of_cfg {s t : Slice} (h : t.cfg = s.cfg) (f : Nat → RF) : t.set f = s.set f := by simp [Slice.set, h]

/-! What queueing a record changes: its port or the count of a full queue -/

@[simp] theorem Slice.queueTo_tx (s : Slice) (p : Fin 2) (ty : Nat) (b : List Byte) : (s.queueTo p ty b).tx = s.tx := by
  unfold Slice.queueTo; split <;> rfl
@[simp] theorem Slice.queueTo_free (s : Slice) (p : Fin 2) (ty : Nat) (b : List Byte) : (s.queueTo p ty b).free = s.free := by
  unfold Slice.queueTo; split <;> rfl
@[simp] theorem Slice.queueTo_board (s : Slice) (p : Fin 2) (ty : Nat) (b : List Byte) : (s.queueTo p ty b).board = s.board := by
  unfold Slice.queueTo; split <;> rfl
@[simp] theorem Slice.queueTo_on (s : Slice) (p : Fin 2) (ty : Nat) (b : List Byte) : (s.queueTo p ty b).on = s.on := by
  unfold Slice.queueTo; split <;> rfl
@[simp] theorem Slice.queueTo_gt (s : Slice) (p : Fin 2) (ty : Nat) (b : List Byte) : (s.queueTo p ty b).gt = s.gt := by
  unfold Slice.queueTo; split <;> rfl
@[simp] theorem Slice.queueTo_markGt (s : Slice) (p : Fin 2) (ty : Nat) (b : List Byte) : (s.queueTo p ty b).markGt = s.markGt := by
  unfold Slice.queueTo; split <;> rfl
@[simp] theorem Slice.queueTo_guardGt (s : Slice) (p : Fin 2) (ty : Nat) (b : List Byte) : (s.queueTo p ty b).guardGt = s.guardGt := by
  unfold Slice.queueTo; split <;> rfl
@[simp] theorem Slice.queueTo_cfgGt (s : Slice) (p : Fin 2) (ty : Nat) (b : List Byte) : (s.queueTo p ty b).cfgGt = s.cfgGt := by
  unfold Slice.queueTo; split <;> rfl
@[simp] theorem Slice.queueTo_aligned (s : Slice) (p : Fin 2) (ty : Nat) (b : List Byte) : (s.queueTo p ty b).aligned = s.aligned := by
  unfold Slice.queueTo; split <;> rfl
@[simp] theorem Slice.queueTo_slew (s : Slice) (p : Fin 2) (ty : Nat) (b : List Byte) : (s.queueTo p ty b).slew = s.slew := by
  unfold Slice.queueTo; split <;> rfl
@[simp] theorem Slice.queueTo_cfg (s : Slice) (p : Fin 2) (ty : Nat) (b : List Byte) : (s.queueTo p ty b).cfg = s.cfg := by
  unfold Slice.queueTo; split <;> rfl
@[simp] theorem Slice.queueTo_cfgNext (s : Slice) (p : Fin 2) (ty : Nat) (b : List Byte) : (s.queueTo p ty b).cfgNext = s.cfgNext := by
  unfold Slice.queueTo; split <;> rfl
@[simp] theorem Slice.queueTo_cfgRx (s : Slice) (p : Fin 2) (ty : Nat) (b : List Byte) : (s.queueTo p ty b).cfgRx = s.cfgRx := by
  unfold Slice.queueTo; split <;> rfl
@[simp] theorem Slice.queueTo_arb (s : Slice) (p : Fin 2) (ty : Nat) (b : List Byte) : (s.queueTo p ty b).arb = s.arb := by
  unfold Slice.queueTo; split <;> rfl
@[simp] theorem Slice.queueTo_grant (s : Slice) (p : Fin 2) (ty : Nat) (b : List Byte) : (s.queueTo p ty b).grant = s.grant := by
  unfold Slice.queueTo; split <;> rfl
@[simp] theorem Slice.queueTo_acts (s : Slice) (p : Fin 2) (ty : Nat) (b : List Byte) : (s.queueTo p ty b).acts = s.acts := by
  unfold Slice.queueTo; split <;> rfl
@[simp] theorem Slice.queueTo_room (s : Slice) (p : Fin 2) (ty : Nat) (b : List Byte) : (s.queueTo p ty b).room = s.room := by
  unfold Slice.queueTo; split <;> rfl
@[simp] theorem Slice.queueTo_doors (s : Slice) (p : Fin 2) (ty : Nat) (b : List Byte) : (s.queueTo p ty b).doors = s.doors := by
  unfold Slice.queueTo; split <;> rfl
@[simp] theorem Slice.queueTo_fio (s : Slice) (p : Fin 2) (ty : Nat) (b : List Byte) : (s.queueTo p ty b).fio = s.fio := by
  unfold Slice.queueTo; split <;> rfl
@[simp] theorem Slice.queueTo_lse (s : Slice) (p : Fin 2) (ty : Nat) (b : List Byte) : (s.queueTo p ty b).lse = s.lse := by
  unfold Slice.queueTo; split <;> rfl
@[simp] theorem Slice.queueTo_lamps (s : Slice) (p : Fin 2) (ty : Nat) (b : List Byte) : (s.queueTo p ty b).lamps = s.lamps := by
  unfold Slice.queueTo; split <;> rfl
@[simp] theorem Slice.queueTo_hels (s : Slice) (p : Fin 2) (ty : Nat) (b : List Byte) : (s.queueTo p ty b).hels = s.hels := by
  unfold Slice.queueTo; split <;> rfl

/-! An event record, a door record -/

@[simp] theorem Slice.queueAll_tx (s : Slice) (ty : Nat) (b : List Byte) : (s.queueAll ty b).tx = s.tx := by simp [Slice.queueAll]
@[simp] theorem Slice.queueAll_free (s : Slice) (ty : Nat) (b : List Byte) : (s.queueAll ty b).free = s.free := by simp [Slice.queueAll]
@[simp] theorem Slice.queueAll_board (s : Slice) (ty : Nat) (b : List Byte) : (s.queueAll ty b).board = s.board := by simp [Slice.queueAll]
@[simp] theorem Slice.queueAll_on (s : Slice) (ty : Nat) (b : List Byte) : (s.queueAll ty b).on = s.on := by simp [Slice.queueAll]
@[simp] theorem Slice.queueAll_gt (s : Slice) (ty : Nat) (b : List Byte) : (s.queueAll ty b).gt = s.gt := by simp [Slice.queueAll]
@[simp] theorem Slice.queueAll_markGt (s : Slice) (ty : Nat) (b : List Byte) : (s.queueAll ty b).markGt = s.markGt := by simp [Slice.queueAll]
@[simp] theorem Slice.queueAll_guardGt (s : Slice) (ty : Nat) (b : List Byte) : (s.queueAll ty b).guardGt = s.guardGt := by simp [Slice.queueAll]
@[simp] theorem Slice.queueAll_cfgGt (s : Slice) (ty : Nat) (b : List Byte) : (s.queueAll ty b).cfgGt = s.cfgGt := by simp [Slice.queueAll]
@[simp] theorem Slice.queueAll_aligned (s : Slice) (ty : Nat) (b : List Byte) : (s.queueAll ty b).aligned = s.aligned := by simp [Slice.queueAll]
@[simp] theorem Slice.queueAll_slew (s : Slice) (ty : Nat) (b : List Byte) : (s.queueAll ty b).slew = s.slew := by simp [Slice.queueAll]
@[simp] theorem Slice.queueAll_cfg (s : Slice) (ty : Nat) (b : List Byte) : (s.queueAll ty b).cfg = s.cfg := by simp [Slice.queueAll]
@[simp] theorem Slice.queueAll_cfgNext (s : Slice) (ty : Nat) (b : List Byte) : (s.queueAll ty b).cfgNext = s.cfgNext := by simp [Slice.queueAll]
@[simp] theorem Slice.queueAll_cfgRx (s : Slice) (ty : Nat) (b : List Byte) : (s.queueAll ty b).cfgRx = s.cfgRx := by simp [Slice.queueAll]
@[simp] theorem Slice.queueAll_arb (s : Slice) (ty : Nat) (b : List Byte) : (s.queueAll ty b).arb = s.arb := by simp [Slice.queueAll]
@[simp] theorem Slice.queueAll_grant (s : Slice) (ty : Nat) (b : List Byte) : (s.queueAll ty b).grant = s.grant := by simp [Slice.queueAll]
@[simp] theorem Slice.queueAll_acts (s : Slice) (ty : Nat) (b : List Byte) : (s.queueAll ty b).acts = s.acts := by simp [Slice.queueAll]
@[simp] theorem Slice.queueAll_room (s : Slice) (ty : Nat) (b : List Byte) : (s.queueAll ty b).room = s.room := by simp [Slice.queueAll]
@[simp] theorem Slice.queueAll_doors (s : Slice) (ty : Nat) (b : List Byte) : (s.queueAll ty b).doors = s.doors := by simp [Slice.queueAll]
@[simp] theorem Slice.queueAll_fio (s : Slice) (ty : Nat) (b : List Byte) : (s.queueAll ty b).fio = s.fio := by simp [Slice.queueAll]
@[simp] theorem Slice.queueAll_lse (s : Slice) (ty : Nat) (b : List Byte) : (s.queueAll ty b).lse = s.lse := by simp [Slice.queueAll]
@[simp] theorem Slice.queueAll_lamps (s : Slice) (ty : Nat) (b : List Byte) : (s.queueAll ty b).lamps = s.lamps := by simp [Slice.queueAll]
@[simp] theorem Slice.queueAll_hels (s : Slice) (ty : Nat) (b : List Byte) : (s.queueAll ty b).hels = s.hels := by simp [Slice.queueAll]
@[simp] theorem Slice.evt_tx (s : Slice) (e : Ev) (len : Nat) (pay : List Part) : (s.evt e len pay).tx = s.tx := by simp [Slice.evt]
@[simp] theorem Slice.evt_free (s : Slice) (e : Ev) (len : Nat) (pay : List Part) : (s.evt e len pay).free = s.free := by simp [Slice.evt]
@[simp] theorem Slice.evt_board (s : Slice) (e : Ev) (len : Nat) (pay : List Part) : (s.evt e len pay).board = s.board := by simp [Slice.evt]
@[simp] theorem Slice.evt_on (s : Slice) (e : Ev) (len : Nat) (pay : List Part) : (s.evt e len pay).on = s.on := by simp [Slice.evt]
@[simp] theorem Slice.evt_gt (s : Slice) (e : Ev) (len : Nat) (pay : List Part) : (s.evt e len pay).gt = s.gt := by simp [Slice.evt]
@[simp] theorem Slice.evt_markGt (s : Slice) (e : Ev) (len : Nat) (pay : List Part) : (s.evt e len pay).markGt = s.markGt := by simp [Slice.evt]
@[simp] theorem Slice.evt_guardGt (s : Slice) (e : Ev) (len : Nat) (pay : List Part) : (s.evt e len pay).guardGt = s.guardGt := by simp [Slice.evt]
@[simp] theorem Slice.evt_cfgGt (s : Slice) (e : Ev) (len : Nat) (pay : List Part) : (s.evt e len pay).cfgGt = s.cfgGt := by simp [Slice.evt]
@[simp] theorem Slice.evt_aligned (s : Slice) (e : Ev) (len : Nat) (pay : List Part) : (s.evt e len pay).aligned = s.aligned := by simp [Slice.evt]
@[simp] theorem Slice.evt_slew (s : Slice) (e : Ev) (len : Nat) (pay : List Part) : (s.evt e len pay).slew = s.slew := by simp [Slice.evt]
@[simp] theorem Slice.evt_cfg (s : Slice) (e : Ev) (len : Nat) (pay : List Part) : (s.evt e len pay).cfg = s.cfg := by simp [Slice.evt]
@[simp] theorem Slice.evt_cfgNext (s : Slice) (e : Ev) (len : Nat) (pay : List Part) : (s.evt e len pay).cfgNext = s.cfgNext := by simp [Slice.evt]
@[simp] theorem Slice.evt_cfgRx (s : Slice) (e : Ev) (len : Nat) (pay : List Part) : (s.evt e len pay).cfgRx = s.cfgRx := by simp [Slice.evt]
@[simp] theorem Slice.evt_arb (s : Slice) (e : Ev) (len : Nat) (pay : List Part) : (s.evt e len pay).arb = s.arb := by simp [Slice.evt]
@[simp] theorem Slice.evt_grant (s : Slice) (e : Ev) (len : Nat) (pay : List Part) : (s.evt e len pay).grant = s.grant := by simp [Slice.evt]
@[simp] theorem Slice.evt_acts (s : Slice) (e : Ev) (len : Nat) (pay : List Part) : (s.evt e len pay).acts = s.acts := by simp [Slice.evt]
@[simp] theorem Slice.evt_room (s : Slice) (e : Ev) (len : Nat) (pay : List Part) : (s.evt e len pay).room = s.room := by simp [Slice.evt]
@[simp] theorem Slice.evt_doors (s : Slice) (e : Ev) (len : Nat) (pay : List Part) : (s.evt e len pay).doors = s.doors := by simp [Slice.evt]
@[simp] theorem Slice.evt_fio (s : Slice) (e : Ev) (len : Nat) (pay : List Part) : (s.evt e len pay).fio = s.fio := by simp [Slice.evt]
@[simp] theorem Slice.evt_lse (s : Slice) (e : Ev) (len : Nat) (pay : List Part) : (s.evt e len pay).lse = s.lse := by simp [Slice.evt]
@[simp] theorem Slice.evt_lamps (s : Slice) (e : Ev) (len : Nat) (pay : List Part) : (s.evt e len pay).lamps = s.lamps := by simp [Slice.evt]
@[simp] theorem Slice.evt_hels (s : Slice) (e : Ev) (len : Nat) (pay : List Part) : (s.evt e len pay).hels = s.hels := by simp [Slice.evt]
@[simp] theorem Slice.dev_tx (s : Slice) (d : Fin 2) (old new cause : Nat) : (s.dev d old new cause).tx = s.tx := by simp [Slice.dev]
@[simp] theorem Slice.dev_free (s : Slice) (d : Fin 2) (old new cause : Nat) : (s.dev d old new cause).free = s.free := by simp [Slice.dev]
@[simp] theorem Slice.dev_board (s : Slice) (d : Fin 2) (old new cause : Nat) : (s.dev d old new cause).board = s.board := by simp [Slice.dev]
@[simp] theorem Slice.dev_on (s : Slice) (d : Fin 2) (old new cause : Nat) : (s.dev d old new cause).on = s.on := by simp [Slice.dev]
@[simp] theorem Slice.dev_gt (s : Slice) (d : Fin 2) (old new cause : Nat) : (s.dev d old new cause).gt = s.gt := by simp [Slice.dev]
@[simp] theorem Slice.dev_markGt (s : Slice) (d : Fin 2) (old new cause : Nat) : (s.dev d old new cause).markGt = s.markGt := by simp [Slice.dev]
@[simp] theorem Slice.dev_guardGt (s : Slice) (d : Fin 2) (old new cause : Nat) : (s.dev d old new cause).guardGt = s.guardGt := by simp [Slice.dev]
@[simp] theorem Slice.dev_cfgGt (s : Slice) (d : Fin 2) (old new cause : Nat) : (s.dev d old new cause).cfgGt = s.cfgGt := by simp [Slice.dev]
@[simp] theorem Slice.dev_aligned (s : Slice) (d : Fin 2) (old new cause : Nat) : (s.dev d old new cause).aligned = s.aligned := by simp [Slice.dev]
@[simp] theorem Slice.dev_slew (s : Slice) (d : Fin 2) (old new cause : Nat) : (s.dev d old new cause).slew = s.slew := by simp [Slice.dev]
@[simp] theorem Slice.dev_cfg (s : Slice) (d : Fin 2) (old new cause : Nat) : (s.dev d old new cause).cfg = s.cfg := by simp [Slice.dev]
@[simp] theorem Slice.dev_cfgNext (s : Slice) (d : Fin 2) (old new cause : Nat) : (s.dev d old new cause).cfgNext = s.cfgNext := by simp [Slice.dev]
@[simp] theorem Slice.dev_cfgRx (s : Slice) (d : Fin 2) (old new cause : Nat) : (s.dev d old new cause).cfgRx = s.cfgRx := by simp [Slice.dev]
@[simp] theorem Slice.dev_arb (s : Slice) (d : Fin 2) (old new cause : Nat) : (s.dev d old new cause).arb = s.arb := by simp [Slice.dev]
@[simp] theorem Slice.dev_grant (s : Slice) (d : Fin 2) (old new cause : Nat) : (s.dev d old new cause).grant = s.grant := by simp [Slice.dev]
@[simp] theorem Slice.dev_acts (s : Slice) (d : Fin 2) (old new cause : Nat) : (s.dev d old new cause).acts = s.acts := by simp [Slice.dev]
@[simp] theorem Slice.dev_room (s : Slice) (d : Fin 2) (old new cause : Nat) : (s.dev d old new cause).room = s.room := by simp [Slice.dev]
@[simp] theorem Slice.dev_doors (s : Slice) (d : Fin 2) (old new cause : Nat) : (s.dev d old new cause).doors = s.doors := by simp [Slice.dev]
@[simp] theorem Slice.dev_fio (s : Slice) (d : Fin 2) (old new cause : Nat) : (s.dev d old new cause).fio = s.fio := by simp [Slice.dev]
@[simp] theorem Slice.dev_lse (s : Slice) (d : Fin 2) (old new cause : Nat) : (s.dev d old new cause).lse = s.lse := by simp [Slice.dev]
@[simp] theorem Slice.dev_lamps (s : Slice) (d : Fin 2) (old new cause : Nat) : (s.dev d old new cause).lamps = s.lamps := by simp [Slice.dev]
@[simp] theorem Slice.dev_hels (s : Slice) (d : Fin 2) (old new cause : Nat) : (s.dev d old new cause).hels = s.hels := by simp [Slice.dev]

/-! The common fault and the outputs -/

@[simp] theorem Slice.faultRule_tx (s : Slice) : s.faultRule.tx = s.tx := by
  simp only [Slice.faultRule]; split; · simp
  split <;> simp
@[simp] theorem Slice.faultRule_free (s : Slice) : s.faultRule.free = s.free := by
  simp only [Slice.faultRule]; split; · simp
  split <;> simp
@[simp] theorem Slice.faultRule_board (s : Slice) : s.faultRule.board = s.board := by
  simp only [Slice.faultRule]; split; · simp
  split <;> simp
@[simp] theorem Slice.faultRule_on (s : Slice) : s.faultRule.on = s.on := by
  simp only [Slice.faultRule]; split; · simp
  split <;> simp
@[simp] theorem Slice.faultRule_gt (s : Slice) : s.faultRule.gt = s.gt := by
  simp only [Slice.faultRule]; split; · simp
  split <;> simp
@[simp] theorem Slice.faultRule_markGt (s : Slice) : s.faultRule.markGt = s.markGt := by
  simp only [Slice.faultRule]; split; · simp
  split <;> simp
@[simp] theorem Slice.faultRule_guardGt (s : Slice) : s.faultRule.guardGt = s.guardGt := by
  simp only [Slice.faultRule]; split; · simp
  split <;> simp
@[simp] theorem Slice.faultRule_cfgGt (s : Slice) : s.faultRule.cfgGt = s.cfgGt := by
  simp only [Slice.faultRule]; split; · simp
  split <;> simp
@[simp] theorem Slice.faultRule_aligned (s : Slice) : s.faultRule.aligned = s.aligned := by
  simp only [Slice.faultRule]; split; · simp
  split <;> simp
@[simp] theorem Slice.faultRule_slew (s : Slice) : s.faultRule.slew = s.slew := by
  simp only [Slice.faultRule]; split; · simp
  split <;> simp
@[simp] theorem Slice.faultRule_cfg (s : Slice) : s.faultRule.cfg = s.cfg := by
  simp only [Slice.faultRule]; split; · simp
  split <;> simp
@[simp] theorem Slice.faultRule_cfgNext (s : Slice) : s.faultRule.cfgNext = s.cfgNext := by
  simp only [Slice.faultRule]; split; · simp
  split <;> simp
@[simp] theorem Slice.faultRule_cfgRx (s : Slice) : s.faultRule.cfgRx = s.cfgRx := by
  simp only [Slice.faultRule]; split; · simp
  split <;> simp
@[simp] theorem Slice.faultRule_arb (s : Slice) : s.faultRule.arb = s.arb := by
  simp only [Slice.faultRule]; split; · simp
  split <;> simp
@[simp] theorem Slice.faultRule_grant (s : Slice) : s.faultRule.grant = s.grant := by
  simp only [Slice.faultRule]; split; · simp
  split <;> simp
@[simp] theorem Slice.faultRule_acts (s : Slice) : s.faultRule.acts = s.acts := by
  simp only [Slice.faultRule]; split; · simp
  split <;> simp
@[simp] theorem Slice.faultRule_room (s : Slice) : s.faultRule.room = s.room := by
  simp only [Slice.faultRule]; split; · simp
  split <;> simp
@[simp] theorem Slice.faultRule_doors (s : Slice) : s.faultRule.doors = s.doors := by
  simp only [Slice.faultRule]; split; · simp
  split <;> simp
@[simp] theorem Slice.faultRule_lse (s : Slice) : s.faultRule.lse = s.lse := by
  simp only [Slice.faultRule]; split; · simp
  split <;> simp
@[simp] theorem Slice.faultRule_lamps (s : Slice) : s.faultRule.lamps = s.lamps := by
  simp only [Slice.faultRule]; split; · simp
  split <;> simp
@[simp] theorem Slice.faultRule_hels (s : Slice) : s.faultRule.hels = s.hels := by
  simp only [Slice.faultRule]; split; · simp
  split <;> simp
@[simp] theorem Slice.settle_tx (s : Slice) : s.settle.tx = s.tx := by simp [Slice.settle, Slice.heatRule, Slice.noteDemand]
@[simp] theorem Slice.settle_free (s : Slice) : s.settle.free = s.free := by simp [Slice.settle, Slice.heatRule, Slice.noteDemand]
@[simp] theorem Slice.settle_board (s : Slice) : s.settle.board = s.board := by simp [Slice.settle, Slice.heatRule, Slice.noteDemand]
@[simp] theorem Slice.settle_on (s : Slice) : s.settle.on = s.on := by simp [Slice.settle, Slice.heatRule, Slice.noteDemand]
@[simp] theorem Slice.settle_gt (s : Slice) : s.settle.gt = s.gt := by simp [Slice.settle, Slice.heatRule, Slice.noteDemand]
@[simp] theorem Slice.settle_markGt (s : Slice) : s.settle.markGt = s.markGt := by simp [Slice.settle, Slice.heatRule, Slice.noteDemand]
@[simp] theorem Slice.settle_guardGt (s : Slice) : s.settle.guardGt = s.guardGt := by simp [Slice.settle, Slice.heatRule, Slice.noteDemand]
@[simp] theorem Slice.settle_cfgGt (s : Slice) : s.settle.cfgGt = s.cfgGt := by simp [Slice.settle, Slice.heatRule, Slice.noteDemand]
@[simp] theorem Slice.settle_aligned (s : Slice) : s.settle.aligned = s.aligned := by simp [Slice.settle, Slice.heatRule, Slice.noteDemand]
@[simp] theorem Slice.settle_slew (s : Slice) : s.settle.slew = s.slew := by simp [Slice.settle, Slice.heatRule, Slice.noteDemand]
@[simp] theorem Slice.settle_cfg (s : Slice) : s.settle.cfg = s.cfg := by simp [Slice.settle, Slice.heatRule, Slice.noteDemand]
@[simp] theorem Slice.settle_cfgNext (s : Slice) : s.settle.cfgNext = s.cfgNext := by simp [Slice.settle, Slice.heatRule, Slice.noteDemand]
@[simp] theorem Slice.settle_cfgRx (s : Slice) : s.settle.cfgRx = s.cfgRx := by simp [Slice.settle, Slice.heatRule, Slice.noteDemand]
@[simp] theorem Slice.settle_arb (s : Slice) : s.settle.arb = s.arb := by simp [Slice.settle, Slice.heatRule, Slice.noteDemand]
@[simp] theorem Slice.settle_grant (s : Slice) : s.settle.grant = s.grant := by simp [Slice.settle, Slice.heatRule, Slice.noteDemand]
@[simp] theorem Slice.settle_acts (s : Slice) : s.settle.acts = s.acts := by simp [Slice.settle, Slice.heatRule, Slice.noteDemand]
@[simp] theorem Slice.settle_room (s : Slice) : s.settle.room = s.room := by simp [Slice.settle, Slice.heatRule, Slice.noteDemand]
@[simp] theorem Slice.settle_doors (s : Slice) : s.settle.doors = s.doors := by simp [Slice.settle, Slice.heatRule, Slice.noteDemand]
@[simp] theorem Slice.settle_lse (s : Slice) : s.settle.lse = { s.lse with
    sfbSince := if (s.rd Reg.FIO_SAFE_STAT_SFB_A = 1) != s.lse.trains || (s.rd Reg.FIO_SAFE_STAT_SFB_B = 1) != s.lse.trains
      then some (s.lse.sfbSince.getD s.gt) else none } := by simp [Slice.settle, Slice.heatRule, Slice.noteDemand]
@[simp] theorem Slice.settle_lamps (s : Slice) : s.settle.lamps = s.lamps := by simp [Slice.settle, Slice.heatRule, Slice.noteDemand]
@[simp] theorem Slice.settle_hels (s : Slice) : s.settle.hels = s.hels := by simp [Slice.settle, Slice.heatRule, Slice.noteDemand]

end Sys2Proof.Machine
end

