-- ==== Sys2Proof/Laws/Link.lean ====
section
/-! SUPPORT. The lease of a slice through its own operations: a guard releases nothing but the lease, records queued leave the
link ports' other fields alone. -/

namespace Sys2Proof.Machine

/-- What each step of a fold keeps, the fold keeps. -/
theorem foldl_keeps {α β γ : Type} (g : α → γ) (f : α → β → α) (h : ∀ s a, g (f s a) = g s) (l : List β) (s : α) :
    g (l.foldl f s) = g s := by
  induction l generalizing s with
  | nil => rfl
  | cons a l ih => rw [List.foldl_cons, ih, h]

theorem Slice.mapPort_port {γ : Type} (g : SPort → γ) (s : Slice) (q p : Fin 2) (f : SPort → SPort) (h : ∀ x, g (f x) = g x) :
    g (s.mapPort q f).ports[p] = g s.ports[p] := by
  match q, p with
  | 0, 0 => simp [Slice.mapPort, h]
  | 0, 1 => simp [Slice.mapPort]
  | 1, 0 => simp [Slice.mapPort]
  | 1, 1 => simp [Slice.mapPort, h]

theorem Slice.queueTo_marked (s : Slice) (q p : Fin 2) (a : Nat) (b : List Byte) :
    (s.queueTo q a b).ports[p].marked = s.ports[p].marked := by
  unfold Slice.queueTo
  split
  · rfl
  · exact Slice.mapPort_port (·.marked) s q p _ fun _ => rfl

theorem Slice.queueTo_seq (s : Slice) (q p : Fin 2) (a : Nat) (b : List Byte) :
    (s.queueTo q a b).ports[p].seq = s.ports[p].seq := by
  unfold Slice.queueTo
  split
  · rfl
  · exact Slice.mapPort_port (·.seq) s q p _ fun _ => rfl

theorem Slice.faultRule_marked (s : Slice) (p : Fin 2) : s.faultRule.ports[p].marked = s.ports[p].marked := by
  simp only [Slice.faultRule]
  split
  · simp only [Slice.evt, Slice.queueAll, Slice.queueTo_marked]; rfl
  · split
    · simp only [Slice.evt, Slice.queueAll, Slice.queueTo_marked]; rfl
    · rfl

theorem Slice.faultRule_seq (s : Slice) (p : Fin 2) : s.faultRule.ports[p].seq = s.ports[p].seq := by
  simp only [Slice.faultRule]
  split
  · simp only [Slice.evt, Slice.queueAll, Slice.queueTo_seq]; rfl
  · split
    · simp only [Slice.evt, Slice.queueAll, Slice.queueTo_seq]; rfl
    · rfl

theorem Slice.heatRule_ports (s : Slice) : s.heatRule.ports = s.ports := rfl
theorem Slice.noteDemand_ports (s : Slice) : s.noteDemand.ports = s.ports := rfl

theorem Slice.settle_marked (s : Slice) (p : Fin 2) : s.settle.ports[p].marked = s.ports[p].marked := by
  simp only [Slice.settle, Slice.faultRule_marked, Slice.noteDemand_ports, Slice.heatRule_ports]; rfl

theorem Slice.settle_seq (s : Slice) (p : Fin 2) : s.settle.ports[p].seq = s.ports[p].seq := by
  simp only [Slice.settle, Slice.faultRule_seq, Slice.noteDemand_ports, Slice.heatRule_ports]; rfl

theorem Slice.discard_board (s : Slice) (a : SAct) : (s.discard a).board = s.board := by
  simp [Slice.discard, Slice.report]

theorem Slice.doorsOrphan_arb (s : Slice) : s.doorsOrphan.arb = s.arb := by
  simp only [Slice.doorsOrphan]
  repeat' split
  all_goals rfl

theorem Slice.doorsOrphan_grant (s : Slice) : s.doorsOrphan.grant = s.grant := by
  simp only [Slice.doorsOrphan]
  repeat' split
  all_goals rfl

theorem Slice.doorsOrphan_board (s : Slice) : s.doorsOrphan.board = s.board := by
  simp only [Slice.doorsOrphan]
  repeat' split
  all_goals rfl

/-- Entering GUARD ends the lease and any grant, and keeps the persistent board. -/
theorem Slice.toGuard_lease (s : Slice) : s.toGuard.arb = .guard ∧ s.toGuard.grant = none ∧ s.toGuard.board = s.board := by
  refine ⟨?_, ?_, ?_⟩
  · simp only [Slice.toGuard, Slice.doorsOrphan_arb]
  · simp only [Slice.toGuard, Slice.doorsOrphan_grant]
  · simp only [Slice.toGuard, Slice.doorsOrphan_board]
    exact foldl_keeps (·.board) _ Slice.discard_board s.acts s

theorem Slice.edgeTick_lease (s : Slice) :
    s.edgeTick.arb = s.arb ∧ s.edgeTick.grant = s.grant ∧ s.edgeTick.board = s.board := by
  simp only [Slice.edgeTick, Slice.mapFio_arb, Slice.mapFio_grant, Slice.mapFio_board]
  exact ⟨foldl_keeps (·.arb) _ (fun _ _ => Slice.queueAll_arb _ _ _) _ s,
    foldl_keeps (·.grant) _ (fun _ _ => Slice.queueAll_grant _ _ _) _ s,
    foldl_keeps (·.board) _ (fun _ _ => Slice.queueAll_board _ _ _) _ s⟩

/-- A tick of a held slice leaves the lease as it is. -/
theorem Slice.arbTick_held (s : Slice) {p : Fin 2} {e : Nat} (h : s.arb = .held p e) : s.arbTick.arb = .held p e := by
  simp only [Slice.arbTick]
  split <;> simp [h]

theorem Slice.doorTo_arb (s : Slice) (d : Fin 2) (a b : Nat) : (s.doorTo d a b).arb = s.arb := by
  simp only [Slice.doorTo, Slice.dev]
  split <;> simp

theorem Slice.doorTo_grant (s : Slice) (d : Fin 2) (a b : Nat) : (s.doorTo d a b).grant = s.grant := by
  simp only [Slice.doorTo, Slice.dev]
  split <;> simp

theorem Slice.leaveRest_arb (s : Slice) (d : Fin 2) : (s.leaveRest d).arb = s.arb := by
  simp only [Slice.leaveRest]
  repeat' split
  all_goals simp

theorem Slice.leaveRest_grant (s : Slice) (d : Fin 2) : (s.leaveRest d).grant = s.grant := by
  simp only [Slice.leaveRest]
  repeat' split
  all_goals simp

theorem Slice.startMove_arb (s : Slice) (d : Fin 2) (o : Bool) (p : Nat) (c : Bool) : (s.startMove d o p c).arb = s.arb := by
  simp only [Slice.startMove, Slice.mapDoor_arb]
  split <;> simp

theorem Slice.startMove_grant (s : Slice) (d : Fin 2) (o : Bool) (p : Nat) (c : Bool) :
    (s.startMove d o p c).grant = s.grant := by
  simp only [Slice.startMove, Slice.mapDoor_grant]
  split <;> simp

/-- What follows a reversal leaves the lease alone. -/
theorem Slice.afterReverse_arb (s : Slice) (d : Fin 2) : (s.afterReverse d).arb = s.arb := by
  simp only [Slice.afterReverse, Slice.startOpen, Slice.startClose]
  repeat' split
  all_goals simp [Slice.startMove_arb, Slice.doorTo_arb, Slice.leaveRest_arb]

theorem Slice.afterReverse_grant (s : Slice) (d : Fin 2) : (s.afterReverse d).grant = s.grant := by
  simp only [Slice.afterReverse, Slice.startOpen, Slice.startClose]
  repeat' split
  all_goals simp [Slice.startMove_grant, Slice.doorTo_grant, Slice.leaveRest_grant]

theorem Slice.doorsOwned_arb (s : Slice) : s.doorsOwned.arb = s.arb := by
  simp only [Slice.doorsOwned]
  repeat' split
  all_goals simp [Slice.afterReverse_arb]

theorem Slice.doorsOwned_grant (s : Slice) : s.doorsOwned.grant = s.grant := by
  simp only [Slice.doorsOwned]
  repeat' split
  all_goals simp [Slice.afterReverse_grant]

/-- A tick of a free slice whose grant has its epoch written: the lease is held and the grant is over. -/
theorem Slice.arbTick_grant (s : Slice) {p : Fin 2} {e : Nat} (h : s.arb = .free) (g : s.grant = some (p, e))
    (w : s.board.epoch = e) : s.arbTick.arb = .held p e ∧ s.arbTick.grant = none := by
  simp only [Slice.arbTick, g]
  rw [if_pos (by simp [h, w])]
  simp [Slice.doorsOwned_arb, Slice.doorsOwned_grant]

end Sys2Proof.Machine
end

