-- ==== Sys2Proof/Laws/Pebex.lean ====
section
/-! SUPPORT. Frames of the partner: the check word is a number of 32 bits, and a frame formed by `pexFrame` passes its check. -/

namespace Sys2Proof.Machine

theorem crc32Bit_lt {c : Nat} (h : c < 2 ^ 32) : crc32Bit c < 2 ^ 32 := by
  unfold crc32Bit
  split
  · exact Nat.xor_lt_two_pow (Nat.mod_lt _ (by decide)) (by decide)
  · next hb =>
    have : c / 2 ^ 31 % 2 ≠ 1 := by simpa [bit, Nat.testBit, Nat.shiftRight_eq_div_pow] using hb
    omega

theorem crc32Byte_lt {c : Nat} (b : Byte) (h : c < 2 ^ 32) : crc32Byte c b < 2 ^ 32 := by
  unfold crc32Byte
  iterate 8 apply crc32Bit_lt
  exact Nat.xor_lt_two_pow h (by have := b.isLt; omega)

theorem crc32_lt (b : List Byte) : crc32 b < 2 ^ 32 := by
  refine Nat.xor_lt_two_pow ?_ (by decide)
  generalize hc : 0xFFFFFFFF = c
  have h : c < 2 ^ 32 := by omega
  clear hc
  induction b generalizing c with
  | nil => exact h
  | cons x l ih => exact ih _ (crc32Byte_lt x h)

@[simp] theorem leBytes_length (n v : Nat) : (leBytes n v).length = n := by simp [leBytes]
@[simp] theorem beBytes_length (n v : Nat) : (beBytes n v).length = n := by simp [beBytes]

/-- A number of 4 bytes read back where it was put. -/
theorem beAt_append_beBytes (b : List Byte) {v : Nat} (h : v < 2 ^ 32) : beAt (b ++ beBytes 4 v) b.length 4 = v := by
  simp only [beAt, beBytes, List.drop_left]
  rw [List.take_of_length_le (by simp)]
  simp [leBytes, leAt, byteAt]
  omega

@[simp] theorem pexFrame_length (kind xy seq : Nat) (body : List Byte) :
    (pexFrame kind xy seq body).length = 12 + body.length := by simp [pexFrame]; omega

/-- A frame that the partner forms passes its check, whatever it carries (R375). -/
theorem pexOk_pexFrame (s : Dev) {kind xy seq : Nat} {body : List Byte} (hk : kind < 256) (hx : xy = 1 - s.xy) (hy : s.xy < 2)
    (h4 : body.length % 4 = 0) (h8 : 8 ≤ body.length) (hn : body.length ≤ 4084)
    (hl : pexLen kind (pexFrame kind xy seq body)) : s.pexOk kind (pexFrame kind xy seq body) false := by
  have hx2 : xy < 2 := by omega
  have hlen := pexFrame_length kind xy seq body
  have h0 : byteAt (pexFrame kind xy seq body) 0 = kind := by
    simp [pexFrame, leBytes, byteAt]; omega
  have h1 : byteAt (pexFrame kind xy seq body) 1 / 128 = xy := by
    simp [pexFrame, leBytes, byteAt]; omega
  have h2 : 4 * beAt (pexFrame kind xy seq body) 2 2 = 12 + body.length := by
    simp [pexFrame, leBytes, byteAt, beAt, beBytes, leAt]; omega
  have h3 : beAt (pexFrame kind xy seq body) (8 + body.length) 4 = crc32 ((pexFrame kind xy seq body).take (8 + body.length)) := by
    have hb : (leBytes 1 kind ++ leBytes 1 (128 * xy) ++ beBytes 2 ((12 + body.length) / 4) ++ beBytes 4 seq ++ body).length =
      8 + body.length := by simp; omega
    rw [pexFrame, ← hb, beAt_append_beBytes _ (crc32_lt _), List.take_left]
  subst hx
  simp only [Dev.pexOk, hlen, h0, h1, h2, hl]
  rw [show 12 + body.length - 4 = 8 + body.length by omega, h3]
  simp; omega
end Sys2Proof.Machine
end

