-- ==== Sys2Proof/Laws/Steps.lean ====
section
/-! SUPPORT. What the commands that rewrite more than one part of the state leave unchanged. -/

namespace Sys2Proof.Machine

open Sys2Proof.Safety

/-! Fetching: the queue and the slices stay -/

@[simp] theorem fetchEntry_pending (q : Fin 32) (s : State) (f : Fetched) : (fetchEntry q s f).pending = s.pending := by
  simp only [fetchEntry]; split <;> rfl

@[simp] theorem fetchEntry_slices (q : Fin 32) (s : State) (f : Fetched) : (fetchEntry q s f).slices = s.slices := by
  simp only [fetchEntry]; split <;> rfl

theorem fetchFold_keeps {α : Type} (g : State → α) (h1 : ∀ q s f, g (fetchEntry q s f) = g s) (q : Fin 32)
    (l : List Fetched) : ∀ s : State, g (l.foldl (fetchEntry q) s) = g s := by
  induction l with
  | nil => intro s; rfl
  | cons f l ih => intro s; simp only [List.foldl_cons, ih, h1]

theorem fetchRead_keeps {α : Type} (g : State → α) (h1 : ∀ q s f, g (fetchEntry q s f) = g s)
    (h2 : ∀ (s : State) (d : Dev), g { s with dev := d } = g s) (r : Fetch) (l : List Fetched) (s : State) :
    g (fetchRead r l s) = g s := by
  simp only [fetchRead, fetchTake, fetchFold_keeps g h1, h2]

theorem sqFetch_keeps {α : Type} (g : State → α) (h1 : ∀ q s f, g (fetchEntry q s f) = g s)
    (h2 : ∀ (s : State) (d : Dev), g { s with dev := d } = g s) (l : List Fetched) (s : State) :
    g (sqFetch l s) = g s := by
  simp only [sqFetch]
  split
  · rw [fetchRead_keeps g h1 h2, h2]
  · rw [h2]

theorem readError_keeps {α : Type} (g : State → α) (h1 : ∀ q s f, g (fetchEntry q s f) = g s)
    (h2 : ∀ (s : State) (d : Dev), g { s with dev := d } = g s) (q : Fin 32) (e : DmaErr) (l : List Fetched) (b : Bool)
    (s : State) : g (readError q e l b s) = g s := by
  simp only [readError]
  split
  · split
    · rw [h2]
    · split
      · rw [h2, h2]
      · rw [h2, fetchRead_keeps g h1 h2, h2, h2]
  · rw [h2]

@[simp] theorem sqFetch_pending (l : List Fetched) (s : State) : (sqFetch l s).pending = s.pending :=
  sqFetch_keeps State.pending (by simp) (fun _ _ => rfl) l s

@[simp] theorem sqFetch_slices (l : List Fetched) (s : State) : (sqFetch l s).slices = s.slices :=
  sqFetch_keeps State.slices (by simp) (fun _ _ => rfl) l s

@[simp] theorem readError_pending (q : Fin 32) (e : DmaErr) (l : List Fetched) (b : Bool) (s : State) :
    (readError q e l b s).pending = s.pending :=
  readError_keeps State.pending (by simp) (fun _ _ => rfl) q e l b s

@[simp] theorem readError_slices (q : Fin 32) (e : DmaErr) (l : List Fetched) (b : Bool) (s : State) :
    (readError q e l b s).slices = s.slices :=
  readError_keeps State.slices (by simp) (fun _ _ => rfl) q e l b s

/-! Commands seen at both ends of a link -/

@[simp] theorem indexPulse_pending (n : Fin 16) (e : Fin 3) (c : Int) (t : Nat) (s : State) :
    (indexPulse n e c t s).pending = s.pending := by
  simp only [indexPulse]; split <;> first | rfl | (split <;> rfl)

@[simp] theorem indexPulse_otp (n : Fin 16) (e : Fin 3) (c : Int) (t : Nat) (s : State) :
    (indexPulse n e c t s).otp = s.otp := by
  simp only [indexPulse]; split <;> first | rfl | (split <;> rfl)

theorem indexPulse_slices (n : Fin 16) (e : Fin 3) (c : Int) (t : Nat) (s : State) {m : Fin 16} (h : n ≠ m) :
    (indexPulse n e c t s).slices[m] = s.slices[m] := by
  have h' : n.val ≠ m.val := fun e => h (Fin.ext e)
  simp only [indexPulse]; split
  · rfl
  · split
    · simp [h']
    · rfl

@[simp] theorem recordResend_pending (n : Fin 16) (u : Bool) (p : Fin 2) (s : State) :
    (recordResend n u p s).pending = s.pending := by
  simp only [recordResend]; split <;> rfl

@[simp] theorem recordResend_otp (n : Fin 16) (u : Bool) (p : Fin 2) (s : State) :
    (recordResend n u p s).otp = s.otp := by
  simp only [recordResend]; split <;> rfl

theorem recordResend_slices (n : Fin 16) (u : Bool) (p : Fin 2) (s : State) {m : Fin 16} (h : n ≠ m) :
    (recordResend n u p s).slices[m] = s.slices[m] := by
  have h' : n.val ≠ m.val := fun e => h (Fin.ext e)
  simp only [recordResend]; split
  · simp [h']
  · rfl

theorem symbolLock_slices (n : Fin 16) (p : Fin 2) (s : State) {m : Fin 16} (h : n ≠ m) :
    (symbolLock n p s).slices[m] = s.slices[m] := by
  have h' : n.val ≠ m.val := fun e => h (Fin.ext e)
  simp [symbolLock, h']

/-! A command of the controller, and one of a slice -/

theorem run_next {s t : State} {f : Dev → Dev} (h : s.run f = .next t) :
    t.dev = f s.dev ∧ t.pending = s.pending ∧ t.otp = s.otp ∧ t.slices = s.slices := by
  cases h; exact ⟨rfl, rfl, rfl, rfl⟩

theorem runO_next {s t : State} {f : Otp → Dev → Dev} (h : s.runO f = .next t) :
    t.dev = f s.otp s.dev ∧ t.pending = s.pending ∧ t.otp = s.otp ∧ t.slices = s.slices := by
  cases h; exact ⟨rfl, rfl, rfl, rfl⟩

theorem runS_next {s t : State} {n : Fin 16} {f : Slice → Slice} (h : s.runS n f = .next t) :
    t.dev = s.dev ∧ t.pending = s.pending ∧ t.otp = s.otp ∧ t.slices[n] = f s.slices[n] ∧
      ∀ m, n ≠ m → t.slices[m] = s.slices[m] := by
  cases h
  refine ⟨rfl, rfl, rfl, by simp, fun m hm => ?_⟩
  have h' : n.val ≠ m.val := fun e => hm (Fin.ext e)
  simp [h']

/-- A happening at a slice: its replica moves on, the happening takes place, the outputs settle. -/
theorem slice_next {s t : State} {n : Fin 16} {a : Nat} {f : Slice → Slice} (h : s.slice n a f = .next t) :
    t.dev = s.dev ∧ t.pending = s.pending ∧ t.otp = s.otp ∧
      t.slices[n] = (if s.slices[n].on then (f (s.slices[n].at a)).settle else s.slices[n]) ∧
      ∀ m, n ≠ m → t.slices[m] = s.slices[m] := runS_next h

/-! A command named in a statement, from the shared operation its arm is -/

theorem becomes_of_run {i : Instr} {s : State} {f : Dev → Dev} {d : Dev} (h : exec i s = s.run f) (e : f s.dev = d) :
    Becomes i s d := by
  subst e; exact h

theorem becomes_of_runO {i : Instr} {s : State} {f : Otp → Dev → Dev} {d : Dev} (h : exec i s = s.runO f)
    (e : f s.otp s.dev = d) : Becomes i s d := by
  subst e; exact h

/-! A read of host memory: with nothing mastered nothing is asked for, and a read that fails has been asked for twice -/

theorem readHost_idle {d : Dev} {a n : Nat} {m : Option (List Byte)} (h : d.mastering = false) :
    d.readHost a n m = (none, d) := by simp [Dev.readHost, h]

theorem readHost_some {d : Dev} {a n : Nat} {m : List Byte} (h : d.mastering) :
    d.readHost a n (some m) = (some m, d.emitRead a n) := by simp [Dev.readHost, h]

theorem readHost_none {d : Dev} {a n : Nat} (h : d.mastering) :
    d.readHost a n none = (none, (d.emitRead a n).emitRead a n) := by simp [Dev.readHost, h]

/-- A descriptor past the common checks, answered at once. -/
theorem answers_of_admit {i : Instr} {s : State} {op : Nat} {q : Fin 32} {b : List Byte} {go : Dev → Nat → Admission}
    {d : Dev} {r : AdmRes} (p : Passes s op q b) (h : exec i s = .next { s with dev := s.dev.tryAdmit op q.val b go })
    (e : go (fetched s op q b).2 (fetched s op q b).1 = (d, some r)) : Answers i s op q b d r := by
  rw [Answers, Becomes, h, Dev.admit_done go p e]

/-- A descriptor past the common checks, answered later. -/
theorem becomes_of_admit {i : Instr} {s : State} {op : Nat} {q : Fin 32} {b : List Byte} {go : Dev → Nat → Admission}
    {d : Dev} (p : Passes s op q b) (h : exec i s = .next { s with dev := s.dev.tryAdmit op q.val b go })
    (e : go (fetched s op q b).2 (fetched s op q b).1 = (d, none)) : Becomes i s d := by
  rw [Becomes, h, Dev.admit_long go p e]

theorem sliceRuns_of_slice {i : Instr} {s : State} {n : Fin 16} {t : Nat} {f : Slice → Slice} {x : Slice}
    (h : exec i s = s.slice n t f) (e : f (stands s n t) = x) : SliceRuns i s n x := by
  intro ho; subst e; simp only [SliceBecomes, h, State.slice, State.runS, ho, if_true, stands]

theorem sliceFires_of_sliceFire {i : Instr} {s : State} {n : Fin 16} {t : Nat} {f : Slice → Slice} {x : Slice}
    (h : exec i s = s.sliceFire n t f) (e : f (standsFiring s n t) = x) :
    SliceFires i s n (standsFiring s n t) x := by
  intro ho; subst e; simp only [h, State.sliceFire, ho, Bool.not_true, Bool.false_eq_true, if_false]

/-! OTP -/

@[simp] theorem otpDone_pending (b : Bool) (s : State) : (otpDone b s).pending = s.pending := by
  simp only [otpDone]; split <;> rfl

@[simp] theorem otpDone_slices (b : Bool) (s : State) : (otpDone b s).slices = s.slices := by
  simp only [otpDone]; split <;> rfl

end Sys2Proof.Machine
end

