-- ==== Sys2Proof/Tests/Slice0.lean ====
section
/-! SUPPORT. Tests on small states, a smoke of well-formedness, and for each statement with hypotheses a state and operands that
meet them. -/

namespace Sys2Proof.Tests

open Machine Safety

/-- The reset state with register fields set and its controller changed. -/
def tD (l : List (RF × Nat)) (g : Dev → Dev := id) : State :=
  { State.reset with dev := g (l.foldl (fun d p => d.wr p.1 p.2) State.reset.dev) }

/-- The first 16 bytes of a descriptor: opcode, CMD_ID 7, target, GT. -/
def hd (op cls idx : Nat) (gt : Nat := 0) : List Byte :=
  leBytes 1 op ++ leBytes 1 0 ++ leBytes 2 7 ++ leBytes 1 cls ++ leBytes 1 idx ++ leBytes 2 0 ++ leBytes 8 gt

/-- A descriptor of one entry: opcode, CMD_ID 7, target, body from byte 16 on. -/
def dB (op cls idx : Nat) (body : List Nat) (gt : Nat := 0) : List Byte :=
  hd op cls idx gt ++ ((body ++ List.replicate (48 - body.length) 0).map fun v => BitVec.ofNat 8 v)

/-- A locked controller that owns car 0, with Group Time valid. -/
def locked : List (RF × Nat) :=
  [(Reg.GLB_LOCK, 1), (Reg.TSP_STAT_GT_VALID, 1), (Reg.GLB_CAR_EN_MASK, 1), (Reg.SLP_STAT_OWN 0, 1),
    (Reg.LDL_STAT_READY, 1), (Reg.LDL_CTRL_CUE_EN, 1)]

/-- A change of the time state. -/
def withTime (f : TimeSt → TimeSt) (d : Dev) : Dev := d.mapTime f

/-! ## Steps -/

def next? (s : State) (c : Instr) (p : State → Bool) : Bool :=
  match exec c s with
  | .next t => p t
  | _ => false

theorem test_idle : step State.reset = .next State.reset := rfl

/-- R36: while held in reset GT counts on from 0 in ticks of 100 µs. -/
theorem test_tick_in_reset : next? State.reset (.tick [] [] 40 0) (fun t => t.dev.gt = 100000 && t.dev.inReset) = true := by
  decide

/-- R50: a pulse at PPS_IN is stamped with a resolution of 8 ns. -/
theorem test_pps_in : next? State.reset (.ppsInEdge 1005) (fun t => t.dev.time.ppsIn = 1000 && t.dev.rd Reg.TSP_PPSIN_CNT = 1)
    = true := by decide

/-- R71: an index beyond an enabled ring of 16 entries faults it. -/
theorem test_sq_doorbell_out :
    next? (tD [(Reg.RNG_SQ_CFG_EN 3, 1), (Reg.RNG_SQ_CFG_LOG2SZ 3, 4)]) (.sqTailDoorbell 3 16)
      (fun t => t.dev.rd (Reg.RNG_SQ_STAT_FAULT 3) = 1 && t.dev.rd (Reg.RNG_SQ_TAIL 3) = 0) = true := by decide

theorem test_sq_doorbell_in :
    next? (tD [(Reg.RNG_SQ_CFG_EN 3, 1), (Reg.RNG_SQ_CFG_LOG2SZ 3, 4)]) (.sqTailDoorbell 3 15)
      (fun t => t.dev.rd (Reg.RNG_SQ_STAT_FAULT 3) = 0 && t.dev.rd (Reg.RNG_SQ_TAIL 3) = 15) = true := by decide

/-- R471: a lock request with a wrong key is ignored. -/
theorem test_lock_key : next? State.reset (.lockRequest 0x5E7D0001) (fun t => !t.dev.locked) = true := by decide

/-- R432: correctable errors count. -/
theorem test_ecc : next? State.reset (.eccCorrectable none 100 0) (fun t => t.dev.rd Reg.CTN_CNT_CORR = 1) = true := by decide

/-- R483: a used slot cannot be programmed again. -/
theorem test_otp_once : ((Otp.blank.program 1 (List.replicate 32 7)).program 1 (List.replicate 32 9)).slot[0]
    = some (List.replicate 32 7) := by decide

/-- No row of the table gives bits. -/
theorem test_no_word : decodeTableWord 32 0 = none := rfl

/-! ## Well-formed commands -/

/-- A PTP message of a type and length from source 1 with sequence number 0 and what follows its header. -/
def ptpB (ty len : Nat) (tail : List Byte) : List Byte :=
  beBytes 1 ty ++ beBytes 1 2 ++ beBytes 2 len ++ List.replicate 16 0 ++ beBytes 10 1 ++ List.replicate 4 0 ++ tail
def smokeMsg : PtpRx := { port := 0, tag := none, err := false, rx := 8, data := ptpB 0 44 (List.replicate 10 0), follow := [] }
def smokeAnn : PtpRx := { smokeMsg with data := ptpB 11 64 (List.replicate 30 0) }
def smokeArp : ArpReq := { tag := none, sha := 1, spa := 1, tpa := 1 }
def smokeEcho : EchoReq := { tag := none, src := 1, dst := 1, id := 0, seq := 0, data := [] }
def smokeCan : CanFrame := { ide := false, fdf := false, brs := false, id := 1, data := [] }

theorem wf_good : [Instr.syncReceived smokeMsg, .announceReceived smokeAnn, .delayRespReceived smokeMsg, .arpRequest 0 smokeArp,
    .icmpEchoRequest 0 smokeEcho, .canFrameReceived 0 smokeCan false false 0, .nop 0 (dB 0 0 0 [])].all wellFormed = true := by
  decide
theorem wf_instant : wellFormed (.ppsInEdge (2 ^ 64)) = false := by decide
theorem wf_word : wellFormed (.igmpQuery 0 none (2 ^ 32)) = false := by decide
theorem wf_window : wellFormed (.proxyWrite 0 0x4000 0) = false ∧ wellFormed (.proxyWrite 0 2 0) = false := by decide
theorem wf_words : wellFormed (.unknownOpcode 0 (List.replicate 63 0)) = false ∧ wellFormed (.unknownOpcode 0 []) = false := by
  decide
theorem wf_desc : wellFormed (.nop 0 (dB 1 0 0 [])) = false := by decide
theorem wf_frame : wellFormed (.upstreamFrame 0 [] false 0) = false := by decide
theorem wf_fetched : wellFormed (.sqFetch [{ desc := [], mem := none, bad := none }]) = false := by decide
theorem wf_carIn : wellFormed (.tick [{ car := 0, enc := .abz (List.replicate 11 0) }] [] 40 0) = false ∧
    wellFormed (.tick [{ car := 0, enc := .ssi [{ data := 2 ^ 32, parity := false }] }] [] 40 0) = false := by decide
theorem wf_can : wellFormed (.canFrameReceived 0 { smokeCan with id := 2048 } false false 0) = false ∧
    wellFormed (.canFrameReceived 0 { smokeCan with data := List.replicate 9 0 } false false 0) = false ∧
    wellFormed (.canFrameReceived 0 { smokeCan with brs := true } false false 0) = false := by decide
theorem wf_mac : wellFormed (.arpRequest 0 { smokeArp with sha := 2 ^ 48 }) = false := by decide
theorem wf_ip : wellFormed (.icmpEchoRequest 0 { smokeEcho with dst := 2 ^ 32 }) = false := by decide
theorem wf_echo : wellFormed (.icmpEchoRequest 0 { smokeEcho with id := 65536 }) = false := by decide
theorem wf_ptp : wellFormed (.syncReceived { smokeMsg with rx := 2 ^ 64 }) = false ∧
    wellFormed (.announceReceived { smokeAnn with rx := 2 ^ 64 }) = false ∧
    wellFormed (.delayRespReceived { smokeMsg with rx := 2 ^ 64 }) = false := by decide
theorem wf_ptp_frame (l : List Byte) (h : 1500 ≤ l.length) : wellFormed (.syncReceived { smokeMsg with data := l }) = false ∧
    wellFormed (.syncReceived { smokeMsg with follow := l }) = false := by
  simp only [wellFormed, wfPtp, Nat.not_lt.2 h, decide_false, Bool.and_false, Bool.false_and, and_self]
theorem wf_hostWr : wellFormed (.registerWrite (.bar0 0 0 0)) = false ∧ wellFormed (.registerWrite (.bar2 0 0 0)) = false :=
  by decide
theorem wf_hostRd : wellFormed (.latchedRead (.bar0 0 0)) = false ∧ wellFormed (.latchedRead (.bar2 0 0)) = false := by decide

/-! ## Witnesses: block, time, PTP -/

theorem wit_queue : ({ State.reset with pending := [.gtStep, .slewDone] }).pending = .gtStep :: [.slewDone] := rfl
theorem wit_exec : ∃ t, exec .slewDone State.reset = .next t := ⟨_, rfl⟩
theorem wit_grown : Grown Otp.blank State.reset.otp :=
  ⟨⟨rfl, rfl, rfl, rfl, rfl⟩, fun _ _ h => h, fun _ h => h, fun _ h => h, fun h => h, fun _ => ⟨rfl, rfl⟩, List.prefix_refl _⟩

theorem wit_step : (tD [] (withTime fun t => { t with step := some 2 })).dev.time.step = some 2 := rfl
theorem wit_freeRun : let d := (tD [(Reg.TSP_CTRL_SRC, 1)] (withTime fun t => { t with freeGt := some 0, gt := 150000 })).dev
    d.rd Reg.TSP_CTRL_SRC = 1 ∧ d.on Reg.TSP_STAT_GT_VALID = false ∧ d.time.freeGt = some 0 ∧ 0 < d.tickStart := by decide
theorem wit_slew : State.reset.dev.time.corr = 0 := rfl
theorem wit_holdover : let r := [(Reg.PTP_STAT_STATE, Servo.holdover), (Reg.TSP_HOLD_MAX_SECONDS, 60)]
    let d := (tD r (withTime fun t => { t with holdNs := 60000000001 })).dev
    d.rd Reg.PTP_STAT_STATE = Servo.holdover ∧ d.on Reg.TSP_HOLD_MAX_SECONDS ∧ d.on Reg.TSP_STAT_HOLD_EXP = false ∧
      d.rd Reg.TSP_HOLD_MAX_SECONDS * 1000000000 < d.time.holdNs ∧
      (tD r).dev.time.holdNs ≤ (tD r).dev.rd Reg.TSP_HOLD_MAX_SECONDS * 1000000000 := by decide
theorem wit_tcxo : (tD []).dev.on Reg.TSP_STAT_TCXO_FB = false := by decide
theorem wit_pps : let d := (tD [(Reg.TSP_CTRL_PPS_OUT_EN, 1), (Reg.TSP_STAT_GT_VALID, 1)]).dev.at 0
    d.on Reg.TSP_CTRL_PPS_OUT_EN ∧ d.on Reg.TSP_STAT_GT_VALID ∧ d.gt = 0 ∧
      ((0 : Int) - d.rdI Reg.TSP_PPS_OFS) % 1000000000 = 0 ∧ ((5 : Int) - d.rdI Reg.TSP_PPS_OFS) % 1000000000 ≠ 0 := by decide

/-- PTP on, the servo locked to master 1. -/
def ptp : State :=
  tD [(Reg.PTP_CTRL_EN, 1), (Reg.PTP_STAT_MASTER_OK, 1), (Reg.TSP_STAT_GT_VALID, 1), (Reg.PTP_STAT_STATE, Servo.locked),
    (Reg.PTP_ETH_IP 0, 9), (Reg.PTP_ETH_STAT_LINK 0, 1), (Reg.PTP_ETH_STAT_LINK 1, 1)]
    (withTime fun t => { t with sel := some 1, dreq := some (0, 5), lastSync := some (1, 2) })
theorem wit_sync : let d := ptp.dev
    let m := smokeMsg
    PtpTaken d m 0 44 ∧ m.port = d.actPort ∧ -4 ≤ m.logInt ∧ m.logInt ≤ 1 ∧ m.origin = some 0 ∧ d.time.sel = some m.srcId ∧
      d.on Reg.PTP_STAT_MASTER_OK ∧ d.on Reg.TSP_STAT_GT_VALID ∧
      (m.rx / 8 * 8 - d.rd (Reg.PTP_ETH_LAT_RX_LAT 0) : Nat) - (d.rd Reg.PTP_MPD : Int) = 8 := by decide
theorem wit_announce : PtpTaken ptp.dev smokeAnn 11 64 ∧ 0 ≤ smokeAnn.logInt ∧ smokeAnn.logInt ≤ 4 ∧
    smokeAnn.port = ptp.dev.actPort ∧ ptp.dev.takes 1 none ∧ (1 : Fin 2) ≠ ptp.dev.actPort := by decide
theorem wit_delayResp : let m := { smokeMsg with data := ptpB 9 54 (List.replicate 10 0 ++ ptp.dev.portIdent 0) }
    PtpTaken ptp.dev m 9 54 ∧ m.port = ptp.dev.actPort ∧ (m.data.drop 44).take 10 = ptp.dev.portIdent 0 ∧
      ptp.dev.time.dreq = some (m.seq, 5) ∧ ptp.dev.time.lastSync = some (1, 2) := by decide
theorem wit_domain : ptp.dev.ptpOn ∧ ptp.dev.takes 0 none ∧ smokeMsg.err = false ∧
    smokeMsg.domain ≠ (tD [(Reg.PTP_CTRL_DOMAIN, 3)]).dev.rd Reg.PTP_CTRL_DOMAIN := by decide
theorem wit_delayReq : let d := ptp.dev.at 7
    d.ptpOn ∧ d.on Reg.PTP_STAT_MASTER_OK ∧ d.dreqDue d.gt := by decide
theorem wit_port : ptp.dev.takes 0 none ∧ ptp.dev.portIs 0 9 ∧ ptp.dev.ptpOn := by decide
theorem wit_timeouts : let d := (tD [(Reg.PTP_CTRL_EN, 1), (Reg.PTP_STAT_STATE, Servo.locked)]
      (withTime fun t => { t with gt := 100000000000 })).dev
    d.ptpOn ∧ d.annDue ∧ d.syncDue ∧ d.rd Reg.PTP_STAT_STATE = Servo.locked ∧
      (ptp.dev.flag (Reg.PTP_ETH_STAT_LINK ptp.dev.actPort.val) false).ptpOn := by decide

/-! ## Witnesses: host link -/

def cqe0 : Cqe :=
  { cmd := 7, status := 0, final := false, dur := false, sq := 0, op := 0, dseq := 0, gt := 0, info0 := 0, info1 := 0,
    gen := 1 }

/-- Rings 0 enabled with 16 entries, bus mastering, one entry posted to EQ 0 and one lost. -/
def rings : State :=
  tD [(Reg.RNG_SQ_CFG_EN 0, 1), (Reg.RNG_SQ_CFG_LOG2SZ 0, 4), (Reg.RNG_CQ_CFG_EN 0, 1), (Reg.RNG_CQ_CFG_LOG2SZ 0, 4),
    (Reg.RNG_EQ_CFG_EN 0, 1), (Reg.RNG_EQ_CFG_LOG2SZ 0, 4), (Reg.RNG_CQ_STAT_TAIL 0, 3), (Reg.RNG_EQ_STAT_TAIL 0, 3),
    (Reg.RNG_EQ_LOST 0, 2), (Reg.HST_STAT_BME, 1), (Reg.HST_STAT_GEN, 1), (Reg.RNG_CQ_CFG_IEN 0, 1), (Reg.RNG_CQ_MOD_CNT 0, 1),
    (Reg.HST_CTRL_FETCH_EN, 1), (Reg.RNG_SQ_TAIL 0, 2)]
    fun d => d.mapHost fun h => { h with
      backlog := [{ cq := 0, cqe := cqe0 }], moder := h.moder.set 0 { armed := true, pending := 1, first := 0 } }
theorem wit_rings : let d := rings.dev
    d.on (Reg.RNG_SQ_CFG_EN 0) ∧ ringSize (d.rd (Reg.RNG_SQ_CFG_LOG2SZ 0)) = 16 ∧
      d.on (Reg.RNG_CQ_CFG_EN 0) ∧ ringSize (d.rd (Reg.RNG_CQ_CFG_LOG2SZ 0)) = 16 ∧ d.cqPosted 0 = 3 ∧
      d.on (Reg.RNG_EQ_CFG_EN 0) ∧ ringSize (d.rd (Reg.RNG_EQ_CFG_LOG2SZ 0)) = 16 ∧ 15 - d.eqFree 0 = 3 ∧
      (3 + 16 - d.rd (Reg.RNG_CQ_HEAD 0)) % 16 ≤ 3 ∧ (3 + 16 - d.rd (Reg.RNG_EQ_HEAD 0)) % 16 ≤ 3 := by decide
theorem wit_rings_off : let d := rings.dev
    d.on (Reg.RNG_SQ_CFG_EN 1) = false ∧ d.on (Reg.RNG_CQ_CFG_EN 1) = false ∧ d.on (Reg.RNG_EQ_CFG_EN 1) = false ∧
      d.host.startDue = false ∧ d.on (Reg.RNG_CQ_CFG_EN ((Reg.RNG_SQ_CFG_CQ 1).cut 1)) := by decide
theorem wit_ring_states : rings.dev.on (ringEn (.eq 0)) ∧ rings.dev.on (ringEn (.sq 1)) = false ∧
    (ringSz (.sq 1)).cut 5 = 5 ∧ (ringSz (.sq 1)).cut 3 = 3 := by decide
theorem wit_cq_write : let d := (rings.dev.mapHost fun h => { h with lastCq := [{ cq := 0, cqe := cqe0 }] })
    d.host.lastCq.filter (fun b => b.cq = 0) = [{ cq := 0, cqe := cqe0 }] := by decide
theorem wit_backlog : let d := rings.dev
    d.host.backlog = [{ cq := 0, cqe := cqe0 }] ∧ cqe0.gen = d.gen ∧ d.cqLive 0 ∧ d.cqFree 0 ≠ 0 := by decide
theorem wit_overflow : let d := rings.dev
    d.eqOk 0 ∧ d.mastering ∧ 2 ≤ d.eqFree 0 ∧ d.on (Reg.RNG_EQ_LOST 0) := by decide
theorem wit_moder : let d := rings.dev
    (d.modOf 0).2.2 ∧ d.host.moder[0].armed ∧ d.host.moder[0].pending ≠ 0 ∧ (d.modOf 0).1 ≤ d.host.moder[0].pending := by decide
theorem wit_fetch : let d := rings.dev.mapHost fun h => { h with backlog := [] }
    d.sqEligible 0 ∧ (d.arbitrate.1.map fun r => r.sq) = some 0 ∧
    State.reset.dev.arbitrate.1 = none := by decide
theorem wit_watchdog : (tD [(Reg.HST_STAT_SILENT, 1)]).dev.on Reg.HST_STAT_SILENT ∧
    (tD [(Reg.HST_HWD_TMO_MS, 50)]).dev.on Reg.HST_HWD_TMO_MS ∧
    (tD [(Reg.HST_HWD_TMO_MS, 50)]).dev.on Reg.HST_STAT_SILENT = false := by decide
theorem wit_power_state : let d := (tD [] fun d => (d.mapHost fun h => { h with recov := true, aspmL1 := true }).mapTime fun t =>
      { t with gt := 60000000001 }).dev
    State.reset.dev.on Reg.HST_STAT_D3 = false ∧ State.reset.dev.host.refHeld = false ∧
    (tD [(Reg.HST_STAT_D3, 1)]).dev.on Reg.HST_STAT_D3 ∧ rings.dev.host.perst = false ∧
    d.host.recov ∧ d.host.aspmL1 ∧ d.host.recovGt + 10000000 ≤ d.gt ∧ d.host.busyGt + 7000 ≤ d.gt ∧
    d.host.kickGt + (tD [(Reg.HST_HWD_TMO_MS, 50)]).dev.rd Reg.HST_HWD_TMO_MS * 1000000 ≤ d.gt := by decide
theorem wit_challenge : let c : Challenge := { nonce := 1, purpose := 1, gt := 0 }
    let d := (tD [] fun d => d.mapHost fun h => { h with chal := some c }).dev
    d.host.chal = some c ∧ d.gt ≤ c.gt + 60000000000 ∧ c.gt + 60000000000 < 60000000001 := by decide

/-! ## Witnesses: descriptors -/

/-- A command with a descriptor that fails its form, one before the lock, one with a GT that is not valid. -/
theorem wit_refused : (fetched State.reset 0x00 0 (dB 0 0 0 [1])).2.precheck 0x00 0 (dB 0 0 0 [1]) = some Stat.badDesc := by
  decide
theorem wit_busy : let b := dB 0x23 5 0 [0]
    descOf (.evrStart 0 b) = some (0x23, 0, b) ∧
      (let d := (fetched State.reset 0x23 0 b).2
       d.formOk 0x23 b ∧ d.ringFits 0 b ∧ d.cmdClash 0 (dCmd b) = false ∧ d.locked = false ∧ earlyFamily 0x23 = false) := by decide
theorem wit_busy_gt : let b := dB 0x12 4 0 [0, 0, 0, 0, 0, 0, 0, 0, 0, 0, 0, 255] 500
    let d := (fetched State.reset 0x12 0 b).2
    d.formOk 0x12 b ∧ d.cmdClash 0 (dCmd b) = false ∧ dGt b ≠ 0 ∧ d.on Reg.TSP_STAT_GT_VALID = false := by decide
theorem wit_early : let b := dB 0x00 0 0 []
    let d := (fetched State.reset 0x00 0 b).2
    d.formOk 0x00 b ∧ d.cmdClash 0 (dCmd b) = false ∧ d.locked = false ∧ 0x00 / 16 = 0 ∧ dGt b = 0 ∧ dClass b ≠ 1 ∧
      dClass b ≠ 2 := by decide

/-- A cue action on SQ 0 with CMD_ID 7, due at once. -/
def act0 : Act :=
  { op := 0x12, kind := .n, tclass := 4, tindex := 0, cmd := 7, sq := 0, member := 0, chord := none, gt := 900000000,
    tol := 1000, param := [0, 0, 0, 0, 0, 0, 0, 255, 0, 0], extra := [], gen := 1, dn := 1, epoch := 0, slot := 0,
    slot2 := none, place := .island, ord := 0, late := false, waited := false, revoked := false, restored := false,
    cueSeq := 0, origin := 0 }
/-- The locked controller with an action in its store. -/
def stored (a : Act) (l : List (RF × Nat) := []) : State :=
  tD (locked ++ l) fun d => d.mapLdl fun x => { x with acts := [a] }
theorem wit_clash : let b := dB 0x00 0 0 []
    let d := (fetched (stored act0) 0x00 0 b).2
    Awaits d 0 (dCmd b) := by decide
theorem wit_named : act0 ∈ (stored act0).dev.named 0 7 ∧ ¬Awaits (stored act0).dev 1 7 := by decide
theorem wit_admin : Passes State.reset 0x00 0 (dB 0 0 0 []) ∧
    Passes State.reset 0x01 0 (dB 1 0 0 [0, 0, 0, 0, 0, 0, 0, 0, 1]) ∧ Passes State.reset 0x02 0 (dB 2 0 0 []) ∧
    Passes State.reset 0x03 0 (dB 3 0 0 [7]) ∧ Passes State.reset 0x04 0 (dB 4 0 0 [1]) ∧
    (opClass (dOp (dB 0xFF 0 0 []))).isNone := by decide
theorem wit_held : let d := (fetched (tD [(Reg.HST_STAT_GEN, 2), (Reg.HST_STAT_BME, 1)] fun d => d.mapHost fun h =>
      { h with backlog := [{ cq := 0, cqe := cqe0 }] }) 0x01 0 (dB 1 0 0 [0, 0, 0, 0, 0, 0, 0, 0, 1])).2
    d.held = [{ cq := 0, cqe := cqe0 }] ∧ d.mastering ∧
      (fetched State.reset 0x01 0 (dB 1 0 0 [0, 0, 0, 0, 0, 0, 0, 0, 1])).2.mastering = false := by
  decide
theorem wit_nop : let s := { rings with dev := rings.dev.mapHost fun h => { h with backlog := [] } }
    Passes s 0x00 0 (dB 0 0 0 []) ∧ s.dev.host.adm = [] ∧ s.dev.host.backlog = [] ∧ s.dev.host.durOn = false ∧
      s.dev.on Reg.LAR_TRACE_MIB = false ∧ s.dev.gen ≠ 0xFFFF ∧ (fetched s 0x00 0 (dB 0 0 0 [])).2.cqLive 0 ∧
      (fetched s 0x00 0 (dB 0 0 0 [])).2.cqPosted 0 + 1 < ringSize ((fetched s 0x00 0 (dB 0 0 0 [])).2.rd
        (Reg.RNG_CQ_CFG_LOG2SZ 0)) := by decide

/-! ## Witnesses: Ladle -/

/-- What ActionAdmitted and ActionStored ask of a state and a descriptor. -/
def admits (s : State) (op : Nat) (k : AKind) (b : List Byte) : Bool :=
  let f := fetched s op 0 b
  let a := f.2.mkAct op 0 f.1 b k 0 none (f.2.fireTime (dGt b) (f.2.minLead k))
  (f.2.precheck op 0 b).isNone && !f.2.ladleBusy (k = .n) && !f.2.roleBusy (dClass b = 3 || dClass b = 4)
    && !((dCar op b).map f.2.carClosed).getD false && (f.2.ownership op b).isNone && f.2.resourcesFor 0 [a] && a.slots = 1

theorem wit_admit_cue : admits (tD locked) 0x12 .n (dB 0x12 4 0 [0, 0, 0, 0, 0, 0, 0, 0, 0, 0, 0, 255]) = true := by decide
theorem wit_admit_out : admits (tD locked) 0x50 .s (dB 0x50 2 0 [0, 0, 0, 0, 1, 0, 1, 0]) = true := by decide
theorem wit_admit_bus : admits (tD locked) 0x60 .c (dB 0x60 3 0 [0, 0, 0, 0, 1]) = true := by decide

theorem wit_cancel : let d := (fetched (stored act0) 0x10 0 (dB 0x10 0 0 [0, 0, 7])).2
    Passes (stored { act0 with cmd := 8 }) 0x10 0 (dB 0x10 0 0 [0, 0, 8]) ∧ d.named 0 7 = [act0] ∧ act0.chord = none ∧
      d.gt + d.cancelWindow act0.kind ≤ act0.gt := by decide
theorem wit_too_late : let a := { act0 with cmd := 8, gt := 0 }
    let d := (fetched (stored a) 0x10 0 (dB 0x10 0 0 [0, 0, 8])).2
    d.named 0 8 = [a] ∧ a.chord = none ∧ a.gt < d.gt + d.cancelWindow a.kind := by decide
theorem wit_under_way : let d := (fetched (tD locked fun d => d.mapChan 0 fun c => { c with
      mbx := [{ num := 8, f := smokeCan, cls := 0, gt := 5, ord := 0, act := { act0 with cmd := 8 }, st := Stat.ok, fired := 5,
                copy := false, done := false }] }) 0x10 0 (dB 0x10 0 0 [0, 0, 8])).2
    d.named 0 8 = [] ∧ d.underWay 0 8 ∧ (stored act0).dev.named 0 8 = [] ∧ (stored act0).dev.underWay 0 8 = false := by decide
theorem wit_query : let s := stored { act0 with cmd := 8 }
    Passes s 0x13 0 (dB 0x13 0 0 [0, 0, 8]) ∧ (fetched s 0x13 0 (dB 0x13 0 0 [0, 0, 8])).2.named 0 8 = [{ act0 with cmd := 8 }] :=
  by decide

/-- A chord of one cue. -/
def chordB : List Byte :=
  dB 0x11 5 0 ([1] ++ List.replicate 15 0 ++ [0x12, 4, 0, 0, 0, 0, 0, 0, 0, 0, 0, 0, 0, 255, 0, 0])
def chordable (s : State) (room : Bool) : Bool :=
  let f := fetched s 0x11 0 chordB
  match f.2.freeChord with
  | some e =>
    let l := f.2.chordActs 0 f.1 e chordB
    (f.2.precheck 0x11 0 chordB).isNone && !f.2.ladleBusy (l.any fun a => a.kind = .n)
      && !f.2.roleBusy (l.any fun a => a.pool = 16)
      && (l.all fun a => (a.car.map fun n => !f.2.carClosed n && (f.2.notOwned n).isNone).getD true)
      && f.2.resourcesFor 0 l == room && l.length = 1
  | none => false
set_option maxRecDepth 4000 in
theorem wit_chord : chordable (tD locked) true = true := by decide

theorem wit_cue_first : let a := { act0 with gt := 20050000 }
    let d := (stored a [(Reg.PTP_ETH_STAT_LINK 0, 1), (Reg.PTP_CTRL_EN, 1)]).dev.at 60000
    bit d.time.reload 19 = false ∧ d.dueNow .n = [a] ∧ d.judge a = .fires ∧ d.cueLinked ≠ [] ∧ a.late = false ∧
      d.due a + 2000000 < a.gt := by decide
theorem wit_cue_second : let c : SecondCopy := { act := act0, sgt := 50000 }
    let d := (tD (locked ++ [(Reg.PTP_ETH_STAT_LINK 0, 1), (Reg.PTP_CTRL_EN, 1)]) fun d => d.mapLdl fun x =>
      { x with second := [c] }).dev.at 50000
    d.ladle.second = [c] ∧ c.sgt ≤ d.gt ∧ d.gt ≤ c.sgt + 1000000 ∧ d.cueLinked ≠ [] := by decide
/-- A bus action of 0 bytes on channel 0. -/
def actB : Act :=
  { act0 with op := 0x60, kind := .c, tclass := 3, gt := 50000, param := [1, 0, 0, 0, 0, 0, 0, 0, 0, 0] }
theorem wit_bus_fire : let d := (stored actB).dev.at 50000
    let c := Fin.ofNat 4 actB.tindex
    bit d.time.reload 20 = false ∧ d.dueNow .c = [actB] ∧ actB.op = 0x60 ∧ d.judge actB = .fires ∧ actB.late = false ∧
      d.chSt c ≠ Ch.busOff ∧ (d.mbxFor c (d.frameClass actB.frame)).isSome := by decide
theorem wit_bus_late : let a := { actB with late := true, tol := 0 }
    let d := (stored a).dev.at 50001
    d.dueNow .c = [a] ∧ d.judge a = .ends Stat.expired := by decide
/-- An action for car 0. -/
def actC : Act := { act0 with op := 0x50, kind := .s, tclass := 2, param := [0, 0, 0, 0, 0, 0, 0, 0, 0, 0] }
theorem wit_firing : let d := (tD locked).dev
    actC.car = some 0 ∧ bit d.nv.boots 0 = false ∧ bit (d.rd Reg.CTN_ISO_CE) 0 = false ∧ d.on (Reg.SLP_STAT_OWN 0) ∧
      d.rd (Reg.SLP_STAT_EPOCH 0) = actC.epoch ∧ d.lateness actC ≤ actC.tol * 1000 ∧ d.roomLeft actC.pool ∧
      bit ((tD [(Reg.CTN_ISO_CE, 1)]).dev.rd Reg.CTN_ISO_CE) 0 ∧ State.reset.dev.on (Reg.SLP_STAT_OWN 0) = false := by decide
theorem wit_key : (tD [] fun d => d.mapLdl fun l => { l with keyDue := true, key := some [] }).dev.ladle.keyDue ∧
    State.reset.dev.locked = false ∧ (7 : Fin 8).val = 7 ∧ (6 : Fin 8).val ≠ 7 := by decide

/-! ## Witnesses: shaft bus, containment, tick -/

def frame0 : CanFrame := { ide := false, fdf := false, brs := false, id := 1, data := [5, 6] }
def mbx0 : Mbx :=
  { num := 8, f := frame0, cls := 0, gt := 5, ord := 0, act := act0, st := Stat.ok, fired := 5, copy := false, done := false }
/-- Channel 0 enabled with a frame in mailbox 8, one toward it in migration, one received. -/
def bus : State :=
  tD [(Reg.SBC_CTRL_EN, 1), (Reg.SBC_CH_TMOA_LO 0, 10), (Reg.SBC_CTRL_PAIR_A, 1), (Reg.SBC_CTRL_DEF_CLASS, 0), (Reg.SBC_PAIR_SEQ_CLS 0, 1),
    (Reg.SBC_PAIR_DUP_MS 0, 10)] fun d =>
    (d.mapChan 0 fun c => { c with
      mbx := [mbx0], mig := [{ mbx0 with num := 9 }], rx := #v[[{ gt := 1, f := frame0, cls := 0, esi := false }], []] }).mapChan 1
      fun c => { c with recent := [{ ide := false, id := 1, seq := 5, gt := 4 }] }
theorem wit_bus_tx : let d := bus.dev
    d.chSt 0 ≠ Ch.busOff ∧ d.offered 0 5 = some mbx0 ∧ mbx0.done = false := by decide
theorem wit_wire_timeout : let d := bus.dev
    ((d.chan 0).mbx.find? fun m => m.num = 8 && !m.done) = some mbx0 ∧ d.wireTmo 0 mbx0.cls ≠ 0 ∧
      d.gt < mbx0.gt + d.wireTmo 0 mbx0.cls * 1000000 := by decide
theorem wit_migration : let d := bus.dev
    (d.chan 0).mig = [{ mbx0 with num := 9 }] ∧ (d.mbxFor 0 0).isSome ∧ (d.mbxFree 0 0 8).isSome := by decide
theorem wit_offered : bus.dev.offered 0 4 = none ∧ bus.dev.offered 0 5 = some mbx0 := by decide
theorem wit_bus_rx : let d := bus.dev
    let f := frame0
    d.chEn 0 ∧ d.chSt 0 ≠ Ch.busOff ∧ f.fdf = false ∧ (d.chan 0).rx[0] ≠ [] ∧
      d.seqField 0 0 { f with data := [] } = none ∧ d.seqField 0 0 f = some 5 ∧
      d.isDup 0 { ide := false, id := 1, seq := 5, gt := 4 } := by decide
theorem wit_bus_fd : let d := (tD [(Reg.SBC_CTRL_EN, 1), (Reg.SBC_CH_CFG_FD_EN 0, 1)]).dev
    d.chEn 0 ∧ d.chSt 0 ≠ Ch.busOff ∧ d.on (Reg.SBC_CH_CFG_FD_EN 0) := by decide
/-- Channel 0 bus-off. -/
def busOff : List (RF × Nat) := [(Reg.GLB_LOCK, 1), (Reg.SBC_CTRL_EN, 1), (Reg.SBC_CH_STAT_STATE 0, Ch.busOff)]
theorem wit_recovering : let d := (tD (busOff ++ [(Reg.SBC_CH_STAT_RECOVERING 0, 1)]) fun d => d.mapTime fun t =>
      { t with gt := 1000000000 }).dev
    d.chSt 0 = Ch.busOff ∧ d.on (Reg.SBC_CH_STAT_RECOVERING 0) ∧ (d.chan 0).recGt + d.recoveryNs 0 ≤ d.gt := by decide
theorem wit_bus_recover : let b := dB 0x61 3 0 []
    let d := (fetched (tD (busOff ++ [(Reg.SBC_CH_CFG_AUTO_REC 0, 0)])) 0x61 0 b).2
    Passes (tD (busOff ++ [(Reg.SBC_CH_CFG_AUTO_REC 0, 0)])) 0x61 0 b ∧ d.chSt 0 = Ch.busOff ∧
      d.on (Reg.SBC_CH_CFG_AUTO_REC 0) = false ∧ d.on (Reg.SBC_CH_STAT_RECOVERING 0) = false ∧
      bit (d.rd Reg.CTN_ISO_IO_SB) 0 = false := by decide

/-- The controller out of reset with engine 0 on. -/
def running (l : List (RF × Nat) := []) (g : Dev → Dev := id) : State :=
  tD (locked ++ l) fun d => g ((d.setEngine 0 Dom.on).setDom 108 Dom.on)
theorem wit_engine : let d := (running).dev
    d.engineOn 0 ∧ bit (d.rd Reg.CTN_ISO_CE) 0 = false ∧ d.inReset = false := by decide
theorem wit_units : let d := (running).dev
    bit (d.rd Reg.CTN_ISO_SP) 0 = false ∧ d.on Reg.CTN_ISO_IO_ETH0 = false ∧ d.on Reg.CTN_ISO_IO_ETH1 = false ∧
      d.actPort = 0 ∧ (tD [(Reg.PTP_STAT_ACT_PORT, 1)]).dev.actPort = 1 ∧ bit (d.rd Reg.CTN_ISO_IO_SB) 0 = false ∧
      d.chSt 0 ≠ Ch.busOff ∧ (d.inc Reg.CTN_CNT_UNCORR).ctn.single.contains (2, 9) = false := by decide
theorem wit_replica : let d := State.reset.dev
    bit d.time.reload 19 = false ∧ bit d.time.reload 20 = false ∧ d.time.reload = 0 ∧ 16 ≤ (22 : Fin 23).val ∧ (8 : Int) < 9 := by
  decide
theorem wit_tick : let d := State.reset.dev
    d.inReset ∧ d.sys.ending = none ∧ d.time.step = none ∧ d.time.due = false ∧ d.endTick.spineTick.inReset ∧
      (running).dev.endTick.spineTick.inReset = false := by decide
theorem wit_dma : let d := rings.dev.mapHost fun h => { h with backlog := [] }
    d.sqEligible 0 ∧ ((d.aerNote .poison).arbitrate.1.map fun r => r.sq) = some 0 := by decide

/-! ## Witnesses: Tracker, Motion, Interlock -/

/-- Engine 0 runs with a verified position and two landings served. -/
def car (l : List (RF × Nat) := []) (g : Dev → Dev := id) : State :=
  running ([(Reg.TRK_STAT_PSTATE 0, Pst.verified), (Reg.TRK_LAND 0, 3), (Reg.DOR_CTRL_FIT_DA 0, 1), (Reg.DOR_STAT_STATE 0 0, 1), (Reg.MOT_SERVE 0 0, 3), (Reg.TRK_ENC_CPR 0, 1000),
    (Reg.TRK_ENC_CFG_Z_EN 0, 1), (Reg.ILK_STAT_MODE 0, 0), (Reg.TRK_WIN_W1_MM 0, 10), (Reg.TRK_WIN_W2_MM 0, 50)] ++ l) g
theorem wit_enc : let d := (car).dev
    d.on (Reg.TRK_STAT_ENC_LOST 0) = false ∧ d.pst 0 = Pst.verified ∧ (car [(Reg.TRK_STAT_ENC_LOST 0, 1)]).dev.on (Reg.TRK_STAT_ENC_LOST 0) ∧
      d.rd (Reg.TRK_ENC_CPR 0) ≠ 0 ∧ d.on (Reg.TRK_ENC_CFG_Z_EN 0) ∧ d.on (Reg.TRK_ENC_CFG_TYPE 0) = false ∧
      (d.trk 0).zValid = false ∧ d.carOn 0 ∧ d.engineOn 0 ∧ d.carOn 1 = false ∧
      (car [] fun d => d.mapTime fun t => { t with gt := 100000000 }).dev.gt = 100000000 + (d.trk 0).lostGt := by decide
theorem wit_windows : let d := (car).dev
    d.w1 0 = 10000 ∧ d.w2 0 = 50000 ∧ absI (d.tabW 0 (d.nearWord 0 0 (-10000)) 0 - -10000) = 10000 ∧
      absI (d.tabW 0 (d.nearWord 0 0 50000) 0 - 50000) = 50000 ∧ absI (d.tabW 0 (d.nearWord 0 0 50001) 0 - 50001) = 50001 := by
  decide
/-- At rest at landing 0, out of service, its landings not learned. -/
def atL0 : State :=
  car [(Reg.ILK_STAT_MODE 0, 5), (Reg.TRK_CTRL_BOT_IN 0, 0xFF), (Reg.TRK_STAT_PSTATE 0, Pst.unlearned)] fun d =>
    (d.flag (Reg.TRK_STAT_AT_REST 0) true).mapIlk 0 fun i =>
      { i with snap := some { seq := 0, inputs := 2 ^ 28, doors := 0, states := 0 } }
theorem wit_learn : let s := atL0
    let b := dB 0x25 1 0 []
    let d := (fetched s 0x25 0 b).2
    Passes s 0x25 0 b ∧ d.ownership 0x25 b = none ∧ (d.trk 0).learn = none ∧ d.rd (Reg.ILK_STAT_MODE 0) = 5 ∧ d.atL0 0 ∧
      d.doorsLocked 0 := by decide
def learn0 : Learn :=
  { sq := 0, dn := 1, phase := 1, up := 0, dn' := 0, tab := [], edgeA := [], edgeB := [], aborted := true }
theorem wit_learn_end : ((car [] fun d => d.mapTrk 0 fun t => { t with learn := some learn0 }).dev.trk 0).learn = some learn0 ∧
    learn0.aborted := by decide
theorem wit_stale_zero : let d := (car [(Reg.TRK_LW_AUX_STALE_H 0, 0)] fun d => (d.mapTrk 0 fun t => { t with zeroGt := some 0 }).mapTime
      fun t => { t with gt := 1 }).dev
    d.on (Reg.TRK_LOAD_STAT_STALE_ZERO 0) = false ∧ (d.trk 0).zeroGt = some 0 ∧
      d.rd (Reg.TRK_LW_AUX_STALE_H 0) * 3600000000000 < d.gt - 0 := by decide
theorem wit_trip : let b := fun (l : Nat) => dB 0x20 1 0 [l, 0, 1]
    let d := fun (l : Nat) => (fetched (car) 0x20 0 (b l)).2
    Passes (car) 0x20 0 (b 1) ∧ Passes (car) 0x20 0 (b 2) ∧ ((d 1).trk 0).learn = none ∧ (d 1).ownership 0x20 (b 1) = none ∧
      (d 1).pst 0 ≠ Pst.unlearned ∧ (d 1).rd (Reg.ILK_STAT_MODE 0) = 0 ∧ (d 1).served 0 1 ∧ (d 2).served 0 2 = false := by decide
theorem wit_trip_unlearned : (fetched (car [(Reg.TRK_STAT_PSTATE 0, Pst.unlearned)]) 0x20 0 (dB 0x20 1 0 [1, 0, 1])).2.pst 0 =
    Pst.unlearned := by decide
theorem wit_trip_oos : let s := car [(Reg.ILK_STAT_MODE 0, 5)]
    Passes s 0x20 0 (dB 0x20 1 0 [1, 0, 1]) ∧ (fetched s 0x20 0 (dB 0x20 1 0 [1, 0, 1])).2.rd (Reg.ILK_STAT_MODE 0) = 5 := by decide
theorem wit_call_cancel : let b := dB 0x21 1 0 [1, 0]
    Passes (car) 0x21 0 b ∧ (fetched (car) 0x21 0 b).2.ownership 0x21 b = none ∧ (fetched (car) 0x21 0 b).2.pst 0 ≠ Pst.unlearned := by
  decide
def trip0 : Trip :=
  { kind := .stop, land := some 1, up := true, plan := none, phase := .arrived, next := false, pre := false, miss := false,
    com := true, sus := false, fin := false }
theorem wit_trip_end : let d := (car [] fun d => d.mapMot 0 fun m => { m with trip := some trip0 }).dev
    (d.mot 0).trip = some trip0 ∧
      ((d.endTrip 0 trip0).inc (Reg.MOT_CNT_TRIP 0)).pst 0 = Pst.verified := by decide
theorem wit_track : let d := (car [(Reg.MOT_THR_TRACK_TICKS 0, 5)] fun d => d.mapMot 0 fun m =>
      { m with trip := some trip0, trackRun := 5 }).dev
    (d.mot 0).trip = some trip0 ∧ d.rd (Reg.MOT_THR_TRACK_TICKS 0) ≤ (d.mot 0).trackRun ∧ trip0.phase ≠ .track := by decide
theorem wit_drive : let d := fun (e : Nat) => (car [(Reg.DRP_CTRL_STS_EN 0, e)] fun d => { d with sys := { d.sys with dpSts := 1 } }).dev
    (d 1).on (Reg.DRP_CTRL_STS_EN 0) ∧ bit (d 1).sys.dpSts 0 ≠ (d 1).on (Reg.DRP_CTRL_STS_POL 0) ∧
      false = (d 1).on (Reg.DRP_CTRL_STS_POL 0) ∧ (d 0).on (Reg.DRP_CTRL_STS_EN 0) = false := by decide
theorem wit_mode : let b := dB 0x22 1 0 [2, 1, 1]
    let d := (fetched (car) 0x22 0 b).2
    Passes (car) 0x22 0 b ∧ d.ownership 0x22 b = none ∧ d.pst 0 ≠ Pst.unlearned ∧ d.modeOk 0 2 1 := by decide
theorem wit_evr_start : let b := dB 0x23 5 0 [1, 0, 0, 0, 7]
    let d := (fetched (car) 0x23 0 b).2
    Passes (car) 0x23 0 b ∧ (∀ n ∈ maskCars (leAt b 16 2), (d.ilk n).evr = none) ∧
      ((maskCars (leAt b 16 2)).filter fun n => d.on (Reg.SLP_STAT_OWN n.val)) = [0] := by decide
theorem wit_evr_abort : Passes (car) 0x24 0 (dB 0x24 5 0 [1, 0]) := by decide
def evr0 : Evr := { step := 1, land := 0, tag := 7, start := 0 }
theorem wit_evr_timeout : let d := (car [(Reg.ILK_EVR_TMO_S 0, 0)] fun d => d.mapIlk 0 fun i => { i with evr := some evr0 }).dev
    (d.ilk 0).evr = some evr0 ∧ evr0.start + d.rd (Reg.ILK_EVR_TMO_S 0) * 1000000000 ≤ d.gt := by decide

theorem wit_evr_waits : let d := (car [(Reg.ILK_EVR_TMO_S 0, 1)] fun d => d.mapIlk 0 fun i => { i with evr := some evr0 }).dev
    d.gt < evr0.start + d.rd (Reg.ILK_EVR_TMO_S 0) * 1000000000 := by decide

/-! ## Witnesses: doors of slice 0 -/

/-- Slice 0 with power and with the settings given, both doors fitted, changed by `g`. -/
def slice (l : List ((Nat → RF) × Nat) := []) (g : Slice → Slice := id) : State :=
  let cfg := ((fun n => Reg.DOR_CTRL_FIT_DA n, 1) :: (fun n => Reg.DOR_CTRL_FIT_DB n, 1) :: l).foldl
    (fun (m : RegMap) (p : (Nat → RF) × Nat) => m.wr (p.1 0) p.2) []
  let x := g { State.reset.slices[0] with on := true, cfg := some { car := 0, regs := cfg } }
  { State.reset with slices := State.reset.slices.set 0 x }
/-- Its door A changed. -/
def door (f : Door → Door) (l : List ((Nat → RF) × Nat) := []) : State := slice l fun s => s.mapDoor 0 f
/-- A setting of door A, a register of it. -/
def dA (f : Nat → Nat → RF) (v : Nat) : (Nat → RF) × Nat := (fun n => f n 0, v)

def move0 (o b : Bool) : Move := { toOpen := o, prof := 0, brake := b, creep := false }
theorem wit_door_end : let c := stands (door fun a => { a with move := some (move0 false false), refd := true }) 0 9
    c.doors[0].move = some (move0 false false) ∧ c.doors[0].refd ∧ c.doors[0].cmd = c.endUm 0 false * 1000000000 ∧
      c.stalled 0 = false := by decide
/-- Door A moves, and a stall has lasted. -/
def stalledDoor (o b r : Bool) (g : Door → Door := id) : State :=
  door fun a => g { a with move := some (move0 o b), refd := r, uOfs := 400000, topGt := some 0 }
theorem wit_door_stall : let c := fun (o : Bool) => stands (stalledDoor o false true) 0 10000000000
    (c true).stalled 0 ∧ (c true).inEndZone 0 true = false ∧ (c false).stalled 0 ∧ (c false).inEndZone 0 false = false ∧
      (stalledDoor true false true).slices[0].on := by decide
theorem wit_door_stall_end : let c := stands (stalledDoor false false true fun a => { a with uOfs := 5000 }) 0 10000000000
    c.stalled 0 ∧ c.inEndZone 0 false ∧ (stands (stalledDoor true false false) 0 10000000000).stalled 0 ∧
      (stands (stalledDoor true true true) 0 10000000000).stalled 0 := by decide
theorem wit_door_brake : let c := stands (door fun a => { a with move := some (move0 true true) }) 0 9
    c.doors[0].move = some (move0 true true) ∧ (move0 true true).brake ∧ c.doors[0].vel = 0 := by decide
theorem wit_door_lost_end : let c := stands (door (fun a => { a with move := some (move0 true false), crept := 10 ^ 18 })
      [dA Reg.DOR_GEOM_WIDTH_MM 900]) 0 9
    c.doors[0].refd = false ∧ ((c.dset 0 Reg.DOR_GEOM_WIDTH_MM * 1250 : Nat) : Int) * 1000000000 ≤ c.doors[0].crept := by decide
theorem wit_door_force : let s := fun (st : Nat) => door fun a =>
      { a with st := st, move := some (move0 false false), fmOk := true, uOfs := 400000, forceGt := some 0 }
    (stands (s 6) 0 5000000).doors[0].st = DoorSt.closing ∧ (stands (s 8) 0 5000000).doors[0].st = DoorSt.nudging ∧
      (stands (s 6) 0 5000000).doors[0].fmOk ∧ (stands (s 6) 0 5000000).inEndZone 0 false = false ∧
      heldFor (stands (s 6) 0 5000000).doors[0].forceGt 5000000 (5 * msNs) := by decide
theorem wit_door_dwell : let c := stands (door fun a => { a with st := DoorSt.open', dwellT := .since 0 }) 0 9
    let h := { c with arb := .held 0 1 }
    h.orphan = false ∧ h.doors[0].st = DoorSt.open' ∧ h.doors[0].dwellT.done h.gt (h.doors[0].dwellMs * msNs) ∧
      h.lse.mode ≠ 1 ∧ h.lse.mode ≠ 3 := by decide
/-- A slice whose lease port 0 holds. -/
def held (s : State) : State := { s with slices := s.slices.set 0 { s.slices[0] with arb := .held 0 1 } }
theorem wit_door_hold : let c := stands (held (door fun a => { a with st := DoorSt.held, holdT := .since 0 })) 0 9
    c.orphan = false ∧ c.doors[0].st = DoorSt.held ∧ c.doors[0].holdT.done c.gt (c.doors[0].holdMs * msNs) := by decide
theorem wit_door_lock : let c := fun (k : Nat) => stands (held (door fun a =>
      { a with st := DoorSt.closed, lockT := .since 0, retries := k })) 0 100000000000
    (c 1).doors[0].st = DoorSt.closed ∧ (c 1).din 0 Reg.DOR_ROLE_LOCK_IN = false ∧
      (c 1).doors[0].lockT.done (c 1).gt ((c 1).dset 0 Reg.DOR_TIME_T_LOCK * 100 * msNs) ∧
      (c 1).doors[0].retries < 2 ∧ 2 ≤ (c 2).doors[0].retries := by decide
theorem wit_door_nudge : let c := stands (held (slice [dA Reg.DOR_PROT_LC 3] fun s =>
      ((s.mapDoor 0 fun a => { a with st := DoorSt.open', beamT := .since 0 }).wr Reg.FIO_VAL 8))) 0 1000000000000
    c.orphan = false ∧ c.fits 0 ∧ (c.lcOn 0 || c.dobOn 0) ∧ 3 ≤ c.doors[0].st ∧ c.doors[0].st ≤ 7 ∧ c.nudgeTime 0 ≠ 0 ∧
      c.lse.mode ≠ 1 ∧ c.doors[0].beamT.done c.gt (c.nudgeTime 0 * 1000 * msNs) ∧ c.doors[0].closeHeld = none := by decide
theorem wit_door_orphan : let c := stands (door fun a => { a with st := DoorSt.open', orphT := .since 0 }) 0 5000000000
    c.orphan ∧ c.doors[0].orphT.done c.gt (5000 * msNs) ∧ c.doors[0].st ≠ DoorSt.fault := by decide
theorem wit_door_push : let c := stands (door (fun a => { a with st := DoorSt.held, devGt := some 0 })
      [dA Reg.DOR_ROLE_STALL 0, dA Reg.DOR_ROLE_ENC_EN 1]) 0 10000000000
    c.modeE 0 ∧ c.stalled 0 ∧ c.doors[0].st = DoorSt.held ∧ c.dset 0 Reg.DOR_ROLE_ENC_EN ≠ 0 := by decide
theorem wit_door_push_held : let c := stands (held (door (fun a => { a with st := DoorSt.closed, devGt := some 0 })
      [dA Reg.DOR_ROLE_STALL 0, dA Reg.DOR_ROLE_ENC_EN 1])) 0 10000000000
    let h := c.mapLse fun l => { l with re := { l.re with hold := false }, rs := { l.rs with hold := false } }
    h.modeE 0 ∧ h.stalled 0 ∧ h.doors[0].st = DoorSt.closed ∧ h.orphan = false ∧ h.holdOn = false ∧
      (h.mapLse fun l => { l with re := { l.re with hold := true } }).holdOn := by decide
theorem wit_door_cause : let c := stands (door id) 0 9
    c.fits 0 ∧ (c.seeVm 3 0).causeHolds 0 3 0 0 ∧ (c.seeVm 0 0).causeHolds 0 0 0 0 = false ∧ (stands (slice) 1 9).fits 0 = false := by
  decide
theorem wit_door_open_winding : let c := stands (door (fun a => { a with iA := 5000, openGt := #v[some 0, none] })
      [dA Reg.DOR_CUR_I_RUN_MIN 1]) 0 2000000
    c.fits 0 ∧ c.causeHolds 0 2 0 0 ∧ c.doors[0].openGt[0] = some 0 ∧ 0 + 2 * msNs ≤ c.gt ∧ c.doors[0].openGt[1] = none ∧
      c.causeHolds 0 2 1 0 = false := by decide
theorem wit_door_fault : let b := ((stands (door id) 0 9).drvBit 0 3 0 true).mapDoor 0 fun a =>
      { a with well := a.well.filter fun c => c.1 != 3 }
    let e := b.mapDoor 0 fun a => { a with causes := a.causes ++ [(3, b.gt)] }
    selfClearing 3 ∧ (b.doors[0].causes.any fun c => c.1 = 3) = false ∧ e.doors[0].st ≠ DoorSt.fault := by decide
theorem wit_door_fault_gone : let c := stands (door fun a => { a with causes := [(3, 0)], well := [(3, 0)], fault := some 3 }) 0 100000000
    let z := (c.seeVm 3 0).seeWell 0 3 0
    let a := (z.drvBit 0 3 0 false).mapDoor 0 fun a => { a with causes := a.causes.filter fun c => c.1 != 3, well := a.well.filter fun c => c.1 != 3 }
    c.fits 0 ∧ (z.doors[0].causes.any fun c => c.1 = 3) ∧ (3, 0) ∈ z.doors[0].well ∧ 0 + 100 * msNs ≤ z.gt ∧
      a.doors[0].fault = some 3 ∧ a.doors[0].causes = [] := by decide
theorem wit_door_enc_back : let c := stands (door (fun a => { a with encLost := true }) [dA Reg.DOR_ROLE_ENC_EN 1]) 0 100000000
    c.doors[0].encLost ∧ c.doors[0].lostGt + 100 * msNs ≤ c.gt := by decide
theorem wit_door_rest : let c := stands (door id) 0 9
    c.fits 0 ∧ c.dset 0 Reg.DOR_ROLE_ENC_EN = 0 ∧ c.doors[0].move = none := by decide

/-! ## Witnesses: the slice link -/

theorem wit_link : let s := fun (l : Nat) => (running [(Reg.SLP_STAT_LINK 0, l)]).dev
    (s Lk.up).framing 0 ∧ (s Lk.up).lk 0 ≠ Lk.measure ∧
      ((((s Lk.up).flag (Reg.SLP_STAT_PUSH 0) false).confirmEnd 0).mapLink 0 fun l =>
        { l with got := false, miss := 0, pushed := false, tries := 0 }).lk 0 ≠ Lk.measure ∧
      (s Lk.retry).lk 0 = Lk.retry ∧ (s Lk.search).lk 0 = Lk.search ∧ (s Lk.lost).lk 0 = Lk.lost ∧
      (s Lk.sync).lk 0 = Lk.sync ∧ (s Lk.sync).engineOn 0 := by decide

theorem wit_retry : let d := (running [(Reg.SLP_STAT_LINK 0, Lk.retry)] fun d => d.mapLink 0 fun l => { l with retry := some 0 }).dev
    d.lk 0 = Lk.retry ∧ (d.lnk 0).retry = some 0 ∧ 0 ≤ d.gt ∧ d.gt < 5 ∧ (d.lnk 0).attGt = none ∧
      (running [(Reg.SLP_STAT_LINK 0, Lk.measure)] fun d => d.mapLink 0 fun l => { l with fresh := true }).dev.lk 0 = Lk.measure ∧
      bit (d.rd Reg.CTN_ISO_SP) 0 = false ∧ bit ((d.wr Reg.CTN_ISO_SP 1).rd Reg.CTN_ISO_SP) 0 := by
  decide

/-- Frames without sections, closed as sent. -/
def downFrame : List Byte := closeFrame (0xA1 :: List.replicate 27 0) []
def upFrame : List Byte := closeFrame (0xA2 :: List.replicate 31 0) []
set_option maxRecDepth 60000 in
theorem wit_down_frame : frameOk downFrame false 0xA1 64 ∧ frameOk downFrame true 0xA1 64 = false ∧
    frameSections downFrame 28 downType = some [] ∧ (State.reset.slices[0].mapPort 0 fun q => { q with marked := true }).cfg = none ∧
    State.reset.slices[0].ports[0].lastDn ≠ some (beAt downFrame 6 2) := by decide
set_option maxRecDepth 60000 in
theorem wit_up_frame : frameOk upFrame false 0xA2 128 ∧ frameOk upFrame true 0xA2 128 = false ∧
    frameSections upFrame 32 upType = some [] ∧ (running [(Reg.SLP_STAT_LINK 0, Lk.up)]).dev.framing 0 ∧
    bit ((running [(Reg.SLP_STAT_LINK 0, Lk.up)]).dev.rd Reg.CTN_ISO_SP) 0 = false := by decide
theorem wit_up_send : let s := slice [] fun s => s.mapPort 0 fun q => { q with marked := true }
    s.slices[0].on ∧ (stands s 0 9).ports[0].marked := by decide
theorem wit_lease : let c := stands (slice [] fun s => { s with arb := .held 0 1 }) 0 9
    c.arb = .held 0 1 ∧ (slice).slices[0].on ∧ (stands (slice) 0 9).arb = .guard ∧
      c.gt < c.lse.lastHold + c.set Reg.SLP_LEASE_L_MS * 1000000 ∧ c.gt < c.guardGt + c.set Reg.SLP_LEASE_G_MS * 1000000 ∧
      c.lse.lastHold + c.set Reg.SLP_LEASE_L_MS * 1000000 ≤ 10000000000 ∧
      c.guardGt + c.set Reg.SLP_LEASE_G_MS * 1000000 ≤ 10000000000 ∧ c.gt < c.markGt + 10000000 ∧
      c.markGt + 10000000 ≤ 10000000000 := by decide
theorem wit_grant : let c := stands (slice [] fun s => { s with
      arb := .free, grant := some (0, 3), board := { s.board with epoch := 3 } }) 0 9
    c.arb = Arb.free ∧ c.grant = some (0, 3) ∧ c.board.epoch = 3 := by decide
theorem wit_winner : let c := stands (slice [] fun s => ({ s with arb := .free }).mapPort 0 fun q =>
      { q with claim := some (true, 4) }) 0 9
    c.arb = Arb.free ∧ c.grant = none ∧ c.winner = some (0, 4) := by decide

def sact0 : SAct :=
  { port := 0, slot := 0, op := 0x50, epoch := 1, gt := 5, tol := 1, param := [], found := false, late := 0, done := 0, worst := 0 }
/-- Slice 0 with an action, under the lease of epoch 1. -/
def withAct (a : SAct) : State := held (slice [] fun s => { s with acts := [a] })
theorem wit_act_waits : let c := stands (withAct { sact0 with gt := 50 }) 0 9
    ∀ a ∈ c.acts, a.op = 0x41 ∨ a.op = 0x42 ∨ c.gt < a.gt := by decide
theorem wit_act_due : let c := stands (withAct sact0) 0 9
    c.acts = [sact0] ∧ sact0.gt ≤ c.gt ∧ sact0.op ≠ 0x41 ∧ sact0.op ≠ 0x42 := by decide
theorem wit_act_foreign : ∀ p, (stands (withAct sact0) 0 9).arb ≠ .held p { sact0 with epoch := 2 }.epoch := by decide
theorem wit_act_late : let u : RoomUse := { tick := 0, pool := 0, slot := none }
    let c := { stands (withAct sact0) 0 9 with room := [u, u, u, u] }
    c.arb = .held 0 sact0.epoch ∧ sact0.gt ≤ c.lse.fresh + 1000000 ∧ sact0.late ≤ sact0.tol * 1000 ∧
      sact0.tol * 1000 < { sact0 with late := 1001 }.late ∧
      4 ≤ ((c.room.filter fun u => u.tick = c.gt / 100000).filter fun u => u.pool = 0).length ∧
      (stands (withAct sact0) 0 9).roomLeft 0 ∧ sact0.op ≠ 0x30 := by decide
theorem wit_slice_cfg : let c := stands (slice [] fun s => { s with cfgNext := some { car := 1, regs := [] } }) 0 100000
    c.cfgNext = some { car := 1, regs := [] } ∧ c.cfgGt / tickNs < c.gt / tickNs ∧
      (stands (slice) 0 9).gt / tickNs ≤ (stands (slice) 0 9).cfgGt / tickNs := by decide
theorem wit_safe_outputs : let c := stands (slice [] fun s => s.mapLse fun l =>
      { l with trains := true, keep := some 0, sfbSince := some 0 }) 0 10000000000
    c.lse.trains ∧ c.lse.keep = some 0 ∧ 0 + c.set Reg.ILK_SAFE_T_ORPHAN_MS * 1000000 ≤ c.gt ∧ c.lse.sfbSince = some 0 ∧
      0 + c.set Reg.ILK_SAFE_SFB_DLY_MS * 1000000 < c.gt ∧ (stands (slice) 0 9).lse.sfbSince = none := by decide
theorem wit_orphan_lamps : let c := stands (slice [(fun n => Reg.LMP_S_CFG_STR_EN n, 1)]) 0 2000000000
    c.orphan ∧ c.guardGt + 2000000000 ≤ c.gt ∧ c.lstrOn ∧ c.hcOn 0 = false ∧ c.hcOn 1 = false ∧
      (stands (held (slice)) 0 9).orphan = false := by decide
theorem wit_power_up : State.reset.slices[0].on = false ∧ (slice).slices[0].on := by decide

/-! ## Witnesses: proxied registers and slice descriptors -/

theorem wit_proxy : (1 : BitVec 32).toNat % 4 ≠ 3 ∧ (1 : BitVec 32).toNat / 256 % 32 ≤ 19 ∧
    ((Reg.fieldsAt (0x40000 + 0x4000 * 0 + 0x508)).any fun f => f.acc = .rw || f.acc = .w1c) = false := by decide
theorem wit_own : (car).dev.own 0 ∧ (car).dev.own 1 = false ∧ (car [(Reg.SLP_STAT_LINK 0, Lk.up)]).dev.lk 0 = Lk.up := by decide
theorem wit_confirm : let s := car
    Passes s 0xA2 0 (dB 0xA2 2 0 [0]) ∧ leAt (dB 0xA2 2 0 [0]) 16 8 = (fetched s 0xA2 0 (dB 0xA2 2 0 [0])).2.sliceSerial 0 ∧
      ((fetched s 0xA2 0 (dB 0xA2 2 0 [0])).2.lnk 0).confirm = none ∧
      leAt (dB 0xA2 2 0 [1]) 16 8 ≠ (fetched s 0xA2 0 (dB 0xA2 2 0 [1])).2.sliceSerial 0 := by decide
theorem wit_probe : let s := car [(Reg.SLP_STAT_LINK 0, Lk.up)]
    let b := dB 0x52 2 0 [1, 0]
    let d := (fetched s 0x52 0 b).2
    Passes s 0x52 0 b ∧ d.lk 0 = Lk.up ∧ d.probing 0 = false ∧ d.ownership 0x52 b = none := by decide
theorem wit_rearm : let s := car [] fun d => d.mapIlk 0 fun i => { i with
      re := { i.re with safe := true }, rs := { i.rs with safe := true } }
    let b := dB 0x54 2 0 []
    let d := (fetched s 0x54 0 b).2
    Passes s 0x54 0 b ∧ d.ownership 0x54 b = none ∧ d.rearmBar 0 = none := by decide

theorem wit_lapse : let s := (car).dev
    s.own 0 ∧ s.gt < (s.lnk 0).dep.getD 0 + s.rd (Reg.SLP_LEASE_L_MS 0) * 1000000 ∧
      (s.lnk 0).dep.getD 0 + s.rd (Reg.SLP_LEASE_L_MS 0) * 1000000 ≤ 10000000000 := by decide
/-- A calibration table of one library entry and one node, and a CAL_SWAP that names it. -/
def table0 : List Byte := [0x48, 0x4C, 1, 1, 1, 0] ++ List.replicate 32 0
def swap0 : List Byte := dB 0x43 1 0 [0, 0, 0, 0, 0, 0, 1, 0, 0, 0, 0, 0, 0, 0, 0, 0, 38]
def lamps : State := car [(Reg.HLC_CTRL_EN0 0, 1), (Reg.HLC_PORT_NODES 0 0, 1)]
theorem wit_cal_swap : let s := { lamps with dev := lamps.dev.flag Reg.HST_STAT_BME true }
    let f := fetched s 0x43 0 swap0
    let d := f.2.emitRead (leAt swap0 24 8) (leAt swap0 32 4)
    let x := d.admitAction 0x43 0 f.1 swap0 .c ((d.lnk 0).cal[Fin.ofNat 2 (byteAt swap0 20)]).isSome
    Passes s 0x43 0 swap0 ∧ f.2.mastering ∧ d.tableOk swap0 table0 ∧ d.tableOk swap0 [] = false ∧
      (x.1.ladle.acts.find? fun y => y.ord = d.ladle.ord).isSome ∧
      (fetched lamps 0x43 0 swap0).2.mastering = false := by decide

/-! ## Witnesses: inputs and outputs of slice 0, lamps -/

theorem wit_samples : let c := stands (slice) 0 9000000
    gridUp (c.sampleNs 0) 1000 ≤ gridDown (c.sampleNs 0) c.gt ∧
      gridDown (c.sampleNs 0) c.gt < gridUp (c.sampleNs 0) 9000001 := by decide
theorem wit_input : let a := fun (i : Fin 34) => stands (slice [] fun s => s.mapIn i fun x => { x with raw := true }) 0 1000000000
    let g := fun (i : Fin 34) => gridDown ((a i).sampleNs i.val) (a i).gt
    (a 30).inState 30 = InSt.normal ∧ (a 30).runDone 30 (g 30) ∧ (a 30).fio.ins[(30 : Fin 34)].raw ≠ (a 30).fio.ins[(30 : Fin 34)].deb ∧
      (a 30).newState 30 true ((a 30).runGt 30) (g 30) = InSt.normal ∧ (a 30).stamps 30 ∧
      (a 0).stamps 0 = false ∧ (a 0).runDone 0 (g 0) ∧ (a 0).newState 0 true ((a 0).runGt 0) (g 0) = InSt.normal := by decide
theorem wit_input_waits : let a := stands (slice [] fun s => s.mapIn 0 fun x => { x with raw := true, first := 5 }) 0 9
    a.runDone 0 (gridDown (a.sampleNs 0) a.gt) = false ∧
      a.newState 0 a.fio.ins[(0 : Fin 34)].deb a.fio.ins[(0 : Fin 34)].active 0 = a.inState 0 := by decide
theorem wit_input_stuck : let c := stands (slice [(fun n => Reg.FIO_PROF_A_STUCK_S n 0, 10)] fun s =>
      s.mapIn 0 fun x => { x with raw := true, deb := true }) 0 20000000000
    c.inProf 0 Reg.FIO_PROF_A_STUCK_S = 10 ∧ c.broken 0 c.gt = false ∧ c.inState 0 = InSt.normal ∧
      c.newState 0 true 0 c.gt = InSt.stuck ∧ (stands (slice [] fun s => s.wr Reg.FIO_STUCK 1) 0 9).inState 0 = InSt.stuck := by decide
theorem wit_chatter : let c := stands (slice [(fun n => Reg.FIO_PROF_A_STUCK_S n 0, 0), (fun n => Reg.FIO_PROF_B_CHAT_MS n 0, 16),
      (fun n => Reg.FIO_PROF_B_CHAT_N n 0, 4)] fun s => (s.wr Reg.FIO_CHAT 1).mapIn 0 fun x => { x with bins := [(0, 9)] }) 0 9
    c.inState 0 = InSt.chatter ∧ c.inProf 0 Reg.FIO_PROF_A_STUCK_S = 0 ∧ c.binNs 0 ≠ 0 ∧
      c.inProf 0 Reg.FIO_PROF_B_CHAT_N < c.windowEdges 0 9 := by decide
theorem wit_wire : let c := stands (slice [(fun n => Reg.FIO_IN_WB_EN n 0, 1)] fun s =>
      (s.wr Reg.FIO_VS 24000).mapIn 0 fun x => { x with low := some 0, fine := some 0 }) 0 10000000000
    c.broken 0 c.gt ∧ c.inState 0 ≠ InSt.wireBreak ∧
      sampledFor c.fio.ins[(0 : Fin 34)].fine (c.inProf 0 Reg.FIO_PROF_B_WB_MS) c.gt ∧
      (stands (slice [] fun s => s.wr Reg.FIO_WBRK 1) 0 9).inState 0 = InSt.wireBreak := by decide
theorem wit_lost_edges : let c := stands (slice [] fun s => s.mapFio fun x => { x with lost := 3 }) 0 9
    c.fio.lost ≠ 0 ∧ c.fio.edges.length ≤ 64 ∧ (stands (slice) 0 9).fio.lost = 0 := by decide
theorem wit_pulse : let c := stands (slice [] fun s => s.mapFio fun x => { x with pulses := [(2, true, 5)] }) 0 9
    (c.fio.pulses.filter fun p => bit (c.unit (2 : Fin 16).val) p.1) = [(2, true, 5)] ∧ 5 ≤ c.gt := by decide
theorem wit_output : let c := stands (slice [] fun s => s.wr Reg.FIO_OUT_CMD_ACTION 4) 0 10000000
    bit c.demand 2 ∧ c.fio.vsOff = false ∧ c.outFor 2 0 10 ∧ c.outFor 2 1 10 = false ∧ c.fio.latch &&& c.unit 2 = 0 := by decide
theorem wit_stage : let c := stands (slice) 0 200000
    c.stageBad 0 0 ∧ c.stageBad 1 0 = false := by decide
theorem wit_slice_probe : (stands (slice [] fun s => s.wr Reg.FIO_STAT_PROBE 1) 0 9).rd Reg.FIO_STAT_PROBE = 1 ∧
    9 < (slice).slices[0].fio.probeGt + probeNs 0 ∧ (slice).slices[0].fio.probeGt + probeNs 2 ≤ 10000000 ∧
    (1 : BitVec 32).toNat % 4 ≠ 3 ∧ (1 : BitVec 32).toNat / 256 % 32 ≤ 19 := by decide
theorem wit_string : let c := stands (slice [(fun n => Reg.LMP_S_CFG_STR_EN n, 3), (fun n => Reg.LMP_S_CFG_TEST_EN n, 1)] fun s =>
      s.mapLamps fun l => { l with derGt := some 0, lows := l.lows.set 1 10 }) 0 10000000000
    c.lstrOn ∧ bit (c.set Reg.LMP_S_CFG_TEST_EN) 0 ∧ c.lamps.pairGt[0] + 10000000000 ≤ c.gt ∧ c.strFits 0 ∧
      c.lamps.latch[0] = none ∧ c.lamps.lows[0] < 10 ∧ c.strFits 1 ∧ c.lamps.latch[1] = none ∧ 10 ≤ c.lamps.lows[1] ∧
      c.lamps.hot = false ∧ c.setOn Reg.LMP_S_CFG_SRC_A = false ∧ c.setOn Reg.LMP_S_CFG_SRC_B = false ∧
      (∀ g ∈ c.lamps.derGt, g + 100000000 ≤ c.gt) ∧ (stands (slice) 0 9).lstrOn = false := by decide
theorem wit_pwm : let b := (stands (slice [(fun n => Reg.LMP_S_CFG_STR_EN n, 3), (fun n => Reg.LMP_S_CFG_TEST_EN n, 1)]) 0 9).boost []
    bit (b.set Reg.LMP_S_CFG_TEST_EN) (Fin.ofNat 7 b.lamps.pair).val ∧ b.offWindow (Fin.ofNat 7 b.lamps.pair) := by decide
theorem wit_pwm_lit : let b := (stands (slice [(fun n => Reg.LMP_S_CFG_STR_EN n, 1)] fun s =>
      (s.wr (fun n => Reg.LMP_S_SET_DAC n 0) 9).wr (fun n => Reg.LMP_S_SET_PWM n 0) 4095) 0 9).boost []
    b.offWindow (Fin.ofNat 7 b.lamps.pair) = false := by decide
theorem wit_chain : let s := slice [(fun n => Reg.HLC_CTRL_EN0 n, 1), (fun n => Reg.HLC_PORT_NODES n 0, 2)]
    let c := standsFiring s 0 9
    let per := c.set Reg.HLC_CTRL_PERIOD_US * 1000
    let e := standsFiring s 0 (per - helNs 2)
    c.hcOn 0 ∧ c.hels[0].frame = none ∧ c.helShape 0 = some (2, false) ∧ c.acts = [] ∧ c.hels[0].swap = false ∧
      c.latchesAt 0 (c.gt + helNs 2) = false ∧ e.latchesAt 0 (e.gt + helNs 2) := by decide
def hframe0 : HFrame := { m := 2, retest := false, lam := 0, latched := true, checked := false, tail := 0x5A000007 }
theorem wit_chain_check : let c := stands (slice [] fun s => s.mapHel 0 fun h => { h with frame := some hframe0 }) 0 9
    c.hels[0].frame = some hframe0 ∧ hframe0.checked = false ∧ c.hels[0].state = 1 := by decide

/-! ## Witnesses: the duplex pair -/

/-- The pair with its link in state `l`, this controller in role `r`. -/
def pair (l r : Nat) (g : Dev → Dev := id) : State :=
  running [(Reg.PBX_CTRL_EN, 1), (Reg.PBX_STAT_LINK, l), (Reg.PBX_STAT_ROLE, r), (Reg.PBX_STAT_PEER_READY, 1), (Reg.PBX_STAT_LANES, 3)] g
def pexOf (kind n : Nat) : List Byte := pexFrame kind 1 0 (List.replicate n 0)
set_option maxRecDepth 60000 in
theorem wit_heartbeat : let a := (pair Px.up 0).dev.at 9
    (pair Px.up 0).dev.pxFraming ∧ a.pexOk 0xC1 (pexOf 0xC1 72) false ∧ (∀ k ∈ [0xC1, 0xC2, 0xC3, 0xC4, 0xC5], a.pexOk k [] false = false) ∧
      (pair Px.refused 0).dev.pxFraming := by decide
set_option maxRecDepth 60000 in
theorem wit_heartbeat_up : let b := pexOf 0xC1 72
    let a := (pair Px.up 0).dev.at 9
    let c := ((((a.pexTrip b 9).peerDiff b 9).mapPbx fun p =>
      { p with got := true, miss := 0, rx := some (beAt b 4 4, 9), peerGt := beAt b 8 8, gone := 0 }).wr Reg.PBX_HELD_PEER (beAt b 32 2))
    c.px ≠ Px.refused ∧ (c.peerSeeds b).px = Px.up := by decide
set_option maxRecDepth 60000 in
theorem wit_chunks : let a := (pair Px.up 0).dev.at 9
    let w := fun (b : List Byte) => joined (([] ++ [(beAt b 12 4, (b.drop 16).take (b.length - 20))]).filter fun p => p.1 != 0xFFFFFFFF)
    a.pexOk 0xC2 (pexOf 0xC2 16) false ∧ a.px = Px.up ∧ (w (pexOf 0xC2 16)).length < 64 ∧ a.pexOk 0xC2 (pexOf 0xC2 72) false ∧
      64 ≤ (w (pexOf 0xC2 72)).length ∧ leAt (w (pexOf 0xC2 72)) 28 4 ≤ beAt (pexOf 0xC2 72) 12 4 + ((pexOf 0xC2 72).length - 20) := by
  decide
/-- A first chunk whose header tells of more to come, and a full chunk that does not start an image. -/
def chunk1 : List Byte := pexFrame 0xC2 1 0 (List.replicate 36 0 ++ leBytes 4 1000 ++ List.replicate 32 0)
def body2 : List Byte := [0, 0, 0, 0, 0, 0, 0x0F, 0xE0] ++ List.replicate 4064 0
def chunk2 : List Byte := pexFrame 0xC2 1 0 body2
set_option maxRecDepth 60000 in
theorem wit_chunk_more : let w := joined ([(beAt chunk1 12 4, (chunk1.drop 16).take (chunk1.length - 20))].filter fun p => p.1 != 0xFFFFFFFF)
    ((pair Px.up 0).dev.at 9).pexOk 0xC2 chunk1 false ∧ 64 ≤ w.length ∧
      beAt chunk1 12 4 + (chunk1.length - 20) < leAt w 28 4 := by decide
theorem wit_chunk_full :
    ((pair Px.up 0).dev.at 9).pexOk 0xC2 chunk2 false ∧ chunk2.length = 4084 ∧
      (joined ([(beAt chunk2 12 4, (chunk2.drop 16).take (chunk2.length - 20))].filter fun p => p.1 != 0xFFFFFFFF)).length < 64 := by
  have hb : body2.length = 4072 := by rw [body2, List.length_append, List.length_replicate]; rfl
  have hl : chunk2.length = 4084 := by rw [chunk2, pexFrame_length, hb]
  have ho : beAt chunk2 12 4 = 4064 := by decide
  refine ⟨?_, hl, ?_⟩
  · refine pexOk_pexFrame _ (by decide) (by decide) (by decide) (by rw [hb]) (by rw [hb]; decide) (by rw [hb]; decide) ?_
    change pexLen 0xC2 chunk2 = true
    rw [pexLen, hl]; decide
  · rw [ho]; exact Nat.zero_lt_succ _
def img0 : Image := { seq := 0, gt := 0, cars := 0, hand := false, gen := 0, secs := [], eras := [], opens := [] }
def fly0 : InFlight := { img := img0, full := true, cars := [], group := false }
set_option maxRecDepth 60000 in
theorem wit_ack : let s := pair Px.up 0 fun d => d.mapTvt fun t => { t with fly := some fly0, serve := [] }
    let a := s.dev.at 9
    let no := pexFrame 0xC3 1 0 [0, 0, 0, 0, 1, 0, 0, 0]
    a.pexOk 0xC3 (pexOf 0xC3 8) false ∧ a.tvt.fly = some fly0 ∧ a.px = Px.up ∧ beAt (pexOf 0xC3 8) 8 4 = fly0.img.seq ∧
      byteAt (pexOf 0xC3 8) 12 = 0 ∧ fly0.full ∧ a.tvt.serve = [] ∧ a.pexOk 0xC3 no false ∧ byteAt no 12 ≠ 0 ∧
      beAt no 8 4 = fly0.img.seq := by decide
set_option maxRecDepth 60000 in
theorem wit_health : let a := (pair Px.up 0 fun d => d.mapPbx fun p => { p with boot := some 5 }).dev.at 9
    a.pexOk 0xC4 (pexOf 0xC4 16) false ∧ a.px = Px.up ∧ a.pexOk 0xC5 (pexOf 0xC5 48) false ∧ a.pbx.boot = some 5 ∧
      5 ≠ beAt (pexOf 0xC5 48) 18 2 := by decide
theorem wit_pebex : (pair Px.refused 0).dev.px = Px.refused ∧ (pair Px.search 0).dev.px = Px.search ∧
    (pair Px.retry 0).dev.px = Px.retry ∧ (pair Px.lost 0).dev.px = Px.lost ∧ (pair Px.pending 0).dev.px = Px.pending ∧
    bit ((pair Px.up 0).dev.rd Reg.PBX_STAT_LANES) 0 ∧ setBit ((pair Px.up 0).dev.rd Reg.PBX_STAT_LANES) 0 false ≠ 0 ∧
    setBit (((pair Px.up 0).dev.wr Reg.PBX_STAT_LANES 1).rd Reg.PBX_STAT_LANES) 0 false = 0 := by decide
theorem wit_peer_confirm : let d := (pair Px.pending 0).dev
    d.rd Reg.PBX_CONFIRM_LO = d.rd Reg.PBX_PEER_SER_LO ∧ (0 : BitVec 32).toNat = d.rd Reg.PBX_PEER_SER_HI := by decide
theorem wit_retry_pair : (pair Px.retry 0 fun d => d.mapPbx fun p => { p with retry := some 0 }).dev.pbx.retry = some 0 ∧
    (pair Px.retry 0).dev.gt < 1 := by decide
theorem wit_boot_wait : let d := (pair Px.search 3 fun d => (d.mapPbx fun p => { p with boot0 := some 0 }).mapTime fun t =>
      { t with gt := 1000000000000 }).dev
    d.on Reg.PBX_CTRL_EN ∧ d.role = 3 ∧ d.px ≠ Px.up ∧ d.pbx.boot0 = some 0 ∧
      0 + d.rd Reg.PBX_CFG_BOOT_WAIT_MS * 1000000 ≤ d.gt ∧
      (pair Px.search 3).dev.gt < 0 + (pair Px.search 3).dev.rd Reg.PBX_CFG_BOOT_WAIT_MS * 1000000 := by decide
theorem wit_peer_dead : let d := fun (r : Nat) => (pair Px.lost r).dev
    (d 0).peerDead ∧ (d 0).on Reg.PBX_STAT_PRESUMED_DEAD = false ∧ (d 0).role = 0 ∧
      ((d 0).flag Reg.PBX_STAT_PRESUMED_DEAD true).role = 0 ∧ (d 1).peerDead ∧ (d 1).on Reg.PBX_STAT_PRESUMED_DEAD = false ∧
      ((d 1).flag Reg.PBX_STAT_PRESUMED_DEAD true).role = 1 := by decide
theorem wit_checkpoint : (pair Px.up 0).dev.ckpDue ∧ (pair Px.up 0).dev.ckpFull := by decide
theorem wit_stall : let d := (pair Px.up 0 fun d => (d.mapTvt fun t => { t with waitGt := some 0 }).mapTime fun t =>
      { t with gt := 1000000000000 }).dev
    d.px = Px.up ∧ d.tvt.waitGt = some 0 ∧
      0 + d.rd Reg.TVT_STALL_STALL_MS * 1000000 * (d.tvt.stalls + 1) ≤ d.gt ∧
      (pair Px.up 0).dev.gt < 0 + (pair Px.up 0).dev.rd Reg.TVT_STALL_STALL_MS * 1000000 * 1 := by decide
theorem wit_hand_expiry : let h : Handing := { car := 0, start := 0, who := none, closed := false, acked := false }
    h ∈ (pair Px.up 0 fun d => d.mapPbx fun p => { p with handing := [h] }).dev.pbx.handing ∧ h.car = 0 ∧
      h.start + 60000000000 ≤ 60000000000 ∧ (pair Px.up 0).dev.gt < h.start + 60000000000 := by decide
theorem wit_engine_start : let d := (pair Px.up 0 fun d => d.setEngine 1 Dom.starting).dev
    d.dom 5 = Dom.starting ∧ (d.setEngine 1 Dom.on).imgSec 0x11 = none := by decide
theorem wit_release : let b := dB 0x90 1 0 []
    let d := (fetched (pair Px.up 0) 0x90 0 b).2
    Passes (pair Px.up 0) 0x90 0 b ∧ d.px = Px.up ∧ d.on Reg.PBX_STAT_PEER_READY ∧ d.own 0 ∧ d.pbx.handing = [] := by decide
theorem wit_handover : let b := dB 0x91 0 0 []
    let d := (fetched (pair Px.up 0) 0x91 0 b).2
    Passes (pair Px.up 0) 0x91 0 b ∧ d.px = Px.up ∧ d.on Reg.PBX_STAT_PEER_READY ∧ d.role = 0 ∧ d.pbx.duty = none := by decide
theorem wit_standby : Passes (pair Px.up 1) 0x92 0 (dB 0x92 0 0 [1]) ∧ Passes (pair Px.up 1) 0x93 0 (dB 0x93 0 0 [1]) ∧
    (fetched (pair Px.up 1) 0x93 0 (dB 0x93 0 0 [1])).2.role = 1 ∧ (fetched (pair Px.up 0) 0x93 0 (dB 0x93 0 0 [1])).2.role ≠ 1 := by
  decide

/-- A frame with a line error passes as no kind. -/
theorem wit_pex_bad (b : List Byte) : ∀ k, ((pair Px.up 0).dev.at 9).pexOk k b true = false := fun _ => rfl

/-! ## Witnesses: Logbook -/

def rec0 : Rec :=
  { seq := 1, gt := 0, code := 0x8001, sev := 5, bypass := false, pinned := false, mirrored := false, flushed := false, torn := false, src := 0,
    tclass := 0, tindex := 0, ctrl := 0, role := 0, eseq := 0, part := 0, parts := 1, pay := [] }
def freeze0 : Freeze := { start := 0, stop := 5, capped := false }
/-- The Logbook ready, changed by `f`. -/
def logbook (f : LogSt → LogSt := id) : State :=
  running [(Reg.LOG_STAT_READY, 1), (Reg.LOG_STAT_P_READY, 1), (Reg.LOG_CTRL_PF_EN, 1)] fun d => d.mapLog f
theorem wit_log_mastering : (running [(Reg.LOG_STAT_READY, 1), (Reg.HST_STAT_BME, 1)]).dev.mastering := by decide
theorem wit_log_read : let b := dB 0x70 0 0 [0, 0, 0, 0, 0, 0, 0, 0, 0, 1]
    Passes (logbook) 0x70 0 b ∧ (fetched (logbook) 0x70 0 b).2.log.clear = none ∧ bit (byteAt b 29) 1 = false := by
  decide
theorem wit_log_freeze : let b := dB 0x71 0 0 [5]
    let d := (fetched (logbook) 0x71 0 b).2
    Passes (logbook) 0x71 0 b ∧ d.log.clear = none ∧ d.log.flushing = false ∧ d.log.freeze = none ∧
      Passes (logbook) 0x72 0 (dB 0x72 0 0 []) := by decide
theorem wit_log_clear : let b := dB 0x73 0 0 []
    let d := (fetched (logbook) 0x73 0 b).2
    Passes (logbook) 0x73 0 b ∧ d.log.freeze = none ∧ d.log.flushing = false ∧ d.log.clear = none ∧
      (d.checkAuth 1 0 (logbook).otp.logKey (d.clearMsg 0) (cut b 16 32)).1 = false := by decide
/-- A clear that is authorised: where the MAC is 32 zero bytes, the descriptor of zeros is its answer. -/
theorem wit_log_clear_ok : let s := tD (locked ++ [(Reg.LOG_STAT_READY, 1)]) fun d => d.mapHost fun h => { h with chal := some { nonce := 0, purpose := 1, gt := 0 } }
    let b := dB 0x73 0 0 []
    let d := (fetched s 0x73 0 b).2
    Config.hmacSha256 s.otp.logKey (d.clearMsg 0 0) = cut b 16 32 →
      (d.checkAuth 1 0 s.otp.logKey (d.clearMsg 0) (cut b 16 32)).1 = true := by
  intro s b d h
  have hc : d.host.chal = some { nonce := 0, purpose := 1, gt := 0 } := by decide
  have ht : d.gt ≤ chalNs := by decide
  simp [Dev.checkAuth, hc, h, ht]
theorem wit_ring_write : let s := logbook fun x => { x with staging := [rec0] }
    s.dev.log.staging = [rec0] ∧ s.dev.log.freeze = none ∧ s.dev.on Reg.LOG_STAT_READY := by decide
theorem wit_held_back : let s := logbook fun x => { x with staging := [rec0], freeze := some freeze0 }
    s.dev.log.freeze.isSome ∧ s.dev.log.holding.length < 8192 ∧ rec0.sev < 6 ∧ 6 ≤ { rec0 with sev := 7 }.sev := by decide
theorem wit_held_full :
    8192 ≤ (logbook fun x => { x with freeze := some freeze0, holding := List.replicate 8192 rec0 }).dev.log.holding.length := by
  show 8192 ≤ (List.replicate 8192 rec0).length
  exact Nat.le_of_eq List.length_replicate.symm
theorem wit_mirror : let d := (logbook fun x => { x with ring := [rec0] }).dev
    d.log.freeze = none ∧ d.on Reg.LOG_STAT_P_READY ∧
      (d.log.ring.find? fun x => x.unmirrored && decide (d.log.mirPtr ≤ x.seq)) = some rec0 := by decide
theorem wit_mirror_flush : (logbook fun x => { x with todo := [1] }).dev.log.todo ≠ [] ∧ (logbook).dev.log.todo = [] := by decide
theorem wit_freeze_end : let d := (logbook fun x => { x with freeze := some freeze0 }).dev
    d.log.freeze = some freeze0 ∧ d.gt < freeze0.stop ∧ { freeze0 with stop := 0 }.stop ≤ d.gt := by decide
theorem wit_drops : let d := (logbook fun x => { x with drops := #v[0, 0, 0, 0, 0, 0, 0, 5] }).dev
    d.log.drops = #v[0, 0, 0, 0, 0, 0, 0, 5] ∧ d.log.dropGt[7] = none := by decide
theorem wit_pfail : (logbook).dev.on Reg.LOG_CTRL_PF_EN ∧ (logbook).dev.log.flushing = false ∧ (logbook).dev.flushSet = [] ∧
    (logbook fun x => { x with ring := [rec0] }).dev.flushSet ≠ [] ∧
    (logbook fun x => { x with flushing := true }).dev.log.flushing := by decide
theorem wit_offered_record : let d := (logbook).dev
    let m := d.rd Reg.LOG_CTRL_MIN_SEV
    4 ≤ rec0.sev ∧ m ≤ 3 ∧ d.log.flushing = false ∧ d.log.staging.length < 4096 ∧
      { rec0 with sev := 0 }.sev < (logbook).dev.rd Reg.LOG_CTRL_MIN_SEV + 1 ∧
      0 < (tD [(Reg.LOG_CTRL_MIN_SEV, 3)]).dev.rd Reg.LOG_CTRL_MIN_SEV := by decide

/-! ## Witnesses: Whisk -/

/-- A standby that tests; car 1 is enabled, not owned, its domains off. -/
def standby (g : Dev → Dev := id) : State :=
  running [(Reg.PBX_STAT_ROLE, 1), (Reg.PBX_STAT_TESTED, 1), (Reg.GLB_CAR_EN_MASK, 3)] fun d => g (d.setEngine 1 Dom.off)
theorem wit_bist : let b := fun (k : Nat) => dB 0x80 0 0 [k]
    let d := fun (k : Nat) => (fetched standby 0x80 0 (b k)).2
    Passes standby 0x80 0 (b 5) ∧ (d 5).testable 5 ∧ (d 5).whk.queue.length < 16 ∧ Passes standby 0x80 0 (b 0) ∧
      (d 0).testable 0 = false := by decide
def mres0 : MacroRes := { mac := 0, fails := 1, pairs := [(7, 2)], ovf := false }
/-- The domain is one with a memory macro: how many it has is fixed by the implementation. -/
theorem wit_repair : let s := standby fun d => d.mapWhk fun w => { w with mem := [(5, [mres0])] }
    let d := (fetched s 0x81 0 (dB 0x81 0 0 [5])).2
    d.testable 5 ∧ (d.whk.mem.find? fun p => p.1 = 5) = some (5, [mres0]) ∧
      ([mres0].find? fun r => r.mac = 0) = some mres0 ∧ mres0.ovf = false ∧
      (distinct (mres0.pairs.map (·.1))).length ≤ (d.rowsFree 5 0).length ∧ (d.sparesOf 5 0).filter (fun x => !x.hard) = [] := by
  decide
theorem wit_health_report : let d := standby.dev
    d.tested ∧ d.coldDomains = [5, 6, 7, 8, 9] ∧ d.px ≠ Px.up ∧ d.whk.run = none ∧ d.whk.queue = [] ∧ d.whk.last = none ∧
      d.healthDue ∧ d.whk.gapGt ≤ d.gt ∧
      (standby fun d => d.mapTime fun t => { t with gt := 500000 }).dev.healthDue = false := by decide
def test0 : Test := { domain := 5, kind := 1, pset := 0, asked := true }
theorem wit_test_done : (standby fun d => d.mapWhk fun w => { w with run := some test0 }).dev.whk.run = some test0 ∧ test0.kind = 1 ∧
    test0.asked ∧ { test0 with kind := 0 }.kind = 0 ∧ (standby).dev.logicRan { test0 with kind := 0 } false = false ∧
    (standby fun d => d.mapTime fun t => { t with gt := 4000000 }).dev.logicRan { test0 with kind := 0 } false := by decide

/-- alpha^70 is x^6 (x^4 + x^3 + x + 1): pattern 0, cell 70 of chain 3 (R429). -/
theorem test_diagnosis : let c := (BistSig.blank.chains).set 3 0x6C0#64
    let r := logicRes BistSig.blank true 1 (BistSig.blank.sets.set 1 5#64) c
    (r.pass, r.first, r.chain, r.pat, r.cell, r.multi) = (false, 1, 3, 0, 70, false) := by decide
/-- A cell that a spare row replaces is not read; of two wrong cells a falling read finds the higher address first (R430, R431). -/
theorem test_march : let e : List ReadErr := [⟨2, .array 7 2⟩, ⟨2, .array 9 2⟩]
    (macroRes 0 [] e).pairs = [(9, 2), (7, 2)] ∧ (macroRes 0 [] e).fails = 2 ∧
    (macroRes 0 [{ domain := 0, mac := 0, row := some 0, value := 9, hard := false }] e).pairs = [(7, 2)] := by decide

/-! ## Witnesses: power and setup -/

/-- A configuration that passes the lock checks: one car, free-running time. -/
def setup : List (RF × Nat) :=
  [(Reg.GLB_CAR_EN_MASK, 1), (Reg.TSP_CTRL_SRC, 1), (Reg.LAR_STAT_SIZE_MIB, 4096), (Reg.XSP_STAT_READY, 1),
    (Reg.XSP_STAT_SIZE_MIB, 64), (Reg.TRK_CTRL_BOT_IN 0, 3), (Reg.TRK_ENC_SCALE 0, 1000), (Reg.DRP_CTRL_EN 0, 1),
    (Reg.DOR_CTRL_FIT_DA 0, 1), (Reg.DOR_ROLE_LOCK_IN 0 0, 1), (Reg.DOR_FORCE_K_F 0 0, 5), (Reg.ILK_ROLE0_SC_IN 0, 0), (Reg.MOT_SERVE 0 0, 3), (Reg.MOT_AJ_A_MAX 0, 800), (Reg.ILK_RECALL_DOORS 0, 1)]
set_option maxRecDepth 60000 in
theorem wit_lock : let d := (tD setup fun d => d.setDom 108 Dom.on).dev
    let v := (BitVec.ofNat 32 (0x5E7C * 65536 + 1)).toNat
    Reg.GLB_LOCK_KEY.cut v = 0x5E7C ∧ Reg.GLB_LOCK.cut v ≠ 0 ∧ d.inReset = false ∧ d.on Reg.OTP_STAT_IMG_REQ = false ∧
      d.locked = false ∧ d.lockFail = none ∧ (tD []).dev.lockFail = some (1, 0xFF, 1) := by decide
theorem wit_resets : let v := fun (k : Nat) => (BitVec.ofNat 32 (k * 65536 + 1)).toNat
    Reg.RST_CTRL_KEY.cut (v 0xA5C3) = 0xA5C3 ∧ Reg.RST_CTRL_GO.cut (v 0xA5C3) ≠ 0 ∧ Reg.RST_CTRL_KEY.cut (v 0xA5C2) ≠ 0xA5C3 ∧
      State.reset.dev.locked = false ∧ (running).dev.locked ∧ (running [(Reg.RST_CFG_SW_EN, 0)]).dev.on Reg.RST_CFG_SW_EN = false ∧
      (running).dev.inReset = false ∧ State.reset.dev.inReset ∧ (115 : Int) < 116 ∧
      ((running).dev.seeTj 101).on Reg.PWR_MON_TWARN = false := by decide
theorem wit_domains : let d := (running [(Reg.PWR_CTRL_AUTO_IDLE, 1)] fun d => (d.setDom 110 Dom.on).setDom 96 Dom.idle).dev
    d.on Reg.PWR_CTRL_AUTO_IDLE ∧ d.dom 110 = Dom.on ∧ d.idleOk 110 ∧ d.dom 96 = Dom.idle := by decide
theorem wit_clocks : (running).dev.host.refHeld = false ∧ ((running).dev.seeTj 50).on Reg.PWR_MON_TWARN = false ∧
    (running).dev.actPort = 0 ∧ (running).dev.actPort ≠ 1 ∧ (running).dev.on Reg.CTN_ISO_IO_ETH0 = false ∧
    (running).dev.on Reg.CTN_ISO_IO_ETH1 = false := by decide
theorem wit_bar : let d := (running).dev
    d.reachable ∧ (0x20000 : Fin 1048576).val % 4 = 0 ∧ (0x20002 : Fin 1048576).val % 4 ≠ 0 ∧ (8 : Fin 9).val ≠ 4 ∧
      d.carOn (carOf 0x21000).val = false ∧ d.sys.latch = [] ∧ pairLow 0x21000 = false ∧ State.reset.dev.reachable = false ∧
      (4 : Fin 8192).val % 8 ≠ 0 ∧ (2 : Fin 9).val ≠ 4 ∧ (2 : Fin 9).val ≠ 8 := by decide
theorem wit_otp : let v := (BitVec.ofNat 32 (0x0F7A * 65536 + 1)).toNat
    Reg.SEC_PROG_GO_KEY.cut v = 0x0F7A ∧ Reg.SEC_PROG_GO.cut v ≠ 0 ∧ State.reset.dev.sys.prog = none ∧
      (tD [(Reg.SEC_PROG_SEL_ITEM, 9)]).dev.progRefused Otp.blank 9 ∧
      (tD [(Reg.SEC_PROG_SEL_ITEM, 1)]).dev.progRefused Otp.blank 1 = false := by decide
theorem wit_otp_done : (tD [] fun d => { d with sys := { d.sys with prog := some (1, List.replicate 32 7) } }).dev.sys.prog =
    some (1, List.replicate 32 7) := rfl

/-! ## Witnesses: images -/

/-- An image of the right form with one record, for the serial of controller X given, 0 being any. -/
def image0 (serial : Nat) : List Byte :=
  leBytes 4 0x4D494B57 ++ leBytes 1 1 ++ leBytes 1 0xB1 ++ leBytes 2 0x1640 ++ leBytes 4 200 ++ leBytes 4 1 ++ leBytes 8 serial
    ++ List.replicate 104 0 ++ leBytes 4 Reg.GLB_CAR_EN_MASK.off ++ leBytes 4 1 ++ List.replicate 64 0
def load0 : List Byte := dB 0xA0 0 0 [0, 0, 0, 0, 0, 0, 0, 0, 200]
set_option maxRecDepth 60000 in
theorem wit_image : let s := tD (locked ++ [(Reg.HST_STAT_BME, 1)])
    let f := (fetched s 0xA0 0 load0).2
    let d := f.emitRead (leAt load0 16 8) (leAt load0 24 4)
    Passes s 0xA0 0 load0 ∧ f.mastering ∧ d.imgCheck Otp.blank 200 [] = .inr 0 ∧ d.imgCheck Otp.blank 200 (image0 1) = .inr 1 ∧
      d.imgCheck Otp.blank 200 (image0 0) = .inr 2 ∧ d.nv.committed = none ∧
      (fetched (tD locked) 0xA0 0 load0).2.mastering = false := by decide
set_option maxRecDepth 60000 in
/-- A blank part with key slot 0 programmed with the key of an image of zeros accepts it where its signature verifies. -/
theorem wit_image_ok : let d := (fetched (tD locked) 0xA0 0 load0).2
    let o := { Otp.blank with slot := #v[some (Config.sha256 (cut (image0 0) 40 64)), none, none, none] }
    Config.ecdsaVerify (cut (image0 0) 40 64) (imgHash (image0 0)) (cut (image0 0) 136 64) = true →
      d.imgCheck o 200 (image0 0) = .inl 0 := by
  intro d o h
  have hf : imgForm 200 (image0 0) = true := by decide
  have hs : d.imgSerial o (image0 0) = true := by decide
  have hk : o.keySlot (image0 0) = some 0 := by
    simp [Otp.keySlot, Otp.live, o, List.finRange, Otp.blank, bit]
  have hl : cut (image0 0) ((image0 0).length - 64) 64 = cut (image0 0) 136 64 := by decide
  simp [Dev.imgCheck, hf, hs, hk, hl, h]
theorem wit_commit : Passes (tD locked) 0xA1 0 (dB 0xA1 0 0 []) ∧ (fetched (tD locked) 0xA1 0 (dB 0xA1 0 0 [])).2.sys.staged = none ∧
    (fetched (tD locked fun d => { d with sys := { d.sys with staged := some 0 } }) 0xA1 0 (dB 0xA1 0 0 [])).2.sys.staged = some 0 ∧
    (fetched (tD locked) 0xA1 0 (dB 0xA1 0 0 [])).2.locked := by decide

def boot0 : BootIn :=
  { y := false, tcxo := true, xtal := true, refclk := true, ppb := 0, rails := #v[720, 1800, 3300, 1100, 600, 900, 900], tj := 40, lp4x := 4096, xspMib := 64,
    nor := true, badNv := [], badRing := [], badMirror := [], tests := [], sp := 0xFFFF, pebex := false, ms := 5 }
set_option maxRecDepth 60000 in
/-- Nothing is committed, so a start from reset applies no image. One that is applied rests on a signature. -/
theorem wit_boot : let a := (State.reset.dev.bootEarly Otp.blank boot0).wr Reg.RST_STAT_STEP 6
    State.reset.dev.released boot0 ∧ ((a.wr Reg.PBX_STAT_TESTED (a.rd Reg.PBX_CTRL_TESTED)).imgBoot Otp.blank).1 = false := by
  decide


/-! ## Witnesses: the clauses of the firing decision -/

theorem wit_firing_clauses : let d := (tD locked).dev
    let late := d.at 50000
    let full := d.mapLdl fun l => { l with room := List.replicate 4 { tick := 0, pool := 0, slot := none } }
    let a := { actC with tol := 0, gt := 0 }
    { a with kind := .n }.car = some 0 ∧ { a with kind := .n }.gt ≤ d.gt ∧ { a with kind := .n }.kind = .n ∧
      late.on (Reg.SLP_STAT_OWN 0) ∧ a.tol * 1000 < late.lateness { a with late := true } ∧ ¬(a.kind = .n ∧ a.gt ≤ d.gt) ∧
      d.lateness a ≤ a.tol * 1000 ∧ d.roomLeft a.pool ∧ full.roomLeft a.pool = false ∧ full.lateness a ≤ a.tol * 1000 ∧
      a.restored = false ∧ d.rd (Reg.SLP_STAT_EPOCH 0) ≠ { a with epoch := 5 }.epoch := by decide

end Sys2Proof.Tests
end

section
/-! PROOFS. Where a command has its effect (R3): at the controller, at one slice, or at both ends of one slice's link. -/

namespace Sys2Proof.Proofs

open Sys2Proof Sys2Proof.Machine Sys2Proof.Safety

/-! What actions that fire at a slice leave of the controller -/

/-- The room taken is all that counting at a slice changes (R135). -/
theorem sliceRoom_eq_mapLdl (d : Dev) (n : Nat) (l : List RoomUse) :
    ∃ r, d.sliceRoom n l = d.mapLdl fun x => { x with room := r } := by
  unfold Dev.sliceRoom
  split
  · exact ⟨_, rfl⟩
  · exact ⟨d.ladle.room, rfl⟩

theorem sliceFire_next {s t : State} {n : Fin 16} {a : Nat} {f : Slice → Slice} (h : s.sliceFire n a f = .next t) :
    t.otp = s.otp ∧ (∃ r, t.dev = s.dev.mapLdl fun l => { l with room := r }) ∧
      ∀ m, n ≠ m → t.slices[m] = s.slices[m] := by
  simp only [State.sliceFire] at h
  split at h
  · cases h
    exact ⟨rfl, ⟨s.dev.ladle.room, rfl⟩, fun _ _ => rfl⟩
  · cases h
    refine ⟨rfl, sliceRoom_eq_mapLdl _ _ _, fun m hm => ?_⟩
    have h' : n.val ≠ m.val := fun e => hm (Fin.ext e)
    simp [h']

/-! The shared operation a command is, by where it happens -/

/-- A command that happens at a slice alone rewrites that slice. -/
theorem exec_of_atSlice {c : Instr} {n : Fin 16} (h : atSlice c = some n) (s : State) :
    ∃ f, exec c s = s.runS n f := by
  cases c <;> cases h
  case slicePowerUp => unfold exec execSlicePowerUp; exact ⟨_, rfl⟩
  all_goals exact ⟨_, rfl⟩

/-- A command that fires actions at a slice does so by the shared operation for it. -/
theorem exec_of_firesAt {c : Instr} {n : Fin 16} (h : firesAt c = some n) (s : State) :
    ∃ a f, exec c s = s.sliceFire n a f := by
  cases c <;> cases h
  case sliceActionFire t => exact ⟨t, Slice.fireDue, rfl⟩
  case heleaFrameStart p t => exact ⟨t, fun c => c.helStart p, rfl⟩

theorem slices_of_firesAt {c : Instr} {n m : Fin 16} {s t : State} (h : firesAt c = some n)
    (hs : exec c s = .next t) (hm : n ≠ m) : t.slices[m] = s.slices[m] := by
  obtain ⟨a, f, hf⟩ := exec_of_firesAt h s
  obtain ⟨-, -, hother⟩ := sliceFire_next (hf ▸ hs)
  exact hother m hm

/-- A command that reaches no slice leaves all of them: it rewrites the controller, and OTP where it programs or fetches. -/
theorem exec_of_reach_none {c : Instr} (h : reach c = none) (s : State) :
    ∃ u, exec c s = .next u ∧ u.slices = s.slices := by
  cases c <;> cases h
  case sqFetch l => exact ⟨_, rfl, sqFetch_slices l s⟩
  case dmaReadError q e l again => exact ⟨_, rfl, readError_slices q e l again s⟩
  case otpProgramDone good => exact ⟨_, rfl, otpDone_slices good s⟩
  all_goals exact ⟨_, rfl, rfl⟩

/-- A command that reaches a slice leaves every other one. -/
theorem slices_of_reach_some {c : Instr} {n m : Fin 16} {s t : State} (h : reach c = some n)
    (hs : exec c s = .next t) (hm : n ≠ m) : t.slices[m] = s.slices[m] := by
  unfold reach at h
  split at h
  case h_1 k e x a =>
    cases h
    have ht : indexPulse n e x a s = t := Host.Outcome.next.inj hs
    exact ht ▸ indexPulse_slices n e x a s hm
  case h_2 k up p =>
    cases h
    have ht : recordResend n up p s = t := Host.Outcome.next.inj hs
    exact ht ▸ recordResend_slices n up p s hm
  case h_3 k p =>
    cases h
    have ht : symbolLock n p s = t := Host.Outcome.next.inj hs
    exact ht ▸ symbolLock_slices n p s hm
  case h_4 k a => exact slices_of_firesAt (c := .sliceActionFire k a) h hs hm
  case h_5 k p a => exact slices_of_firesAt (c := .heleaFrameStart k p a) h hs hm
  case h_6 =>
    obtain ⟨f, hf⟩ := exec_of_atSlice h s
    obtain ⟨-, -, -, -, hother⟩ := runS_next (hf ▸ hs)
    exact hother m hm

/-- Every slice but the one a command reaches is as it was. -/
theorem slices_of_reach_ne {c : Instr} {m : Fin 16} {s t : State} (h : reach c ≠ some m) (hs : exec c s = .next t) :
    t.slices[m] = s.slices[m] := by
  cases hr : reach c with
  | none =>
    obtain ⟨u, hu, hslices⟩ := exec_of_reach_none hr s
    cases hu.symm.trans hs
    rw [hslices]
  | some n => exact slices_of_reach_some hr hs fun e => h (e ▸ hr)

/-- Settles O3: each command is one of the shared operations, and each of those leaves the rest. -/
theorem slicesStaySeparate : Obligations.SlicesStaySeparate := by
  intro c s t hs
  refine ⟨fun m hm => slices_of_reach_ne hm hs, fun n hn => ?_, fun n hn => ?_⟩
  · obtain ⟨f, hf⟩ := exec_of_atSlice hn s
    obtain ⟨hdev, -, hotp, -⟩ := runS_next (hf ▸ hs)
    exact ⟨hdev, hotp⟩
  · obtain ⟨a, f, hf⟩ := exec_of_firesAt hn s
    obtain ⟨hotp, hroom, -⟩ := sliceFire_next (hf ▸ hs)
    exact ⟨hotp, hroom⟩

end Sys2Proof.Proofs
end

section
/-! PROOFS. The registers a step of the controller keeps: `Keeps` is closed under writes of the fields listed, under events,
and under everything that touches no register. -/

namespace Sys2Proof.Safety

open Sys2Proof.Machine

variable {w : List RF} {s d e : Dev} {g : RF}

theorem Keeps.refl (w : List RF) (s : Dev) : Keeps w s s := fun _ _ _ => rfl

theorem Keeps.trans (h : Keeps w s d) (k : Keeps w d e) : Keeps w s e := fun f a n => (k f a n).trans (h f a n)

theorem Keeps.of_regs (w : List RF) (h : d.regs = s.regs) : Keeps w s d := fun _ _ _ => by simp only [Dev.rd, h]

theorem Keeps.of_quiet (w : List RF) (h : Quiet s d) : Keeps w s d := fun f a _ => h.rd f a

theorem Keeps.wr (h : Keeps w s d) (m : g ∈ w) (v : Nat) : Keeps w s (d.wr g v) :=
  fun f a n => (Dev.rd_wr_ne d g f v (n g m)).trans (h f a n)

theorem Keeps.flag (h : Keeps w s d) (m : g ∈ w) (b : Bool) : Keeps w s (d.flag g b) := h.wr m (b2n b)

theorem Keeps.wrI (h : Keeps w s d) (m : g ∈ w) (x : Int) : Keeps w s (d.wrI g x) := h.wr m (ofSigned g.w x)

theorem Keeps.inc (h : Keeps w s d) (m : g ∈ w) : Keeps w s (d.inc g) := h.wr m (d.rd g + 1)

theorem Keeps.mapTime (h : Keeps w s d) (f : TimeSt → TimeSt) : Keeps w s (d.mapTime f) := h.trans (Keeps.of_regs w rfl)

theorem Keeps.raiseSev (h : Keeps w s d) (e : Ev) (sev u : Nat) (pay ext : List Part) :
    Keeps w s (d.raiseSev e sev u pay ext) := h.trans (Keeps.of_quiet w (d.raiseSev_quiet e sev u pay ext))

theorem Keeps.raise (h : Keeps w s d) (e : Ev) (u : Nat) (pay : List Part) : Keeps w s (d.raise e u pay) :=
  h.raiseSev e e.sev u pay []

/-- A field outside those listed is as set or as clear as before. -/
theorem Keeps.on (h : Keeps w s d) {f : RF} (a : Apart f) (n : ∀ g ∈ w, f.key ≠ g.key) : d.on f = s.on f := by
  simp only [Dev.on, h f a n]

end Sys2Proof.Safety
end

section
/-! PROOFS. Rules of the Time Spine's operations: the instant GT moves to, a step of whole ticks, a correction, the servo. -/

namespace Sys2Proof.Proofs

open Sys2Proof Sys2Proof.Machine Sys2Proof.Safety

/-! Registers after a write, and after an event -/

theorem rd_flag_true (d : Dev) {f : RF} (h : f.w = 1) : (d.flag f true).rd f = 1 := by
  simp [Dev.flag, b2n, h]

theorem rd_inc (d : Dev) (f : RF) : (d.inc f).rd f = (d.rd f + 1) % 2 ^ f.w := by simp [Dev.inc]

@[simp] theorem raiseSev_time (d : Dev) (e : Ev) (sev u : Nat) (pay ext : List Part) :
    (d.raiseSev e sev u pay ext).time = d.time := (d.raiseSev_quiet e sev u pay ext).core.time

@[simp] theorem raise_time (d : Dev) (e : Ev) (u : Nat) (pay : List Part) : (d.raise e u pay).time = d.time :=
  raiseSev_time ..

/-! The instant a command carries (log entry 4) -/

theorem at_regs (d : Dev) (t : Nat) : (d.at t).regs = d.regs := by
  unfold Dev.at; split <;> rfl

theorem at_rd (d : Dev) (t : Nat) (f : RF) : (d.at t).rd f = d.rd f := by simp only [Dev.rd, at_regs]

/-! Corrections (R46 to R48) -/

theorem setGt_gt (d : Dev) (g : Nat) : (d.setGt g).gt = g % 2 ^ 64 := rfl

theorem setGt_regs (d : Dev) (g : Nat) : (d.setGt g).regs = d.regs := rfl

/-- A step carries GT from the boundary on by its ticks (R47). -/
theorem gt_setGt_stepGt (d : Dev) (g n : Nat) : ((d.setGt g).stepGt n).gt = (g + n) % 2 ^ 64 :=
  Nat.mod_add_mod g (2 ^ 64) n

/-- An offset of at most 1 ms either way is slewed (R46). -/
theorem correct_eq_slew (d : Dev) {x : Int} (lo : -1000000 ≤ x) (hi : x ≤ 1000000) : d.correct x = d.slew (-x) none := by
  simp [Dev.correct, lo, hi]

/-- Once GT is valid a Sync's offset is a correction, no alignment (R46). -/
theorem align_of_valid (d : Dev) (x : Int) (h : d.on Reg.TSP_STAT_GT_VALID) : d.align x = d.correct x := by
  simp [Dev.align, h]

/-- The correction under way and the Sync it comes from stand as before. -/
structure SameAim (s d : Dev) : Prop where
  corr     : d.time.corr = s.time.corr
  step     : d.time.step = s.time.step
  lastSync : d.time.lastSync = s.time.lastSync

theorem SameAim.of_time {s d : Dev} (h : d.time = s.time) : SameAim s d := by constructor <;> rw [h]

theorem SameAim.trans {s d e : Dev} (h : SameAim s d) (k : SameAim d e) : SameAim s e :=
  ⟨k.corr.trans h.corr, k.step.trans h.step, k.lastSync.trans h.lastSync⟩

/-! The servo (R44) -/

/-- The fields a servo state change may write. -/
def servoFields : List RF :=
  [Reg.TSP_STAT_HOLD_EXP, Reg.PTP_STAT_STATE, Reg.PTP_STAT_SYNC_RUN, Reg.TSP_STAT_SLEWING, Reg.TSP_FREQ]

theorem noCorr_keeps (d : Dev) : Keeps servoFields d d.noCorr :=
  ((Keeps.refl servoFields d).mapTime _).flag (by simp [servoFields]) false

theorem servoEntry_keeps (d : Dev) (new : Nat) : Keeps servoFields d (d.servoEntry new) := by
  unfold Dev.servoEntry
  split
  · exact ((noCorr_keeps d).wrI (by simp [servoFields]) 0).wr (by simp [servoFields]) 0
  · split
    · have hold := ((noCorr_keeps d).mapTime fun t => { t with holdNs := 0 }).wr
        (g := Reg.PTP_STAT_SYNC_RUN) (by simp [servoFields]) 0
      dsimp only
      split
      · exact hold
      · exact hold.wrI (by simp [servoFields]) _
    · split
      · exact (Keeps.refl servoFields d).wr (by simp [servoFields]) 0
      · exact (Keeps.refl servoFields d).mapTime _

/-- Leaving HOLDOVER, as a state change begins. -/
theorem holdLeft_keeps (d : Dev) (old : Nat) :
    Keeps servoFields d (if old = Servo.holdover then d.flag Reg.TSP_STAT_HOLD_EXP false else d) := by
  split
  · exact (Keeps.refl servoFields d).flag (by simp [servoFields]) false
  · exact Keeps.refl servoFields d

theorem servo_keeps (d : Dev) (new : Nat) : Keeps servoFields d (d.servo new) := by
  unfold Dev.servo
  dsimp only
  split
  · exact Keeps.refl servoFields d
  · have state := (holdLeft_keeps d (d.rd Reg.PTP_STAT_STATE)).wr (g := Reg.PTP_STAT_STATE) (by simp [servoFields]) new
    exact (state.trans (servoEntry_keeps _ new)).raiseSev _ _ _ _ _

/-- What a state change does to the spine's state is what it does on entry. -/
theorem servo_time (d : Dev) (new : Nat) :
    (d.servo new).time = d.time ∨ ∃ x : Dev, x.time = d.time ∧ (d.servo new).time = (x.servoEntry new).time := by
  unfold Dev.servo
  dsimp only
  split
  · exact .inl rfl
  · refine .inr ⟨Dev.wr _ Reg.PTP_STAT_STATE new, ?_, raiseSev_time ..⟩
    split <;> rfl

/-- Neither ACQUIRING nor LOCKED drops the correction under way. -/
theorem servoEntry_sameAim (d : Dev) {new : Nat} (h : new = Servo.acquiring ∨ new = Servo.locked) :
    SameAim d (d.servoEntry new) := by
  obtain rfl | rfl := h <;> constructor <;> rfl

theorem servo_sameAim (d : Dev) {new : Nat} (h : new = Servo.acquiring ∨ new = Servo.locked) :
    SameAim d (d.servo new) := by
  obtain same | ⟨x, hx, entry⟩ := servo_time d new
  · exact SameAim.of_time same
  · exact ((SameAim.of_time hx).trans (servoEntry_sameAim x h)).trans (SameAim.of_time entry)

/-! PTP messages that the controller looks into, and those it counts as dropped (R40) -/

theorem ethUp_of_takes {d : Dev} {p : Fin 2} {tag : Option (Fin 65536)} (h : d.takes p tag) : d.ethUp p.val := by
  simp only [Dev.takes, Bool.and_eq_true] at h
  exact h.1

theorem ptpRx_of_taken {d : Dev} {m : PtpRx} {ty len : Nat} (go : Dev → Dev) (h : PtpTaken d m ty len) :
    d.ptpRx m ty len go = go d := by
  obtain ⟨whole, runs, takes, form, domain⟩ := h
  simp [Dev.ptpRx, ethUp_of_takes takes, whole, runs, takes, form, domain]

theorem ptpRx_of_otherDomain {d : Dev} {m : PtpRx} (ty len : Nat) (go : Dev → Dev) (whole : m.err = false)
    (runs : d.ptpOn) (takes : d.takes m.port m.tag) (other : m.domain ≠ d.rd Reg.PTP_CTRL_DOMAIN) :
    d.ptpRx m ty len go = d.inc Reg.PTP_CNT_DROP := by
  simp [Dev.ptpRx, ethUp_of_takes takes, whole, runs, takes, other]

/-- A Sync of the selected master on the active port is used (R44). -/
theorem syncRx_eq_syncUse {d : Dev} {m : PtpRx} {o : Nat} (h : PtpTaken d m 0 44) (port : m.port = d.actPort)
    (lo : -4 ≤ m.logInt) (hi : m.logInt ≤ 1) (origin : m.origin = some o) (sel : d.time.sel = some m.srcId)
    (master : d.on Reg.PTP_STAT_MASTER_OK) : d.syncRx m = d.syncUse m o := by
  have range : ¬(m.logInt < -4 ∨ 1 < m.logInt) := by omega
  simp [Dev.syncRx, port, ptpRx_of_taken _ h, range, sel, master, origin]

/-! A usable Sync: noted, then the servo's state, then the offset (R44, R46) -/

/-- The offset a Sync shows: its receive stamp less its time of departure and the mean path delay. -/
def syncOffset (d : Dev) (m : PtpRx) (o : Nat) : Int := (d.rxStamp m : Int) - (o + d.rd Reg.PTP_MPD : Nat)

/-- The controller that has counted a usable Sync and noted its offset, interval and stamps. -/
def syncNoted (d : Dev) (m : PtpRx) (o : Nat) : Dev :=
  (((d.inc Reg.PTP_CNT_SYNC).wrSat Reg.PTP_OFS (syncOffset d m o)).wrI Reg.PTP_RATES_LOG_SYNC m.logInt).mapTime fun t =>
    { t with lastSync := some (o, d.rxStamp m), syncGt := d.gt }

/-- ACQUIRING begun where no master was in use, and the f of the interval that ends kept. -/
def syncServo (d : Dev) : Dev :=
  Dev.keepFreq (if d.rd Reg.PTP_STAT_STATE = Servo.free || d.rd Reg.PTP_STAT_STATE = Servo.holdover then
    d.servo Servo.acquiring else d)

theorem syncUse_eq (d : Dev) (m : PtpRx) (o : Nat) :
    d.syncUse m o = (((syncServo (syncNoted (d.at m.rx) m o)).align (syncOffset (d.at m.rx) m o)).newFreq).servoRun
      (syncOffset (d.at m.rx) m o) := rfl

theorem rxStamp_at (d : Dev) (m : PtpRx) (t : Nat) : (d.at t).rxStamp m = d.rxStamp m := by
  simp only [Dev.rxStamp, at_rd]

theorem syncOffset_at (d : Dev) (m : PtpRx) (o t : Nat) : syncOffset (d.at t) m o = syncOffset d m o := by
  simp only [syncOffset, rxStamp_at, at_rd]

/-- The fields that noting a Sync writes. -/
def noteFields : List RF := [Reg.PTP_CNT_SYNC, Reg.PTP_OFS, Reg.PTP_RATES_LOG_SYNC]

theorem syncNoted_keeps (d : Dev) (m : PtpRx) (o : Nat) : Keeps noteFields d (syncNoted d m o) := by
  have counted := (Keeps.refl noteFields d).inc (g := Reg.PTP_CNT_SYNC) (by simp [noteFields])
  have offset := counted.wrI (g := Reg.PTP_OFS) (by simp [noteFields])
    (clampI (-(2 ^ (32 - 1) : Nat)) ((2 ^ (32 - 1) : Nat) - 1) (syncOffset d m o))
  exact (offset.wrI (by simp [noteFields]) m.logInt).mapTime _

theorem syncNoted_rd_cnt (d : Dev) (m : PtpRx) (o : Nat) :
    (syncNoted d m o).rd Reg.PTP_CNT_SYNC = (d.rd Reg.PTP_CNT_SYNC + 1) % 2 ^ 32 := by
  have h := rd_inc d Reg.PTP_CNT_SYNC
  simp only [syncNoted, Dev.mapTime_rd, Dev.wrI, Dev.wrSat]
  rw [Dev.rd_wr_ne _ _ _ _ (by decide), Dev.rd_wr_ne _ _ _ _ (by decide), h]
  rfl

theorem keepFreq_keeps (w : List RF) (d : Dev) : Keeps w d d.keepFreq := by
  unfold Dev.keepFreq
  split
  · exact (Keeps.refl w d).mapTime _
  · exact Keeps.refl w d

theorem keepFreq_sameAim (d : Dev) : SameAim d d.keepFreq := by
  unfold Dev.keepFreq
  split <;> constructor <;> rfl

theorem syncServo_keeps (d : Dev) : Keeps servoFields d (syncServo d) := by
  refine Keeps.trans ?_ (keepFreq_keeps servoFields _)
  split
  · exact servo_keeps d Servo.acquiring
  · exact Keeps.refl servoFields d

theorem syncServo_sameAim (d : Dev) : SameAim d (syncServo d) := by
  refine SameAim.trans ?_ (keepFreq_sameAim _)
  split
  · exact servo_sameAim d (.inl rfl)
  · exact SameAim.of_time rfl

theorem newFreq_keeps (d : Dev) : Keeps servoFields d d.newFreq :=
  Keeps.wrI (d := (d.fresh 200001).2) (Keeps.of_regs servoFields rfl) (by simp [servoFields]) _

theorem newFreq_time (d : Dev) : d.newFreq.time = d.time := rfl

/-- After a Sync the servo counts it, and stays, or leaves LOCKED, or comes to it. -/
theorem servoRun_cases (d : Dev) (x : Int) : ∃ (run out : Nat) (e : Dev),
    e = ((d.wr Reg.PTP_STAT_SYNC_RUN run).mapTime fun t => { t with outRun := out }) ∧
      (d.servoRun x = e ∨ d.servoRun x = e.servo Servo.acquiring ∨ d.servoRun x = e.servo Servo.locked) := by
  simp only [Dev.servoRun]
  generalize (decide (-500 < x) && decide (x < 500)) = inside
  generalize (if inside then _ else 0 : Nat) = run
  split
  · generalize he : Dev.mapTime _ _ = e
    refine ⟨run, if inside then 0 else d.time.outRun + 1, e, he.symm, ?_⟩
    split
    · exact .inr (.inl rfl)
    · exact .inl rfl
  · refine ⟨run, d.time.outRun, _, rfl, ?_⟩
    split
    · exact .inr (.inr rfl)
    · exact .inl rfl

theorem servoRun_keeps (d : Dev) (x : Int) : Keeps servoFields d (d.servoRun x) := by
  obtain ⟨run, out, e, rfl, h⟩ := servoRun_cases d x
  have counted := ((Keeps.refl servoFields d).wr (g := Reg.PTP_STAT_SYNC_RUN) (by simp [servoFields]) run).mapTime
    fun t => { t with outRun := out }
  obtain h | h | h := h <;> rw [h]
  · exact counted
  · exact counted.trans (servo_keeps _ Servo.acquiring)
  · exact counted.trans (servo_keeps _ Servo.locked)

theorem servoRun_sameAim (d : Dev) (x : Int) : SameAim d (d.servoRun x) := by
  obtain ⟨run, out, e, rfl, h⟩ := servoRun_cases d x
  have counted : SameAim d ((d.wr Reg.PTP_STAT_SYNC_RUN run).mapTime fun t => { t with outRun := out }) := by
    constructor <;> rfl
  obtain h | h | h := h <;> rw [h]
  · exact counted
  · exact counted.trans (servo_sameAim _ (.inl rfl))
  · exact counted.trans (servo_sameAim _ (.inr rfl))

theorem gtValid_apart : Apart Reg.TSP_STAT_GT_VALID := by unfold Apart; decide
theorem cntSync_apart : Apart Reg.PTP_CNT_SYNC := by unfold Apart; decide

/-- With GT valid, a Sync's offset of at most 1 ms is slewed. -/
theorem syncUse_slews (d : Dev) (m : PtpRx) (o : Nat) (valid : d.on Reg.TSP_STAT_GT_VALID)
    (lo : -1000000 ≤ syncOffset d m o) (hi : syncOffset d m o ≤ 1000000) :
    d.syncUse m o = (((syncServo (syncNoted (d.at m.rx) m o)).slew (-syncOffset d m o) none).newFreq).servoRun
      (syncOffset d m o) := by
  have noted : (syncNoted (d.at m.rx) m o).on Reg.TSP_STAT_GT_VALID = d.on Reg.TSP_STAT_GT_VALID :=
    ((Keeps.of_regs noteFields (at_regs d m.rx)).trans (syncNoted_keeps _ m o)).on gtValid_apart (by decide)
  have still := (syncServo_keeps (syncNoted (d.at m.rx) m o)).on gtValid_apart (by decide)
  rw [syncUse_eq, syncOffset_at, align_of_valid _ _ (still.trans (noted.trans valid)), correct_eq_slew _ lo hi]

/-- What the correction under way is after such a Sync, and what of it is noted and counted. -/
theorem syncUse_aim {d : Dev} {m : PtpRx} {o : Nat} (valid : d.on Reg.TSP_STAT_GT_VALID)
    (lo : -1000000 ≤ syncOffset d m o) (hi : syncOffset d m o ≤ 1000000) :
    (d.syncUse m o).time.corr = -syncOffset d m o ∧ (d.syncUse m o).time.step = none ∧
      (d.syncUse m o).time.lastSync = some (o, d.rxStamp m) ∧
      (d.syncUse m o).rd Reg.PTP_CNT_SYNC = (d.rd Reg.PTP_CNT_SYNC + 1) % 2 ^ 32 := by
  rw [syncUse_slews d m o valid lo hi]
  generalize hn : syncNoted (d.at m.rx) m o = noted
  generalize hx : (syncServo noted).slew (-syncOffset d m o) none = slewed
  have aim : SameAim slewed (slewed.newFreq.servoRun (syncOffset d m o)) :=
    (SameAim.of_time (newFreq_time slewed)).trans (servoRun_sameAim _ _)
  have counted : Keeps servoFields noted (slewed.newFreq.servoRun (syncOffset d m o)) := by
    subst hx
    exact (((syncServo_keeps noted).mapTime _).flag (by simp [servoFields]) _).trans
      ((newFreq_keeps _).trans (servoRun_keeps _ _))
  have stamps : slewed.time.lastSync = some (o, d.rxStamp m) := by
    subst hx hn
    rw [← rxStamp_at d m m.rx]
    exact (syncServo_sameAim _).lastSync
  refine ⟨?_, ?_, aim.lastSync.trans stamps, ?_⟩
  · rw [aim.corr, ← hx]; rfl
  · rw [aim.step, ← hx]; rfl
  · rw [counted _ cntSync_apart (by decide), ← hn, syncNoted_rd_cnt, at_rd]

/-! A forward step, and free run (R38, R47) -/

theorem stepped_apart : Apart Reg.TSP_STAT_STEPPED := by unfold Apart; decide
theorem stepCnt_apart : Apart Reg.TSP_STEP_CNT := by unfold Apart; decide

/-- A step decided is applied from the boundary on, reported and counted. -/
theorem applyStep_eq {d : Dev} {m : Nat} (h : d.time.step = some m) : d.applyStep =
    (((((((d.setGt d.nextTick).stepGt (m * tickNs)).passLate).mapTime fun t => { t with step := none, due := true }).flag
      Reg.TSP_STAT_STEPPED true).inc Reg.TSP_STEP_CNT).raise .gtStep 0 [pU 16 4 m]) := by
  simp only [Dev.applyStep, h]

/-- A step done, from boundary `g` on by `n` ns: GT moves and nothing is left to step. -/
theorem stepDone_fields {d x : Dev} {g n : Nat}
    (h : (((d.setGt g).stepGt n).passLate.mapTime fun t => { t with step := none, due := true }) = x) :
    x.regs = d.regs ∧ x.gt = (g + n) % 2 ^ 64 ∧ x.time.step = none ∧ x.cars = d.cars ∧ x.links = d.links := by
  subst h
  exact ⟨rfl, gt_setGt_stepGt d g n, rfl, rfl, rfl⟩

/-- GT stands on the boundary and the step's ticks beyond it; the registers written are those of the step and its event. -/
theorem applyStep_moves {d : Dev} {m : Nat} (h : d.time.step = some m) :
    d.applyStep.gt = ((d.gt / tickNs + 1) * tickNs + m * tickNs) % 2 ^ 64 ∧ d.applyStep.time.step = none ∧
      d.applyStep.rd Reg.TSP_STAT_STEPPED = 1 ∧
      d.applyStep.rd Reg.TSP_STEP_CNT = (d.rd Reg.TSP_STEP_CNT + 1) % 2 ^ 32 ∧
      Keeps [Reg.TSP_STAT_STEPPED, Reg.TSP_STEP_CNT] d d.applyStep ∧
      d.applyStep.cars = d.cars ∧ d.applyStep.links = d.links := by
  rw [applyStep_eq h]
  generalize hx : Dev.mapTime _ _ = x
  obtain ⟨regs, gt, step, cars, links⟩ := stepDone_fields hx
  have same := Keeps.of_regs [Reg.TSP_STAT_STEPPED, Reg.TSP_STEP_CNT] regs
  have before : (x.flag Reg.TSP_STAT_STEPPED true).rd Reg.TSP_STEP_CNT = d.rd Reg.TSP_STEP_CNT := by
    rw [Dev.flag, Dev.rd_wr_ne _ _ _ _ (by decide), Dev.rd, regs, Dev.rd]
  have quiet := Dev.raise_quiet ((x.flag Reg.TSP_STAT_STEPPED true).inc Reg.TSP_STEP_CNT) .gtStep 0 [pU 16 4 m]
  refine ⟨?_, ?_, ?_, ?_, ((same.flag (by simp) true).inc (by simp)).raise _ _ _, ?_, ?_⟩
  · rw [Dev.gt, quiet.core.time, Dev.inc_time, Dev.flag_time, ← Dev.nextTick]; exact gt
  · rw [quiet.core.time, Dev.inc_time, Dev.flag_time, step]
  · rw [quiet.rd _ stepped_apart, Dev.inc, Dev.rd_wr_ne _ _ _ _ (by decide), rd_flag_true _ rfl]
  · rw [quiet.rd _ stepCnt_apart, rd_inc, before]; rfl
  · rw [quiet.core.cars, Dev.inc_cars, Dev.flag_cars, cars]
  · rw [quiet.core.links, Dev.inc_links, Dev.flag_links, links]

theorem freeRunValid_eq {d : Dev} {g : Nat} (src : d.rd Reg.TSP_CTRL_SRC = 1) (invalid : d.on Reg.TSP_STAT_GT_VALID = false)
    (began : d.time.freeGt = some g) (before : g < d.tickStart) : d.freeRunValid = d.gtValidNow 1 := by
  have past : (d.time.freeGt.any fun g => decide (g < d.tickStart)) = true :=
    (Option.any_eq_true _ _).2 ⟨g, began, decide_eq_true before⟩
  simp [Dev.freeRunValid, src, invalid, past]

/-- GT_VALID is set where GT stands (R38). -/
theorem gtValidNow_sets (d : Dev) (src : Nat) : (d.gtValidNow src).rd Reg.TSP_STAT_GT_VALID = 1 ∧
    (d.gtValidNow src).time = d.time ∧ Keeps [Reg.TSP_STAT_GT_VALID] d (d.gtValidNow src) := by
  have quiet := (d.flag Reg.TSP_STAT_GT_VALID true).raise_quiet .gtValid 0 [pU 16 1 src]
  exact ⟨(quiet.rd _ gtValid_apart).trans (rd_flag_true d rfl), quiet.core.time,
    ((Keeps.refl _ d).flag (by simp) true).raise _ _ _⟩

/-- Settles O6: a step and the change to free run are read off their own rules; a Sync goes through the servo, which keeps
the correction its offset has left. -/
theorem groupTimeMoves : Obligations.GroupTimeMoves := by
  refine ⟨fun s m step => ⟨s.dev.applyStep, rfl, applyStep_moves step⟩, fun s g src invalid began before =>
    ⟨_, becomes_of_run rfl (freeRunValid_eq src invalid began before), gtValidNow_sets s.dev 1⟩, ?_⟩
  intro s m o d rx offset taken port logLo logHi origin sel master valid lo hi
  have used : d.syncRx m = d.syncUse m o := syncRx_eq_syncUse taken port logLo logHi origin sel master
  exact ⟨d.syncUse m o, becomes_of_run (f := fun d => d.syncRx m) rfl used, syncUse_aim valid lo hi⟩

end Sys2Proof.Proofs
end

section
/-! PROOFS. The spine's own commands (R38, R46 to R52). -/

namespace Sys2Proof.Proofs

open Sys2Proof Sys2Proof.Machine Sys2Proof.Safety

/-- A slew that has nothing left clears SLEWING (R48). -/
theorem slewEnd_done {d : Dev} (h : d.time.corr = 0) : d.slewEnd = d.flag Reg.TSP_STAT_SLEWING false := by
  simp [Dev.slewEnd, h]

/-- HOLDOVER past its limit is reported with its seconds (R49). -/
theorem holdLimit_past {d : Dev} (state : d.rd Reg.PTP_STAT_STATE = Servo.holdover) (limited : d.on Reg.TSP_HOLD_MAX_SECONDS)
    (first : d.on Reg.TSP_STAT_HOLD_EXP = false) (past : d.rd Reg.TSP_HOLD_MAX_SECONDS * 1000000000 < d.time.holdNs) :
    d.holdLimit =
      (d.flag Reg.TSP_STAT_HOLD_EXP true).raise .holdoverLimit 0 [pU 16 4 (d.time.holdNs / 1000000000)] := by
  simp [Dev.holdLimit, state, limited, first, past]

theorem holdLimit_within {d : Dev} (within : d.time.holdNs ≤ d.rd Reg.TSP_HOLD_MAX_SECONDS * 1000000000) :
    d.holdLimit = d := by
  simp [Dev.holdLimit, within]

/-- The loss of the TCXO is reported once (R50). -/
theorem tcxoLost_first {d : Dev} (h : d.on Reg.TSP_STAT_TCXO_FB = false) : d.tcxoLost =
    (((((d.flag Reg.TSP_STAT_TCXO_FB true).flag Reg.CLK_STAT_TCXO_OK false).flag Reg.CLK_STAT_REF_SYNTH true).wrI
      Reg.CLK_TCXO_ERR 0).raise .tcxoLost 0 []) := by
  simp [Dev.tcxoLost, h]

/-- PPS_OUT pulses at the instants its offset names, where it is enabled and GT is valid (R51). -/
theorem ppsPulse_out {d : Dev} {t : Nat} (enabled : (d.at t).on Reg.TSP_CTRL_PPS_OUT_EN)
    (valid : (d.at t).on Reg.TSP_STAT_GT_VALID) (here : (d.at t).gt = t)
    (named : ((t : Int) - (d.at t).rdI Reg.TSP_PPS_OFS) % 1000000000 = 0) :
    d.ppsPulse t = (d.at t).emit
      (.ppsOut ((d.at t).rd Reg.TSP_PPS_CFG_WIDTH * 10000) ((d.at t).rd Reg.TSP_PPS_CFG_POL)) := by
  simp only [Dev.ppsPulse, enabled, valid, here, named, Bool.and_self, decide_true, if_true]

theorem ppsPulse_none {d : Dev} {t : Nat} (h : ((t : Int) - (d.at t).rdI Reg.TSP_PPS_OFS) % 1000000000 ≠ 0) :
    d.ppsPulse t = d.at t := by
  simp only [Dev.ppsPulse, h, decide_false, Bool.and_false, Bool.false_eq_true, if_false]

/-- Settles O5: each command by the rule of its operation, the pulse and the limit on both sides. -/
theorem spineCommands : Obligations.SpineCommands := by
  refine ⟨fun s m step => becomes_of_run rfl (applyStep_eq step),
    fun s g src invalid began before => becomes_of_run rfl (freeRunValid_eq src invalid began before),
    fun s done => becomes_of_run rfl (slewEnd_done done),
    fun s state limited first => ⟨fun past => becomes_of_run rfl (holdLimit_past state limited first past),
      fun within => becomes_of_run rfl (holdLimit_within within)⟩,
    fun s lost => becomes_of_run rfl (tcxoLost_first lost),
    fun s t enabled valid here named =>
      becomes_of_run (f := fun d => d.ppsPulse t) rfl (ppsPulse_out enabled valid here named),
    fun s t off => becomes_of_run (f := fun d => d.ppsPulse t) rfl (ppsPulse_none off),
    fun s stamp => becomes_of_run (f := fun d => d.ppsEdge stamp) rfl rfl⟩

end Sys2Proof.Proofs
end

section
/-! PROOFS. PTP on the ports and the protocols that go with it (R40 to R45). -/

namespace Sys2Proof.Proofs

open Sys2Proof Sys2Proof.Machine Sys2Proof.Safety

/-! Announces (R43, R45) -/

/-- An Announce that the controller looks into is noted for its port, then serves the active port or speaks for the other. -/
theorem announceRx_of_taken {d : Dev} {m : PtpRx} (h : PtpTaken d m 11 64) (lo : 0 ≤ m.logInt) (hi : m.logInt ≤ 4) :
    d.announceRx m =
      let e := d.mapTime fun t => { t with annGt := t.annGt.set m.port (some (d.gt, m.logInt)) }
      if m.port = d.actPort then (e.noteMaster m).bmca else e.failover := by
  have range : ¬(m.logInt < 0 ∨ 4 < m.logInt) := by omega
  rw [Dev.announceRx, ptpRx_of_taken _ h]
  simp only [Bool.or_eq_true, decide_eq_true_eq, range, if_false]
  rfl

/-! The path delay (R41, R42) -/

/-- A Delay_Resp to the Delay_Req that is out gives the mean path delay, and none is out any more. -/
theorem delayRespRx_of_taken {d : Dev} {m : PtpRx} {t3 t1 t2 : Nat} (h : PtpTaken d m 9 54) (port : m.port = d.actPort)
    (mine : (m.data.drop 44).take 10 = d.portIdent m.port.val) (out : d.time.dreq = some (m.seq, t3))
    (sync : d.time.lastSync = some (t1, t2)) :
    d.delayRespRx m =
      ((((d.inc Reg.PTP_CNT_DRESP).wrI Reg.PTP_RATES_LOG_DREQ (max (-4) m.logInt)).wr Reg.PTP_MPD
        ((((t2 : Int) - t1 + ((ptpStamp m.data : Int) - ptpCorr m.data - t3)) / 2).toNat)).mapTime fun t =>
          { t with dreq := none }) := by
  have here : ¬(m.port != d.actPort && !m.err) = true := by simp [port]
  rw [Dev.delayRespRx, if_neg here, ptpRx_of_taken _ h]
  simp [mine, out, sync]

/-- A Delay_Req leaves the active port when its time has come, with its transmit stamp noted. -/
theorem delayReqTx_due {d : Dev} {stamp : Nat} (runs : (d.at stamp).ptpOn) (master : (d.at stamp).on Reg.PTP_STAT_MASTER_OK)
    (due : (d.at stamp).dreqDue (d.at stamp).gt) :
    d.delayReqTx stamp =
      let e := d.at stamp
      let p := e.actPort.val
      (e.mapTime fun t => { t with
          dreq := some (e.time.dreqSeq, stamp / 8 * 8 + e.rd (Reg.PTP_ETH_LAT_TX_LAT p)),
          dreqSeq := (e.time.dreqSeq + 1) % 65536, dreqGt := some e.gt }).emit
        (.delayReq p (e.sendTag p) (e.rd Reg.PTP_DSCP) (e.delayReqBytes p e.time.dreqSeq)) := by
  simp only [Dev.delayReqTx, runs, master, due, Bool.and_self, if_true]
  rfl

/-! A frame of another domain is counted as dropped, whatever its type (R40) -/

theorem announceRx_otherDomain {d : Dev} {m : PtpRx} (runs : d.ptpOn) (takes : d.takes m.port m.tag) (whole : m.err = false)
    (other : m.domain ≠ d.rd Reg.PTP_CTRL_DOMAIN) : d.announceRx m = d.inc Reg.PTP_CNT_DROP :=
  ptpRx_of_otherDomain 11 64 _ whole runs takes other

theorem syncRx_otherDomain {d : Dev} {m : PtpRx} (runs : d.ptpOn) (takes : d.takes m.port m.tag) (whole : m.err = false)
    (other : m.domain ≠ d.rd Reg.PTP_CTRL_DOMAIN) (port : m.port = d.actPort) : d.syncRx m = d.inc Reg.PTP_CNT_DROP := by
  have here : ¬(m.port != d.actPort && !m.err) = true := by simp [port]
  rw [Dev.syncRx, if_neg here, ptpRx_of_otherDomain 0 44 _ whole runs takes other]

theorem delayRespRx_otherDomain {d : Dev} {m : PtpRx} (runs : d.ptpOn) (takes : d.takes m.port m.tag) (whole : m.err = false)
    (other : m.domain ≠ d.rd Reg.PTP_CTRL_DOMAIN) (port : m.port = d.actPort) :
    d.delayRespRx m = d.inc Reg.PTP_CNT_DROP := by
  have here : ¬(m.port != d.actPort && !m.err) = true := by simp [port]
  rw [Dev.delayRespRx, if_neg here, ptpRx_of_otherDomain 9 54 _ whole runs takes other]

/-! Requests to the port's own address (R40) -/

theorem arpRx_own {d : Dev} {p : Fin 2} {q : ArpReq} (takes : d.takes p q.tag) (own : d.portIs p.val q.tpa) :
    d.arpRx p.val q = d.emit (.arpReply p.val (d.sendTag p.val) q.sha q.spa (d.portMac p.val) q.tpa) := by
  simp [Dev.arpRx, takes, own]

theorem echoRx_own {d : Dev} {p : Fin 2} {q : EchoReq} (takes : d.takes p q.tag) (own : d.portIs p.val q.dst) :
    d.echoRx p.val q = d.emit (.echoReply p.val (d.sendTag p.val) q.src q.dst q.id q.seq q.data) := by
  simp [Dev.echoRx, takes, own]

theorem igmpRx_ptp {d : Dev} {p : Fin 2} {tag : Option (Fin 65536)} {g : Nat} (takes : d.takes p tag)
    (group : g = 0 ∨ g = ptpGroup) (runs : d.ptpOn) :
    d.igmpRx p tag g = d.emit (.igmpReport p.val (d.sendTag p.val) (d.rd (Reg.PTP_ETH_IP p.val)) ptpGroup) := by
  simp [Dev.igmpRx, takes, group, runs]

/-! Losses of the master (R43, R44) -/

theorem annTimedOut_due {d : Dev} (runs : d.ptpOn) (due : d.annDue) : d.annTimedOut =
    (d.dropMaster.mapTime fun t => { t with annOut := true }).servoTimeout.failover := by
  simp [Dev.annTimedOut, runs, due]

/-- A servo that runs goes to HOLDOVER after a lock, to FREE before. -/
theorem servoTimeout_running {d : Dev}
    (h : d.rd Reg.PTP_STAT_STATE = Servo.acquiring ∨ d.rd Reg.PTP_STAT_STATE = Servo.locked) :
    d.servoTimeout = d.servo (if d.time.locked1 then Servo.holdover else Servo.free) := by
  simp [Dev.servoTimeout, Dev.servoLost, h]

theorem syncTimedOut_due {d : Dev} (runs : d.ptpOn) (due : d.syncDue) : d.syncTimedOut = d.servoTimeout := by
  simp [Dev.syncTimedOut, runs, due]

theorem ptpLinkLost_running {d : Dev} (runs : (d.flag (Reg.PTP_ETH_STAT_LINK d.actPort.val) false).ptpOn) :
    d.ptpLinkLost = (d.flag (Reg.PTP_ETH_STAT_LINK d.actPort.val) false).dropMaster.servoTimeout.failover := by
  simp [Dev.ptpLinkLost, runs]

/-- Settles O7: message by message, each by the rule of its operation. -/
theorem ptpTraffic : Obligations.PtpTraffic := by
  refine ⟨fun s m taken lo hi => ⟨fun port => ?_, fun port => ?_⟩, fun s m t3 t1 t2 taken port mine out sync => ?_,
    fun s m runs takes whole other port => ⟨?_, ?_, ?_⟩, fun s stamp => ?_, fun s p q takes own => ?_,
    fun s p q takes own => ?_, fun s p tag g takes group runs => ?_,
    fun s runs => ⟨fun due => becomes_of_run rfl (annTimedOut_due runs due), fun due state =>
      becomes_of_run rfl ((syncTimedOut_due runs due).trans (servoTimeout_running state))⟩,
    fun s runs => becomes_of_run rfl (ptpLinkLost_running runs)⟩
  · exact becomes_of_run (f := fun d => d.announceRx m) rfl ((announceRx_of_taken taken lo hi).trans (if_pos port))
  · exact becomes_of_run (f := fun d => d.announceRx m) rfl ((announceRx_of_taken taken lo hi).trans (if_neg port))
  · exact becomes_of_run (f := fun d => d.delayRespRx m) rfl (delayRespRx_of_taken taken port mine out sync)
  · exact becomes_of_run (f := fun d => d.announceRx m) rfl (announceRx_otherDomain runs takes whole other)
  · exact becomes_of_run (f := fun d => d.syncRx m) rfl (syncRx_otherDomain runs takes whole other port)
  · exact becomes_of_run (f := fun d => d.delayRespRx m) rfl (delayRespRx_otherDomain runs takes whole other port)
  · intro d p runs master due
    exact becomes_of_run (f := fun d => d.delayReqTx stamp) rfl (delayReqTx_due runs master due)
  · exact becomes_of_run (f := fun d => d.arpRx p.val q) rfl (arpRx_own takes own)
  · exact becomes_of_run (f := fun d => d.echoRx p.val q) rfl (echoRx_own takes own)
  · exact becomes_of_run (f := fun d => d.igmpRx p tag g) rfl (igmpRx_ptp takes group runs)

end Sys2Proof.Proofs
end

section
/-! PROOFS. The broadcast of Group Time to the islands (R53, R54). -/

namespace Sys2Proof.Proofs

open Sys2Proof Sys2Proof.Machine Sys2Proof.Safety

@[simp] theorem bit_zero_left (i : Nat) : bit 0 i = false := Nat.zero_testBit i

/-- The islands that waited reload, and what fell due there fires at the GT last reached (log entry 116). -/
def reloaded (d : Dev) : Dev :=
  let e := d.mapTime fun t => { t with reload := 0 }
  let e := if bit d.time.reload 20 then e.fireDue e.gt else e
  if bit d.time.reload 19 then (e.cueFirstAll e.gt).cueSecondAll e.gt else e

/-- What a broadcast does at one island whose replica shows deviation `x`; `wait` names those that had to reload (R54). -/
def islandFound (wait : Nat) (d : Dev) (i : Fin 23) (x : Int) : Dev :=
  if x < -8 || 8 < x then
    if i.val < 16 && !d.engineOn i.val || bit wait i.val then d else d.replicaFault i.val x
  else d

theorem broadcast_eq (d : Dev) (l : List (Fin 23 × Int)) :
    d.broadcast l = l.foldl (fun e p => islandFound d.time.reload e p.1 p.2) (reloaded d) := rfl

theorem islandFound_within (wait : Nat) (d : Dev) (i : Fin 23) {x : Int} (h : -8 ≤ x ∧ x ≤ 8) :
    islandFound wait d i x = d := by
  have near : ¬(x < -8 ∨ 8 < x) := by omega
  simp [islandFound, near]

theorem islandFound_beyond (d : Dev) {i : Fin 23} {x : Int} (h : x < -8 ∨ 8 < x) (looked : 16 ≤ i.val ∨ d.engineOn i.val) :
    islandFound 0 d i x = d.replicaFault i.val x := by
  have here : ¬(i.val < 16 ∧ d.engineOn i.val = false) := by
    rintro ⟨engine, off⟩
    obtain other | on := looked
    · omega
    · simp [off] at on
  simp [islandFound, h, here]

/-- An engine that does not run is not looked at. -/
theorem islandFound_engineOff (d : Dev) {i : Fin 23} (x : Int) (engine : i.val < 16) (off : d.engineOn i.val = false) :
    islandFound 0 d i x = d := by
  simp [islandFound, engine, off]

theorem broadcast_within {d : Dev} {l : List (Fin 23 × Int)} (h : ∀ p ∈ l, -8 ≤ p.2 ∧ p.2 ≤ 8) :
    d.broadcast l = reloaded d := by
  rw [broadcast_eq]
  generalize reloaded d = e
  induction l with
  | nil => rfl
  | cons p l ih =>
    rw [List.foldl_cons, islandFound_within _ _ _ (h p List.mem_cons_self)]
    exact ih fun q hq => h q (List.mem_cons_of_mem p hq)

/-- With no island waiting, one deviation is judged on the controller as it stands. -/
theorem broadcast_single {d : Dev} (none : d.time.reload = 0) (i : Fin 23) (x : Int) :
    d.broadcast [(i, x)] = islandFound 0 (d.mapTime fun t => { t with reload := 0 }) i x := by
  simp [broadcast_eq, reloaded, none]

theorem replicaFault_island (d : Dev) {i : Nat} (h : 16 ≤ i) (x : Int) : d.replicaFault i x =
    ((d.wr Reg.TSP_REPL_ERR_ISLAND (setBit (d.rd Reg.TSP_REPL_ERR_ISLAND) i true)).mapTime fun t =>
      { t with reload := setBit t.reload i true }).raise .replicaFault 0 [pU 16 1 i, pI 20 4 x] :=
  if_neg (Nat.not_lt.2 h)

theorem replicaFault_engine (d : Dev) {i : Nat} (h : i < 16) (x : Int) : d.replicaFault i x =
    (d.wr Reg.TSP_REPL_ERR_ISLAND (setBit (d.rd Reg.TSP_REPL_ERR_ISLAND) i true)).isolateEngine (Fin.ofNat 16 i) 3 :=
  if_pos h

/-- Settles O29: a broadcast is its reload and then a fold over the islands that deviate. -/
theorem replicaBroadcast : Obligations.ReplicaBroadcast := by
  refine ⟨fun s l near => becomes_of_run (f := fun d => d.broadcast l) rfl (broadcast_within near), ?_⟩
  intro s i x waiting beyond d e
  have single : s.dev.broadcast [(i, x)] = islandFound 0 d i x := broadcast_single waiting i x
  refine ⟨fun island => ?_, fun engine on => ?_, fun engine off => ?_⟩
  · exact becomes_of_run (f := fun d => d.broadcast [(i, x)]) rfl
      ((single.trans (islandFound_beyond d beyond (.inl island))).trans (replicaFault_island d island x))
  · exact becomes_of_run (f := fun d => d.broadcast [(i, x)]) rfl
      ((single.trans (islandFound_beyond d beyond (.inr on))).trans (replicaFault_engine d engine x))
  · exact becomes_of_run (f := fun d => d.broadcast [(i, x)]) rfl
      (single.trans (islandFound_engineOff d x engine off))

end Sys2Proof.Proofs
end

section
/-! PROOFS. The tick: Group Time moves on in and out of reset (R34 to R36, R451). -/

namespace Sys2Proof.Proofs

open Sys2Proof Sys2Proof.Machine Sys2Proof.Safety

theorem endTick_none {d : Dev} (h : d.sys.ending = none) : d.endTick = d := by
  simp only [Dev.endTick, h]

theorem slewTick_gt (d : Dev) : d.slewTick.gt = d.gt := by
  unfold Dev.slewTick
  split <;> rfl

theorem slewTick_regs (d : Dev) : d.slewTick.regs = d.regs := by
  unfold Dev.slewTick
  split <;> rfl

/-- With nothing to step and no step just done, the spine moves GT to the next boundary and writes no register. -/
theorem spineTick_noStep {d : Dev} (step : d.time.step = none) (due : d.time.due = false) :
    d.spineTick.gt = d.nextTick % 2 ^ 64 ∧ d.spineTick.regs = d.regs := by
  have moved : (d.setGt d.nextTick).slewTick.gt = d.nextTick % 2 ^ 64 := (slewTick_gt _).trans (setGt_gt ..)
  have kept : (d.setGt d.nextTick).slewTick.regs = d.regs := (slewTick_regs _).trans (setGt_regs ..)
  simp only [Dev.spineTick, step, due, Option.isSome_none, Bool.false_and, Bool.false_eq_true, if_false]
  split
  · exact ⟨moved, kept⟩
  · exact ⟨moved, kept⟩

theorem inReset_of_regs {d e : Dev} (h : e.regs = d.regs) : e.inReset = d.inReset := by
  have dom : e.dom 108 = d.dom 108 := by simp only [Dev.dom, Dev.rd, h]
  rw [Dev.inReset, Dev.inReset, dom]

theorem tick_inReset {d : Dev} (h : d.endTick.spineTick.inReset) (cars : List CarIn) (missed : List (Fin 16))
    (tj ppb : Int) : d.tick cars missed tj ppb = d.endTick.spineTick := if_pos h

theorem tick_running {d : Dev} (h : d.endTick.spineTick.inReset = false) (cars : List CarIn) (missed : List (Fin 16))
    (tj ppb : Int) : d.tick cars missed tj ppb = d.endTick.spineTick.runTick cars missed tj ppb :=
  if_neg (by simp [h])

/-- Settles O30: a tick is the reset gone out, the spine, and the rest out of reset; held in reset the spine alone. -/
theorem tickKeepsTime : Obligations.TickKeepsTime := by
  refine ⟨fun s cars missed tj ppb => ⟨fun held => ?_, fun running => ?_⟩,
    fun s cars missed tj ppb held ending step due => ?_⟩
  · exact becomes_of_run (f := fun d => d.tick cars missed tj ppb) rfl (tick_inReset held ..)
  · exact becomes_of_run (f := fun d => d.tick cars missed tj ppb) rfl (tick_running running ..)
  · have same := endTick_none ending
    obtain ⟨gt, regs⟩ := spineTick_noStep step due
    have still : s.dev.endTick.spineTick.inReset := by rw [same, inReset_of_regs regs]; exact held
    refine ⟨_, becomes_of_run (f := fun d => d.tick cars missed tj ppb) rfl (tick_inReset still ..), ?_⟩
    rw [same]; exact gt

end Sys2Proof.Proofs
end

section
/-! PROOFS. A descriptor and the checks common to all (R108): whatever its opcode, one that fails a check is refused. -/

namespace Sys2Proof.Proofs

open Sys2Proof Sys2Proof.Machine Sys2Proof.Safety

variable {c : Instr} {op : Nat} {q : Fin 32} {b : List Byte}

/-- A hard repair refused by a common check writes no OTP entry. -/
theorem hardEntries_refused {d : Dev} {sq st : Nat} (o : Otp) (bad : Option Nat)
    (refused : (d.fetchOne sq b 0x82).2.precheck 0x82 sq b = some st) : d.hardEntries o sq b bad = [] := by
  unfold Dev.hardEntries
  dsimp only
  rw [refused]

/-- A descriptor of the catalogue is admitted by the shared admission; refused by a common check it programs no OTP. -/
theorem exec_of_descOf (h : descOf c = some (op, q, b)) (s : State) :
    ∃ go o, exec c s = .next { s with dev := s.dev.tryAdmit op q.val b go, otp := o } ∧
      ∀ st, (fetched s op q b).2.precheck op q.val b = some st → o = s.otp := by
  cases c <;> cases h
  case repairHard bad =>
    refine ⟨_, _, rfl, fun st refused => ?_⟩
    rw [hardEntries_refused _ _ refused, List.append_nil]
  all_goals exact ⟨_, s.otp, rfl, fun _ _ => rfl⟩

theorem answers_refused {s : State} {st : Nat} (h : descOf c = some (op, q, b))
    (refused : (fetched s op q b).2.precheck op q.val b = some st) :
    Answers c s op q b (fetched s op q b).2 (AdmRes.refuse st) := by
  obtain ⟨go, o, hexec, hotp⟩ := exec_of_descOf h s
  rw [Answers, Becomes, hexec, hotp st refused, Dev.admit_refused go refused]

/-! The checks in their order, once the form, the ring and the CMD_ID have passed -/

section
variable {d : Dev} {n : Nat} (form : d.formOk op b) (fits : d.ringFits n b) (clash : d.cmdClash n (dCmd b) = false)
include form fits clash

theorem precheck_of_wellFormed : d.precheck op n b =
    if !d.locked && !earlyFamily op then some Stat.busy
    else if dGt b != 0 && !d.on Reg.TSP_STAT_GT_VALID then some Stat.busy
    else if (dClass b = 1 || dClass b = 2) && d.carClosed (dIndex b) then some Stat.busy
    else none := by
  simp [Dev.precheck, form, fits, clash]

/-- Before SETUP_LOCK a descriptor of another family is BUSY (R78). -/
theorem precheck_beforeLock (unlocked : d.locked = false) (family : earlyFamily op = false) :
    d.precheck op n b = some Stat.busy := by
  simp [precheck_of_wellFormed form fits clash, unlocked, family]

/-- A descriptor with a GT is BUSY while Group Time is not valid, by this check or by the one before it. -/
theorem precheck_gtInvalid (gt : dGt b ≠ 0) (invalid : d.on Reg.TSP_STAT_GT_VALID = false) :
    d.precheck op n b = some Stat.busy := by
  rw [precheck_of_wellFormed form fits clash]
  split
  · rfl
  · simp [gt, invalid]

/-- A descriptor of an early family that names no car passes. -/
theorem precheck_early (family : earlyFamily op) (gt : dGt b = 0 ∨ d.on Reg.TSP_STAT_GT_VALID)
    (car : dClass b ≠ 1) (slice : dClass b ≠ 2) : d.precheck op n b = none := by
  have timed : (dGt b != 0 && !d.on Reg.TSP_STAT_GT_VALID) = false := by
    obtain gt | gt := gt <;> simp [gt]
  simp [precheck_of_wellFormed form fits clash, family, timed, car, slice]

end

/-- Settles O13: the third common check, the fourth, and none of them. -/
theorem busyBeforeLock : Obligations.BusyBeforeLock := by
  intro c op q b s desc d form fits clash
  refine ⟨fun unlocked family => ?_, fun gt invalid => ?_, fun unlocked family gt car slice => ?_⟩
  · exact answers_refused desc (precheck_beforeLock form fits clash unlocked family)
  · exact answers_refused desc (precheck_gtInvalid form fits clash gt invalid)
  · have early : earlyFamily op := by simpa [earlyFamily, or_assoc] using family
    exact precheck_early form fits clash early gt car slice

end Sys2Proof.Proofs
end

section
/-! PROOFS. The one completion of a NOP: its admission slot, the flush of that slot, the write at the tail of its CQ
(R81, R82, R115). -/

namespace Sys2Proof.Proofs

open Sys2Proof Sys2Proof.Machine Sys2Proof.Safety

/-! Fetching one descriptor moves no register but two of its SQ, and opens its slot (R76, R90) -/

theorem moveHead_rd (d : Dev) (q n : Nat) {f : RF} (head : f.key ≠ (Reg.RNG_SQ_STAT_HEAD q).key) :
    (d.moveHead q n).rd f = d.rd f := by
  unfold Dev.moveHead
  split
  · exact Dev.rd_wr_ne _ _ _ _ head
  · rfl

theorem moveHead_host (d : Dev) (q n : Nat) : (d.moveHead q n).host = d.host := by
  unfold Dev.moveHead; split <;> rfl

theorem moveHead_tx (d : Dev) (q n : Nat) : (d.moveHead q n).tx = d.tx := by
  unfold Dev.moveHead; split <;> rfl

/-- The controller that has counted a descriptor and moved HEAD past its entries not read before. -/
def counted (d : Dev) (q : Nat) (b : List Byte) : Dev :=
  let e := d.inc (Reg.RNG_SQ_SEQ q)
  if decide (d.host.partials[Fin.ofNat 32 q] = b) then e else e.moveHead q (e.descEntries q b)

/-- The admission slot that a fetched descriptor opens. -/
def slotOf (d : Dev) (q : Nat) (b : List Byte) (op : Nat) : AdmSlot :=
  let e := counted d q b
  { sq := q, cq := e.rd (Reg.RNG_SQ_CFG_CQ q), cmd := dCmd b, op := op, dn := (d.fetchOne q b op).1, gen := e.gen,
    gt := e.gt, fence := bit (byteAt b 1) 0, res := none, final := none }

/-- The fields of a CQ that the write of a completion reads. -/
def cqFields (k : Nat) : List RF :=
  [Reg.RNG_CQ_BASE_HI k, Reg.RNG_CQ_BASE_LO k, Reg.RNG_CQ_STAT_TAIL k, Reg.RNG_CQ_HEAD_PHASE k, Reg.RNG_CQ_CFG_LOG2SZ k]

/-- The CQs lie above the SQs in the register map. -/
theorem cqFields_above {k : Nat} {f : RF} (h : f ∈ cqFields k) : 0x1800 * 32 ≤ f.key := by
  simp only [cqFields, List.mem_cons, List.not_mem_nil, or_false] at h
  obtain rfl | rfl | rfl | rfl | rfl := h
  all_goals
    simp only [Reg.RNG_CQ_BASE_HI, Reg.RNG_CQ_BASE_LO, Reg.RNG_CQ_STAT_TAIL, Reg.RNG_CQ_HEAD_PHASE,
      Reg.RNG_CQ_CFG_LOG2SZ, RF.mk']
    omega

section
variable (d : Dev) (q : Nat) (b : List Byte) (op : Nat)

theorem counted_rd {f : RF} (seq : f.key ≠ (Reg.RNG_SQ_SEQ q).key) (head : f.key ≠ (Reg.RNG_SQ_STAT_HEAD q).key) :
    (counted d q b).rd f = d.rd f := by
  have inc : (d.inc (Reg.RNG_SQ_SEQ q)).rd f = d.rd f := Dev.rd_wr_ne _ _ _ _ seq
  unfold counted
  split
  · exact inc
  · exact (moveHead_rd _ _ _ head).trans inc

theorem counted_host : (counted d q b).host = d.host := by
  unfold counted
  split
  · rfl
  · exact moveHead_host ..

theorem counted_tx : (counted d q b).tx = d.tx := by
  unfold counted
  split
  · rfl
  · exact moveHead_tx ..

theorem fetchOne_eq : ∃ resv partials, (d.fetchOne q b op).2 = (counted d q b).mapHost fun h =>
    { h with adm := h.adm ++ [slotOf d q b op], resv := resv, partials := partials } := ⟨_, _, rfl⟩

theorem fetchOne_rd {f : RF} (seq : f.key ≠ (Reg.RNG_SQ_SEQ q).key) (head : f.key ≠ (Reg.RNG_SQ_STAT_HEAD q).key) :
    (d.fetchOne q b op).2.rd f = d.rd f := by
  obtain ⟨resv, partials, eq⟩ := fetchOne_eq d q b op
  rw [eq, Dev.mapHost_rd, counted_rd d q b seq head]

theorem fetchOne_tx : (d.fetchOne q b op).2.tx = d.tx := by
  obtain ⟨resv, partials, eq⟩ := fetchOne_eq d q b op
  rw [eq, Dev.mapHost_tx, counted_tx]

theorem fetchOne_host : (d.fetchOne q b op).2.host.adm = d.host.adm ++ [slotOf d q b op] ∧
    (d.fetchOne q b op).2.host.backlog = d.host.backlog ∧ (d.fetchOne q b op).2.host.durOn = d.host.durOn := by
  obtain ⟨resv, partials, eq⟩ := fetchOne_eq d q b op
  rw [eq, Dev.mapHost_host, counted_host]
  exact ⟨rfl, rfl, rfl⟩

theorem slotOf_cq : (slotOf d q b op).cq = d.rd (Reg.RNG_SQ_CFG_CQ q) := by
  refine counted_rd d q b ?_ ?_
  · simp only [Reg.RNG_SQ_CFG_CQ, Reg.RNG_SQ_SEQ, RF.mk']; omega
  · simp only [Reg.RNG_SQ_CFG_CQ, Reg.RNG_SQ_STAT_HEAD, RF.mk']; omega

theorem slotOf_gen : (slotOf d q b op).gen = d.gen := by
  refine counted_rd d q b ?_ ?_
  · simp only [Reg.HST_STAT_GEN, Reg.RNG_SQ_SEQ, RF.mk']; omega
  · simp only [Reg.HST_STAT_GEN, Reg.RNG_SQ_STAT_HEAD, RF.mk']; omega

theorem slotOf_gt : (slotOf d q b op).gt = d.gt := by
  obtain ⟨resv, partials, eq⟩ := fetchOne_eq d q b op
  have core := (Dev.fetchOne_core d q b op).time
  rw [eq, Dev.mapHost_time] at core
  exact congrArg TimeSt.gt core

theorem fetchOne_gen : (d.fetchOne q b op).2.gen = d.gen := slotOf_gen d q b op

/-- The registers above those of the SQs keep their values. -/
theorem fetchOne_rd_above (hq : q < 32) {f : RF} (above : 0x1800 * 32 ≤ f.key) :
    (d.fetchOne q b op).2.rd f = d.rd f := by
  refine fetchOne_rd d q b op ?_ ?_
  · simp only [Reg.RNG_SQ_SEQ, RF.mk']; omega
  · simp only [Reg.RNG_SQ_STAT_HEAD, RF.mk']; omega

end

/-! The flush of the only slot that is out, while no checkpoint stands acknowledged (R77, R91, R92) -/

section
variable {d : Dev} (dur : d.host.durOn = false)
include dur

theorem durable_of_durOff : d.durable = false := by simp [Dev.durable, dur]

/-- A descriptor that changed no state is noted as contained; no DSEQ moves. -/
theorem markInert_durOff (sq dn : Nat) :
    d.markInert sq dn = d.mapHost fun h => { h with inert := (sq, dn) :: h.inert } :=
  if_neg (by simp [Dev.durable, dur])

/-- The only slot out, its result known, is given up and its completion posted; nothing holds its fence. -/
theorem flushAdm_only {a : AdmSlot} {r : AdmRes} (adm : d.host.adm = [a]) (res : a.res = some r) (final : a.final = none) :
    d.flushAdm = (d.mapHost fun h => { h with adm := [] }).postAdm a.cq a.dn (a.cqe r) := by
  simp [Dev.flushAdm, Dev.flushFrom, Dev.fenceOpen, durable_of_durOff dur, adm, res, final, Dev.mapHost]

/-- The only admission out, of a descriptor that changes no state, is posted as it gets its result. -/
theorem admSet_only {a : AdmSlot} {r : AdmRes} (adm : d.host.adm = [a]) (res : a.res = none) (final : a.final = none)
    (inert : r.inert) : d.admSet a.sq a.dn r =
      (d.mapHost fun h => { h with adm := [], inert := (a.sq, a.dn) :: h.inert }).postAdm a.cq a.dn (a.cqe r) := by
  have given : d.admSet a.sq a.dn r =
      ((d.mapHost fun h => { h with adm := [{ a with res := some r }] }).markInert a.sq a.dn).flushAdm := by
    simp [Dev.admSet, inert, adm, res, Dev.mapHost]
  let e := d.mapHost fun h => { h with adm := [{ a with res := some r }] }
  let e' := e.mapHost fun h => { h with inert := (a.sq, a.dn) :: h.inert }
  have marked : e.markInert a.sq a.dn = e' := markInert_durOff (d := e) dur a.sq a.dn
  rw [given, marked]
  exact flushAdm_only (d := e') (a := { a with res := some r }) dur rfl rfl final

end

/-! A completion written at the tail of its CQ (R82) -/

section
variable (d : Dev) (q : Nat) (c : Cqe)

theorem moderate_tx (i : Nat) (ien : Bool) : (d.moderate i ien).tx = d.tx := by unfold Dev.moderate; split <;> rfl

theorem moderate_rd (i : Nat) (ien : Bool) (f : RF) : (d.moderate i ien).rd f = d.rd f := by
  unfold Dev.moderate; split <;> rfl

theorem moderate_queues (i : Nat) (ien : Bool) :
    (d.moderate i ien).host.adm = d.host.adm ∧ (d.moderate i ien).host.backlog = d.host.backlog := by
  unfold Dev.moderate; split <;> exact ⟨rfl, rfl⟩

theorem cqWrite_tx : (d.cqWrite q c).tx =
    .dma (d.rd (Reg.RNG_CQ_BASE_HI q) * 2 ^ 32 + d.rd (Reg.RNG_CQ_BASE_LO q) * 4096 + 32 * d.rd (Reg.RNG_CQ_STAT_TAIL q))
      (c.bytes false (d.rd (Reg.RNG_CQ_HEAD_PHASE q) == 1)) :: d.tx := moderate_tx ..

theorem cqWrite_queues : (d.cqWrite q c).host.adm = d.host.adm ∧ (d.cqWrite q c).host.backlog = d.host.backlog :=
  moderate_queues ..

/-- A ring has at most 32,768 entries, so that its indices fit their fields. -/
theorem ringSize_le (f : RF) (w : f.w = 4) : ringSize (d.rd f) ≤ 2 ^ 15 :=
  Nat.pow_le_pow_right (by decide) (Nat.le_of_lt_succ (by simpa [w] using d.rd_lt f))

theorem cqWrite_tail : (d.cqWrite q c).rd (Reg.RNG_CQ_STAT_TAIL q) =
    (d.rd (Reg.RNG_CQ_STAT_TAIL q) + 1) % ringSize (d.rd (Reg.RNG_CQ_CFG_LOG2SZ q)) := by
  have size := ringSize_le d (Reg.RNG_CQ_CFG_LOG2SZ q) rfl
  have lt := Nat.mod_lt (d.rd (Reg.RNG_CQ_STAT_TAIL q) + 1) (Nat.two_pow_pos (d.rd (Reg.RNG_CQ_CFG_LOG2SZ q)))
  have other : (Reg.RNG_CQ_STAT_TAIL q).key ≠ (Reg.RNG_CQ_HEAD_PHASE q).key := by
    simp only [Reg.RNG_CQ_STAT_TAIL, Reg.RNG_CQ_HEAD_PHASE, RF.mk']; omega
  refine (moderate_rd ..).trans ((Dev.rd_wr_ne _ _ _ _ other).trans ((Dev.rd_wr_same ..).trans (Nat.mod_eq_of_lt ?_)))
  exact (lt.trans_le size).trans (by decide : 2 ^ 15 < 2 ^ 16)

end

/-- With nothing in the backlog and nothing traced, an admission completion goes to the tail of its CQ, DUR and DSEQ 0 while
no checkpoint stands acknowledged (R77, R92). -/
theorem postAdm_written {d : Dev} {q dn : Nat} {c : Cqe} (backlog : d.host.backlog = []) (dur : d.host.durOn = false)
    (trace : d.on Reg.LAR_TRACE_MIB = false) (gen : c.gen = d.gen) (own : d.gen ≠ 0xFFFF) (live : d.cqLive q)
    (room : d.cqPosted q + 1 < ringSize (d.rd (Reg.RNG_CQ_CFG_LOG2SZ q))) :
    d.postAdm q dn c = d.cqWrite q { c with dur := false, dseq := 0 } := by
  have stamp : d.stamp dn c = { c with dur := false, dseq := 0 } := by
    simp [Dev.stamp, durable_of_durOff dur, gen, own]
  simp [Dev.postAdm, Dev.post, Dev.traceAdd, stamp, gen, live, room, backlog, trace]

/-- The controller with its only admission slot given up, its descriptor contained (R90). -/
def slotFreed (d : Dev) (a : AdmSlot) : Dev := d.mapHost fun h => { h with adm := [], inert := (a.sq, a.dn) :: h.inert }

/-- A slot's completion as it is posted while no checkpoint stands acknowledged (R92). -/
def plainCqe (a : AdmSlot) (r : AdmRes) : Cqe := { a.cqe r with dur := false, dseq := 0 }

/-- The only admission out, of a descriptor that changes no state, is written at the tail of its CQ as it gets its result. -/
theorem admSet_written {d : Dev} {a : AdmSlot} {r : AdmRes} (adm : d.host.adm = [a]) (res : a.res = none)
    (final : a.final = none) (inert : r.inert) (dur : d.host.durOn = false) (backlog : d.host.backlog = [])
    (trace : d.on Reg.LAR_TRACE_MIB = false) (gen : a.gen = d.gen) (own : d.gen ≠ 0xFFFF) (live : d.cqLive a.cq)
    (room : d.cqPosted a.cq + 1 < ringSize (d.rd (Reg.RNG_CQ_CFG_LOG2SZ a.cq))) :
    d.admSet a.sq a.dn r = (slotFreed d a).cqWrite a.cq (plainCqe a r) := by
  rw [admSet_only dur adm res final inert]
  exact postAdm_written (d := slotFreed d a) backlog dur trace gen own live room

/-- A NOP that passes the common checks gives its slot the result. -/
theorem opNop_passes {d : Dev} {q : Nat} {b : List Byte} (passes : (d.fetchOne q b 0x00).2.precheck 0x00 q b = none) :
    d.opNop q b = (d.fetchOne q b 0x00).2.admSet (slotOf d q b 0x00).sq (slotOf d q b 0x00).dn (AdmRes.readOnly 0 0) :=
  Dev.admit_done _ passes rfl

/-- The completion of a NOP as it is written. -/
theorem nop_cqe (d : Dev) (q : Nat) (b : List Byte) :
    plainCqe (slotOf d q b 0x00) (AdmRes.readOnly 0 0) =
      { cmd := dCmd b, status := Stat.ok, final := false, dur := false, sq := q, op := 0x00, dseq := 0, gt := d.gt,
        info0 := 0, info1 := 0, gen := d.gen } := by
  rw [← slotOf_gt d q b 0x00, ← slotOf_gen d q b 0x00]
  rfl

theorem slotFreed_rd (d : Dev) (a : AdmSlot) (f : RF) : (slotFreed d a).rd f = d.rd f := rfl

theorem slotFreed_tx (d : Dev) (a : AdmSlot) : (slotFreed d a).tx = d.tx := rfl

/-- Settles O16: the slot is flushed as it gets its result, and its completion is written. -/
theorem nopCompletionPosted : Obligations.NopCompletionPosted := by
  intro s q b passes d k t base adm backlog dur trace own live room
  obtain ⟨hadm, hbacklog, hdur⟩ := fetchOne_host s.dev q.val b 0x00
  have gen : d.gen = s.dev.gen := fetchOne_gen ..
  have cq : (slotOf s.dev q b 0x00).cq = k := slotOf_cq ..
  have above : ∀ f : RF, 0x1800 * 32 ≤ f.key → d.rd f = s.dev.rd f := fun f => fetchOne_rd_above s.dev q b 0x00 q.isLt
  have ring : ∀ f ∈ cqFields k, d.rd f = s.dev.rd f := fun f mem => above f (cqFields_above mem)
  simp only [cqFields, List.forall_mem_cons] at ring
  obtain ⟨baseHi, baseLo, tail, phase, size, -⟩ := ring
  have untraced : d.on Reg.LAR_TRACE_MIB = false := by
    rw [← trace]; exact congrArg (· != 0) (above Reg.LAR_TRACE_MIB (by decide))
  have only : d.host.adm = [slotOf s.dev q b 0x00] := by rw [hadm, adm, List.nil_append]
  have written := admSet_written (r := AdmRes.readOnly 0 0) only rfl rfl rfl (hdur.trans dur) (hbacklog.trans backlog)
    untraced ((slotOf_gen ..).trans gen.symm) (gen ▸ own) (cq.symm ▸ live) (cq.symm ▸ room)
  rw [cq, nop_cqe] at written
  refine ⟨_, becomes_of_run (f := fun v => v.opNop q b) rfl ((opNop_passes passes).trans written), ?_, ?_,
    (cqWrite_queues ..).1, (cqWrite_queues ..).2.trans (hbacklog.trans backlog)⟩
  · rw [cqWrite_tx]
    simp only [slotFreed_rd, slotFreed_tx]
    rw [baseHi, baseLo, tail, phase, fetchOne_tx]
  · rw [cqWrite_tail, slotFreed_rd, slotFreed_rd, tail, size]

end Sys2Proof.Proofs
end

section
/-! PROOFS. Doorbells of an enabled ring, of one that is not, and with an index outside the ring (R74, R75, R89). -/

namespace Sys2Proof.Proofs

open Sys2Proof Sys2Proof.Machine Sys2Proof.Safety

section
variable {d : Dev} {q v : Nat}

theorem bellSq_taken (on : d.on (Reg.RNG_SQ_CFG_EN q)) (inside : v < ringSize (d.rd (Reg.RNG_SQ_CFG_LOG2SZ q))) :
    d.bellSq q v = d.wr (Reg.RNG_SQ_TAIL q) v := by
  simp [Dev.bellSq, on, inside]

theorem bellSq_off (off : d.on (Reg.RNG_SQ_CFG_EN q) = false) : d.bellSq q v = d.incSat Reg.HST_VIOL_DB_OFF := by
  simp [Dev.bellSq, off]

theorem bellSq_outside (on : d.on (Reg.RNG_SQ_CFG_EN q)) (out : ringSize (d.rd (Reg.RNG_SQ_CFG_LOG2SZ q)) ≤ v) :
    d.bellSq q v = d.faultSq q 1 v := by
  simp [Dev.bellSq, on, out]

/-- A head that passes no more than what is posted frees it, and arms the ring with the rest. -/
theorem bellCq_taken (on : d.on (Reg.RNG_CQ_CFG_EN q)) (inside : v < ringSize (d.rd (Reg.RNG_CQ_CFG_LOG2SZ q)))
    (posted : (v + ringSize (d.rd (Reg.RNG_CQ_CFG_LOG2SZ q)) - d.rd (Reg.RNG_CQ_HEAD q)) %
      ringSize (d.rd (Reg.RNG_CQ_CFG_LOG2SZ q)) ≤ d.cqPosted q) :
    d.bellCq q v = (d.wr (Reg.RNG_CQ_HEAD q) v).rearm q ((d.wr (Reg.RNG_CQ_HEAD q) v).cqPosted q) := by
  simp [Dev.bellCq, on, inside, posted]

theorem bellCq_off (off : d.on (Reg.RNG_CQ_CFG_EN q) = false) : d.bellCq q v = d.incSat Reg.HST_VIOL_DB_OFF := by
  simp [Dev.bellCq, off]

theorem bellCq_outside (on : d.on (Reg.RNG_CQ_CFG_EN q)) (out : ringSize (d.rd (Reg.RNG_CQ_CFG_LOG2SZ q)) ≤ v) :
    d.bellCq q v = d.faultCq q 1 v := by
  simp [Dev.bellCq, on, out]

theorem bellEq_taken (on : d.on (Reg.RNG_EQ_CFG_EN q)) (inside : v < ringSize (d.rd (Reg.RNG_EQ_CFG_LOG2SZ q)))
    (posted : (v + ringSize (d.rd (Reg.RNG_EQ_CFG_LOG2SZ q)) - d.rd (Reg.RNG_EQ_HEAD q)) %
      ringSize (d.rd (Reg.RNG_EQ_CFG_LOG2SZ q)) ≤ ringSize (d.rd (Reg.RNG_EQ_CFG_LOG2SZ q)) - 1 - d.eqFree q) :
    d.bellEq q v = (d.wr (Reg.RNG_EQ_HEAD q) v).rearm (32 + q)
      (ringSize (d.rd (Reg.RNG_EQ_CFG_LOG2SZ q)) - 1 - (d.wr (Reg.RNG_EQ_HEAD q) v).eqFree q) := by
  simp [Dev.bellEq, on, inside, posted]

theorem bellEq_off (off : d.on (Reg.RNG_EQ_CFG_EN q) = false) : d.bellEq q v = d.incSat Reg.HST_VIOL_DB_OFF := by
  simp [Dev.bellEq, off]

theorem bellEq_outside (on : d.on (Reg.RNG_EQ_CFG_EN q)) (out : ringSize (d.rd (Reg.RNG_EQ_CFG_LOG2SZ q)) ≤ v) :
    d.bellEq q v = d.faultEq q 1 v := by
  simp [Dev.bellEq, on, out]

end

/-! A doorbell command is the doorbell of its ring with the index in bits [15:0] -/

theorem becomes_sqTail {s : State} {q : Fin 32} {v : BitVec 32} {d : Dev} (h : s.dev.bellSq q.val (v.toNat % 65536) = d) :
    Becomes (.sqTailDoorbell q v) s d := becomes_of_run (f := fun e => e.bellSq q.val (v.toNat % 65536)) rfl h

theorem becomes_cqHead {s : State} {q : Fin 32} {v : BitVec 32} {d : Dev} (h : s.dev.bellCq q.val (v.toNat % 65536) = d) :
    Becomes (.cqHeadDoorbell q v) s d := becomes_of_run (f := fun e => e.bellCq q.val (v.toNat % 65536)) rfl h

theorem becomes_eqHead {s : State} {e : Fin 8} {v : BitVec 32} {d : Dev} (h : s.dev.bellEq e.val (v.toNat % 65536) = d) :
    Becomes (.eqHeadDoorbell e v) s d := becomes_of_run (f := fun x => x.bellEq e.val (v.toNat % 65536)) rfl h

/-- Settles O8: by kind of ring, the index taken, the ring not enabled, the index outside it. -/
theorem doorbells : Obligations.Doorbells :=
  ⟨fun _ _ _ on inside => becomes_sqTail (bellSq_taken on inside),
    fun _ _ _ on inside posted => becomes_cqHead (bellCq_taken on inside posted),
    fun _ _ _ on inside posted => becomes_eqHead (bellEq_taken on inside posted),
    fun _ _ _ off => becomes_sqTail (bellSq_off off), fun _ _ _ off => becomes_cqHead (bellCq_off off),
    fun _ _ _ off => becomes_eqHead (bellEq_off off), fun _ _ _ on out => becomes_sqTail (bellSq_outside on out),
    fun _ _ _ on out => becomes_cqHead (bellCq_outside on out),
    fun _ _ _ on out => becomes_eqHead (bellEq_outside on out)⟩

end Sys2Proof.Proofs
end

section
/-! PROOFS. What the host link does of itself: refused writes, the backlog, lost events (R83 to R93). -/

namespace Sys2Proof.Proofs

open Sys2Proof Sys2Proof.Machine Sys2Proof.Safety

/-- A refused completion goes back to the front of the backlog, and the CQ's tail goes back to its entry (R93). -/
theorem writeRefused_cq {d : Dev} {q : Fin 32} {x : BackEnt} (last : d.host.lastCq.filter (fun b => b.cq = q.val) = [x]) :
    d.writeRefused (.cq q) =
      let a := d.backRoom
      let z := ringSize (a.rd (Reg.RNG_CQ_CFG_LOG2SZ q.val))
      let t := (a.rd (Reg.RNG_CQ_STAT_TAIL q.val) + z - 1) % z
      ((a.mapHost fun h =>
        { h with backlog := x :: h.backlog, lastCq := h.lastCq.filter fun b => b.cq != q.val }).wr
          (Reg.RNG_CQ_STAT_TAIL q.val) t).faultCq q.val 3 t := by
  simp [Dev.writeRefused, last]

/-- The front of the backlog, of this generation and this CQ, is written where there is room, and the rest is looked at. -/
theorem drainCq_front {d : Dev} {q : Nat} {b : BackEnt} {l : List BackEnt} (backlog : d.host.backlog = b :: l)
    (cq : b.cq = q) (gen : b.cqe.gen = d.gen) (live : d.cqLive q) (room : d.cqFree q ≠ 0) :
    d.drainCq q = ((d.mapHost fun h => { h with backlog := l }).cqWrite q b.cqe).drainFrom q l := by
  simp [Dev.drainCq, Dev.drainFrom, Dev.mapHost, backlog, cq, gen, live, room]

/-- With two entries free, an EQ reports what it lost and counts anew (R87). -/
theorem overflow_reported {d : Dev} {e : Nat} (ok : d.eqOk e) (mastering : d.mastering) (room : 2 ≤ d.eqFree e)
    (lost : d.on (Reg.RNG_EQ_LOST e)) :
    d.overflow e = (d.wr (Reg.RNG_EQ_LOST e) 0).raiseTo e .eqOverflow [pU 16 4 (d.rd (Reg.RNG_EQ_LOST e))] := by
  simp [Dev.overflow, ok, mastering, room, lost]

/-- Settles O10: each service by the rule of its operation. -/
theorem hostLinkService : Obligations.HostLinkService :=
  ⟨fun _ e => becomes_of_run (f := fun d => d.writeRefused (.eq e)) rfl rfl,
    fun _ q _ last => becomes_of_run (f := fun d => d.writeRefused (.cq q)) rfl (writeRefused_cq last),
    fun _ q _ _ backlog cq gen live room => becomes_of_run (f := fun d => d.drainCq q.val) rfl
      (drainCq_front backlog cq gen live room),
    fun _ e ok mastering room lost => becomes_of_run (f := fun d => d.overflow e.val) rfl
      (overflow_reported ok mastering room lost),
    fun _ => becomes_of_run (f := Dev.moderation) rfl rfl, fun _ => becomes_of_run (f := Dev.flushAdm) rfl rfl⟩

end Sys2Proof.Proofs
end

section
/-! PROOFS. The host island: moderation, resets, the watchdog, the power states, the challenge (R89, R94 to R100, R122). -/

namespace Sys2Proof.Proofs

open Sys2Proof Sys2Proof.Machine Sys2Proof.Safety

/-! The moderation check (R89) -/

theorem signalVec_regs (d : Dev) (v : Fin 64) : (d.signalVec v).regs = d.regs := by
  simp only [Dev.signalVec]
  split
  · rfl
  · split <;> rfl

theorem signalSource_regs (d : Dev) (i : Nat) : (d.signalSource i).regs = d.regs := by
  unfold Dev.signalSource
  split
  · exact signalVec_regs ..
  · rfl

/-- An armed source whose count or time is reached signals, and is no longer armed. -/
theorem modCheck_fires {d : Dev} {i : Fin 40} (ien : (d.modOf i.val).2.2) (armed : d.host.moder[i].armed)
    (pending : d.host.moder[i].pending ≠ 0)
    (reached : (d.modOf i.val).1 ≤ d.host.moder[i].pending ∨
      ((d.modOf i.val).2.1 ≠ 0 ∧ d.host.moder[i].first + (d.modOf i.val).2.1 ≤ d.gt)) :
    d.modCheck i = (d.signalSource i.val).mapHost fun h =>
      { h with moder := h.moder.set i { d.host.moder[i] with armed := false } } := by
  simp [-Fin.getElem_fin, Dev.modCheck, ien, armed, pending, reached]

/-! A reset of the host island (R94) -/

theorem hostRegsReset_core (d : Dev) : SameCore d d.hostRegsReset := by constructor <;> rfl

theorem mapHost_core (d : Dev) (f : HostSt → HostSt) : SameCore d (d.mapHost f) := by constructor <;> rfl

/-- A reset of the host island reaches nothing but the island, the registers and the Logbook. -/
theorem hostReset_core (d : Dev) (k : HostReset) : SameCore d (d.hostReset k) := by
  unfold Dev.hostReset
  refine SameCore.trans ?_ (Dev.note_quiet _ 0x8001 4 42 0 0 _).core
  refine SameCore.trans ?_ (mapHost_core _ _)
  refine SameCore.trans ?_ (hostRegsReset_core _)
  refine SameCore.trans ?_ (Dev.flushAdm_core _)
  constructor <;> rfl

/-! The watchdog (R96) -/

/-- The controller as a kick leaves it, but for the record of a silence that ends. -/
def kicked (d : Dev) : Dev := (d.flag Reg.HST_STAT_SILENT false).mapHost fun h => { h with kickGt := d.gt }

theorem hwdKick_silent {d : Dev} (silent : d.on Reg.HST_STAT_SILENT) :
    d.hwdKick = (kicked d).note 0x8003 3 42 0 0 [pU 28 4 ((d.gt - d.host.kickGt) / 1000000)] := if_pos silent

theorem hwdKick_heard {d : Dev} (heard : d.on Reg.HST_STAT_SILENT = false) : d.hwdKick = kicked d :=
  if_neg (by simp [heard])

theorem hwdExpire_due {d : Dev} (enabled : d.on Reg.HST_HWD_TMO_MS) (heard : d.on Reg.HST_STAT_SILENT = false)
    (due : d.host.kickGt + d.rd Reg.HST_HWD_TMO_MS * 1000000 ≤ d.gt) :
    d.hwdExpire = (d.flag Reg.HST_STAT_SILENT true).note 0x8002 5 42 0 0 [pU 28 4 (d.rd Reg.HST_HWD_TMO_MS)] := by
  simp [Dev.hwdExpire, enabled, heard, due]

/-! Power states, the reference clock and the link (R95, R97, R98, R100) -/

theorem enterD3_fromD0 {d : Dev} (d0 : d.on Reg.HST_STAT_D3 = false) (clock : d.host.refHeld = false) :
    d.enterD3 = (d.flag Reg.HST_STAT_D3 true).mapHost fun h =>
      { h with pmeSent := false, pmeQueued := false, recov := false, inL1 := true } := by
  simp [Dev.enterD3, d0, clock]

theorem enterD0_fromD3 {d : Dev} (d3 : d.on Reg.HST_STAT_D3) :
    d.enterD0 = (d.flag Reg.HST_STAT_D3 false).mapHost fun h =>
      { h with recov := true, recovGt := d.gt, pmeQueued := false, inL1 := false } := if_pos d3

theorem recovered_due {d : Dev} (recov : d.host.recov) (due : d.host.recovGt + 10000000 ≤ d.gt) :
    d.recovered = (d.mapHost fun h => { h with recov := false }).resume := by
  simp [Dev.recovered, recovNs, recov, due]

theorem busMaster_clocked {d : Dev} (clock : d.host.refHeld = false) (perst : d.host.perst = false) :
    d.busMaster = (d.flag Reg.HST_STAT_BME true).resume := by
  simp [Dev.busMaster, clock, perst]

theorem aspmIdle_due {d : Dev} (enabled : d.host.aspmL1) (idle : d.host.busyGt + 7000 ≤ d.gt) :
    d.aspmIdle = d.mapHost fun h => { h with inL1 := true } := by
  simp [Dev.aspmIdle, enabled, idle]

/-! The challenge (R122) -/

theorem challengeEnd_past {d : Dev} {c : Challenge} (stored : d.host.chal = some c) (past : c.gt + chalNs < d.gt) :
    d.challengeEnd = d.mapHost fun h => { h with chal := none } := by
  have any : d.host.chal.any (fun c => decide (c.gt + chalNs < d.gt)) = true := by
    rw [stored, Option.any_some]; exact decide_eq_true past
  exact if_pos any

theorem challengeEnd_within {d : Dev} {c : Challenge} (stored : d.host.chal = some c) (within : d.gt ≤ c.gt + chalNs) :
    d.challengeEnd = d := by
  have none : d.host.chal.any (fun c => decide (c.gt + chalNs < d.gt)) = false := by
    rw [stored, Option.any_some]; exact decide_eq_false (Nat.not_lt.2 within)
  exact if_neg (ne_true_of_eq_false none)

/-- Settles O11: each command by the rule of its operation, the times on both sides of their limit. -/
theorem hostIsland : Obligations.HostIsland := by
  refine ⟨fun d i ien armed pending reached => ?_, fun s k => ?_, fun s => ⟨fun silent => ?_, fun heard => ?_⟩,
    fun s enabled heard due => becomes_of_run rfl (hwdExpire_due enabled heard due),
    fun s d0 clock => becomes_of_run rfl (enterD3_fromD0 d0 clock), fun s d3 => becomes_of_run rfl (enterD0_fromD3 d3),
    fun s recov due => becomes_of_run rfl (recovered_due recov due),
    fun s clock perst => becomes_of_run rfl (busMaster_clocked clock perst),
    fun s enabled idle => becomes_of_run rfl (aspmIdle_due enabled idle),
    fun s v x2 => becomes_of_run (f := fun d => d.perstOff v x2) rfl rfl,
    fun s c stored => ⟨fun past => becomes_of_run rfl (challengeEnd_past stored past),
      fun within => becomes_of_run rfl (challengeEnd_within stored within)⟩⟩
  · rw [modCheck_fires ien armed pending reached]
    exact ⟨by simp, signalSource_regs d i.val⟩
  · have core := hostReset_core s.dev k
    exact ⟨_, rfl, core.ladle, core.cars, core.links, rfl⟩
  · exact becomes_of_run rfl (hwdKick_silent silent)
  · exact becomes_of_run rfl (hwdKick_heard heard)

end Sys2Proof.Proofs
end

section
/-! PROOFS. A fetch and a read that fails (R75, R76, R80). -/

namespace Sys2Proof.Proofs

open Sys2Proof Sys2Proof.Machine Sys2Proof.Safety

theorem sqFetch_idle {s : State} {d : Dev} (l : List Fetched) (pick : s.dev.arbitrate = (none, d)) :
    sqFetch l s = { s with dev := d } := by
  simp only [sqFetch, pick]

theorem sqFetch_served {s : State} {d : Dev} {r : Fetch} (l : List Fetched) (pick : s.dev.arbitrate = (some r, d)) :
    sqFetch l s = fetchRead r l { s with dev := d } := by
  simp only [sqFetch, pick]

section
variable {s : State} {q : Fin 32} {e : DmaErr} {r : Fetch} {d : Dev} (l : List Fetched)
  (pick : (s.dev.aerNote e).arbitrate = (some r, d)) (sq : r.sq = q.val)
include pick sq

/-- A read that will succeed when repeated has left once (R80). -/
theorem readError_once : readError q e l false s = { s with dev := (s.dev.aerNote e).askFetch r } := by
  simp [readError, pick, sq]

/-- A read that failed twice: what came before the error is admitted, the SQ faults, what was cut short completes. -/
theorem readError_twice :
    readError q e l true s =
      let t := fetchRead r (l.take (r.ents - 1)) { s with dev := d.askFetch r }
      { t with dev := (t.dev.faultSq q.val 2 (t.dev.rd (Reg.RNG_SQ_STAT_HEAD q.val))).cutShort q } := by
  simp [readError, pick, sq]

end

/-- Settles O31: what the arbiter answers decides. -/
theorem fetchByArbitration : Obligations.FetchByArbitration :=
  ⟨fun _ l _ pick => congrArg Host.Outcome.next (sqFetch_idle l pick),
    fun _ l _ _ pick => congrArg Host.Outcome.next (sqFetch_served l pick),
    fun _ _ _ l _ _ pick sq => ⟨congrArg Host.Outcome.next (readError_twice l pick sq),
      congrArg Host.Outcome.next (readError_once l pick sq)⟩⟩

end Sys2Proof.Proofs
end

section
/-! PROOFS. Accesses of the host to BAR0, BAR2 and configuration space (R64, R67, R74, R463, R468). -/

namespace Sys2Proof.Proofs

open Sys2Proof Sys2Proof.Machine Sys2Proof.Safety

/-! Reads -/

theorem bar0Rd_malformed {d : Dev} {off size : Nat} (bad : size ≠ 4 ∨ off % 4 ≠ 0) :
    d.bar0Rd off size = (d.incSat Reg.HST_VIOL_BAR_SIZE).emitHost (.readData off 0) := by
  simp [Dev.bar0Rd, bad]

/-- The windows of a car that is not enabled are shut. -/
theorem windowShut_of_carOff {d : Dev} {off : Nat} (window : 0x20000 ≤ off) (closed : d.carOn (carOf off).val = false) :
    d.windowShut off := by
  simp [Dev.windowShut, window, closed]

theorem busRd_shut {d : Dev} {off : Nat} (window : 0x20000 ≤ off) (shut : d.windowShut off) : d.busRd off = 0 := by
  have beyond : ¬off < 0x4000 := by omega
  simp [Dev.busRd, beyond, shut]

/-- A register outside the pairs reads its value where no half is latched. -/
theorem bar0Rd_single {d : Dev} {off : Nat} (aligned : off % 4 = 0) (single : pairLow off = false)
    (latch : d.sys.latch = []) : d.bar0Rd off 4 = d.emitHost (.readData off (d.busRd off)) := by
  simp [Dev.bar0Rd, aligned, single, latch]

/-! Writes -/

/-- A write to the window of a car that is not enabled reaches no register with an effect of its own, and is ignored
(R468). -/
theorem busWr_shut {d : Dev} {off : Nat} (o : Otp) (v : Nat) (window : 0x20000 ≤ off) (shut : d.windowShut off) :
    d.busWr o off v = d := by
  have apart : ∀ n < 0x20000, off ≠ n := by omega
  have beyond : ∀ n < 0x20000, ¬off < n := by omega
  have lock := apart Reg.GLB_LOCK.off (by decide)
  have reset := apart Reg.RST_CTRL_KEY.off (by decide)
  have prog := apart Reg.SEC_PROG_GO.off (by decide)
  have confirm := apart Reg.PBX_CONFIRM_HI.off (by decide)
  have cars := apart Reg.GLB_CAR_EN_MASK.off (by decide)
  simp [Dev.busWr, Dev.cfgWr, shut, beyond, lock, reset, prog, confirm, cars]

theorem bar2Wr_malformed {d : Dev} {off size : Nat} (v : Nat) (bad : off % 8 ≠ 0 ∨ (size ≠ 4 ∧ size ≠ 8)) :
    d.bar2Wr off size v = d.incSat Reg.HST_VIOL_DB_FORM := by
  have form : ¬((size = 4 || size = 8) && off % 8 = 0) = true := by simp; omega
  rw [Dev.bar2Wr, if_neg form, Option.getD_none]

/-! A command of the host, where the host reaches the controller and where it does not -/

section
variable {s : State} {d : Dev}

theorem becomes_read (r : HostRd) (h : s.dev.hostRead s.otp r = d) : Becomes (.latchedRead r) s d :=
  becomes_of_runO (f := fun o d => d.hostRead o r) rfl h

theorem becomes_write (w : HostWr) (h : s.dev.hostWrite s.otp w = d) : Becomes (.registerWrite w) s d :=
  becomes_of_runO (f := fun o d => d.hostWrite o w) rfl h

theorem becomes_unreached (h : s.dev.reachable = false) :
    (∀ r, Becomes (.latchedRead r) s s.dev) ∧ ∀ w, Becomes (.registerWrite w) s s.dev :=
  ⟨fun r => becomes_read r (by simp [Dev.hostRead, h]), fun w => becomes_write w (by simp [Dev.hostWrite, h])⟩

variable (h : s.dev.reachable)
include h

theorem becomes_readBar0 (off : Fin 1048576) (size : Fin 9) (e : s.dev.bar0Rd off.val size.val = d) :
    Becomes (.latchedRead (.bar0 off size)) s d := becomes_read _ (by simp [Dev.hostRead, h, e])

theorem becomes_readBar2 (off : Fin 8192) (size : Fin 9) :
    Becomes (.latchedRead (.bar2 off size)) s (s.dev.emitHost (.readBar2 off.val 0)) :=
  becomes_read _ (by simp [Dev.hostRead, h])

theorem becomes_readConf (r : ConfReg) :
    Becomes (.latchedRead (.conf r)) s (s.dev.emitHost (.readConf r (s.dev.confRd s.otp r))) :=
  becomes_read _ (by simp [Dev.hostRead, h])

theorem becomes_writeBar0Malformed (off : Fin 1048576) (size : Fin 9) (v : BitVec 32)
    (bad : size.val ≠ 4 ∨ off.val % 4 ≠ 0) :
    Becomes (.registerWrite (.bar0 off size v)) s (s.dev.linkUsed.incSat Reg.HST_VIOL_BAR_SIZE) :=
  becomes_write _ (by simp [Dev.hostWrite, h, bad])

theorem becomes_writeBar0 (off : Fin 1048576) (v : BitVec 32) (aligned : off.val % 4 = 0) :
    Becomes (.registerWrite (.bar0 off 4 v)) s (s.dev.linkUsed.busWr s.otp off.val v.toNat) :=
  becomes_write _ (by simp [Dev.hostWrite, h, aligned])

theorem becomes_writeBar2 (off : Fin 8192) (size : Fin 9) (v : BitVec 64) :
    Becomes (.registerWrite (.bar2 off size v)) s (s.dev.linkUsed.bar2Wr off.val size.val v.toNat) :=
  becomes_write _ (by simp [Dev.hostWrite, h])

end

/-- Settles O57: by access, each by the rule of its register space. -/
theorem barAccesses : Obligations.BarAccesses := by
  refine ⟨fun s off size h bad => ⟨becomes_readBar0 h off size (bar0Rd_malformed bad),
      fun v => becomes_writeBar0Malformed h off size v bad⟩, fun s off h aligned window closed latch single => ?_,
    fun s h => becomes_unreached h, fun s off v h aligned => becomes_writeBar0 h off v aligned,
    fun s off size h => ⟨becomes_readBar2 h off size, fun bad v => ?_⟩, fun s r h => becomes_readConf h r⟩
  · have read := bar0Rd_single aligned single latch
    rw [busRd_shut window (windowShut_of_carOff window closed)] at read
    have shut : s.dev.linkUsed.windowShut off.val := windowShut_of_carOff window closed
    exact ⟨becomes_readBar0 h off 4 read,
      fun v => busWr_shut s.otp v.toNat window shut ▸ becomes_writeBar0 h off v aligned⟩
  · exact bar2Wr_malformed v.toNat bad ▸ becomes_writeBar2 h off size v

end Sys2Proof.Proofs
end

section
/-! PROOFS. A descriptor that a common check refuses, and a CMD_ID that is still out (R107, R108). -/

namespace Sys2Proof.Proofs

open Sys2Proof Sys2Proof.Machine Sys2Proof.Safety

/-- Settles O12: the shared admission answers the check's status. -/
theorem descriptorRefused : Obligations.DescriptorRefused :=
  fun _ _ _ _ _ _ desc refused => answers_refused desc refused

/-! CMD_ID (R107) -/

/-- A CMD_ID clashes where a descriptor of it is out: as an action, as a chord, as a frame of a bus channel, as a
calibration transfer. -/
theorem cmdClash_iff (d : Dev) (q cmd : Nat) : d.cmdClash q cmd ↔ Awaits d q cmd := by
  simp only [Dev.cmdClash, Bool.or_eq_true, List.any_eq_true, or_assoc]
  refine or_congr ?actions (or_congr ?chords (or_congr ?frames ?transfers))
  case actions => simp [Called, and_assoc]
  case chords => simp [and_assoc]
  case frames => simp [Called, and_assoc]
  case transfers =>
    refine exists_congr fun l => and_congr_right fun _ => exists_congr fun r => and_congr_right fun _ => ?_
    cases r with
    | none => simp
    | some r => simp [Called, and_assoc]

/-- A clash is refused, by this check or by that of the form before it. -/
theorem precheck_clash {d : Dev} {op q : Nat} {b : List Byte} (clash : d.cmdClash q (dCmd b)) :
    d.precheck op q b = some Stat.badDesc := by
  rw [Dev.precheck, if_pos clash, ite_self]

theorem mem_named_iff {d : Dev} {q cmd : Nat} {a : Act} :
    a ∈ d.named q cmd ↔ a ∈ d.ladle.acts ∧ Called q cmd a ∧ a.revoked = false := by
  simp [Dev.named, Called, and_assoc]

/-- Settles O14: what awaits its completion clashes and is refused, and nothing else clashes. -/
theorem cmdIdClash : Obligations.CmdIdClash := by
  refine ⟨fun c op q b s desc => ?_, fun d q cmd free => ?_, fun d q cmd a mem => ?_⟩
  · intro d awaits
    exact answers_refused desc (precheck_clash ((cmdClash_iff d q (dCmd b)).2 awaits))
  · exact Bool.eq_false_iff.2 fun clash => free ((cmdClash_iff d q cmd).1 clash)
  · obtain ⟨-, ⟨sq, id, -⟩, -⟩ := mem_named_iff.1 mem
    exact ⟨sq, id⟩

end Sys2Proof.Proofs
end

section
/-! PROOFS. A single action past its checks: what the store makes of it and when it fires (R105, R108, R124, R135). -/

namespace Sys2Proof.Proofs

open Sys2Proof Sys2Proof.Machine Sys2Proof.Safety

/-! The store (R124) -/

@[simp] theorem nextCueSeq_ladle (d : Dev) : d.nextCueSeq.ladle = d.ladle := by
  simp only [Dev.nextCueSeq]; split <;> rfl

@[simp] theorem nextCueSeq_cars (d : Dev) : d.nextCueSeq.cars = d.cars := by
  simp only [Dev.nextCueSeq]; split <;> rfl

/-- The controller as it stands when an action gets its slot: a cue has taken its SEQ (R144). -/
def numbered (d : Dev) (a : Act) : Dev := if a.kind = .n then d.nextCueSeq else d

@[simp] theorem numbered_ladle (d : Dev) (a : Act) : (numbered d a).ladle = d.ladle := by
  unfold numbered; split <;> simp

@[simp] theorem numbered_cars (d : Dev) (a : Act) : (numbered d a).cars = d.cars := by
  unfold numbered; split <;> simp

/-- The entry an action gets in the store: the lowest free slot of its pool, the next order, the current cue SEQ. -/
def entryOf (d : Dev) (a : Act) : Act :=
  { a with
    slot := (numbered d a).freeSlot a.pool, ord := d.ladle.ord, cueSeq := (numbered d a).rd Reg.LDL_CUE_SEQ }

theorem entryOf_slots (d : Dev) (a : Act) : (entryOf d a).slots = a.slots := rfl

/-- An action of one slot enters the store behind the others. -/
theorem store_of_oneSlot {d : Dev} {a : Act} (one : a.slots = 1) :
    d.store a = (numbered d a).mapLdl fun l => { l with acts := l.acts ++ [entryOf d a], ord := l.ord + 1 } := by
  have single : (entryOf d a).slots ≠ 2 := by rw [entryOf_slots, one]; decide
  have ord : (numbered d a).ladle.ord = d.ladle.ord := by rw [numbered_ladle]
  rw [entryOf, ← ord] at single ⊢
  exact if_neg single

/-! Admission (R108) -/

/-- A command of an action opcode admits its descriptor as a single action. -/
theorem exec_of_actionOf {c : Instr} {op : Nat} {k : AKind} {q : Fin 32} {b : List Byte}
    (h : actionOf c = some (op, k, q, b)) (s : State) :
    exec c s = .next { s with dev := s.dev.opAction op k q.val b } := by
  cases c <;> cases h
  all_goals rfl

/-- With Ladle ready, the car owned and slots and room free, the action is stored and answered OK. -/
theorem admitAction_stored {d : Dev} {op sq dn : Nat} {b : List Byte} {k : AKind} (ready : d.ladleBusy (k = .n) = false)
    (role : d.roleBusy (dClass b = 3 || dClass b = 4) = false) (car : ((dCar op b).map d.carClosed).getD false = false)
    (owned : d.ownership op b = none)
    (room : d.resourcesFor sq [d.mkAct op sq dn b k 0 none (d.fireTime (dGt b) (d.minLead k))]) :
    d.admitAction op sq dn b k false =
      (d.store (d.mkAct op sq dn b k 0 none (d.fireTime (dGt b) (d.minLead k))), some (AdmRes.done 0 0)) := by
  simp [Dev.admitAction, ready, role, car, owned, room]

/-- Settles O17: the shared admission, with the action stored. -/
theorem actionAdmitted : Obligations.ActionAdmitted :=
  fun _ _ _ _ _ s desc passes ready role car owned room =>
    answers_of_admit passes (exec_of_actionOf desc s) (admitAction_stored ready role car owned room)

/-- The fire time (R105), with Group Time as it stood before the fetch, which takes none. -/
theorem fireTime_fetched (s : State) (op : Nat) (q : Fin 32) (b : List Byte) (gt lead : Nat) :
    (fetched s op q b).2.fireTime gt lead =
      if gt = 0 then (s.dev.gt + lead + tickNs - 1) / tickNs * tickNs else gt := by
  rw [Dev.fireTime, Dev.gt, (Dev.fetchOne_core s.dev q.val b op).time]

/-- Settles O18: the action admitted is the entry the store gains, and the answer to the descriptor leaves the store. -/
theorem actionStored : Obligations.ActionStored := by
  intro c op k q b s desc passes f g a ready role car owned room one
  have time : f.2.fireTime (dGt b) (f.2.minLead k) = g := fireTime_fetched ..
  have admitted := actionAdmitted c op k q b s desc passes ready role car owned (time.symm ▸ room)
  rw [time] at admitted
  have core := Dev.admSet_core (f.2.store a) q.val f.1 (AdmRes.done 0 0)
  have before := Dev.fetchOne_core s.dev q.val b op
  have stored := store_of_oneSlot (d := f.2) one
  refine ⟨_, (entryOf f.2 a).slot, (entryOf f.2 a).cueSeq, admitted, ?_, ?_⟩
  · rw [core.ladle, stored, Dev.mapLdl_ladle, numbered_ladle, ← before.ladle]
    rfl
  · rw [core.cars, stored, Dev.mapLdl_cars, numbered_cars, before.cars]

end Sys2Proof.Proofs
end

section
/-! PROOFS. The admin descriptors: held entries, PING, the challenge, an opcode of no row (R84, R90, R111, R121,
R122). -/

namespace Sys2Proof.Proofs

open Sys2Proof Sys2Proof.Machine Sys2Proof.Safety

/-- The entries that a HELD_READ copies: the oldest held, as many as it asks for, none while nothing is mastered. -/
def heldOut (d : Dev) (b : List Byte) : List BackEnt := if d.mastering then d.held.take (leAt b 24 4) else []

section
variable {d : Dev} {b : List Byte}

theorem heldOut_nil (h : d.held.take (leAt b 24 4) = [] ∨ d.mastering = false) : heldOut d b = [] := by
  obtain h | h := h <;> simp [heldOut, h]

theorem heldOut_first {x : BackEnt} {l : List BackEnt} (count : leAt b 24 4 = 1) (held : d.held = x :: l)
    (mastering : d.mastering) : heldOut d b = [x] := by
  simp [heldOut, count, held, mastering]

variable {s : State} {q : Fin 32} (passes : Passes s 0x01 q b) (fetch : (fetched s 0x01 q b).2 = d)
include passes fetch

/-- With nothing to copy nothing is freed either. -/
theorem answers_heldRead_nothing (out : heldOut d b = []) :
    Answers (.heldRead q b) s 0x01 q b d (AdmRes.readOnly 0 d.heldCount) := by
  subst fetch
  refine answers_of_admit passes rfl ?_
  unfold heldOut at out
  simp only [out]
  rfl

theorem answers_heldRead_one {x : BackEnt} (out : heldOut d b = [x]) :
    let e := (d.emitHost (.dma (leAt b 16 8 + 32 * 0) (x.cqe.bytes true false))).heldFree 1
    Answers (.heldRead q b) s 0x01 q b e (AdmRes.done 1 e.heldCount) := by
  subst fetch
  refine answers_of_admit passes rfl ?_
  unfold heldOut at out
  simp only [out]
  rfl

end

/-- An opcode that the catalogue does not list is answered without any check (R93, R108). -/
theorem answers_unknownOpcode {b : List Byte} (s : State) (q : Fin 32) (unlisted : (opClass (dOp b)).isNone) :
    Answers (.unknownOpcode q b) s (dOp b) q b (fetched s (dOp b) q b).2 (AdmRes.refuse Stat.badDesc) :=
  becomes_of_run (f := fun d => d.unknownOp q.val b) rfl (if_pos unlisted)

/-- Settles O15: by opcode, what its own part does past the common checks. -/
theorem adminDescriptors : Obligations.AdminDescriptors := by
  refine ⟨?nop, ?readNothing, ?readOne, ?discard, ?ping, ?challenge, ?unlisted⟩
  case readNothing => exact fun s q b passes nothing => answers_heldRead_nothing passes rfl (heldOut_nil nothing)
  case readOne =>
    intro s q b x l passes d count held mastering
    exact answers_heldRead_one passes rfl (heldOut_first count held mastering)
  case unlisted => exact fun s q b unlisted => answers_unknownOpcode s q unlisted
  all_goals exact fun s q b passes => answers_of_admit passes rfl rfl

end Sys2Proof.Proofs
end

section
/-! PROOFS. Cancel, query and chord (R113, R114, R127, R138, R139). -/

namespace Sys2Proof.Proofs

open Sys2Proof Sys2Proof.Machine Sys2Proof.Safety

/-! ACTION_CANCEL (R114, R138) -/

section
variable {s : State} {q : Fin 32} {b : List Byte} {d : Dev} (passes : Passes s 0x10 q b)
  (fetch : (fetched s 0x10 q b).2 = d)
include passes fetch

section
variable {a : Act} {l : List Act} (named : d.named (byteAt b 16) (leAt b 18 2) = a :: l)
include named

/-- The window of the first action named decides: that of its kind, or its chord's. -/
theorem answers_cancel_early (early : d.gt + d.windowOf a ≤ a.gt) :
    Answers (.actionCancel q b) s 0x10 q b ((a :: l).foldl Dev.withdraw d) (AdmRes.done 1 0) := by
  subst fetch
  refine answers_of_admit passes rfl ?_
  simp only [named, List.head?_cons]
  exact if_pos early

theorem answers_cancel_late (late : a.gt < d.gt + d.windowOf a) :
    Answers (.actionCancel q b) s 0x10 q b (d.inc Reg.LDL_CNT_TOOLATE) (AdmRes.refuse Stat.tooLate) := by
  subst fetch
  refine answers_of_admit passes rfl ?_
  simp only [named, List.head?_cons]
  exact if_neg (Nat.not_le.2 late)

end

variable (nothing : d.named (byteAt b 16) (leAt b 18 2) = [])
include nothing

theorem answers_cancel_underWay (left : d.underWay (byteAt b 16) (leAt b 18 2)) :
    Answers (.actionCancel q b) s 0x10 q b (d.inc Reg.LDL_CNT_TOOLATE) (AdmRes.refuse Stat.tooLate) := by
  subst fetch
  refine answers_of_admit passes rfl ?_
  simp only [nothing, List.head?_nil]
  exact if_pos left

theorem answers_cancel_nothing (ended : d.underWay (byteAt b 16) (leAt b 18 2) = false) :
    Answers (.actionCancel q b) s 0x10 q b d (AdmRes.readOnly 0 0) := by
  subst fetch
  refine answers_of_admit passes rfl ?_
  simp only [nothing, List.head?_nil]
  exact if_neg (Bool.eq_false_iff.1 ended)

end

/-! ACTION_QUERY (R114) -/

section
variable {s : State} {q : Fin 32} {b : List Byte} {d : Dev} (passes : Passes s 0x13 q b)
  (fetch : (fetched s 0x13 q b).2 = d)
include passes fetch

theorem answers_query_first {a : Act} {l : List Act} (named : d.named (byteAt b 16) (leAt b 18 2) = a :: l) :
    Answers (.actionQuery q b) s 0x13 q b d (AdmRes.readOnly a.gt (d.placeCode a)) := by
  subst fetch
  refine answers_of_admit passes rfl ?_
  simp only [named, List.head?_cons]

theorem answers_query_nothing (nothing : d.named (byteAt b 16) (leAt b 18 2) = []) :
    Answers (.actionQuery q b) s 0x13 q b d (AdmRes.readOnly 0 0) := by
  subst fetch
  refine answers_of_admit passes rfl ?_
  simp only [nothing, List.head?_nil]

end

/-! CHORD (R113, R127, R139) -/

section
variable (d : Dev) (q dn e : Nat) (b : List Byte)

/-- The entry of the chord table that a descriptor's members make. -/
def chordEntry : Chord :=
  let l := d.chordActs q dn e b
  { ent := e, orig := e, cmd := dCmd b, sq := q, gt := (l.head?.map (·.gt)).getD 0, gen := d.gen, dn := dn,
    count := l.length, ends := [], restored := false,
    win := l.foldl (fun (w : Nat) (a : Act) => max w (d.minLead a.kind)) 0 }

/-- A chord entered whole: its table entry, and every member stored. -/
def chordStored : Dev :=
  (d.chordActs q dn e b).foldl Dev.store (d.mapLdl fun x => { x with chords := x.chords ++ [chordEntry d q dn e b] })

/-- What a chord past its checks of readiness and ownership comes to: all of it where there are slots and room, else
nothing. -/
def chordOutcome : Admission :=
  if d.resourcesFor q (d.chordActs q dn e b) then (chordStored d q dn e b, some (AdmRes.done 0 0)) else d.noResource

variable {d q dn e b}

theorem chordOutcome_room (room : d.resourcesFor q (d.chordActs q dn e b)) :
    chordOutcome d q dn e b = (chordStored d q dn e b, some (AdmRes.done 0 0)) := if_pos room

theorem chordOutcome_noRoom (full : d.resourcesFor q (d.chordActs q dn e b) = false) :
    chordOutcome d q dn e b = (d.inc Reg.LDL_CNT_RES, some (AdmRes.refuse Stat.resource)) :=
  if_neg (Bool.eq_false_iff.1 full)

/-- No member's car is under handover. -/
theorem any_carClosed {l : List Act} (opened : ∀ a ∈ l, ∀ n, a.car = some n → d.carClosed n = false) :
    (l.any fun a => (a.car.map d.carClosed).getD false) = false := by
  refine List.any_eq_false.2 fun a mem => ?_
  cases car : a.car with
  | none => simp
  | some n => simp [opened a mem n car]

end

/-- Past the common checks, with an entry free, Ladle ready and every car open and owned, the outcome decides. -/
theorem answers_chord {s : State} {q : Fin 32} {b : List Byte} {f : Nat × Dev} {l : List Act} {e : Nat} {x : Dev}
    {r : AdmRes} (passes : Passes s 0x11 q b) (fetch : fetched s 0x11 q b = f)
    (members : f.2.chordActs q.val f.1 e b = l)
    (free : f.2.freeChord = some e) (ready : f.2.ladleBusy (l.any fun a => a.kind = .n) = false)
    (role : f.2.roleBusy (l.any fun a => a.pool = 16) = false)
    (opened : ∀ a ∈ l, ∀ n, a.car = some n → f.2.carClosed n = false)
    (owned : ∀ a ∈ l, ∀ n, a.car = some n → f.2.notOwned n = none)
    (outcome : chordOutcome f.2 q.val f.1 e b = (x, some r)) : Answers (.chord q b) s 0x11 q b x r := by
  subst fetch members
  refine answers_of_admit passes rfl ?_
  have noneClosed := any_carClosed opened
  simp only [free, Option.getD_some, ready, role, noneClosed, Bool.or_self, Option.isNone_some, Bool.false_or]
  refine (if_neg Bool.false_ne_true).trans ((if_neg ?foreign).trans ?placed)
  case foreign =>
    simp only [List.any_eq_true, not_exists, not_and]
    intro a mem other
    split at other
    next n car => simp [owned a mem n car] at other
    next => cases other
  case placed =>
    rw [← outcome]
    cases room : (fetched s 0x11 q b).2.resourcesFor q.val _ with
    | true => exact (if_neg (by simp)).trans (chordOutcome_room room).symm
    | false => exact (if_pos (by simp)).trans (chordOutcome_noRoom room).symm

/-- Settles O19: a cancel by what it names and when, a query by what it names, a chord by its outcome. -/
theorem chordCancelQuery : Obligations.ChordCancelQuery := by
  refine ⟨fun s q b passes => ?cancel, fun s q b a l passes => answers_query_first passes rfl,
    fun s q b passes => answers_query_nothing passes rfl, fun s q b e passes => ?stored, fun s q b e passes => ?full⟩
  case cancel =>
    intro d l late
    refine ⟨fun a m named => ⟨fun early => ?_, fun past => ?_⟩, fun nothing => ⟨fun left => ?_, fun ended => ?_⟩⟩
    · exact named ▸ answers_cancel_early passes rfl named early
    · exact answers_cancel_late passes rfl named past
    · exact answers_cancel_underWay passes rfl nothing left
    · exact answers_cancel_nothing passes rfl nothing ended
  case stored =>
    intro f l free ready role opened owned room
    exact answers_chord passes rfl rfl free ready role opened owned (chordOutcome_room room)
  case full =>
    intro f l free ready role opened owned full
    have answered := answers_chord passes rfl rfl free ready role opened owned (chordOutcome_noRoom full)
    have core := Dev.admSet_core (f.2.inc Reg.LDL_CNT_RES) q.val f.1 (AdmRes.refuse Stat.resource)
    have before := Dev.fetchOne_core s.dev q.val b 0x11
    exact ⟨_, answered, answered, by rw [core.ladle, Dev.inc_ladle, before.ladle]⟩

end Sys2Proof.Proofs
end

section
/-! PROOFS. The decision of a firing place (R134). -/

namespace Sys2Proof.Proofs

open Sys2Proof Sys2Proof.Machine Sys2Proof.Safety

/-- Nothing is lost to the action: its car, if it has one, is not isolated, and is led under the action's epoch, or under any
where the action is a restored one (R134, R396). -/
def CarKept (d : Dev) (a : Act) : Prop :=
  ∀ n, a.car = some n → bit (d.rd Reg.CTN_ISO_CE) n = false ∧ d.on (Reg.SLP_STAT_OWN n) ∧
    (a.restored ∨ d.rd (Reg.SLP_STAT_EPOCH n) = a.epoch)

section
variable {d : Dev} {a : Act} {n : Nat}

theorem judge_isolated (car : a.car = some n) (isolated : bit (d.rd Reg.CTN_ISO_CE) n) :
    d.judge a = .ends Stat.engineLost := by
  simp only [Dev.judge, car, isolated, if_true]

theorem judge_leaseGone (car : a.car = some n) (running : bit (d.rd Reg.CTN_ISO_CE) n = false)
    (gone : d.on (Reg.SLP_STAT_OWN n) = false ∨ (a.restored = false ∧ d.rd (Reg.SLP_STAT_EPOCH n) ≠ a.epoch)) :
    d.judge a = .ends Stat.noLease := by
  have lost : (!d.on (Reg.SLP_STAT_OWN n) || (!a.restored && d.rd (Reg.SLP_STAT_EPOCH n) != a.epoch)) = true := by
    simpa using gone
  simp only [Dev.judge, car, running, lost, Bool.false_eq_true, if_false, if_true]

/-- With nothing lost, time and then room decide. -/
theorem judge_carKept (kept : CarKept d a) : d.judge a =
    if a.kind = .n && a.gt ≤ d.gt then .ends Stat.expired
    else if a.tol * 1000 < d.lateness a then .ends Stat.expired
    else if !d.roomLeft a.pool then .defer
    else .fires := by
  unfold Dev.judge
  cases car : a.car with
  | none => rfl
  | some n =>
    obtain ⟨running, own, epoch⟩ := kept n car
    have held : (!d.on (Reg.SLP_STAT_OWN n) || (!a.restored && d.rd (Reg.SLP_STAT_EPOCH n) != a.epoch)) = false := by
      simp only [own, Bool.not_true, Bool.false_or]
      obtain restored | same := epoch
      · simp [restored]
      · simp [same]
    simp only [running, held, Bool.false_eq_true, if_false]

variable (kept : CarKept d a)
include kept

theorem judge_presented (cue : a.kind = .n) (presented : a.gt ≤ d.gt) : d.judge a = .ends Stat.expired := by
  rw [judge_carKept kept, if_pos (by simp [cue, presented])]

theorem judge_tooLate (late : a.tol * 1000 < d.lateness a) : d.judge a = .ends Stat.expired := by
  rw [judge_carKept kept, if_pos late, ite_self]

variable (unpresented : ¬(a.kind = .n ∧ a.gt ≤ d.gt)) (timely : d.lateness a ≤ a.tol * 1000)
include unpresented timely

/-- In time, room decides. -/
theorem judge_inTime : d.judge a = if !d.roomLeft a.pool then .defer else .fires := by
  rw [judge_carKept kept, if_neg (by simpa using unpresented), if_neg (Nat.not_lt.2 timely)]

theorem judge_noRoom (full : d.roomLeft a.pool = false) : d.judge a = .defer := by
  rw [judge_inTime kept unpresented timely, full]
  rfl

theorem judge_room (room : d.roomLeft a.pool) : d.judge a = .fires := by
  rw [judge_inTime kept unpresented timely, room]
  rfl

end

/-- Settles O21: what is lost is decided first, then the time, then the room. -/
theorem firingDecision : Obligations.FiringDecision :=
  ⟨fun _ _ _ car => ⟨judge_isolated car, judge_leaseGone car⟩,
    fun _ _ kept => ⟨fun ⟨cue, presented⟩ => judge_presented kept cue presented, judge_tooLate kept,
      judge_noRoom kept, judge_room kept⟩⟩

end Sys2Proof.Proofs
end

section
/-! PROOFS. Hand-on, the copies of a cue, the cue key, firing on the controller (R130, R134, R145, R146, R152, R339). -/

namespace Sys2Proof.Proofs

open Sys2Proof Sys2Proof.Machine Sys2Proof.Safety

section
variable {d : Dev} {a : Act} {t : Nat}

/-! The copies of a cue (R145, R146) -/

theorem cueFirstAll_single (running : bit (d.at t).time.reload 19 = false) (due : (d.at t).dueNow .n = [a]) :
    d.cueFirstAll t = (d.at t).cueFirst a := by
  simp only [Dev.cueFirstAll, running, due, Bool.false_eq_true, if_false, List.foldl_cons, List.foldl_nil]

/-- On time and more than 2 ms before its presentation, a cue sends its first copy at its due time, keeps its second and
completes. -/
theorem cueFirst_onTime (fires : d.judge a = .fires) (linked : d.cueLinked ≠ []) (onTime : a.late = false)
    (early : d.due a + 2000000 < a.gt) : d.cueFirst a =
      ((((d.useRoom a.pool).cueSend a false (d.due a)).mapLdl fun l =>
        { l with second := l.second ++ [{ act := a, sgt := d.due a + 2000000 }] }).resolve a Stat.ok
          (d.due a % 2 ^ 32)) := by
  have link : d.cueLinked.isEmpty = false := by simpa using linked
  simp only [Dev.cueFirst, fires, link, onTime, early, firedStatus, Bool.false_eq_true, if_false, if_true]

/-- The one second copy due leaves within 1 ms of its time. -/
theorem cueSecondAll_single {c : SecondCopy} (running : bit (d.at t).time.reload 19 = false)
    (second : (d.at t).ladle.second = [c]) (due : c.sgt ≤ (d.at t).gt) (within : (d.at t).gt ≤ c.sgt + 1000000)
    (linked : (d.at t).cueLinked ≠ []) : d.cueSecondAll t =
      (((d.at t).cueSend c.act true c.sgt).mapLdl fun l => { l with second := l.second.erase c }) := by
  have link : (d.at t).cueLinked.isEmpty = false := by simpa using linked
  simp only [Dev.cueSecondAll, running, second, Nat.not_lt.2 due, Nat.not_lt.2 within, link, Bool.false_eq_true, if_false,
    List.foldl_cons, List.foldl_nil]

/-! The cue key (R152) -/

/-- The words collected once word `k` is written: of each index the last one. -/
def keyWords (d : Dev) (k v : Nat) : List (Nat × Nat) := (k, v) :: d.ladle.keyW.filter fun p => p.1 != k

/-- The key that collected words make, a word never written being 0. -/
def keyOfWords (w : List (Nat × Nat)) : List Byte :=
  (List.range 8).flatMap fun i => leBytes 4 (((w.find? fun p => p.1 = i).map (·.2)).getD 0)

theorem cueKeyWr_collected {k v : Nat} (unlocked : d.locked = false) (more : k ≠ 7) :
    d.cueKeyWr k v = d.mapLdl fun l => { l with keyW := keyWords d k v } := by
  simp only [Dev.cueKeyWr, unlocked, more, Bool.false_eq_true, if_false, keyWords]

theorem cueKeyWr_complete {v : Nat} (unlocked : d.locked = false) :
    d.cueKeyWr 7 v =
      d.mapLdl fun l => { l with keyW := [], key := some (keyOfWords (keyWords d 7 v)), keyDue := true } := by
  simp only [Dev.cueKeyWr, unlocked, Bool.false_eq_true, if_false, if_true, keyWords, keyOfWords]

/-- A key not yet stored is stored wrapped, and is valid from then on. -/
theorem cueKeyStored_due {k : List Byte} (o : Otp) (due : d.ladle.keyDue) (key : d.ladle.key = some k) :
    d.cueKeyStored o =
      (((d.mapNv fun v => { v with cueKey := some (Config.aesWrap o.storeKey k) }).mapLdl fun l =>
        { l with keyDue := false }).flag Reg.LDL_STAT_KEY_VALID true) := by
  simp only [Dev.cueKeyStored, due, key]

/-! Firing on the controller (R134, R339) -/

theorem fireDue_single (running : bit (d.at t).time.reload 20 = false) (due : (d.at t).dueNow .c = [a]) :
    d.fireDue t = (d.at t).fireOne a := by
  simp [Dev.fireDue, running, due]

theorem fireOne_ends {st : Nat} (ends : d.judge a = .ends st) : d.fireOne a = d.resolve a st 0 := by
  simp only [Dev.fireOne, ends]

theorem fireOne_busTx (fires : d.judge a = .fires) (bus : a.op = 0x60) : d.fireOne a = d.busFire a := by
  have frame : a.op ≠ 0x43 := by rw [bus]; decide
  simp only [Dev.fireOne, fires, frame, if_false]

/-- The entry of mailbox `i` that a BUS_TX fired on time makes. -/
def firedMbx (d : Dev) (a : Act) (i : Nat) : Mbx :=
  { num := i, f := a.frame, cls := d.frameClass a.frame, gt := d.gt, ord := 0, act := a, st := Stat.ok, fired := d.gt,
    copy := false, done := false }

/-- A BUS_TX on time enters the free mailbox of its channel, takes its room and frees its slot. -/
theorem busFire_mailbox {i : Nat} (onTime : a.late = false) (on : d.chSt (Fin.ofNat 4 a.tindex) ≠ Ch.busOff)
    (free : d.mbxFor (Fin.ofNat 4 a.tindex) (d.frameClass a.frame) = some i) : d.busFire a =
      (((d.useRoom a.pool).freeAct a).logAct a Stat.ok).mbxEnter (Fin.ofNat 4 a.tindex) i (firedMbx d a i) := by
  simp only [Dev.busFire, on, decide_false, Bool.false_and, Bool.false_eq_true, if_false, free, onTime, firedStatus,
    firedMbx]

end

/-- Settles O20: each service by the rule of its operation. -/
theorem ladleService : Obligations.LadleService := by
  refine ⟨fun s => becomes_of_run rfl rfl, ?first, ?second, ?word, ?lastWord, ?fire, ?ends,
    fun s k due key => becomes_of_runO (f := fun o d => d.cueKeyStored o) rfl (cueKeyStored_due s.otp due key)⟩
  case first =>
    intro s t a running due fires linked onTime early d
    exact becomes_of_run (f := fun e => e.cueFirstAll t) rfl
      ((cueFirstAll_single running due).trans (cueFirst_onTime fires linked onTime early))
  case second =>
    intro s t c running second due within linked
    exact becomes_of_run (f := fun e => e.cueSecondAll t) rfl (cueSecondAll_single running second due within linked)
  case word =>
    intro s k v unlocked more
    exact becomes_of_run (f := fun e => e.cueKeyWr k.val v.toNat) rfl (cueKeyWr_collected unlocked more)
  case lastWord =>
    intro s v unlocked
    exact ⟨_, _, becomes_of_run (f := fun e => e.cueKeyWr 7 v.toNat) rfl (cueKeyWr_complete unlocked), rfl, rfl, rfl, rfl⟩
  case fire =>
    intro s t a i d c running due bus fires onTime on free m
    exact becomes_of_run (f := fun e => e.fireDue t) rfl
      (((fireDue_single running due).trans (fireOne_busTx fires bus)).trans (busFire_mailbox onTime on free))
  case ends =>
    intro s t a st d running due ends
    exact becomes_of_run (f := fun e => e.fireDue t) rfl ((fireDue_single running due).trans (fireOne_ends ends))

end Sys2Proof.Proofs
end

section
/-! PROOFS. Delivered actions at a slice, its configuration, its SAFE outputs, its lamps as an orphan (R132, R134, R240,
R247, R276, R332). -/

namespace Sys2Proof.Proofs

open Sys2Proof Sys2Proof.Machine Sys2Proof.Safety

/-! One delivered action (R132, R134) -/

/-- The slice once a delivered action has left it. -/
def withoutAct (c : Slice) (a : SAct) : Slice := { c with acts := c.acts.filter fun x => x != a }

/-- The slice with a delivered action left for the next tick, where it is found late. -/
def putOff (c : Slice) (a : SAct) : Slice :=
  { c with acts := c.acts.map fun x =>
      if x = a then { a with found := true, late := (c.gt / tickNs + 1) * tickNs - a.gt } else x }

section
variable {c : Slice} {a : SAct}

theorem judgeAct_notOwned (other : ∀ p, c.arb ≠ .held p a.epoch) : c.judgeAct a = c.discard a := by
  unfold Slice.judgeAct
  cases arb : c.arb with
  | guard => rfl
  | free => rfl
  | held p e =>
    have foreign : e ≠ a.epoch := fun same => other p (same ▸ arb)
    simp [foreign]

variable {p : Fin 2} (held : c.arb = .held p a.epoch) (fresh : a.gt ≤ c.lse.fresh + 1000000)
include held fresh

theorem judgeAct_expired (dead : a.tol * 1000 < a.late) :
    c.judgeAct a = (withoutAct c a).report a Outc.expired 0 c.gt := by
  simp only [Slice.judgeAct, held, decide_true, Bool.not_true, Bool.false_or, Nat.not_lt.2 fresh, decide_false, dead,
    Bool.false_eq_true, if_false, if_true, withoutAct]

variable (timely : a.late ≤ a.tol * 1000)
include timely

theorem judgeAct_noRoom (full : c.roomLeft (c.gt / tickNs) = false) : c.judgeAct a = putOff c a := by
  simp only [Slice.judgeAct, held, decide_true, Bool.not_true, Bool.false_or, Nat.not_lt.2 fresh, decide_false,
    Nat.not_lt.2 timely, full, Bool.not_false, Bool.false_eq_true, if_false, if_true, putOff]

/-- With room, an action that moves no door fires and is reported. -/
theorem judgeAct_fires (room : c.roomLeft (c.gt / tickNs)) (noDoor : a.op ≠ 0x30 ∧ a.op ≠ 0x31 ∧ a.op ≠ 0x32) :
    c.judgeAct a =
      let r := ((withoutAct c a).useRoom (c.gt / tickNs) a).fire a
      r.2.report a (if a.found then Outc.late else Outc.fired) r.1 r.2.gt := by
  obtain ⟨opens, close, hold⟩ := noDoor
  simp only [Slice.judgeAct, held, decide_true, Bool.not_true, Nat.not_lt.2 fresh, decide_false,
    Nat.not_lt.2 timely, room, opens, close, hold, Bool.or_false, Bool.false_eq_true, if_false, withoutAct]

end

/-- No room is left in a tick with four actions of the car, or with 64 in all (R135). -/
theorem roomLeft_full {c : Slice} {k : Nat}
    (full : 4 ≤ ((c.room.filter fun u => u.tick = k).filter fun u => u.pool = 0).length ∨
      64 ≤ (c.room.filter fun u => u.tick = k).length) : c.roomLeft k = false := by
  simp only [Slice.roomLeft, Bool.and_eq_false_iff, decide_eq_false_iff_not, Nat.not_lt]
  exact full

/-! The actions due at a slice (R136, R325) -/

theorem fireDue_nothing {c : Slice} (none : ∀ a ∈ c.acts, a.op = 0x41 ∨ a.op = 0x42 ∨ c.gt < a.gt) : c.fireDue = c := by
  have due : (c.acts.filter fun a => decide (a.gt ≤ c.gt) && a.op != 0x41 && a.op != 0x42) = [] := by
    refine List.filter_eq_nil_iff.2 fun a mem => ?_
    obtain scene | node | early := none a mem
    · simp [scene]
    · simp [node]
    · simp [early]
  simp only [Slice.fireDue, due]
  rfl

theorem fireDue_one {c : Slice} {a : SAct} (only : c.acts = [a]) (due : a.gt ≤ c.gt) (scene : a.op ≠ 0x41)
    (node : a.op ≠ 0x42) : c.fireDue = c.judgeAct a := by
  simp [Slice.fireDue, sortBy, insertBy, only, due, scene, node]

/-! The configuration (R276) -/

/-- The configuration, the one to come, and the lease. -/
def confLease (c : Slice) : Option SliceCfg × Option SliceCfg × Arb := (c.cfg, c.cfgNext, c.arb)

theorem confLease_lamps (c : Slice) (l : Lamps) : confLease { c with lamps := l } = confLease c := rfl

theorem confLease_lstrStart (c : Slice) : confLease c.lstrStart = confLease c := by
  simp only [Slice.lstrStart, confLease_lamps]
  rw [foldl_keeps confLease, foldl_keeps confLease]
  · exact fun _ _ => rfl
  · exact fun _ _ => rfl

theorem confLease_doorStart (c : Slice) (d : Fin 2) : confLease (c.doorStart d) = confLease c := by
  simp only [Slice.doorStart]
  split <;> rfl

/-- A Helea port that goes on, or starts anew. -/
theorem confLease_mapHel (c : Slice) (p : Fin 2) (f : Hel → Hel) : confLease (c.mapHel p f) = confLease c := rfl

/-- From the tick after the commit the configuration to come is the active one; starting domains anew leaves the lease. -/
theorem confLease_cfgActive {c : Slice} {g : SliceCfg} (next : c.cfgNext = some g)
    (past : c.cfgGt / tickNs < c.gt / tickNs) : confLease c.cfgActive = (some g, none, c.arb) := by
  simp only [Slice.cfgActive, next, Nat.not_le.2 past, if_false]
  simp only [apply_ite confLease, confLease_mapHel, confLease_doorStart, confLease_lstrStart, ite_self]
  rfl

theorem cfgActive_sameTick {c : Slice} (same : c.gt / tickNs ≤ c.cfgGt / tickNs) : c.cfgActive = c := by
  unfold Slice.cfgActive
  split
  · rfl
  · exact if_pos same

/-! The SAFE outputs (R247, R248) -/

theorem safeOrphan_late {c : Slice} (trains : c.lse.trains)
    (late : ∀ g, c.lse.keep = some g → g + c.set Reg.ILK_SAFE_T_ORPHAN_MS * 1000000 ≤ c.gt) :
    c.safeOrphan = c.safeDrop 0 := by
  unfold Slice.safeOrphan
  cases keep : c.lse.keep with
  | none => simp only [trains, Bool.and_self, if_true]
  | some g => simp only [trains, late g keep, decide_true, Bool.and_self, if_true]

theorem sfbMismatch_late {c : Slice} {g : Nat} (since : c.lse.sfbSince = some g)
    (late : g + c.set Reg.ILK_SAFE_SFB_DLY_MS * 1000000 < c.gt) : c.sfbMismatch =
      (c.mapLse fun l => { l with rule9 := true, rs := { l.rs with safe := false } }).safeDrop 3 := by
  have past : (c.lse.sfbSince.any fun g => g + c.set Reg.ILK_SAFE_SFB_DLY_MS * 1000000 < c.gt) = true := by
    rw [since, Option.any_some]; exact decide_eq_true late
  exact if_pos past

theorem sfbMismatch_none {c : Slice} (agree : c.lse.sfbSince = none) : c.sfbMismatch = c := by
  simp only [Slice.sfbMismatch, agree, Option.any_none, Bool.false_eq_true, if_false]

/-! The lamps of an orphan slice (R332) -/

/-- String `k` at the orphan setting: of the mask at the DAC and PWM set for it, else off. -/
def orphanString (mask : Nat) (c : Slice) (k : Nat) : Slice :=
  (c.wr (fun n => Reg.LMP_S_SET_DAC n k) (if bit mask k then c.set Reg.LMP_S_ORPH_DAC else 0)).wr
    (fun n => Reg.LMP_S_SET_PWM n k) (if bit mask k then c.set Reg.LMP_S_ORPH_PWM else 0)

/-- The slice with every string at the orphan setting, and marked so. -/
def orphanStrings (c : Slice) : Slice :=
  (List.range 8).foldl (orphanString (c.set Reg.LMP_S_ORPH_MASK)) (c.mapLamps fun l => { l with orphan := true })

/-- Setting the strings leaves everything but their registers. -/
theorem orphanStrings_keeps {α : Type} (g : Slice → α) (registers : ∀ (c : Slice) f v, g (c.wr f v) = g c) (c : Slice) :
    g (orphanStrings c) = g (c.mapLamps fun l => { l with orphan := true }) :=
  foldl_keeps g _ (fun _ _ => (registers _ _ _).trans (registers _ _ _)) _ _

theorem hcOn_of_cfg {c x : Slice} (h : x.cfg = c.cfg) (p : Fin 2) : x.hcOn p = c.hcOn p := by
  simp only [Slice.hcOn, Slice.setOn, Slice.set, h]

/-- 2 s after the entry to GUARD an orphan slice without a Helea port has its strings at the orphan setting. -/
theorem lampsOrphan_due {c : Slice} (orphan : c.orphan) (due : c.guardGt + 2000000000 ≤ c.gt) (strings : c.lstrOn)
    (off0 : c.hcOn 0 = false) (off1 : c.hcOn 1 = false) : c.lampsOrphan = orphanStrings c := by
  have cfg : (orphanStrings c).cfg = c.cfg := orphanStrings_keeps Slice.cfg (fun _ _ _ => rfl) c
  have none0 := (hcOn_of_cfg cfg 0).trans off0
  have none1 := (hcOn_of_cfg cfg 1).trans off1
  unfold orphanStrings orphanString at none0 none1
  simp only [Slice.lampsOrphan, orphan, Nat.not_lt.2 due, Bool.not_true, decide_false, Bool.or_self, Slice.inLstr, strings,
    none0, none1, Bool.false_eq_true, if_false, if_true]
  rfl

theorem lampsOrphan_held {c : Slice} (held : c.orphan = false) : c.lampsOrphan = c := by
  simp only [Slice.lampsOrphan, held, Bool.not_false, Bool.true_or, if_true]

/-- Settles O42: each command by the rule of its operation, an action at its slice by its decision. -/
theorem sliceService : Obligations.SliceService := by
  refine ⟨fun s n t => ⟨?nothing, ?one⟩,
    fun s n t => ⟨?configured, ?sameTick, ?orphanDrop, ?mismatch, ?agree, ?lamps, ?held⟩,
    fun c a => ⟨judgeAct_notOwned, fun p held fresh => ⟨judgeAct_expired held fresh, ?full, ?fires⟩⟩⟩
  case nothing => exact fun none => sliceFires_of_sliceFire rfl (fireDue_nothing none)
  case one => exact fun a only due scene node => sliceFires_of_sliceFire rfl (fireDue_one only due scene node)
  case configured =>
    intro g next past on
    have active := confLease_cfgActive next past
    simp only [confLease, Prod.mk.injEq] at active
    obtain ⟨cfg, cfgNext, arb⟩ := active
    exact ⟨_, sliceRuns_of_slice rfl rfl on, (Slice.settle_cfg _).trans cfg, (Slice.settle_cfgNext _).trans cfgNext,
      (Slice.settle_arb _).trans arb⟩
  case sameTick => exact fun same => sliceRuns_of_slice rfl (cfgActive_sameTick same)
  case orphanDrop => exact fun trains late => sliceRuns_of_slice rfl (safeOrphan_late trains late)
  case mismatch => exact fun g since late => sliceRuns_of_slice rfl (sfbMismatch_late since late)
  case agree => exact fun agree => sliceRuns_of_slice rfl (sfbMismatch_none agree)
  case lamps =>
    intro orphan due strings off0 off1 on
    have mark := orphanStrings_keeps (·.lamps.orphan) (fun _ _ _ => rfl) (stands s n t)
    have hels := orphanStrings_keeps Slice.hels (fun _ _ _ => rfl) (stands s n t)
    have doors := orphanStrings_keeps Slice.doors (fun _ _ _ => rfl) (stands s n t)
    exact ⟨_, sliceRuns_of_slice rfl (lampsOrphan_due orphan due strings off0 off1) on,
      (congrArg Lamps.orphan (Slice.settle_lamps _)).trans mark, (Slice.settle_hels _).trans hels,
      (Slice.settle_doors _).trans doors⟩
  case held => exact fun held => sliceRuns_of_slice rfl (lampsOrphan_held held)
  case full => exact fun timely full => judgeAct_noRoom held fresh timely (roomLeft_full full)
  case fires => exact fun timely room opens close hold => judgeAct_fires held fresh timely room ⟨opens, close, hold⟩

end Sys2Proof.Proofs
end

section
/-! PROOFS. What the Tracker makes of its signals: encoder loss, index pulses, vane edges, learn trips, the age of the load
zero (R160, R163 to R165, R170, R171, R177). -/

namespace Sys2Proof.Proofs

open Sys2Proof Sys2Proof.Machine Sys2Proof.Safety

section
variable {d : Dev} {n : Fin 16}

/-! Loss of the encoder's signal (R170) -/

/-- An engine that has lost its encoder: no speed to publish, and a position no longer VERIFIED. -/
def unmeasured (d : Dev) (n : Fin 16) : Dev :=
  let a := (d.flag (Reg.TRK_STAT_ENC_LOST n.val) true).wr (Reg.TRK_SPD n.val) noReading
  if a.pst n.val = Pst.verified then a.wr (Reg.TRK_STAT_PSTATE n.val) Pst.unverified else a

theorem encLost_heard (car : d.carOn n.val) (engine : d.engineOn n.val)
    (heard : d.on (Reg.TRK_STAT_ENC_LOST n.val) = false) :
    d.encLost n = ((unmeasured d n).mapTrk n fun t =>
      { t with
        pair := none, lostGt := (unmeasured d n).gt
        learn := t.learn.map fun l => { l with aborted := true } }).posState n.val 2 0x7FFFFFFF := by
  simp only [Dev.encLost, car, engine, heard, Bool.not_true, Bool.or_self, Bool.false_eq_true, if_false]
  rfl

theorem encLostClear_due (lost : d.on (Reg.TRK_STAT_ENC_LOST n.val)) (due : (d.trk n).lostGt + 100000000 ≤ d.gt) :
    let a := (d.flag (Reg.TRK_STAT_ENC_LOST n.val) false).mapTrk n fun t => { t with zValid := false, ssiBad := 0 }
    d.encLostClear n = a.wrI (Reg.TRK_POS n.val) (a.posNow n) :=
  if_pos (by rw [lost, decide_eq_true due, Bool.and_self])

/-! Index pulses of the drive encoder (R171) -/

/-- The index pulses of an engine count: it runs an A/B/Z encoder with a count per revolution and its index enabled. -/
structure IndexUsed (d : Dev) (n : Fin 16) : Prop where
  cpr    : d.rd (Reg.TRK_ENC_CPR n.val) ≠ 0
  index  : d.on (Reg.TRK_ENC_CFG_Z_EN n.val)
  abz    : d.on (Reg.TRK_ENC_CFG_TYPE n.val) = false
  engine : d.engineOn n.val

/-- The check that opens `Dev.driveIndex` lets such a pulse pass. -/
theorem IndexUsed.passes (used : IndexUsed d n) :
    (d.rd (Reg.TRK_ENC_CPR n.val) = 0 || !d.on (Reg.TRK_ENC_CFG_Z_EN n.val) || d.on (Reg.TRK_ENC_CFG_TYPE n.val) ||
      !d.engineOn n.val) = false := by
  simp [used.cpr, used.index, used.abz, used.engine]

/-- A deviating index pulse counted: a fault more, up to three in a row, and the run of good ones at an end. -/
def faultCounted (d : Dev) (n : Fin 16) : Dev :=
  let a := d.inc (Reg.TRK_CNT_IDXFLT n.val)
  (a.wr (Reg.TRK_IDX_STAT_CONSEC n.val) (min 3 (a.rd (Reg.TRK_IDX_STAT_CONSEC n.val) + 1))).wr
    (Reg.TRK_IDX_STAT_GOOD_RUN n.val) 0

/-- The third fault in a row makes the encoder SUSPECT. -/
def suspectMarked (d : Dev) (n : Fin 16) : Dev :=
  if d.rd (Reg.TRK_IDX_STAT_CONSEC n.val) = 3 then d.flag (Reg.TRK_STAT_SUSPECT n.val) true else d

section
variable (used : IndexUsed d n) (c : Int)
include used

/-- The first pulse sets the reference. -/
theorem driveIndex_first (first : (d.trk n).zValid = false) : d.driveIndex n c =
    (d.wr (Reg.TRK_ENC_CPR_Z_REF n.val) (c % (d.rd (Reg.TRK_ENC_CPR n.val) : Int)).toNat).mapTrk n fun x =>
      { x with zValid := true } := by
  simp only [Dev.driveIndex, used.passes, first, Bool.not_false, Bool.false_eq_true, if_false, if_true]

variable (later : (d.trk n).zValid)
  {x : Int} (dev : idxDev c (d.rd (Reg.TRK_ENC_CPR_Z_REF n.val)) (d.rd (Reg.TRK_ENC_CPR n.val)) = x)
include later dev

/-- A pulse within 4 counts moves the count, and the samples held with it. -/
theorem driveIndex_corrects (trusted : d.on (Reg.TRK_STAT_SUSPECT n.val) = false) (near : absI x ≤ 4) :
    d.driveIndex n c =
      ((d.inc (Reg.TRK_CNT_IDXCOR n.val)).mapTrk n fun t =>
        { t with cnt := t.cnt - x, hist := t.hist.map fun p => (p.1, p.2 - x) }).wr (Reg.TRK_IDX_STAT_CONSEC n.val) 0 := by
  simp only [Dev.driveIndex, used.passes, later, dev, near, trusted, Bool.not_true, Bool.false_eq_true, if_false, if_true]

theorem driveIndex_faults (far : 4 < absI x) :
    let e := suspectMarked (faultCounted d n) n
    d.driveIndex n c =
      e.indexFault n.val 0 (e.rd (Reg.TRK_IDX_STAT_CONSEC n.val)) (e.on (Reg.TRK_STAT_SUSPECT n.val)) x := by
  simp only [Dev.driveIndex, used.passes, later, dev, Int.not_le.2 far, Bool.not_true, Bool.false_eq_true, if_false]
  rfl

end

/-- An index pulse of the drive encoder is the controller's alone. -/
theorem becomes_indexPulse {s : State} {c : Int} (t : Nat) {e : Dev} (h : s.dev.driveIndex n c = e) :
    Becomes (.indexPulse n 0 c t) s e := by
  subst h; rfl

/-! Vane edges (R163, R165) -/

/-- An edge noted as the latest of its car. -/
def edgeNoted (d : Dev) (n : Fin 16) (t : Nat) : Dev := d.mapTrk n fun x => { x with lastEdge := max x.lastEdge t }

theorem vaneEdge_running {z act : Bool} {t : Nat} (car : (edgeNoted d n t).carOn n.val)
    (engine : (edgeNoted d n t).engineOn n.val) :
    d.vaneEdge n z act t = (edgeNoted d n t).mapTrk n fun x => { x with edges := x.edges ++ [(z, act, t)] } :=
  if_neg (by rw [← edgeNoted, car, engine]; decide)

theorem vaneEdge_idle {z act : Bool} {t : Nat}
    (idle : (edgeNoted d n t).carOn n.val = false ∨ (edgeNoted d n t).engineOn n.val = false) :
    d.vaneEdge n z act t = edgeNoted d n t := by
  refine if_pos ?_
  rw [← edgeNoted]
  obtain off | off := idle
  · rw [off, Bool.not_false, Bool.true_or]
  · rw [off, Bool.not_false, Bool.or_true]

/-- The vane of landing `l` seen, and no miss since. -/
def vaneSeen (d : Dev) (n : Fin 16) (l : Nat) : Dev := d.mapTrk n fun t => { t with missRun := 0, lastVane := some l }

section
variable {k : Nat} {p x : Int} {e : Dev} (dev : d.tabW n (d.nearWord n k p) k - p = x)
  (seen : vaneSeen d n (d.nearWord n k p) = e)
include dev seen

theorem edgeVerified_slews (within : absI x ≤ e.w1 n.val) : d.edgeVerified n k p = e.setSlew n x := by
  subst dev seen
  exact if_pos within

theorem edgeVerified_steps (beyond : e.w1 n.val < absI x) (within : absI x ≤ e.w2 n.val) :
    d.edgeVerified n k p = (e.setStep n x).posState n.val 1 x := by
  subst dev seen
  exact (if_neg (Int.not_le.2 beyond)).trans (if_pos within)

theorem edgeVerified_unverifies (beyond1 : e.w1 n.val < absI x) (beyond2 : e.w2 n.val < absI x) :
    d.edgeVerified n k p = (e.setSlew n 0).unverify n x := by
  subst dev seen
  exact (if_neg (Int.not_le.2 beyond1)).trans (if_neg (Int.not_le.2 beyond2))

end

/-! Learn trips (R111, R160) -/

/-- A car can begin a learn trip: none is under way, it is out of service, at L0, its doors locked. -/
def canLearn (d : Dev) (n : Fin 16) : Bool :=
  (d.trk n).learn.isNone && d.rd (Reg.ILK_STAT_MODE n.val) = 5 && d.atL0 n && d.doorsLocked n.val

/-- What `Dev.opLearn` refuses as BUSY is a car that cannot. -/
theorem learnBusy_eq_not_canLearn (d : Dev) (n : Fin 16) :
    ((d.trk n).learn.isSome || d.rd (Reg.ILK_STAT_MODE n.val) != 5 || !d.atL0 n || !d.doorsLocked n.val) =
      !canLearn d n := by
  simp only [canLearn, Bool.not_and, Option.not_isNone, bne, beq_eq_decide]

/-- A learn trip begun by a descriptor: its up pass, with no vane counted yet. -/
def learnBegun (d : Dev) (n : Fin 16) (sq dn : Nat) : Dev :=
  let l : Learn :=
    { sq := sq, dn := dn, phase := 1, up := 0, dn' := 0, tab := [], edgeA := [], edgeB := [], aborted := false }
  (((d.mapTrk n fun t => { t with learn := some l }).flag (Reg.TRK_STAT_LEARNING n.val) true).wr
    (Reg.TRK_LEARN_STAT_VANES_UP n.val) 0).wr (Reg.TRK_LEARN_STAT_VANES_DN n.val) 0

section
variable {s : State} {q : Fin 32} {b : List Byte} {f : Nat × Dev} (passes : Passes s 0x25 q b)
  (fetch : fetched s 0x25 q b = f)
include passes fetch

/-- A car that cannot is refused BUSY, whoever owns it. -/
theorem answers_learnTrip_busy (cannot : canLearn f.2 (Fin.ofNat 16 (dIndex b)) = false) :
    Answers (.learnTrip q b) s 0x25 q b f.2 (AdmRes.refuse Stat.busy) := by
  subst fetch
  refine answers_of_admit passes rfl ?_
  simp only [learnBusy_eq_not_canLearn, cannot, Bool.not_false, if_true]
  split <;> rfl

variable (can : canLearn f.2 (Fin.ofNat 16 (dIndex b)))
include can

theorem answers_learnTrip_notOwned {st : Nat} (foreign : f.2.ownership 0x25 b = some st) :
    Answers (.learnTrip q b) s 0x25 q b f.2 (AdmRes.refuse st) := by
  subst fetch
  refine answers_of_admit passes rfl ?_
  simp only [learnBusy_eq_not_canLearn, can, foreign, Bool.not_true, Bool.false_eq_true, if_false]
  rfl

theorem becomes_learnTrip (owned : f.2.ownership 0x25 b = none) :
    Becomes (.learnTrip q b) s (learnBegun f.2 (Fin.ofNat 16 (dIndex b)) q.val f.1) := by
  subst fetch
  refine becomes_of_admit passes rfl ?_
  simp only [learnBusy_eq_not_canLearn, can, owned, Bool.not_true, Bool.false_eq_true, if_false]
  rfl

end

/-- An aborted learn trip is over, with RESULT 3 and the table as it was. -/
theorem learnFinish_aborted {l : Learn} (trip : (d.trk n).learn = some l) (aborted : l.aborted) :
    d.learnFinish n =
      (((d.mapTrk n fun t => { t with learn := none }).flag (Reg.TRK_STAT_LEARNING n.val) false).wr
        (Reg.TRK_LEARN_STAT_RESULT n.val) 3).admSet l.sq l.dn (AdmRes.done 0 0) := by
  have ended : d.learnOver n := by simp only [Dev.learnOver, trip, aborted, Bool.true_or]
  rw [Dev.learnFinish, if_pos ended]
  simp only [Dev.learnEnd, trip, aborted, if_true, OfNat.ofNat_ne_one, if_false]

/-! The age of the load zero (R177) -/

theorem zeroStale_old {g : Nat} (fresh : d.on (Reg.TRK_LOAD_STAT_STALE_ZERO n.val) = false)
    (zero : (d.trk n).zeroGt = some g) (old : d.rd (Reg.TRK_LW_AUX_STALE_H n.val) * 3600000000000 < d.gt - g) :
    d.zeroStale n = (d.flag (Reg.TRK_LOAD_STAT_STALE_ZERO n.val) true).loadState n.val 3 false := by
  have aged : d.zeroOld n = true := by rw [Dev.zeroOld, zero, Option.any_some]; exact decide_eq_true old
  exact if_neg (by rw [fresh, aged]; decide)

end

/-- Settles O32: each signal by the rule of its operation. The windows of an edge are those of the engine that has noted its
vane; a car that cannot learn is BUSY before its owner counts. -/
theorem trackerSignals : Obligations.TrackerSignals := by
  refine ⟨?lost, ?found, ?index, ?vane, ?verified, ?learn, ?learnEnd, ?stale⟩
  case lost => exact fun s n car engine heard => becomes_of_run (f := (·.encLost n)) rfl (encLost_heard car engine heard)
  case found => exact fun s n lost due => becomes_of_run (f := (·.encLostClear n)) rfl (encLostClear_due lost due)
  case index =>
    intro s n c t z cpr index abz engine
    have used : IndexUsed s.dev n := ⟨cpr, index, abz, engine⟩
    refine ⟨fun first => becomes_indexPulse t (driveIndex_first used c first),
      fun later trusted => ⟨fun near => ?_, fun far => ?_⟩⟩
    · exact becomes_indexPulse t (driveIndex_corrects used c later rfl trusted near)
    · exact becomes_indexPulse t (driveIndex_faults used c later rfl far)
  case vane =>
    intro s n z t act d
    have whole : exec (.vaneEdge n z act t) s = s.run (·.vaneEdge n z act t) := rfl
    exact ⟨fun car engine => becomes_of_run whole (vaneEdge_running car engine),
      fun idle => becomes_of_run whole (vaneEdge_idle idle)⟩
  case verified =>
    exact fun d n k p => ⟨edgeVerified_slews rfl rfl, edgeVerified_steps rfl rfl, edgeVerified_unverifies rfl rfl⟩
  case learn =>
    intro s q b passes f d n can l
    exact ⟨answers_learnTrip_busy passes rfl, fun can st => answers_learnTrip_notOwned passes rfl can,
      becomes_learnTrip passes rfl⟩
  case learnEnd => exact fun s n l trip aborted => becomes_of_run (f := (·.learnFinish n)) rfl (learnFinish_aborted trip aborted)
  case stale => exact fun s n fresh ⟨g, zero, old⟩ => becomes_of_run (f := (·.zeroStale n)) rfl (zeroStale_old fresh zero old)

end Sys2Proof.Proofs
end

section
/-! PROOFS. What calls, the end of a trip, a tracking fault and the drive's status do to Motion (R182, R183, R187, R195,
R205). -/

namespace Sys2Proof.Proofs

open Sys2Proof Sys2Proof.Machine Sys2Proof.Safety

section
variable {d : Dev} {n : Fin 16}

/-! TRIP (R182, R251) -/

/-- The call a TRIP asks for. -/
def tripCall (b : List Byte) : Call :=
  { land := byteAt b 16, kind := byteAt b 17, doors := byteAt b 18, tag := leAt b 20 4 }

/-- The mode of the car admits the call: any call in NORMAL, a car call in FIREFIGHTER and EVACUATION (R112, R251). -/
def ModeAdmits (d : Dev) (n : Fin 16) (c : Call) : Prop :=
  let mode := d.rd (Reg.ILK_STAT_MODE n.val)
  mode = 0 ∨ ((mode = 3 ∨ mode = 4) ∧ c.kind = 0)

/-- The test by which `Dev.opTrip` refuses a call. -/
def tripBarred (d : Dev) (n : Fin 16) (c : Call) : Bool :=
  let mode := d.rd (Reg.ILK_STAT_MODE n.val)
  d.pst n.val = Pst.unlearned || !(mode = 0 || ((mode = 3 || mode = 4) && c.kind = 0))

theorem tripBarred_iff {c : Call} : tripBarred d n c ↔ d.pst n.val = Pst.unlearned ∨ ¬ModeAdmits d n c := by
  simp only [tripBarred, ModeAdmits, Bool.or_eq_true, Bool.and_eq_true, Bool.not_eq_true', decide_eq_true_eq,
    ← Bool.not_eq_true]

/-- What `Dev.opTrip` makes of a call where no learn trip is under way and the car is the controller's own. -/
def tripTaken (d : Dev) (n : Fin 16) (c : Call) : Admission :=
  if tripBarred d n c then d.refuseIlk n.val 0
  else if !d.served n.val c.land then
    (d.mapMot n fun m => { m with unserved := m.unserved ++ [c] }, some (AdmRes.done 0 0))
  else
    let e := if d.rd (Reg.ILK_STAT_MODE n.val) = 3 then d.dropCalls n 0 fun x => x.kind = 0 && x.land != c.land else d
    (e.addCall n c, some (AdmRes.done 0 0))

theorem tripTaken_barred {c : Call} (barred : d.pst n.val = Pst.unlearned ∨ ¬ModeAdmits d n c) :
    tripTaken d n c = (d.ilkEvent n.val 0 0, some (AdmRes.refuse Stat.refused)) :=
  if_pos (tripBarred_iff.2 barred)

section
variable {c : Call} (learned : d.pst n.val ≠ Pst.unlearned) (admits : ModeAdmits d n c)
include learned admits

theorem not_tripBarred : ¬tripBarred d n c := fun barred =>
  (tripBarred_iff.1 barred).elim learned fun not => not admits

theorem tripTaken_served (served : d.served n.val c.land) :
    tripTaken d n c =
      ((if d.rd (Reg.ILK_STAT_MODE n.val) = 3 then d.dropCalls n 0 fun x => x.kind = 0 && x.land != c.land
        else d).addCall n c, some (AdmRes.done 0 0)) :=
  (if_neg (not_tripBarred learned admits)).trans (if_neg (by rw [served]; decide))

theorem tripTaken_notServed (notServed : d.served n.val c.land = false) :
    tripTaken d n c = (d.mapMot n fun m => { m with unserved := m.unserved ++ [c] }, some (AdmRes.done 0 0)) :=
  (if_neg (not_tripBarred learned admits)).trans (if_pos (by rw [notServed]; decide))

end

section
variable {s : State} {q : Fin 32} {b : List Byte} {e : Dev} {r : AdmRes}

/-- A TRIP past the common checks, for a car of its own that is not learning, is answered by what becomes of its call. -/
theorem answers_trip (passes : Passes s 0x20 q b) (fetch : (fetched s 0x20 q b).2 = d)
    (noLearn : (d.trk (Fin.ofNat 16 (dIndex b))).learn = none) (owned : d.ownership 0x20 b = none)
    (taken : tripTaken d (Fin.ofNat 16 (dIndex b)) (tripCall b) = (e, some r)) :
    Answers (.trip q b) s 0x20 q b e r := by
  subst fetch
  refine answers_of_admit passes rfl ?_
  simp only [noLearn, owned, Option.isSome_none, Bool.false_eq_true, if_false]
  exact taken

/-! CALL_CANCEL (R183) -/

/-- The calls that a CALL_CANCEL names: those of its landing and type. -/
def cancelNames (b : List Byte) (c : Call) : Bool := c.land = byteAt b 16 && c.kind = byteAt b 17

section
variable (passes : Passes s 0x21 q b) (fetch : (fetched s 0x21 q b).2 = d) (owned : d.ownership 0x21 b = none)
include passes fetch owned

theorem answers_callCancel_learned (learned : d.pst (Fin.ofNat 16 (dIndex b)).val ≠ Pst.unlearned) :
    let n := Fin.ofNat 16 (dIndex b)
    Answers (.callCancel q b) s 0x21 q b (d.dropCalls n 0 (cancelNames b))
      (AdmRes.done ((d.mot n).calls.filter (cancelNames b)).length 0) := by
  subst fetch
  refine answers_of_admit passes rfl ?_
  simp only [owned, learned, if_false]
  rfl

theorem answers_callCancel_unlearned (unlearned : d.pst (Fin.ofNat 16 (dIndex b)).val = Pst.unlearned) :
    Answers (.callCancel q b) s 0x21 q b (d.ilkEvent (Fin.ofNat 16 (dIndex b)).val 0 0) (AdmRes.refuse Stat.refused) := by
  subst fetch
  refine answers_of_admit passes rfl ?_
  simp only [owned, unlearned, if_true]
  rfl

end
end

/-! TRIP_COMPLETE (R187, R191) -/

section
variable {t : Trip} (trip : (d.mot n).trip = some t)
include trip

theorem tripComplete_underWay (underWay : t.phase ≠ .arrived) : d.tripComplete n = d := by
  simp only [Dev.tripComplete, trip, bne_iff_ne.2 underWay, if_true]

variable (arrived : t.phase = .arrived)
include arrived

theorem tripComplete_relevel (relevel : t.kind = .relevel) :
    d.tripComplete n =
      ((d.endTrip n t).inc (Reg.MOT_CNT_TRIP n.val)).mapMot n fun m => { m with afterRef := false } := by
  simp only [Dev.tripComplete, trip, arrived, relevel, bne_self_eq_false, Bool.false_eq_true, if_false]

variable {l : Nat} (stop : t.kind = .stop) (land : t.land = some l)
  {a : Dev} (ended : (d.endTrip n t).inc (Reg.MOT_CNT_TRIP n.val) = a)
include stop land ended

/-- A car whose position is VERIFIED serves the landing. -/
theorem tripComplete_stop_verified (verified : a.pst n.val = Pst.verified) :
    d.tripComplete n = (a.serve n l).modeOpen n l := by
  simp only [Dev.tripComplete, trip, arrived, stop, land, ended, verified, bne_self_eq_false, Bool.false_eq_true,
    if_false, if_true]

theorem tripComplete_stop_notVerified (notVerified : a.pst n.val ≠ Pst.verified) : d.tripComplete n = a := by
  simp only [Dev.tripComplete, trip, arrived, stop, land, ended, notVerified, bne_self_eq_false, Bool.false_eq_true,
    if_false]

end

/-! TRACKING_FAULT (R195) -/

/-- The trip of the car turned into the stop of a tracking fault, counted, its run of deviating ticks begun anew. -/
def trackStopped (d : Dev) (n : Fin 16) (t : Trip) : Dev :=
  (((d.setTrip n (some { t with plan := none, phase := .track, next := false })).mapMot n fun m =>
    { m with trackRun := 0 }).flag (Reg.MOT_STAT_TRACK n.val) true).inc (Reg.MOT_CNT_TRACK n.val)

theorem trackFault_due {t : Trip} (trip : (d.mot n).trip = some t)
    (due : d.rd (Reg.MOT_THR_TRACK_TICKS n.val) ≤ (d.mot n).trackRun) (first : t.phase ≠ .track) :
    let a := trackStopped d n t
    d.trackFault n = a.mapIlk n fun i => { i with trackGt := a.gt :: i.trackGt } := by
  simp only [Dev.trackFault, trip, Nat.not_lt.2 due, first, decide_false, Bool.or_self, Bool.false_eq_true, if_false]
  rfl

/-! DRIVE_STATUS_CHANGE (R205) -/

/-- A bit set reads back as it was set. -/
theorem bit_setBit_same (v i : Nat) (b : Bool) : bit (setBit v i b) i = b := by
  unfold bit setBit
  cases b with
  | true => rw [if_pos rfl, Nat.testBit_or, Nat.testBit_two_pow_self, Bool.or_true]
  | false =>
    rw [if_neg Bool.false_ne_true]
    cases set : v.testBit i with
    | false => rw [if_neg Bool.false_ne_true, Nat.sub_zero, set]
    | true =>
      have flips := Nat.testBit_two_pow_add_eq (v - 2 ^ i) i
      rw [Nat.add_sub_cancel' (Nat.ge_two_pow_of_testBit set), set] at flips
      rw [if_pos rfl, ← Bool.not_eq_true', ← flips]

/-- The pin DPn_STS at a level. -/
def pinAt (d : Dev) (n : Fin 16) (v : Bool) : Dev :=
  { d with sys := { d.sys with dpSts := setBit d.sys.dpSts n.val v } }

theorem drvReady_iff :
    d.drvReady n.val ↔ d.on (Reg.DRP_CTRL_STS_EN n.val) = false ∨ bit d.sys.dpSts n.val ≠ d.on (Reg.DRP_CTRL_STS_POL n.val) := by
  simp only [Dev.drvReady, Bool.or_eq_true, Bool.not_eq_true', bne_iff_ne]

/-- At its new level the drive is ready by that level alone. -/
theorem drvReady_pinAt_iff {v : Bool} :
    (pinAt d n v).drvReady n.val ↔ d.on (Reg.DRP_CTRL_STS_EN n.val) = false ∨ v ≠ d.on (Reg.DRP_CTRL_STS_POL n.val) := by
  rw [drvReady_iff, show bit (pinAt d n v).sys.dpSts n.val = v from bit_setBit_same ..]
  rfl

/-- A drive that was ready and is no longer so is counted; the level is held either way. -/
theorem driveStatus_eq (v : Bool) : d.driveStatus n v =
    if d.drvReady n.val ∧ ¬(pinAt d n v).drvReady n.val then (pinAt d n v).inc (Reg.DRP_CNT_NRDY n.val) else pinAt d n v := by
  simp only [Dev.driveStatus, pinAt, Bool.and_eq_true, Bool.not_eq_true', Bool.not_eq_true]

theorem driveStatus_lost {v : Bool} (was : d.drvReady n.val) (is : ¬(pinAt d n v).drvReady n.val) :
    d.driveStatus n v = (pinAt d n v).inc (Reg.DRP_CNT_NRDY n.val) :=
  (driveStatus_eq v).trans (if_pos ⟨was, is⟩)

theorem driveStatus_notLost {v : Bool} (keeps : d.drvReady n.val → (pinAt d n v).drvReady n.val) :
    d.driveStatus n v = pinAt d n v :=
  (driveStatus_eq v).trans (if_neg fun ⟨was, lost⟩ => lost (keeps was))

end

/-- Settles O33: a call by what the car's mode and landings make of it, a trip by how it stands, the drive's input by whether
the drive was ready and is so at the new level. -/
theorem motionCommands : Obligations.MotionCommands := by
  refine ⟨?trip, ?cancel, ?stop, ?others, ?track, ?drive⟩
  case trip =>
    intro s q b passes d n m c e can noLearn owned
    exact ⟨fun learned admits served => answers_trip passes rfl noLearn owned (tripTaken_served learned admits served),
      fun learned admits notServed =>
        answers_trip passes rfl noLearn owned (tripTaken_notServed learned admits notServed),
      fun barred => answers_trip passes rfl noLearn owned (tripTaken_barred barred)⟩
  case cancel =>
    intro s q b passes d n sel owned
    exact ⟨answers_callCancel_learned passes rfl owned, answers_callCancel_unlearned passes rfl owned⟩
  case stop =>
    intro s n t l trip arrived stop land a
    exact ⟨fun verified => becomes_of_run (f := (·.tripComplete n)) rfl
        (tripComplete_stop_verified trip arrived stop land rfl verified),
      fun notVerified => becomes_of_run (f := (·.tripComplete n)) rfl
        (tripComplete_stop_notVerified trip arrived stop land rfl notVerified)⟩
  case others =>
    exact fun s n t trip =>
      ⟨fun underWay => becomes_of_run (f := (·.tripComplete n)) rfl (tripComplete_underWay trip underWay),
        fun arrived relevel => becomes_of_run (f := (·.tripComplete n)) rfl (tripComplete_relevel trip arrived relevel)⟩
  case track =>
    exact fun s n t trip due first => becomes_of_run (f := (·.trackFault n)) rfl (trackFault_due trip due first)
  case drive =>
    intro s n v e pol
    have whole : exec (.driveStatusChange n v) s = s.run (·.driveStatus n v) := rfl
    refine ⟨fun inUse ready lost => becomes_of_run whole (driveStatus_lost (drvReady_iff.2 (.inr ready)) fun is => ?_),
      fun kept => becomes_of_run whole (driveStatus_notLost fun was => drvReady_pinAt_iff.2 ?_)⟩
    · obtain off | other := drvReady_pinAt_iff.1 is
      · exact absurd inUse (Bool.eq_false_iff.1 off)
      · exact other lost
    · obtain off | notReady | other := kept
      · exact .inl off
      · exact .inl ((drvReady_iff.1 was).resolve_right fun ready => ready notReady)
      · exact .inr other

end Sys2Proof.Proofs
end

section
/-! PROOFS. What ends or breaks the movement of a door: an end, a stall, excess force, the brake at rest, an end not found
(R210, R214, R217, R221, R222, R224). -/

namespace Sys2Proof.Proofs

open Sys2Proof Sys2Proof.Machine Sys2Proof.Safety

section
variable {c : Slice} {d : Fin 2} {m : Move}

/-! The two doors through a change of one of them -/

theorem mapDoor_door_same (f : Door → Door) : (c.mapDoor d f).doors[d] = f c.doors[d] := by
  simp only [Slice.mapDoor_doors, Fin.getElem_fin, Vector.getElem_set_self]

theorem mapDoor_door_other (f : Door → Door) {e : Fin 2} (other : e ≠ d) : (c.mapDoor d f).doors[e] = c.doors[e] := by
  simp only [Slice.mapDoor_doors, Fin.getElem_fin, Vector.getElem_set_ne _ _ fun same => other (Fin.ext same.symm)]

theorem doorTo_st (new cause : Nat) : (c.doorTo d new cause).doors[d].st = new := by
  by_cases already : c.doors[d].st = new
  · simp only [Slice.doorTo, already, if_true]
  · simp only [Slice.doorTo, already, if_false, Slice.dev_doors, mapDoor_door_same]

theorem doorTo_door_other (new cause : Nat) {e : Fin 2} (other : e ≠ d) :
    (c.doorTo d new cause).doors[e] = c.doors[e] := by
  by_cases already : c.doors[d].st = new
  · simp only [Slice.doorTo, already, if_true]
  · simp only [Slice.doorTo, already, if_false, Slice.dev_doors, mapDoor_door_other _ other]

/-! A reversal (R224) -/

theorem reverse_st (beam : Bool) : (c.reverse d beam).doors[d].st = DoorSt.reversing := by
  simp only [Slice.reverse, mapDoor_door_same, doorTo_st]

theorem reverse_after (beam : Bool) : (c.reverse d beam).doors[d].after = .opens := by
  simp only [Slice.reverse, mapDoor_door_same]

theorem reverse_door_other (beam : Bool) {e : Fin 2} (other : e ≠ d) : (c.reverse d beam).doors[e] = c.doors[e] := by
  simp only [Slice.reverse, mapDoor_door_other _ other, doorTo_door_other _ _ other]

theorem obstruction_doors : (c.obstruction d).doors = c.doors := Slice.evt_doors ..

/-! A stall (R210, R222) -/

theorem stallCmd_passing (passing : c.stalled d = false) : c.stallCmd d = c := by
  simp only [Slice.stallCmd, passing, Bool.false_eq_true, if_false]

/-- A door that has met a stop is at the end it approaches: nothing says where it is, or it is in the end zone. -/
def MetEnd (c : Slice) (d : Fin 2) (m : Move) : Prop := c.doors[d].refd = false ∨ c.inEndZone d m.toOpen

theorem metEnd_iff : MetEnd c d m ↔ (!c.doors[d].refd || c.inEndZone d m.toOpen) = true := by
  simp only [MetEnd, Bool.or_eq_true, Bool.not_eq_true']

section
variable (moves : c.doors[d].move = some m)
include moves

section
variable (lasts : c.stalled d)
include lasts

/-- What a stall that has lasted does, by the movement. -/
theorem stallCmd_lasting : c.stallCmd d =
    if m.brake then (if c.doors[d].refd then c.brakeDone d else c.brakeArrives d m)
    else if !c.doors[d].refd || c.inEndZone d m.toOpen then c.arrive d m.toOpen
    else if m.toOpen then
      (c.obstruction d).mapDoor d fun a => { a with after := .partly, move := some { m with brake := true } }
    else (c.obstruction d).reverse d false := by
  simp only [Slice.stallCmd, lasts, if_true, Slice.stallDoor, moves]

theorem stallCmd_braking (brakes : m.brake) (refd : c.doors[d].refd) : c.stallCmd d = c.brakeDone d := by
  rw [stallCmd_lasting moves lasts, if_pos brakes, if_pos refd]

section
variable (runs : m.brake = false)
include runs

theorem stallCmd_arrives (met : MetEnd c d m) : c.stallCmd d = c.arrive d m.toOpen := by
  rw [stallCmd_lasting moves lasts, if_neg (Bool.eq_false_iff.1 runs), if_pos (metEnd_iff.1 met)]

variable (refd : c.doors[d].refd) (away : c.inEndZone d m.toOpen = false)
include refd away

/-- A stall that has lasted away from the ends: an opening stops part way, a closing turns back. -/
theorem stallCmd_obstructed : c.stallCmd d =
    if m.toOpen then
      (c.obstruction d).mapDoor d fun a => { a with after := .partly, move := some { m with brake := true } }
    else (c.obstruction d).reverse d false := by
  have between : ¬MetEnd c d m := by
    simp only [MetEnd, refd, away, Bool.true_eq_false, Bool.false_eq_true, or_self, not_false_iff]
  rw [stallCmd_lasting moves lasts, if_neg (Bool.eq_false_iff.1 runs), if_neg (mt metEnd_iff.2 between)]

theorem stallCmd_stops (opens : m.toOpen) : c.stallCmd d =
    (c.obstruction d).mapDoor d fun a => { a with after := .partly, move := some { m with brake := true } } := by
  rw [stallCmd_obstructed moves lasts runs refd away, if_pos opens]

theorem stallCmd_turns (closes : m.toOpen = false) : c.stallCmd d = (c.obstruction d).reverse d false := by
  rw [stallCmd_obstructed moves lasts runs refd away, if_neg (Bool.eq_false_iff.1 closes)]

end

end

/-! An end (R210, R214) -/

/-- The commanded position has come to the end, or a stall has lasted that meets it. -/
theorem endReached_arrives (runs : m.brake = false)
    (there : c.doors[d].refd ∧ c.doors[d].cmd = c.endUm d m.toOpen * 1000000000 ∨ c.stalled d ∧ MetEnd c d m) :
    c.endReached d = c.arrive d m.toOpen := by
  have arrives : (!m.brake && (c.doors[d].refd && c.doors[d].cmd = c.endUm d m.toOpen * 1000000000 ||
      c.stalled d && (!c.doors[d].refd || c.inEndZone d m.toOpen))) = true := by
    rw [metEnd_iff] at there
    simpa only [runs, Bool.not_false, Bool.true_and, Bool.or_eq_true, Bool.and_eq_true, decide_eq_true_eq] using there
  simp only [Slice.endReached, moves, arrives, if_true]

/-- An end not found in 1.25 widths of creep is a fault. -/
theorem endMissing_crept (unreferenced : c.doors[d].refd = false)
    (far : ((c.dset d Reg.DOR_GEOM_WIDTH_MM * 1250 : Nat) : Int) * 1000000000 ≤ c.doors[d].crept) :
    c.endMissing d = c.enterFault d 5 := by
  simp only [Slice.endMissing, moves, unreferenced, far, Option.isSome_some, Bool.not_false, decide_true, Bool.and_self,
    if_true]

end

/-! Excess force, and a brake come to rest (R216, R221, R222) -/

theorem forceExcess_turns (closes : c.doors[d].st = DoorSt.closing ∨ c.doors[d].st = DoorSt.nudging)
    (valid : c.doors[d].fmOk) (lasts : heldFor c.doors[d].forceGt c.gt (5 * msNs)) (away : c.inEndZone d false = false) :
    c.forceExcess d = (c.obstruction d).reverse d false := by
  have shutting : (c.doors[d].st = DoorSt.closing || c.doors[d].st = DoorSt.nudging) = true := by
    simpa only [Bool.or_eq_true, decide_eq_true_eq] using closes
  simp only [Slice.forceExcess, shutting, valid, lasts, away, Bool.not_false, Bool.and_self, if_true]

theorem brakeEnds_atRest (rest : c.doors[d].vel = 0) : c.brakeEnds d = c.brakeDone d := if_pos rest

end

/-- Settles O36: the stall reports an obstruction, which leaves the doors, and reverses the one; the outputs settle without a
change of the doors. -/
theorem obstructionTurnsDoor : Obligations.ObstructionTurnsDoor := by
  intro s n d t m c on lasts moves runs closes refd away
  have turns : c.stallCmd d = (c.obstruction d).reverse d false :=
    stallCmd_turns moves lasts runs refd (by rw [closes]; exact away) closes
  refine ⟨_, sliceRuns_of_slice (f := (·.stallCmd d)) rfl turns on, ?reverses, ?opens, fun e other => ?_⟩
  case reverses => rw [Slice.settle_doors, reverse_st]
  case opens => rw [Slice.settle_doors, reverse_after]
  rw [Slice.settle_doors, reverse_door_other _ other, obstruction_doors]

/-- Settles O35: an end, a stall, excess force, a brake and a creep, each by the rule of its operation. -/
theorem doorMovement : Obligations.DoorMovement := by
  intro s n d t m c moves
  have stall {x : Slice} : c.stallCmd d = x → SliceRuns (.stall n d t) s n x :=
    sliceRuns_of_slice (f := (·.stallCmd d)) rfl
  refine ⟨fun runs there => ?reached, fun passing => stall (stallCmd_passing passing), fun lasts runs => ?_,
    fun lasts brakes refd => stall (stallCmd_braking moves lasts brakes refd), fun closes valid lasts away => ?force,
    fun _ rest => ?brake, fun unreferenced far => ?creep⟩
  case reached =>
    exact sliceRuns_of_slice (f := (·.endReached d)) rfl (endReached_arrives moves runs there)
  case force =>
    exact sliceRuns_of_slice (f := (·.forceExcess d)) rfl (forceExcess_turns closes valid lasts away)
  case brake =>
    exact sliceRuns_of_slice (f := fun x => (x.brakeEnds d).doorInputs d (x.rd Reg.FIO_VAL)) rfl
      (congrArg (·.doorInputs d (c.rd Reg.FIO_VAL)) (brakeEnds_atRest rest))
  case creep =>
    exact sliceRuns_of_slice (f := (·.endMissing d)) rfl (endMissing_crept moves unreferenced far)
  exact ⟨fun met => stall (stallCmd_arrives moves lasts runs met), fun refd away =>
    ⟨fun closes => stall (stallCmd_turns moves lasts runs refd away closes),
      fun opens => stall (stallCmd_stops moves lasts runs refd away opens)⟩⟩

end Sys2Proof.Proofs
end

section
/-! PROOFS. The timers of a door at rest: dwell, hold, lock, the count towards nudging, the hold of an orphan slice (R211,
R213, R223, R225, R227, R232). -/

namespace Sys2Proof.Proofs

open Sys2Proof Sys2Proof.Machine Sys2Proof.Safety

section
variable {c : Slice} {d : Fin 2}

section
variable (held : c.orphan = false)
include held

theorem dwellEnds_due (rests : c.doors[d].st = DoorSt.open')
    (due : c.doors[d].dwellT.done c.gt (c.doors[d].dwellMs * msNs)) (inspection : c.lse.mode ≠ 1)
    (firefighter : c.lse.mode ≠ 3) : c.dwellEnds d = c.closeFromOpen d false := by
  simp only [Slice.dwellEnds, rests, due, held, bne_iff_ne.2 inspection, bne_iff_ne.2 firefighter, decide_true,
    Bool.not_false, Bool.and_self, if_true]

/-- The slice with a door whose hold is over: OPEN, the hold timer off. -/
def holdOver (c : Slice) (d : Fin 2) : Slice := (c.doorTo d DoorSt.open' 0xFF).mapDoor d fun a => { a with holdT := .off }

theorem holdEnds_due (rests : c.doors[d].st = DoorSt.held)
    (due : c.doors[d].holdT.done c.gt (c.doors[d].holdMs * msNs)) :
    c.holdEnds d = (holdOver c d).startDwell d ((holdOver c d).dset d Reg.DOR_TIME_DWELL_AFTER * 100) := by
  simp only [Slice.holdEnds, rests, due, held, decide_true, Bool.not_false, Bool.and_self, if_true, holdOver]

section
variable (rests : c.doors[d].st = DoorSt.closed)
  (due : c.doors[d].lockT.done c.gt (c.dset d Reg.DOR_TIME_T_LOCK * 100 * msNs))
  (unlocked : c.din d Reg.DOR_ROLE_LOCK_IN = false)
include rests due unlocked

/-- A lock not made in its time: two retries, then a fault. -/
theorem lockExpires_due : c.lockExpires d =
    if c.doors[d].retries < 2 then
      (c.mapDoor d fun a => { a with retries := a.retries + 1, retry := true }).startOpen d 0 true
    else c.enterFault d 4 := by
  simp only [Slice.lockExpires, rests, due, unlocked, held, decide_true, Bool.not_false, Bool.and_self, if_true]

theorem lockExpires_again (left : c.doors[d].retries < 2) : c.lockExpires d =
    (c.mapDoor d fun a => { a with retries := a.retries + 1, retry := true }).startOpen d 0 true :=
  (lockExpires_due held rests due unlocked).trans (if_pos left)

theorem lockExpires_faults (none : 2 ≤ c.doors[d].retries) : c.lockExpires d = c.enterFault d 4 :=
  (lockExpires_due held rests due unlocked).trans (if_neg (Nat.not_lt.2 none))

end

end

/-- A beam or button of a fitted door between OPENING and REVERSING has been active for the time set, in a mode that nudges,
of a slice that is held. -/
structure NudgeDue (c : Slice) (d : Fin 2) : Prop where
  fits       : c.fits d
  active     : c.lcOn d || c.dobOn d
  first      : 3 ≤ c.doors[d].st
  last       : c.doors[d].st ≤ 7
  set        : c.nudgeTime d ≠ 0
  inspection : c.lse.mode ≠ 1
  held       : c.orphan = false
  passed     : c.doors[d].beamT.done c.gt (c.nudgeTime d * 1000 * msNs)

/-- The slice with a door marked for nudging. -/
def nudged (c : Slice) (d : Fin 2) : Slice := c.mapDoor d fun a => { a with nudge := true }

section
variable (due : NudgeDue c d)
include due

/-- A beam or button held too long marks the door; a close held back at an OPEN door starts. -/
theorem nudgeExpires_due : c.nudgeExpires d =
    if c.doors[d].closeHeld.isSome ∧ c.doors[d].st = DoorSt.open' then (nudged c d).closeFromOpen d true
    else nudged c d := by
  obtain ⟨fits, active, first, last, set, inspection, held, passed⟩ := due
  simp only [Slice.nudgeExpires, fits, active, first, last, bne_iff_ne.2 set, bne_iff_ne.2 inspection, held, passed,
    decide_true, Bool.not_false, Bool.and_self, if_true, mapDoor_door_same, nudged]
  cases c.doors[d].closeHeld with
  | none => simp only [Option.isSome_none, Bool.false_eq_true, false_and, if_false]
  | some nudge => simp only [Option.isSome_some, true_and]

theorem nudgeExpires_marks (none : c.doors[d].closeHeld = none) : c.nudgeExpires d = nudged c d := by
  simp only [nudgeExpires_due due, none, Option.isSome_none, Bool.false_eq_true, false_and, if_false]

theorem nudgeExpires_closes (waits : c.doors[d].closeHeld.isSome) (rests : c.doors[d].st = DoorSt.open') :
    c.nudgeExpires d = (nudged c d).closeFromOpen d true :=
  (nudgeExpires_due due).trans (if_pos ⟨waits, rests⟩)

end

/-! An orphan slice: its timers stand, that of the lock too (log entry 107), but for the hold of 5 s (R232) -/

section
variable (orphan : c.orphan)
include orphan

theorem dwellEnds_orphan : c.dwellEnds d = c := by
  simp only [Slice.dwellEnds, orphan, Bool.not_true, Bool.and_false, Bool.false_and, Bool.false_eq_true, if_false]

theorem holdEnds_orphan : c.holdEnds d = c := by
  simp only [Slice.holdEnds, orphan, Bool.not_true, Bool.and_false, Bool.false_eq_true, if_false]

theorem lockExpires_orphan : c.lockExpires d = c := by
  simp only [Slice.lockExpires, orphan, Bool.not_true, Bool.and_false, Bool.false_and, Bool.false_eq_true, if_false]

theorem nudgeExpires_orphan : c.nudgeExpires d = c := by
  simp only [Slice.nudgeExpires, orphan, Bool.not_true, Bool.and_false, Bool.false_and, Bool.false_eq_true, if_false]

/-- The slice with a door set free: the bridge and every timer off, nothing left to do. -/
def setFree (c : Slice) (d : Fin 2) : Slice := (c.doorTo d DoorSt.free 0xFF).mapDoor d fun a => { a with
  orphT := .off, bridge := false, dwellT := .off, holdT := .off, closeHeld := none, heldArr := none, lockT := .off,
  retry := false, retries := 0, after := .stay }

theorem orphHoldEnds_due (due : c.doors[d].orphT.done c.gt (5000 * msNs)) (sound : c.doors[d].st ≠ DoorSt.fault) :
    c.orphHoldEnds d = setFree c d := by
  simp only [Slice.orphHoldEnds, orphan, due, bne_iff_ne.2 sound, Bool.and_self, if_true, setFree]

end

end

/-- Settles O37: timer by timer, of a slice that is held and of an orphan one. -/
theorem doorTimers : Obligations.DoorTimers := by
  intro s n d t c a
  have dwell {x : Slice} : c.dwellEnds d = x → SliceRuns (.dwellExpiry n d t) s n x :=
    sliceRuns_of_slice (f := (·.dwellEnds d)) rfl
  have hold {x : Slice} : c.holdEnds d = x → SliceRuns (.holdExpiry n d t) s n x :=
    sliceRuns_of_slice (f := (·.holdEnds d)) rfl
  have lock {x : Slice} : c.lockExpires d = x → SliceRuns (.lockTimerExpiry n d t) s n x :=
    sliceRuns_of_slice (f := (·.lockExpires d)) rfl
  have nudge {x : Slice} : c.nudgeExpires d = x → SliceRuns (.nudgeTimeout n d t) s n x :=
    sliceRuns_of_slice (f := (·.nudgeExpires d)) rfl
  refine ⟨fun held => ⟨?dwell, ?hold, ?lock, ?nudge⟩, fun orphan => ?stand, fun orphan due sound => ?free⟩
  case dwell =>
    exact fun rests due inspection firefighter => dwell (dwellEnds_due held rests due inspection firefighter)
  case hold => exact fun rests due => hold (holdEnds_due held rests due)
  case lock =>
    exact fun rests due unlocked => ⟨fun left => lock (lockExpires_again held rests due unlocked left),
      fun none => lock (lockExpires_faults held rests due unlocked none)⟩
  case nudge =>
    intro fits active first last set inspection passed
    have due : NudgeDue c d := ⟨fits, active, first, last, set, inspection, held, passed⟩
    exact ⟨fun none => nudge (nudgeExpires_marks due none), fun waits rests => nudge (nudgeExpires_closes due waits rests)⟩
  case stand =>
    exact ⟨dwell (dwellEnds_orphan orphan), hold (holdEnds_orphan orphan), lock (lockExpires_orphan orphan),
      nudge (nudgeExpires_orphan orphan)⟩
  case free => exact sliceRuns_of_slice (f := (·.orphHoldEnds d)) rfl (orphHoldEnds_due orphan due sound)

end Sys2Proof.Proofs
end

section
/-! PROOFS. A push by hand at a door at rest, the causes of FAULT as they come and go, the door encoder lost and found, the
PWM period (R208, R214 to R222, R226, R231, R234). -/

namespace Sys2Proof.Proofs

open Sys2Proof Sys2Proof.Machine Sys2Proof.Safety

section
variable {c : Slice} {d : Fin 2}

/-! A push by hand (R226, R239) -/

/-- The slice with a door's field and commanded position where the encoder finds the door. -/
def resynced (c : Slice) (d : Fin 2) : Slice :=
  c.mapDoor d fun a => { a with u := c.toU d (c.encUm d), cmd := c.encUm d * 1000000000, devGt := none }

section
variable (encoder : c.modeE d) (lasts : c.stalled d)
include encoder lasts

/-- What a push does once it counts as one, by the state of the door. -/
theorem handPush_lasting : c.handPush d =
    if c.doors[d].st = DoorSt.open' ∨ c.doors[d].st = DoorSt.held then
      ((resynced c d).startOpen d 0 true).mapDoor d fun a =>
        { a with closeHeld := c.doors[d].closeHeld, heldCmd := c.doors[d].heldCmd }
    else if c.doors[d].st = DoorSt.closed then
      if c.orphan then resynced c d
      else if c.holdOn then (resynced c d).mapDoor d fun a => { a with pushed := true }
      else (resynced c d).startClose d false true
    else if c.doors[d].st = DoorSt.locked then (resynced c d).mapDoor d fun a => { a with pushed := true }
    else c := by
  simp only [Slice.handPush, encoder, lasts, Bool.not_true, Bool.or_self, Bool.false_eq_true, if_false, Bool.or_eq_true,
    decide_eq_true_eq, resynced]

theorem handPush_open (rests : c.doors[d].st = DoorSt.open' ∨ c.doors[d].st = DoorSt.held) : c.handPush d =
    ((resynced c d).startOpen d 0 true).mapDoor d fun a =>
      { a with closeHeld := c.doors[d].closeHeld, heldCmd := c.doors[d].heldCmd } :=
  (handPush_lasting encoder lasts).trans (if_pos rests)

section
variable (rests : c.doors[d].st = DoorSt.closed) (held : c.orphan = false)
include rests held

theorem handPush_closed : c.handPush d =
    if c.holdOn then (resynced c d).mapDoor d fun a => { a with pushed := true }
    else (resynced c d).startClose d false true := by
  have notOpen : ¬(c.doors[d].st = DoorSt.open' ∨ c.doors[d].st = DoorSt.held) := by rw [rests]; decide
  rw [handPush_lasting encoder lasts, if_neg notOpen, if_pos rests, if_neg (Bool.eq_false_iff.1 held)]

theorem handPush_closed_closes (permitted : c.holdOn = false) :
    c.handPush d = (resynced c d).startClose d false true :=
  (handPush_closed encoder lasts rests held).trans (if_neg (Bool.eq_false_iff.1 permitted))

theorem handPush_closed_waits (hold : c.holdOn) :
    c.handPush d = (resynced c d).mapDoor d fun a => { a with pushed := true } :=
  (handPush_closed encoder lasts rests held).trans (if_pos hold)

end

theorem handPush_locked (rests : c.doors[d].st = DoorSt.locked) :
    c.handPush d = (resynced c d).mapDoor d fun a => { a with pushed := true } := by
  have notOpen : ¬(c.doors[d].st = DoorSt.open' ∨ c.doors[d].st = DoorSt.held) := by rw [rests]; decide
  have notClosed : c.doors[d].st ≠ DoorSt.closed := by rw [rests]; decide
  rw [handPush_lasting encoder lasts, if_neg notOpen, if_neg notClosed, if_pos rests]

end

/-! A cause of FAULT that arises (R231) -/

/-- The slice with the instant noted since when the winding of a phase has measured open. -/
def openSince (c : Slice) (d p : Fin 2) (o : Option Nat) : Slice :=
  c.mapDoor d fun a => { a with openGt := a.openGt.set p o }

section
variable {p : Fin 2} {x : Int}

theorem doorFails_unfitted {k : Nat} (off : c.fits d = false) : c.doorFails d k p x = c := by
  simp only [Slice.doorFails, off, Bool.not_false, if_true]

section
variable (fits : c.fits d)
include fits

/-- A cause that a single measurement shows. -/
theorem doorFails_measured {k : Nat} (winding : k ≠ 2) (lock : k ≠ 4) (creep : k ≠ 5) : c.doorFails d k p x =
    if (c.seeVm k x).causeHolds d k p x then (c.seeVm k x).causeOn d k p else c.seeVm k x := by
  simp only [Slice.doorFails, fits, winding, lock, creep, Bool.not_true, Bool.false_eq_true, if_false]

theorem doorFails_winding : c.doorFails d 2 p x = c.windingOpen d p (c.causeHolds d 2 p x) := by
  simp only [Slice.doorFails, fits, Bool.not_true, Bool.false_eq_true, if_false, if_true, Slice.seeVm, Nat.reduceEqDiff]

theorem doorFails_sound (sound : c.causeHolds d 2 p x = false) : c.doorFails d 2 p x = openSince c d p none := by
  simp only [doorFails_winding fits, sound, Slice.windingOpen, Bool.not_false, if_true, openSince]

variable (holds : c.causeHolds d 2 p x)
include holds

theorem doorFails_opens (first : c.doors[d].openGt[p] = none) : c.doorFails d 2 p x = openSince c d p (some c.gt) := by
  simp only [doorFails_winding fits, holds, Slice.windingOpen, Bool.not_true, Bool.false_eq_true, if_false, first,
    openSince]

theorem doorFails_open {g : Nat} (since : c.doors[d].openGt[p] = some g) (lasts : g + 2 * msNs ≤ c.gt) :
    c.doorFails d 2 p x = (openSince c d p none).causeOn d 2 p := by
  simp only [doorFails_winding fits, holds, Slice.windingOpen, Bool.not_true, Bool.false_eq_true, if_false, since, lasts,
    if_true, openSince]

end

end

/-- The slice with a cause shown in its DRV_STAT bit and no longer noted as gone. -/
def causeShown (c : Slice) (d : Fin 2) (k : Nat) (p : Fin 2) : Slice :=
  (c.drvBit d k p true).mapDoor d fun a => { a with well := a.well.filter fun c => c.1 != k }

/-- The slice with a cause noted as one that holds, from now on. -/
def causeNoted (c : Slice) (d : Fin 2) (k : Nat) : Slice :=
  c.mapDoor d fun a => { a with causes := a.causes ++ [(k, c.gt)] }

/-- A cause new to a door that is not in FAULT takes it there. -/
theorem causeOn_first {k : Nat} {p : Fin 2} (self : selfClearing k)
    (new : ((causeShown c d k p).doors[d].causes.any fun c => c.1 = k) = false)
    (sound : (causeNoted (causeShown c d k p) d k).doors[d].st ≠ DoorSt.fault) :
    c.causeOn d k p = (causeNoted (causeShown c d k p) d k).enterFault d k := by
  unfold causeNoted causeShown at *
  simp only [Slice.causeOn, self, new, bne_iff_ne.2 sound, Bool.not_false, Bool.and_self, if_true]

/-! A cause of FAULT that clears (R231) -/

/-- A cause that holds is due to clear: cause 0 after 100 ms, causes 1 and 3 once gone for 100 ms, cause 6 with the die 10 °C
below its limit. -/
def ClearsNow (c : Slice) (d : Fin 2) (k : Nat) (x : Int) (g : Nat) : Prop :=
  (k = 0 ∧ (0, g) ∈ c.doors[d].causes ∧ g + 100 * msNs ≤ c.gt) ∨
    ((k = 1 ∧ c.vmOk x ∨ k = 3) ∧ (k, g) ∈ c.doors[d].well ∧ g + 100 * msNs ≤ c.gt) ∨ (k = 6 ∧ x ≤ drvLimit - 10)

/-- A cause of a list with an instant 100 ms ago. -/
theorem any_past {l : List (Nat × Nat)} {k g gt : Nat} (mem : (k, g) ∈ l) (past : g + 100 * msNs ≤ gt) :
    (l.any fun c => c.1 = k && decide (c.2 + 100 * msNs ≤ gt)) = true :=
  List.any_eq_true.2 ⟨(k, g), mem, by simp only [past, decide_true, Bool.and_self]⟩

theorem causeGone_of_clearsNow {k : Nat} {x : Int} {g : Nat} (holds : c.doors[d].causes.any fun c => c.1 = k)
    (clears : ClearsNow c d k x g) : c.causeGone d k x := by
  simp only [Slice.causeGone, holds, Bool.true_and]
  obtain ⟨rfl, mem, past⟩ | ⟨⟨rfl, range⟩ | rfl, mem, past⟩ | ⟨rfl, cool⟩ := clears
  · simp only [any_past mem past, Nat.reduceEqDiff, if_false, if_true]
  · simp only [any_past mem past, range, if_false, Bool.or_true, Bool.and_self,
      OfNat.one_ne_ofNat, one_ne_zero]
  · simp only [any_past mem past, Nat.reduceEqDiff, if_false, OfNat.ofNat_ne_zero, Nat.reduceBNe, Bool.true_or,
      Bool.and_self]
  · simp only [cool, decide_true, if_true]

theorem doorClears_unfitted {k : Nat} {x : Int} (off : c.fits d = false) : c.doorClears d k x = c := by
  simp only [Slice.doorClears, off, Bool.not_false, if_true]

/-- The slice with a cause gone from its DRV_STAT bit and from what the door notes. -/
def causeDropped (c : Slice) (d : Fin 2) (k : Nat) : Slice :=
  (c.drvBit d k 0 false).mapDoor d fun a => { a with
    causes := a.causes.filter fun c => c.1 != k
    well := a.well.filter fun c => c.1 != k }

section
variable {k : Nat} {x : Int} (fits : c.fits d) (gone : ((c.seeVm k x).seeWell d k x).causeGone d k x)
  (reported : (causeDropped ((c.seeVm k x).seeWell d k x) d k).doors[d].fault = some k)
include fits gone reported

theorem doorClears_last (last : (causeDropped ((c.seeVm k x).seeWell d k x) d k).doors[d].causes = []) :
    c.doorClears d k x =
      (causeDropped ((c.seeVm k x).seeWell d k x) d k).mapDoor d fun a => { a with fault := none } := by
  unfold causeDropped at *
  simp only [Slice.doorClears, fits, gone, reported, last, bne_self_eq_false, Bool.not_true, Bool.false_eq_true, if_false,
    List.head?_nil]

theorem doorClears_next {j : Nat × Nat} {l : List (Nat × Nat)}
    (left : (causeDropped ((c.seeVm k x).seeWell d k x) d k).doors[d].causes = j :: l) :
    c.doorClears d k x =
      ((causeDropped ((c.seeVm k x).seeWell d k x) d k).mapDoor d fun a => { a with fault := some j.1 }).dev d
        DoorSt.fault DoorSt.fault j.1 := by
  unfold causeDropped at *
  simp only [Slice.doorClears, fits, gone, reported, left, bne_self_eq_false, Bool.not_true, Bool.false_eq_true, if_false,
    List.head?_cons]

end

/-! The door encoder lost, and its counts valid again (R234) -/

section
variable (encoder : c.dset d Reg.DOR_ROLE_ENC_EN ≠ 0) (fits : c.fits d)
include encoder fits

theorem doorEncLost_lost :
    c.doorEncLost d true = c.mapDoor d fun a => { a with encLost := true, lostGt := c.gt } := by
  simp only [Slice.doorEncLost, encoder, fits, decide_false, Bool.not_true, Bool.or_self, Bool.false_eq_true, if_false,
    if_true]

theorem doorEncLost_clears (lost : c.doors[d].encLost) (lasts : c.doors[d].lostGt + 100 * msNs ≤ c.gt) :
    c.doorEncLost d false = c.mapDoor d fun a => { a with encLost := false, zRef := none } := by
  simp only [Slice.doorEncLost, encoder, fits, lost, lasts, decide_false, decide_true, Bool.not_true, Bool.or_self,
    Bool.and_self, Bool.false_eq_true, if_false, if_true]

end

/-! A PWM period without an encoder (R208, R214 to R222) -/

/-- What a PWM period ends with: the estimate shown, the watches, the phases, and the protective inputs judged. -/
def pwmEnds (c : Slice) (d : Fin 2) (thrust along : Int) : Slice :=
  let b := (c.mapDoor d fun a => { a with fEst := truncDiv thrust 10 }).watchDoor d along
  (b.phases d).doorInputs d (b.rd Reg.FIO_VAL)

/-- A door at rest: the hold current where its bridge is energised, no speed. -/
def pwmRests (c : Slice) (d : Fin 2) : Slice :=
  (c.mapDoor d fun a => { a with
    irun := if c.doors[d].bridge then c.dset d Reg.DOR_CUR_I_HOLD * 25 else 0, boost := false, vel := 0 }).ladder d

/-- A door that moves, one period on along its profile. -/
def pwmMoves (c : Slice) (d : Fin 2) (m : Move) (angle : Option Nat) : Slice := ((c.profile d m).ladder d).current d angle

/-- The thrust estimate along the movement. -/
def alongForce (c : Slice) (d : Fin 2) : Int := if c.modeE d then -(c.thrust d) else c.thrust d

section
variable {counts : Int} {angle : Option Nat} (fits : c.fits d) (bare : c.dset d Reg.DOR_ROLE_ENC_EN = 0)
include fits bare

theorem pwm_rests (rests : c.doors[d].move = none) :
    c.pwm d counts angle = pwmEnds (pwmRests c d) d ((pwmRests c d).thrust d) 0 := by
  simp only [Slice.pwm, fits, bare, Nat.zero_ne_one, decide_false, Bool.not_true, Bool.false_and, Bool.false_eq_true,
    if_false, rests, pwmEnds, pwmRests]

theorem pwm_moves {m : Move} (moves : c.doors[d].move = some m) :
    c.pwm d counts angle =
      pwmEnds ((pwmMoves c d m angle).binOne d m (alongForce (pwmMoves c d m angle) d)) d
        ((pwmMoves c d m angle).thrust d) (alongForce (pwmMoves c d m angle) d) := by
  unfold pwmEnds pwmMoves alongForce
  simp only [Slice.pwm, fits, bare, Nat.zero_ne_one, decide_false, Bool.not_true, Bool.false_and, Bool.false_eq_true,
    if_false, moves]

end

end

/-- Settles O38: a push by the state of the door, a cause by how it shows and how it clears, the encoder, and a PWM period by
whether the door moves. -/
theorem doorFaultsAndSignals : Obligations.DoorFaultsAndSignals := by
  intro s n d t c u y
  have push {z : Slice} : c.handPush d = z → SliceRuns (.handPush n d t) s n z :=
    sliceRuns_of_slice (f := (·.handPush d)) rfl
  have fails {k : Fin 7} {p : Fin 2} {x : Int} {z : Slice} :
      c.doorFails d k.val p x = z → SliceRuns (.doorFault n d k p x t) s n z :=
    sliceRuns_of_slice (f := (·.doorFails d k.val p x)) rfl
  have clears {k : Fin 7} {x : Int} {z : Slice} :
      c.doorClears d k.val x = z → SliceRuns (.doorFaultCleared n d k x t) s n z :=
    sliceRuns_of_slice (f := (·.doorClears d k.val x)) rfl
  have pwm {x : Int} {g : Option Nat} {z : Slice} : c.pwm d x g = z → SliceRuns (.doorPwmPeriod n d x g t) s n z :=
    sliceRuns_of_slice (f := (·.pwm d x g)) rfl
  refine ⟨fun encoder lasts => ⟨?pushOpen, ?pushClosed, ?pushLocked⟩, ?measured, ?winding, ?unfitted, ?first, ?clears,
    fun encoder fits => ⟨?lost, ?found⟩, fun x g fits bare => ⟨?rests, ?moves⟩⟩
  case pushOpen => exact fun rests => push (handPush_open encoder lasts rests)
  case pushClosed =>
    exact fun rests held => ⟨fun permitted => push (handPush_closed_closes encoder lasts rests held permitted),
      fun hold => push (handPush_closed_waits encoder lasts rests held hold)⟩
  case pushLocked => exact fun rests => push (handPush_locked encoder lasts rests)
  case measured =>
    intro k p x fits winding lock creep z
    have measured := doorFails_measured (p := p) (x := x) fits winding lock creep
    exact ⟨fun holds => fails (measured.trans (if_pos holds)),
      fun not => fails (measured.trans (if_neg (Bool.eq_false_iff.1 not)))⟩
  case winding =>
    intro p x fits put
    exact ⟨fun sound => fails (k := 2) (doorFails_sound fits sound),
      fun holds first => fails (k := 2) (doorFails_opens fits holds first),
      fun g holds since lasts => fails (k := 2) (doorFails_open fits holds since lasts)⟩
  case unfitted => exact fun off k p x => ⟨fails (doorFails_unfitted off), clears (doorClears_unfitted off)⟩
  case first =>
    intro z k p b e self new sound
    exact causeOn_first self new sound
  case clears =>
    intro k x g fits z holds due a reported
    have gone := causeGone_of_clearsNow holds due
    exact ⟨fun last => clears (doorClears_last fits gone reported last),
      fun j l left => clears (doorClears_next fits gone reported left)⟩
  case lost => exact sliceRuns_of_slice (f := (·.doorEncLost d true)) rfl (doorEncLost_lost encoder fits)
  case found =>
    exact fun lost lasts =>
      sliceRuns_of_slice (f := (·.doorEncLost d false)) rfl (doorEncLost_clears encoder fits lost lasts)
  case rests => exact fun rests => pwm (pwm_rests fits bare rests)
  case moves => exact fun m moves => pwm (pwm_moves fits bare moves)

end Sys2Proof.Proofs
end

section
/-! PROOFS. CAR_MODE, EVR_START, EVR_ABORT and the time limit of an evacuation recall (R253, R255 to R257). -/

namespace Sys2Proof.Proofs

open Sys2Proof Sys2Proof.Machine Sys2Proof.Safety

section
variable {d : Dev} {n : Fin 16}

/-! CAR_MODE (R253) -/

/-- What a CAR_MODE asks of a car, until the next mode evaluation. -/
def modeAsked (d : Dev) (n : Fin 16) (b : List Byte) (sq dn : Nat) : ModeReq :=
  { mode := byteAt b 16, from' := d.mode n.val, land := byteAt b 17, doors := byteAt b 18, sq := sq, dn := dn }

/-- The FIRE latch of the car once `mode` is asked for: NORMAL clears it (R252). -/
def fireFor (d : Dev) (n : Fin 16) (mode : Nat) : Dev :=
  if mode = 0 then d.flag (Reg.ILK_STAT_FIRE n.val) false else d

/-- What `Dev.opCarMode` makes of a car of the controller's own. -/
def modeTaken (d : Dev) (n : Fin 16) (r : ModeReq) : Admission :=
  if d.pst n.val = Pst.unlearned || !d.modeOk n r.mode r.land then d.refuseIlk n.val 0
  else ((fireFor d n r.mode).mapIlk n fun i => { i with req := i.req ++ [r] }, none)

theorem modeTaken_admitted {r : ModeReq} (learned : d.pst n.val ≠ Pst.unlearned) (ok : d.modeOk n r.mode r.land) :
    modeTaken d n r = ((fireFor d n r.mode).mapIlk n fun i => { i with req := i.req ++ [r] }, none) := by
  simp only [modeTaken, learned, ok, decide_false, Bool.not_true, Bool.or_self, Bool.false_eq_true, if_false]

theorem modeTaken_refused {r : ModeReq} (bar : d.pst n.val = Pst.unlearned ∨ d.modeOk n r.mode r.land = false) :
    modeTaken d n r = (d.ilkEvent n.val 0 0, some (AdmRes.refuse Stat.refused)) :=
  if_pos (by simpa only [Bool.or_eq_true, decide_eq_true_eq, Bool.not_eq_true'] using bar)

section
variable {s : State} {q : Fin 32} {b : List Byte} {f : Nat × Dev} {e : Dev} (passes : Passes s 0x22 q b)
  (fetch : fetched s 0x22 q b = f) (owned : f.2.ownership 0x22 b = none)
include passes fetch owned

/-- A CAR_MODE that is taken has no completion yet. -/
theorem becomes_carMode (taken : modeTaken f.2 (Fin.ofNat 16 (dIndex b))
      (modeAsked f.2 (Fin.ofNat 16 (dIndex b)) b q.val f.1) = (e, none)) : Becomes (.carMode q b) s e := by
  subst fetch
  refine becomes_of_admit passes rfl ?_
  simp only [owned]
  exact taken

theorem answers_carMode {r : AdmRes} (taken : modeTaken f.2 (Fin.ofNat 16 (dIndex b))
      (modeAsked f.2 (Fin.ofNat 16 (dIndex b)) b q.val f.1) = (e, some r)) : Answers (.carMode q b) s 0x22 q b e r := by
  subst fetch
  refine answers_of_admit passes rfl ?_
  simp only [owned]
  exact taken

end

/-! EVR_START (R123, R255, R257) -/

/-- A car that an EVR_START enters: the controller's own, and learned (R159). -/
def evrEnters (d : Dev) (n : Fin 16) : Bool := d.on (Reg.SLP_STAT_OWN n.val) && d.pst n.val != Pst.unlearned

/-- The EVR marker written anew by an EVR_START or EVR_ABORT, what a start-up found in it dropped (R258). -/
def evrMarkedAnew (d : Dev) : Dev := (d.mapNv fun v => { v with markOld := false }).evrMark

/-- A new EVR of the cars, each placed in it. -/
def evrBegun (d : Dev) (cars : List (Fin 16)) (land tag : Nat) : Dev :=
  let e := evrMarkedAnew d
  cars.foldl (fun (x : Dev) (n : Fin 16) => x.evrEnter n land tag)
    { e with evrs := e.evrs ++ [{ tag := tag, cars := cars.map (·.val), parked := [] }] }

/-- What `Dev.opEvrStart` makes of the cars it names. -/
def evrStartTaken (d : Dev) (cars : List (Fin 16)) (land tag : Nat) : Admission :=
  if cars.any fun n => (d.ilk n).evr.isSome then d.refuse Stat.busy
  else if cars.all fun n => !d.on (Reg.SLP_STAT_OWN n.val) then d.refuse Stat.foreignOwner
  else if (cars.filter (evrEnters d)).isEmpty then d.refuse Stat.refused
  else (evrBegun d (cars.filter (evrEnters d)) land tag,
    some (AdmRes.done ((cars.filter fun n => !evrEnters d n).map fun n => 2 ^ n.val).sum 0))

section
variable {cars : List (Fin 16)} {land tag : Nat}

theorem evrStartTaken_busy (busy : ∃ n ∈ cars, (d.ilk n).evr.isSome) :
    evrStartTaken d cars land tag = (d, some (AdmRes.refuse Stat.busy)) := if_pos (List.any_eq_true.2 busy)

/-- Cars one of which is entered are not all another's. -/
theorem not_all_foreign_of_enters (enters : cars.filter (evrEnters d) ≠ []) :
    ¬cars.all fun n => !d.on (Reg.SLP_STAT_OWN n.val) := by
  obtain ⟨n, mem⟩ := List.exists_mem_of_ne_nil _ enters
  obtain ⟨named, entered⟩ := List.mem_filter.1 mem
  obtain ⟨own, -⟩ := Bool.and_eq_true_iff.1 entered
  intro foreign
  simpa only [own, Bool.not_true, Bool.false_eq_true] using List.all_eq_true.1 foreign n named

theorem evrStartTaken_begins (free : ∀ n ∈ cars, (d.ilk n).evr = none) (enters : cars.filter (evrEnters d) ≠ []) :
    evrStartTaken d cars land tag = (evrBegun d (cars.filter (evrEnters d)) land tag,
      some (AdmRes.done ((cars.filter fun n => !evrEnters d n).map fun n => 2 ^ n.val).sum 0)) := by
  have notBusy : ¬cars.any fun n => (d.ilk n).evr.isSome := by
    intro busy
    obtain ⟨n, named, inEvr⟩ := List.any_eq_true.1 busy
    rw [free n named] at inEvr
    exact Bool.false_ne_true inEvr
  rw [evrStartTaken, if_neg notBusy, if_neg (not_all_foreign_of_enters enters), if_neg (mt List.isEmpty_iff.1 enters)]

end

theorem answers_evrStart {s : State} {q : Fin 32} {b : List Byte} {e : Dev} {r : AdmRes} (passes : Passes s 0x23 q b)
    (fetch : (fetched s 0x23 q b).2 = d)
    (taken : evrStartTaken d (maskCars (leAt b 16 2)) (byteAt b 18) (leAt b 20 4) = (e, some r)) :
    Answers (.evrStart q b) s 0x23 q b e r := by
  subst fetch
  exact answers_of_admit passes rfl taken

/-! EVR_TIMEOUT (R256) -/

section
variable {e : Evr} (inEvr : (d.ilk n).evr = some e)
include inEvr

theorem evrTimeout_due (due : e.start + d.rd (Reg.ILK_EVR_TMO_S n.val) * 1000000000 ≤ d.gt) :
    d.evrTimeout n = (d.note 0x8008 6 47 5 0 [pU 28 1 n.val, pU 29 1 e.step, pU 32 4 e.tag]).evrLeave n false := by
  simp only [Dev.evrTimeout, inEvr, due, if_true]

theorem evrTimeout_waits (early : d.gt < e.start + d.rd (Reg.ILK_EVR_TMO_S n.val) * 1000000000) :
    d.evrTimeout n = d := by
  simp only [Dev.evrTimeout, inEvr, Nat.not_le.2 early, if_false]

end
end

/-- Settles O34: a CAR_MODE by whether the car may take it, an EVR_START by whether a car it names is in an EVR, an EVR_ABORT
outright, a time limit by whether it has run. -/
theorem modesAndRecall : Obligations.ModesAndRecall := by
  refine ⟨?mode, ?start, ?abort, ?timeout⟩
  case mode =>
    intro s q b passes f d n e owned
    exact ⟨fun learned ok => becomes_carMode passes rfl owned (modeTaken_admitted learned ok),
      fun bar => answers_carMode passes rfl owned (modeTaken_refused bar)⟩
  case start =>
    intro s q b passes d cars acts own e
    exact ⟨fun free enters => answers_evrStart passes rfl (evrStartTaken_begins free enters),
      fun busy => answers_evrStart passes rfl (evrStartTaken_busy busy)⟩
  case abort => exact fun s q b passes => answers_of_admit passes rfl rfl
  case timeout =>
    exact fun s n e inEvr =>
      ⟨fun due => becomes_of_run (f := (·.evrTimeout n)) rfl (evrTimeout_due inEvr due),
        fun early => becomes_of_run (f := (·.evrTimeout n)) rfl (evrTimeout_waits inEvr early)⟩

end Sys2Proof.Proofs
end

section
/-! PROOFS. The lease of a slice: expiry, guard time, epoch write, grants and ticks, and the loss of ALIGNED (R56, R278 to R281,
R284). -/

namespace Sys2Proof.Proofs

open Sys2Proof Sys2Proof.Machine Sys2Proof.Safety

/-! Times that run out (R278, R279, R284) -/

section
variable {c : Slice}

theorem expire_due {p : Fin 2} {e : Nat} (held : c.arb = .held p e)
    (due : c.lse.lastHold + c.set Reg.SLP_LEASE_L_MS * 1000000 ≤ c.gt) : c.expire = c.toGuard := by
  simp only [Slice.expire, held, due, if_true]

theorem expire_early (early : c.gt < c.lse.lastHold + c.set Reg.SLP_LEASE_L_MS * 1000000) : c.expire = c := by
  unfold Slice.expire
  split
  · exact if_neg (Nat.not_le.2 early)
  · rfl

theorem guardEnds_due (guard : c.arb = .guard) (due : c.guardGt + c.set Reg.SLP_LEASE_G_MS * 1000000 ≤ c.gt) :
    c.guardEnds = { c with arb := .free } := by
  simp only [Slice.guardEnds, guard, due, if_true]

theorem guardEnds_early (early : c.gt < c.guardGt + c.set Reg.SLP_LEASE_G_MS * 1000000) : c.guardEnds = c := by
  unfold Slice.guardEnds
  split
  · exact if_neg (Nat.not_le.2 early)
  · rfl

theorem epochDone_granted {p : Fin 2} {e : Nat} (grant : c.grant = some (p, e)) :
    c.epochDone = { c with board := { c.board with epoch := e } } := by
  simp only [Slice.epochDone, grant]

theorem alignedLost_due (due : c.markGt + 10000000 ≤ c.gt) : c.alignedLost = { c with aligned := false } := if_pos due

theorem alignedLost_early (early : c.gt < c.markGt + 10000000) : c.alignedLost = c := if_neg (Nat.not_le.2 early)

end

/-! The arbiter's part of a tick (R280) -/

theorem queueTo_claim (c : Slice) (q p : Fin 2) (ty : Nat) (b : List Byte) :
    (c.queueTo q ty b).ports[p].claim = c.ports[p].claim := by
  unfold Slice.queueTo
  split
  · rfl
  · exact Slice.mapPort_port (·.claim) c q p _ fun _ => rfl

theorem edgeTick_claim (c : Slice) (p : Fin 2) : c.edgeTick.ports[p].claim = c.ports[p].claim :=
  foldl_keeps (fun x : Slice => x.ports[p].claim) _
    (fun _ _ => (queueTo_claim _ 1 p _ _).trans (queueTo_claim _ 0 p _ _)) _ c

/-- Which claim wins is read off the claims at the ports alone. -/
theorem winner_of_claims {c x : Slice} (claims : ∀ p : Fin 2, x.ports[p].claim = c.ports[p].claim) : x.winner = c.winner := by
  unfold Slice.winner
  rw [show x.ports[0].claim = c.ports[0].claim from claims 0, show x.ports[1].claim = c.ports[1].claim from claims 1]

/-- A tick of a free slice with no grant on its way grants the claim that wins the next epoch, and the slice stays free until
the epoch is written. -/
theorem arbTick_winner {c : Slice} {p : Fin 2} {seed : Nat} (free : c.arb = Arb.free) (idle : c.grant = none)
    (won : c.winner = some (p, seed)) :
    c.arbTick.arb = Arb.free ∧ c.arbTick.grant = some (p, (newest16 c.board.epoch seed + 1) % 65536) := by
  simp only [Slice.arbTick, idle, free, won, if_true]
  exact ⟨free, rfl⟩

theorem sliceBecomes_of_runS {i : Instr} {s : State} {n : Fin 16} {f : Slice → Slice} {x : Slice} (h : exec i s = s.runS n f)
    (e : f s.slices[n] = x) : SliceBecomes i s n x := by
  subst e; exact h

/-- A powered slice at its tick, as the arbiter finds it: the replica slewed, the edges moved into records. -/
def atArbiter (s : State) (n : Fin 16) (t : Nat) : Slice := ((stands s n t).slewTick s.slices[n].gt).edgeTick

section
variable {s : State} {n : Fin 16} {t : Nat}

theorem atArbiter_lease : (atArbiter s n t).arb = (stands s n t).arb ∧ (atArbiter s n t).grant = (stands s n t).grant ∧
    (atArbiter s n t).board = (stands s n t).board := Slice.edgeTick_lease _

theorem atArbiter_winner : (atArbiter s n t).winner = (stands s n t).winner := winner_of_claims fun p => edgeTick_claim _ p

theorem sliceBecomes_tick (on : s.slices[n].on) : SliceBecomes (.sliceTick n t) s n (atArbiter s n t).arbTick.settle :=
  sliceBecomes_of_runS (f := fun c => if c.on then ((c.at t).slewTick c.gt).edgeTick.arbTick.settle else c) rfl (if_pos on)

end

/-- Settles O41: each command by the rule of its operation, before and after its time; a tick by how its arbiter stands. -/
theorem sliceLease : Obligations.SliceLease := by
  intro s n t c l g
  refine ⟨?expiry, ?beforeExpiry, ?guardOver, ?inGuard, ?epoch, ?holds, ?granted, ?won, ?lost, ?kept⟩
  case expiry =>
    intro p e held due on
    obtain ⟨arb, grant, board⟩ := Slice.toGuard_lease c
    exact ⟨_, sliceRuns_of_slice rfl (expire_due held due) on, (Slice.settle_arb _).trans arb,
      (Slice.settle_grant _).trans grant, congrArg Board.epoch ((Slice.settle_board _).trans board)⟩
  case beforeExpiry => exact fun early => sliceRuns_of_slice rfl (expire_early early)
  case guardOver => exact fun guard due => sliceRuns_of_slice rfl (guardEnds_due guard due)
  case inGuard => exact fun early => sliceRuns_of_slice rfl (guardEnds_early early)
  case epoch => exact fun p e grant => sliceRuns_of_slice rfl (epochDone_granted grant)
  case lost => exact fun due => sliceRuns_of_slice rfl (alignedLost_due due)
  case kept => exact fun early => sliceRuns_of_slice rfl (alignedLost_early early)
  all_goals obtain ⟨arb, grant, board⟩ := atArbiter_lease (s := s) (n := n) (t := t)
  case holds =>
    intro p e held on
    exact ⟨_, sliceBecomes_tick on, (Slice.settle_arb _).trans (Slice.arbTick_held _ (arb.trans held))⟩
  case granted =>
    intro p e free pending written on
    obtain ⟨holds, ended⟩ := Slice.arbTick_grant _ (arb.trans free) (grant.trans pending)
      ((congrArg Board.epoch board).trans written)
    exact ⟨_, sliceBecomes_tick on, (Slice.settle_arb _).trans holds, (Slice.settle_grant _).trans ended⟩
  case won =>
    intro p seed free idle won on
    obtain ⟨stays, grants⟩ := arbTick_winner (arb.trans free) (grant.trans idle) (atArbiter_winner.trans won)
    rw [board] at grants
    exact ⟨_, sliceBecomes_tick on, (Slice.settle_arb _).trans stays, (Slice.settle_grant _).trans grants⟩

end Sys2Proof.Proofs
end

section
/-! PROOFS. The states of a slice link at the controller: drops, the retry timer, training attempts, the end of a resync, and what
both ends do at symbol lock and at a resend (R133, R262, R270, R272 to R274, R285 to R288, R362). -/

namespace Sys2Proof.Proofs

open Sys2Proof Sys2Proof.Machine Sys2Proof.Safety

section
variable {d : Dev} {n : Fin 16}

/-! Drops (R272, R285) -/

/-- A drop counted, with what it ends at the link, before the link takes its new state. -/
def dropCounted (d : Dev) (n : Fin 16) : Dev :=
  (((d.flag (Reg.SLP_STAT_PUSH n.val) false).confirmEnd n).mapLink n fun l =>
    { l with got := false, miss := 0, pushed := false, tries := 0 }).inc (Reg.SLP_CNT_DROP n.val)

section
variable (framing : d.framing n)
include framing

theorem linkDrop_justFound (found : (dropCounted d n).lk n = Lk.measure) (fresh : ((dropCounted d n).lnk n).fresh) :
    d.linkDrop n = (dropCounted d n).setLink n Lk.search := by
  unfold dropCounted at found fresh
  simp only [Dev.linkDrop, framing, found, fresh, Bool.not_true, Bool.false_eq_true, if_false, decide_true, Bool.and_self,
    if_true]
  rfl

theorem linkDrop_retries (known : (dropCounted d n).lk n ≠ Lk.measure ∨ ((dropCounted d n).lnk n).fresh = false) :
    d.linkDrop n = (((dropCounted d n).wr (Reg.SLP_RETRY_STAT_ATTEMPTS n.val) 0).mapLink n fun l =>
      { l with retry := some ((dropCounted d n).gt + (dropCounted d n).rd (Reg.SLP_RETRY_T_MS n.val) * 1000000) }).setLink n
        Lk.retry := by
  have notFound : ¬(decide ((dropCounted d n).lk n = Lk.measure) && ((dropCounted d n).lnk n).fresh) := by
    obtain other | old := known
    · simp only [other, decide_false, Bool.false_and, Bool.false_eq_true, not_false_eq_true]
    · simp only [old, Bool.and_false, Bool.false_eq_true, not_false_eq_true]
  unfold dropCounted at notFound
  simp only [Dev.linkDrop, framing, notFound, Bool.not_true, Bool.false_eq_true, if_false]
  rfl

end

/-! The retry timer (R133, R288) -/

/-- A slice-side action of car `n` that has been delivered and whose outcome is outstanding. -/
def outstanding (n : Fin 16) (a : Act) : Bool := a.kind = .s && a.place = .delivered && a.car = some n.val

section
variable {x : Nat} (timer : (d.lnk n).retry = some x)
include timer

theorem linkLost_due (retry : d.lk n = Lk.retry) (due : x ≤ d.gt) :
    d.linkLost n =
      let e := (d.mapLink n fun l => { l with retry := none }).setLink n Lk.lost
      ((e.resolveAll Stat.noLease (outstanding n)).actionList 0 4 (64 + n.val) 2 n.val
        (actNames (e.ladle.acts.filter (outstanding n)))).waitsEnd n Stat.noLease true := by
  simp only [Dev.linkLost, retry, timer, Option.any_some, due, decide_true, bne_self_eq_false, Bool.not_true, Bool.or_self,
    Bool.false_eq_true, if_false]
  rfl

theorem linkLost_early (early : d.gt < x) : d.linkLost n = d := by
  simp only [Dev.linkLost, timer, Option.any_some, Nat.not_le.2 early, decide_false, Bool.not_false, Bool.or_true, if_true]

end

/-! Training attempts (R274, R362) -/

theorem attempt_isolated (isolated : bit (d.rd Reg.CTN_ISO_SP) n.val) : d.attempt n = d := by
  simp only [Dev.attempt, isolated, Bool.not_true, Bool.and_false, Bool.false_and, Bool.false_eq_true, if_false]

/-- A port that looks for its slice, not isolated and 20 ms after its last attempt, makes one. -/
theorem attempt_due (looks : d.lk n = Lk.search ∨ d.lk n = Lk.retry ∨ d.lk n = Lk.lost)
    (due : ∀ x, (d.lnk n).attGt = some x → x + 20000000 ≤ d.gt) (notIsolated : bit (d.rd Reg.CTN_ISO_SP) n.val = false) :
    d.attempt n = (d.incSat (Reg.SLP_RETRY_STAT_ATTEMPTS n.val)).mapLink n fun l => { l with attGt := some d.gt } := by
  have looking : (decide (d.lk n = Lk.search) || decide (d.lk n = Lk.retry) || decide (d.lk n = Lk.lost)) = true := by
    simpa only [Bool.or_eq_true, decide_eq_true_eq, or_assoc] using looks
  unfold Dev.attempt
  cases last : (d.lnk n).attGt with
  | none => simp only [looking, notIsolated, Bool.not_false, Bool.and_self, if_true]
  | some x => simp only [looking, notIsolated, due x last, decide_true, Bool.not_false, Bool.and_self, if_true]

/-! The end of a resync (R287) -/

theorem syncDone_engineOn (sync : d.lk n = Lk.sync) (on : d.engineOn n.val) : d.syncDone n = d.setLink n Lk.up := by
  simp only [Dev.syncDone, sync, on, decide_true, Bool.and_self, if_true]

end

/-- Settles O39: each command by the rule of its operation, by the link's state and its timers. -/
theorem linkStates : Obligations.LinkStates := by
  refine ⟨?drop, ?lost, ?attempt, ?sync, ?both⟩
  case drop =>
    intro s n framing a
    exact ⟨fun found fresh => becomes_of_run (f := (·.linkDrop n)) rfl (linkDrop_justFound framing found fresh),
      fun known => becomes_of_run (f := (·.linkDrop n)) rfl (linkDrop_retries framing known)⟩
  case lost =>
    intro s n x retry timer a mine
    exact ⟨fun due => becomes_of_run (f := (·.linkLost n)) rfl (linkLost_due timer retry due),
      fun early => becomes_of_run (f := (·.linkLost n)) rfl (linkLost_early timer early)⟩
  case attempt =>
    intro s n looks due
    exact ⟨fun notIsolated => becomes_of_run (f := (·.attempt n)) rfl (attempt_due looks due notIsolated),
      fun isolated => becomes_of_run (f := (·.attempt n)) rfl (attempt_isolated isolated)⟩
  case sync => exact fun s n sync on => becomes_of_run (f := (·.syncDone n)) rfl (syncDone_engineOn sync on)
  case both => exact fun s n p => ⟨rfl, rfl, rfl⟩

end Sys2Proof.Proofs
end

section
/-! PROOFS. Frames of the slice link as either end takes them, and the slice's answer to a marker (R262 to R266, R271). -/

namespace Sys2Proof.Proofs

open Sys2Proof Sys2Proof.Machine Sys2Proof.Safety

/-! Downstream frames at the slice (R264, R271) -/

/-- The slice with a marker arrived on a port: it calls for an upstream frame. -/
def withMarker (c : Slice) (p : Fin 2) : Slice := c.mapPort p fun q => { q with marked := true }

section
variable {c : Slice} {p : Fin 2} {b : List Byte} {bad : Bool} {flip : Nat}

theorem downFrame_spoilt (spoilt : frameOk b bad 0xA1 64 = false) :
    c.downFrame p b bad flip = (withMarker c p).inc Reg.SLP_CNT_DN_ERR := by
  simp only [Slice.downFrame, spoilt, Bool.not_false, Bool.true_or, if_true]
  rfl

theorem downFrame_taken {l : List Section} (sound : frameOk b bad 0xA1 64)
    (own : ∀ g, (withMarker c p).cfg = some g → byteAt b 2 % 16 = g.car)
    (new : (withMarker c p).ports[p].lastDn ≠ some (beAt b 6 2)) (sections : frameSections b 28 downType = some l) :
    c.downFrame p b bad flip = (withMarker c p).takeDown p b l flip := by
  unfold withMarker at own new ⊢
  simp only [Slice.downFrame, Slice.mapPort_cfg, sound, new, sections, Bool.not_true, Bool.false_or, decide_false,
    Bool.or_false]
  cases cfg : c.cfg with
  | none => rfl
  | some g => simp only [own g cfg, bne_self_eq_false, Bool.false_eq_true, if_false]

theorem sliceRuns_downstreamFrame {s : State} {n : Fin 16} {t : Nat} {x : Slice}
    (taken : (stands s n t).downFrame p b bad flip = x) : SliceRuns (.downstreamFrame n p b bad flip t) s n x :=
  sliceRuns_of_slice (f := fun c => c.downFrame p b bad flip) rfl taken

/-! The slice's answer to a marker (R262, R265) -/

/-- The slice with a load sample converted, where one fell due. -/
def withSample (c : Slice) (lws : Option (Int × Nat)) : Slice := (lws.map fun x => c.loadConv x.1 x.2).getD c

theorem withSample_tx (c : Slice) (lws : Option (Int × Nat)) : (withSample c lws).tx = c.tx := by
  cases lws <;> rfl

theorem withSample_ports (c : Slice) (lws : Option (Int × Nat)) : (withSample c lws).ports = c.ports := by
  cases lws <;> rfl

theorem upFrame_sent (n : Nat) (ident : Bool) (lws : Option (Int × Nat)) (marked : c.ports[p].marked) :
    ∃ f, (c.upFrame n p ident lws).tx = .frame p.val f :: c.tx ∧ (c.upFrame n p ident lws).ports[p].marked = false ∧
      (c.upFrame n p ident lws).ports[p].seq = (c.ports[p].seq + 1) % 65536 := by
  rw [← withSample_tx c lws, ← withSample_ports c lws]
  unfold Slice.upFrame
  rw [if_neg (by rw [marked]; decide)]
  exact ⟨_, rfl, by simp, by simp; rfl⟩

theorem sliceBecomes_upstreamFrameSend {s : State} {n : Fin 16} {w : Option (Int × Nat)} {t : Nat} (on : s.slices[n].on) :
    SliceBecomes (.upstreamFrameSend n p w t) s n ((stands s n t).upFrame n.val p (s.identifying n p) w).settle :=
  sliceRuns_of_slice (f := fun c => c.upFrame n.val p (s.identifying n p) w) rfl rfl on

end

/-! Upstream frames at the controller (R265, R271) -/

section
variable {d : Dev} {n : Fin 16} {b : List Byte} {bad : Bool} {t : Nat} (framing : d.framing n)
  (notIsolated : bit (d.rd Reg.CTN_ISO_SP) n.val = false)
include framing notIsolated

theorem upFrame_spoilt (spoilt : frameOk b bad 0xA2 128 = false) :
    d.upFrame n b bad t = (d.at t).inc (Reg.SLP_CNT_UP_ERR n.val) := by
  simp only [Dev.upFrame, framing, notIsolated, spoilt, Bool.not_true, Bool.or_self, Bool.false_eq_true, if_false]
  split <;> rfl

theorem upFrame_taken {l : List Section} (sound : frameOk b bad 0xA2 128) (sections : frameSections b 32 upType = some l) :
    d.upFrame n b bad t = (d.at t).upValid n b l t := by
  simp only [Dev.upFrame, framing, notIsolated, sound, sections, Bool.not_true, Bool.or_self, Bool.false_eq_true, if_false,
    if_true]

end

theorem becomes_upstreamFrame {s : State} {n : Fin 16} {b : List Byte} {bad : Bool} {t : Nat} {x : Dev}
    (taken : s.dev.upFrame n b bad t = x) : Becomes (.upstreamFrame n b bad t) s x :=
  becomes_of_run (f := fun d => d.upFrame n b bad t) rfl taken

/-- Settles O40: at either end a frame that fails its check and one that passes; at the slice the frame that answers a marker. -/
theorem linkFrames : Obligations.LinkFrames := by
  refine ⟨?down, ?answer, ?up⟩
  case down =>
    intro s n p b bad flip t c m
    exact ⟨fun spoilt => sliceRuns_downstreamFrame (downFrame_spoilt spoilt),
      fun l sound own new sections => sliceRuns_downstreamFrame (downFrame_taken sound own new sections)⟩
  case answer =>
    intro s n p w t on marked
    obtain ⟨f, sent, answered, next⟩ := upFrame_sent n.val (s.identifying n p) w marked
    exact ⟨_, f, sliceBecomes_upstreamFrameSend on, (Slice.settle_tx _).trans sent,
      (Slice.settle_marked _ p).trans answered, (Slice.settle_seq _ p).trans next⟩
  case up =>
    intro s n b bad t framing notIsolated
    exact ⟨fun spoilt => becomes_upstreamFrame (upFrame_spoilt framing notIsolated spoilt),
      fun l sound sections => becomes_upstreamFrame (upFrame_taken framing notIsolated sound sections)⟩

end Sys2Proof.Proofs
end

section
/-! PROOFS. Proxied registers of a slice, the lapse of its lease at the controller, and the descriptors that name a slice:
SLICE_CONFIRM, CAL_SWAP, IO_PROBE and SAFE_REARM (R249, R276, R277, R282, R308, R328, R329). -/

namespace Sys2Proof.Proofs

open Sys2Proof Sys2Proof.Machine Sys2Proof.Safety

/-! Register windows (R277, R308) -/

section
variable {d : Dev} {n : Fin 16} {v : Nat}

theorem slnWrite_held (off : Nat) (own : d.own n) : d.slnWrite n off v = d.pxyWrite n off v (.write off) := by
  simp only [Dev.slnWrite, own, Bool.not_true, Bool.false_eq_true, if_false]

theorem slnWrite_notHeld (off : Nat) (foreign : d.own n = false) : d.slnWrite n off v = d := by
  simp only [Dev.slnWrite, foreign, Bool.not_false, if_true]

/-- A probe step and channel that are not reserved go to the slice's holder as any write does. -/
theorem probeWr_of_valid (step : v % 4 ≠ 3) (channel : v / 256 % 32 ≤ 19) : d.probeWr n v = d.slnWrite n 0x4E8 v := by
  simp only [Dev.probeWr, step, Nat.not_lt.2 channel, decide_false, Bool.or_self, Bool.false_eq_true, if_false]

theorem proxyWr_probe : d.proxyWr n 0x4E8 v = d.probeWr n v := if_pos rfl

theorem proxyWr_readOnly {off : Nat} (other : off ≠ 0x4E8)
    (readOnly : (Reg.fieldsAt (0x40000 + 0x4000 * n.val + off)).any (fun f => f.acc = .rw || f.acc = .w1c) = false) :
    d.proxyWr n off v = d := by
  rw [Dev.proxyWr, if_neg other, readOnly, Bool.false_and]
  exact if_neg Bool.false_ne_true

theorem refreshRead_up (off : Nat) (up : d.lk n = Lk.up) : d.refreshRead n off = d.pxyRead n off (.refresh off) := if_pos up

end

section
variable {s : State} {n : Fin 16} {off : Nat} {x : Dev} (inWindow : off < 0x4000)
include inWindow

theorem becomes_proxyWrite {v : BitVec 32} (written : s.dev.proxyWr n off v.toNat = x) :
    Becomes (.proxyWrite n off v) s x :=
  becomes_of_run (f := fun d => d.proxyWr n (off % 0x4000) v.toNat) rfl (by rw [Nat.mod_eq_of_lt inWindow, written])

theorem becomes_shadowRefreshRead (read : s.dev.refreshRead n off = x) : Becomes (.shadowRefreshRead n off) s x :=
  becomes_of_run (f := fun d => d.refreshRead n (off % 0x4000)) rfl (by rw [Nat.mod_eq_of_lt inWindow, read])

end

/-! The lapse of a lease (R282) -/

section
variable {d : Dev} {n : Fin 16}

/-- The controller as it has stopped holding a car, before LEASE_CHANGE. -/
def leaseLeft (d : Dev) (n : Fin 16) : Dev :=
  (((d.showOwn n false).mapLink n fun l => { l with rel := false, resync := false }).mapMot n fun m =>
    { m with rel := false }).learnDrop n

theorem leaseLose_held (own : d.own n) (holder cause : Nat) : d.leaseLose n holder cause =
    let a := leaseLeft d n
    let b := a.leaseChange n holder (a.rd (Reg.SLP_STAT_EPOCH n.val)) cause
    ((b.calEndFired n (if bit (b.rd Reg.CTN_ISO_CE) n.val then Stat.engineLost else Stat.noLease)).waitsEnd n Stat.noLease
      false).flushAdm := by
  simp only [Dev.leaseLose, own, Bool.not_true, Bool.false_eq_true, if_false]
  rfl

theorem leaseLapse_due (due : (d.lnk n).dep.getD 0 + d.rd (Reg.SLP_LEASE_L_MS n.val) * 1000000 ≤ d.gt) :
    d.leaseLapse n = d.leaseLose n 0xFF (if (d.lnk n).rel then 2 else 1) := if_pos due

theorem leaseLapse_early (early : d.gt < (d.lnk n).dep.getD 0 + d.rd (Reg.SLP_LEASE_L_MS n.val) * 1000000) :
    d.leaseLapse n = d := if_neg (Nat.not_le.2 early)

end

/-! SLICE_CONFIRM (R276) -/

/-- What `Dev.opSliceConfirm` makes of a slice whose serial the host gives as `serial`. -/
def confirmTaken (d : Dev) (n : Fin 16) (serial sq dn : Nat) : Admission :=
  if serial != d.sliceSerial n.val then d.refuse Stat.badDesc
  else if (d.lnk n).confirm.isSome then d.refuse Stat.busy
  else if d.notOwned n.val = some Stat.foreignOwner then d.refuse Stat.foreignOwner
  else
    let d := d.mapLink n fun l => { l with confirm := some (sq, dn), tries := 0 }
    (if (d.lnk n).hash = d.ownHash n.val then d.setRecord n else d, none)

section
variable {d : Dev} {n : Fin 16} {serial sq dn : Nat}

theorem confirmTaken_wrongSerial (wrong : serial ≠ d.sliceSerial n.val) :
    confirmTaken d n serial sq dn = (d, some (AdmRes.refuse Stat.badDesc)) := if_pos (bne_iff_ne.2 wrong)

variable (right : serial = d.sliceSerial n.val)
include right

theorem confirmTaken_busy (waits : (d.lnk n).confirm.isSome) :
    confirmTaken d n serial sq dn = (d, some (AdmRes.refuse Stat.busy)) := by
  simp only [confirmTaken, right, waits, bne_self_eq_false, Bool.false_eq_true, if_false, if_true]
  rfl

variable (idle : (d.lnk n).confirm = none)
include idle

theorem confirmTaken_foreign (foreign : d.notOwned n.val = some Stat.foreignOwner) :
    confirmTaken d n serial sq dn = (d, some (AdmRes.refuse Stat.foreignOwner)) := by
  simp only [confirmTaken, right, idle, foreign, bne_self_eq_false, Option.isSome_none, Bool.false_eq_true, if_false, if_true]
  rfl

theorem confirmTaken_waits (free : d.notOwned n.val ≠ some Stat.foreignOwner) : confirmTaken d n serial sq dn =
    let a := d.mapLink n fun l => { l with confirm := some (sq, dn), tries := 0 }
    (if (a.lnk n).hash = a.ownHash n.val then a.setRecord n else a, none) := by
  simp only [confirmTaken, right, idle, free, bne_self_eq_false, Option.isSome_none, Bool.false_eq_true, if_false]

end

/-! CAL_SWAP (R328, R329) -/

/-- A transfer as a CAL_SWAP is admitted: the table held with its action, not fired. -/
def tableHeld (a : Act) (t : List Byte) : CalRun :=
  { act := a, table := t, fired := false, tag := 0, lib := 0, node := 0, turn := 0 }

/-- The controller with a transfer that waits on port `p` of car `n`. -/
def withTransfer (d : Dev) (n : Fin 16) (p : Fin 2) (r : CalRun) : Dev :=
  (d.mapLink n fun l => { l with cal := l.cal.set p (some r) }).flag
    (if p = 0 then Reg.LMP_STAT_PEND0 n.val else Reg.LMP_STAT_PEND1 n.val) true

theorem withTransfer_cal (d : Dev) (n : Fin 16) (p : Fin 2) (r : CalRun) : ((withTransfer d n p r).lnk n).cal[p] = some r := by
  simp [withTransfer]

theorem withTransfer_ladle (d : Dev) (n : Fin 16) (p : Fin 2) (r : CalRun) : (withTransfer d n p r).ladle = d.ladle := rfl

/-- What `Dev.opCalSwap` makes of a table once it is read. -/
def swapTaken (d : Dev) (sq dn : Nat) (b t : List Byte) : Admission :=
  let n := Fin.ofNat 16 (dIndex b)
  let p := Fin.ofNat 2 (byteAt b 20)
  if !d.tableOk b t then d.refuse Stat.badDesc
  else
    let r := d.admitAction 0x43 sq dn b .c ((d.lnk n).cal[p]).isSome
    match r.1.ladle.acts.find? fun a => a.ord = d.ladle.ord with
    | none => r
    | some a => (withTransfer r.1 n p (tableHeld a t), r.2)

section
variable {d : Dev} {sq dn : Nat} {b t : List Byte}

theorem swapTaken_badTable (bad : d.tableOk b t = false) :
    swapTaken d sq dn b t = (d, some (AdmRes.refuse Stat.badDesc)) := if_pos (by rw [bad]; rfl)

theorem swapTaken_admitted {x : Dev} {r : Option AdmRes} {a : Act} (sound : d.tableOk b t)
    (admitted : d.admitAction 0x43 sq dn b .c ((d.lnk (Fin.ofNat 16 (dIndex b))).cal[Fin.ofNat 2 (byteAt b 20)]).isSome = (x, r))
    (stored : x.ladle.acts.find? (fun y => y.ord = d.ladle.ord) = some a) : swapTaken d sq dn b t =
      (withTransfer x (Fin.ofNat 16 (dIndex b)) (Fin.ofNat 2 (byteAt b 20)) (tableHeld a t), r) := by
  simp only [swapTaken, sound, admitted, stored, Bool.not_true, Bool.false_eq_true, if_false]

end

section
variable {s : State} {q : Fin 32} {b : List Byte} {f : Nat × Dev} {x : Dev} {r : AdmRes}

theorem answers_sliceConfirm (passes : Passes s 0xA2 q b) (fetch : fetched s 0xA2 q b = f)
    (taken : confirmTaken f.2 (Fin.ofNat 16 (dIndex b)) (leAt b 16 8) q.val f.1 = (x, some r)) :
    Answers (.sliceConfirm q b) s 0xA2 q b x r := by
  subst fetch
  exact answers_of_admit passes rfl taken

theorem becomes_sliceConfirm (passes : Passes s 0xA2 q b) (fetch : fetched s 0xA2 q b = f)
    (taken : confirmTaken f.2 (Fin.ofNat 16 (dIndex b)) (leAt b 16 8) q.val f.1 = (x, none)) :
    Becomes (.sliceConfirm q b) s x := by
  subst fetch
  exact becomes_of_admit passes rfl taken

variable (passes : Passes s 0x43 q b) (fetch : fetched s 0x43 q b = f)
include passes fetch

/-- A table that cannot be read. -/
theorem answers_calSwap_unread {m : Option (List Byte)} (read : f.2.readHost (leAt b 24 8) (leAt b 32 4) m = (none, x)) :
    Answers (.calSwap q b m) s 0x43 q b x (AdmRes.refuse Stat.badDesc) := by
  subst fetch
  refine answers_of_admit passes rfl ?_
  simp only [read]
  rfl

theorem answers_calSwap_read {t : List Byte} (mastering : f.2.mastering)
    (taken : swapTaken (f.2.emitRead (leAt b 24 8) (leAt b 32 4)) q.val f.1 b t = (x, some r)) :
    Answers (.calSwap q b (some t)) s 0x43 q b x r := by
  subst fetch
  refine answers_of_admit passes rfl ?_
  simp only [readHost_some mastering]
  exact taken

end

/-! IO_PROBE (R308) and SAFE_REARM (R249) -/

section
variable {s : State} {q : Fin 32} {b : List Byte}

theorem becomes_ioProbe {f : Nat × Dev} (passes : Passes s 0x52 q b) (fetch : fetched s 0x52 q b = f)
    (up : f.2.lk (Fin.ofNat 16 (dIndex b)) = Lk.up) (idle : f.2.probing (Fin.ofNat 16 (dIndex b)) = false)
    (owned : f.2.ownership 0x52 b = none) : Becomes (.ioProbe q b) s
      (f.2.pxyWrite (Fin.ofNat 16 (dIndex b)) 0x4E8 (byteAt b 16 + 256 * byteAt b 17) (.probeWrite q.val f.1)) := by
  subst fetch
  refine becomes_of_admit passes rfl ?_
  simp only [up, idle, owned, bne_self_eq_false, Bool.or_self, Bool.false_eq_true, if_false]

theorem answers_safeRearm {d : Dev} (passes : Passes s 0x54 q b) (fetch : (fetched s 0x54 q b).2 = d)
    (owned : d.ownership 0x54 b = none) (clear : d.rearmBar (Fin.ofNat 16 (dIndex b)) = none) :
    Answers (.safeRearm q b) s 0x54 q b (d.pxyWrite (Fin.ofNat 16 (dIndex b)) 0x4E4 0 .rearm) (AdmRes.done 0 0) := by
  subst fetch
  refine answers_of_admit passes rfl ?_
  simp only [owned, clear]

end

/-- Settles O43: a register by its window and holder, a lease by its time, a descriptor by what its own part makes of it past
the common checks. -/
theorem sliceDescriptors : Obligations.SliceDescriptors := by
  refine ⟨?probeWrite, ?otherWrite, ?refresh, ?lapse, ?confirm, ?swapRefused, ?probe, ?rearm, ?swapAdmitted⟩
  case probeWrite =>
    intro s n v step channel
    have valid := proxyWr_probe.trans (probeWr_of_valid (d := s.dev) (n := n) step channel)
    exact ⟨fun own => becomes_proxyWrite (by decide) (valid.trans (slnWrite_held _ own)),
      fun foreign => becomes_proxyWrite (by decide) (valid.trans (slnWrite_notHeld _ foreign))⟩
  case otherWrite =>
    exact fun s n off v inWindow other readOnly => becomes_proxyWrite inWindow (proxyWr_readOnly other readOnly)
  case refresh => exact fun s n off inWindow up => becomes_shadowRefreshRead inWindow (refreshRead_up off up)
  case lapse =>
    intro s n own l a b
    exact ⟨fun due => becomes_of_run (f := (·.leaseLapse n)) rfl ((leaseLapse_due due).trans (leaseLose_held own _ _)),
      fun early => becomes_of_run (f := (·.leaseLapse n)) rfl (leaseLapse_early early)⟩
  case confirm =>
    intro s q b passes f n
    exact ⟨fun wrong => answers_sliceConfirm passes rfl (confirmTaken_wrongSerial wrong),
      fun right waits => answers_sliceConfirm passes rfl (confirmTaken_busy right waits),
      fun right idle => ⟨fun foreign => answers_sliceConfirm passes rfl (confirmTaken_foreign right idle foreign),
        fun free => becomes_sliceConfirm passes rfl (confirmTaken_waits right idle free)⟩⟩
  case swapRefused =>
    intro s q b passes d a
    exact ⟨fun t off => answers_calSwap_unread passes rfl (readHost_idle off),
      fun mastering => answers_calSwap_unread passes rfl (readHost_none mastering),
      fun t mastering bad => answers_calSwap_read passes rfl mastering (swapTaken_badTable bad)⟩
  case probe => exact fun s q b passes up idle owned => becomes_ioProbe passes rfl up idle owned
  case rearm => exact fun s q b passes owned clear => answers_safeRearm passes rfl owned clear
  case swapAdmitted =>
    intro s q b t x r a passes f d n p mastering sound admitted stored
    have taken := swapTaken_admitted sound admitted stored
    refine ⟨withTransfer x n p (tableHeld a t), ?answered, withTransfer_cal .., withTransfer_ladle ..⟩
    rintro y rfl
    exact answers_calSwap_read passes rfl mastering taken

end Sys2Proof.Proofs
end

section
/-! PROOFS. Field inputs of a slice: what its samples make of a current, the state Colander gives an input, its value, stamp and
report, and the edges that found the buffer full (R291 to R298). -/

namespace Sys2Proof.Proofs

open Sys2Proof Sys2Proof.Machine Sys2Proof.Safety

section
variable {c : Slice} {i : Fin 34}

@[simp] theorem mapIn_same (c : Slice) (i : Fin 34) (f : Input → Input) : (c.mapIn i f).fio.ins[i] = f c.fio.ins[i] :=
  Vector.getElem_set_self ..

/-! Samples of a current (R291 to R294) -/

theorem levelOf_high {k : Nat} (high : 2000 ≤ k) (was : Bool) : levelOf k was = true := if_pos high

theorem levelOf_low {k : Nat} (low : k < 1500) (was : Bool) : levelOf k was = false := by
  rw [levelOf, if_neg (by omega), if_pos low]

theorem levelOf_between {k : Nat} (above : 1500 ≤ k) (below : k < 2000) (was : Bool) : levelOf k was = was := by
  rw [levelOf, if_neg (by omega), if_neg (by omega)]

/-- Showing a level leaves what is kept of every input. -/
theorem showRaw_fio (c : Slice) (i : Nat) (lvl : Bool) : (c.showRaw i lvl).fio = c.fio := rfl

section
variable {k f : Nat}

/-- A current that no sampling instant sees leaves no trace (R293). -/
theorem takeSamples_unseen (unseen : gridDown (c.sampleNs i.val) c.gt < gridUp (c.sampleNs i.val) f) :
    c.takeSamples i k f = c := if_pos unseen

variable (seen : gridUp (c.sampleNs i.val) f ≤ gridDown (c.sampleNs i.val) c.gt)
include seen

theorem takeSamples_lvl : (c.takeSamples i k f).fio.ins[i].lvl = levelOf k c.fio.ins[i].lvl := by
  simp only [Slice.takeSamples, Nat.not_lt.2 seen, if_false, mapIn_same]

/-- The raw level is that of the physical level (R294). -/
theorem takeSamples_raw :
    (c.takeSamples i k f).fio.ins[i].raw = c.raw i.val (c.takeSamples i k f).fio.ins[i].lvl := by
  simp only [Slice.takeSamples, Nat.not_lt.2 seen, if_false, mapIn_same]

/-- A raw edge dates from the first sample at its level. -/
theorem takeSamples_first : (c.takeSamples i k f).fio.ins[i].first =
    if (c.takeSamples i k f).fio.ins[i].raw ≠ c.fio.ins[i].raw then gridUp (c.sampleNs i.val) f else c.fio.ins[i].first := by
  simp only [Slice.takeSamples, Nat.not_lt.2 seen, if_false, mapIn_same, bne_iff_ne, apply_ite Slice.fio, showRaw_fio,
    ite_self]

theorem takeSamples_deb : (c.takeSamples i k f).fio.ins[i].deb = c.fio.ins[i].deb := by
  simp only [Slice.takeSamples, Nat.not_lt.2 seen, if_false, mapIn_same, apply_ite Slice.fio, showRaw_fio, ite_self]

end

/-! The state an input takes (R294) -/

section
variable {deb : Bool} {act g : Nat}

theorem newState_broken (broken : c.broken i g) : c.newState i deb act g = InSt.wireBreak := if_pos broken

variable (intact : c.broken i g = false)
include intact

theorem newState_of_wireBreak (st : c.inState i.val = InSt.wireBreak) : c.newState i deb act g =
    if sampledFor c.fio.ins[i].fine (c.inProf i.val Reg.FIO_PROF_B_WB_MS) g then InSt.normal else InSt.wireBreak := by
  simp only [Slice.newState, intact, st, Bool.false_eq_true, if_false, if_true]

theorem newState_of_stuck (st : c.inState i.val = InSt.stuck) :
    c.newState i deb act g = if c.fio.ins[i].raw then InSt.stuck else InSt.normal := by
  have notBroken : InSt.stuck ≠ InSt.wireBreak := by decide
  simp only [Slice.newState, intact, st, notBroken, Bool.false_eq_true, if_false, if_true]

/-- An active level that has lasted STUCK_S. -/
theorem newState_sticks (st : c.inState i.val = InSt.normal) (set : c.inProf i.val Reg.FIO_PROF_A_STUCK_S ≠ 0) (active : deb)
    (lasts : act + c.inProf i.val Reg.FIO_PROF_A_STUCK_S * 1000000000 ≤ g) : c.newState i deb act g = InSt.stuck := by
  have notBroken : InSt.normal ≠ InSt.wireBreak := by decide
  have notStuck : InSt.normal ≠ InSt.stuck := by decide
  simp only [Slice.newState, intact, st, notBroken, notStuck, bne_iff_ne.2 set, active, lasts, decide_true, Bool.and_self,
    Bool.false_eq_true, if_false, if_true]

variable (neverSticks : c.inProf i.val Reg.FIO_PROF_A_STUCK_S = 0)
include neverSticks

/-- Of an input that is neither stuck nor broken, with stuck detection off, the edges decide. -/
theorem newState_of_edges (notBroken : c.inState i.val ≠ InSt.wireBreak) (notStuck : c.inState i.val ≠ InSt.stuck) :
    c.newState i deb act g =
      if c.binNs i.val ≠ 0 ∧ c.inProf i.val Reg.FIO_PROF_B_CHAT_N < c.windowEdges i g then InSt.chatter
      else if c.inState i.val = InSt.chatter ∧ 2 * c.windowEdges i g < c.inProf i.val Reg.FIO_PROF_B_CHAT_N then InSt.normal
      else c.inState i.val := by
  simp only [Slice.newState, intact, notBroken, notStuck, neverSticks, bne_self_eq_false, Bool.false_and, Bool.false_eq_true,
    if_false, Bool.and_eq_true, bne_iff_ne, decide_eq_true_eq]

section
variable (st : c.inState i.val = InSt.normal)
include st

theorem newState_of_normal : c.newState i deb act g =
    if c.binNs i.val ≠ 0 ∧ c.inProf i.val Reg.FIO_PROF_B_CHAT_N < c.windowEdges i g then InSt.chatter else InSt.normal := by
  have notChatter : InSt.normal ≠ InSt.chatter := by decide
  rw [newState_of_edges intact neverSticks (by rw [st]; decide) (by rw [st]; decide), st]
  simp only [notChatter, false_and, if_false]

theorem newState_chatters (window : c.binNs i.val ≠ 0)
    (many : c.inProf i.val Reg.FIO_PROF_B_CHAT_N < c.windowEdges i g) : c.newState i deb act g = InSt.chatter :=
  (newState_of_normal intact neverSticks st).trans (if_pos ⟨window, many⟩)

theorem newState_stays (few : c.windowEdges i g ≤ c.inProf i.val Reg.FIO_PROF_B_CHAT_N) :
    c.newState i deb act g = InSt.normal :=
  (newState_of_normal intact neverSticks st).trans (if_neg fun ⟨_, many⟩ => Nat.not_lt.2 few many)

end

/-- CHATTER ends below half of CHAT_N. -/
theorem newState_of_chatter (st : c.inState i.val = InSt.chatter)
    (few : c.windowEdges i g ≤ c.inProf i.val Reg.FIO_PROF_B_CHAT_N) : c.newState i deb act g =
      if 2 * c.windowEdges i g < c.inProf i.val Reg.FIO_PROF_B_CHAT_N then InSt.normal else InSt.chatter := by
  rw [newState_of_edges intact neverSticks (by rw [st]; decide) (by rw [st]; decide), st]
  simp only [Nat.not_lt.2 few, and_false, true_and, if_false]

end

/-! Colander (R294 to R297) -/

/-- The slice with an input's debounced level and the instant its active timer restarted. -/
def debounced (c : Slice) (i : Fin 34) (deb : Bool) (act : Nat) : Slice :=
  c.mapIn i fun y => { y with deb := deb, active := act }

/-- The instant up to which the samples of an input have been taken. -/
def sampleGt (c : Slice) (i : Fin 34) : Nat := gridDown (c.sampleNs i.val) c.gt

section
variable {act : Nat} (st : c.inState i.val = InSt.normal) (done : c.runDone i (sampleGt c i))
  (differs : c.fio.ins[i].raw ≠ c.fio.ins[i].deb)
  (timer : (if c.fio.ins[i].raw then c.runGt i else c.fio.ins[i].active) = act)
  (stays : c.newState i c.fio.ins[i].raw act (sampleGt c i) = InSt.normal)
include st done differs timer stays

/-- A change of level that has lasted F samples, of an input that stays in its normal state. -/
theorem colander_changed : c.colander i =
    (if c.stamps i.val then (debounced c i c.fio.ins[i].raw act).stampEdge i.val c.fio.ins[i].raw c.fio.ins[i].first
      else debounced c i c.fio.ins[i].raw act).setVal i.val c.fio.ins[i].raw := by
  subst timer
  unfold sampleGt at done stays
  have notBroken : InSt.normal ≠ InSt.wireBreak := by decide
  have notStuck : InSt.normal ≠ InSt.stuck := by decide
  have notChatter : InSt.normal ≠ InSt.chatter := by decide
  simp only [Slice.colander, done, bne_iff_ne.2 differs, Bool.and_self, Bool.true_and, if_true, stays, st, notBroken, notStuck,
    notChatter, decide_true, decide_false, Bool.or_self, Bool.and_false, Bool.false_eq_true, if_false]
  rfl

theorem colander_changed_stamped (stamps : c.stamps i.val) : c.colander i =
    ((debounced c i c.fio.ins[i].raw act).stampEdge i.val c.fio.ins[i].raw c.fio.ins[i].first).setVal i.val
      c.fio.ins[i].raw := by
  rw [colander_changed st done differs timer stays, if_pos stamps]

theorem colander_changed_unstamped (plain : c.stamps i.val = false) :
    c.colander i = (debounced c i c.fio.ins[i].raw act).setVal i.val c.fio.ins[i].raw := by
  rw [colander_changed st done differs timer stays, if_neg (Bool.eq_false_iff.1 plain)]

end

section
variable {new : Nat} (waits : c.runDone i (sampleGt c i) = false)
  (next : c.newState i c.fio.ins[i].deb c.fio.ins[i].active (sampleGt c i) = new)
include waits next

/-- Without a change of level an input stays as it is, or enters a state with that state's value. -/
theorem colander_waits (notLeft : new = InSt.normal → c.inState i.val ≠ InSt.wireBreak ∧ c.inState i.val ≠ InSt.stuck) :
    c.colander i =
      let b := debounced c i c.fio.ins[i].deb c.fio.ins[i].active
      let value := if new = InSt.wireBreak ∨ new = InSt.stuck then c.safeVal i.val
        else if new = InSt.chatter then c.input i.val else c.fio.ins[i].deb
      if new = c.inState i.val then b.setVal i.val value else b.inTo i.val new value := by
  have left : (decide (new = InSt.normal) &&
      (decide (c.inState i.val = InSt.wireBreak) || decide (c.inState i.val = InSt.stuck))) = false := by
    by_cases normal : new = InSt.normal
    · obtain ⟨notBroken, notStuck⟩ := notLeft normal
      simp only [notBroken, notStuck, decide_false, Bool.or_self, Bool.and_false]
    · simp only [normal, decide_false, Bool.false_and]
  subst next
  unfold sampleGt at *
  simp only [Slice.colander, waits, Bool.false_and, Bool.false_eq_true, if_false, left, Bool.or_eq_true, decide_eq_true_eq]
  rfl

theorem colander_rests (same : new = c.inState i.val) (normal : new = InSt.normal) :
    c.colander i = (debounced c i c.fio.ins[i].deb c.fio.ins[i].active).setVal i.val c.fio.ins[i].deb := by
  have st := same.symm.trans normal
  rw [colander_waits waits next fun _ => by rw [st]; decide]
  simp only [← same, normal, if_true]
  rfl

/-- Leaving STUCK or WIREBREAK takes the raw level over and restarts the active timer. -/
theorem colander_returns (st : c.inState i.val = InSt.stuck ∨ c.inState i.val = InSt.wireBreak) (normal : new = InSt.normal) :
    c.colander i = (debounced c i c.fio.ins[i].raw (sampleGt c i)).inTo i.val new c.fio.ins[i].raw := by
  have changes : InSt.normal ≠ c.inState i.val := by obtain st | st := st <;> rw [st] <;> decide
  have left : (decide (c.inState i.val = InSt.wireBreak) || decide (c.inState i.val = InSt.stuck)) = true := by
    rw [Bool.or_eq_true, decide_eq_true_eq, decide_eq_true_eq]; exact st.symm
  subst normal
  unfold sampleGt at *
  simp only [Slice.colander, waits, Bool.false_and, Bool.false_eq_true, if_false, next, changes, left, decide_true, Bool.and_self,
    if_true]
  rfl

variable (changes : new ≠ c.inState i.val)
include changes

theorem colander_enters_safe (safe : new = InSt.stuck ∨ new = InSt.wireBreak) : c.colander i =
    (debounced c i c.fio.ins[i].deb c.fio.ins[i].active).inTo i.val new (c.safeVal i.val) := by
  rw [colander_waits waits next fun normal => by obtain rfl | rfl := safe <;> exact absurd normal (by decide)]
  simp only [changes, safe.symm, if_true, if_false]

theorem colander_enters_chatter (chatters : new = InSt.chatter) : c.colander i =
    (debounced c i c.fio.ins[i].deb c.fio.ins[i].active).inTo i.val new (c.input i.val) := by
  subst chatters
  rw [colander_waits waits next fun normal => absurd normal (by decide)]
  simp only [changes, if_false]
  rfl

end

/-! Commands: samples of an input, and of a feedback (R306); the overflow reported once (R298) -/

theorem sampled_input {k f : Nat} (input : i.val < 32) : c.sampled i k f = (c.takeSamples i k f).colander i := if_pos input

theorem sampled_feedback {k f : Nat} (feedback : 32 ≤ i.val) : c.sampled i k f = (c.takeSamples i k f).sfbRead i :=
  if_neg (Nat.not_lt.2 feedback)

theorem edgeOverflow_due (lost : c.fio.lost ≠ 0) (drained : c.fio.edges.length ≤ 64) : c.edgeOverflow =
    (c.evt .edgeOverflow 4 [pU 16 4 c.fio.lost]).mapFio fun x => { x with lost := 0 } :=
  if_pos (by simp only [bne_iff_ne.2 lost, drained, decide_true, Bool.and_self])

theorem edgeOverflow_none (quiet : c.fio.lost = 0 ∨ 64 < c.fio.edges.length) : c.edgeOverflow = c := by
  refine if_neg fun due => ?_
  obtain ⟨lost, drained⟩ := by simpa only [Bool.and_eq_true, bne_iff_ne, decide_eq_true_eq] using due
  exact quiet.elim lost (Nat.not_lt.2 drained)

end

/-- Settles O45: the samples field by field, the state an input takes by the state it has, Colander by whether a change of level
is due, each command by the rule of its operation. -/
theorem sliceInputs : Obligations.SliceInputs := by
  refine ⟨?samples, ?states, ?colander, ?commands⟩
  case samples =>
    intro c i k f p x y
    refine ⟨takeSamples_unseen, fun seen => ?_⟩
    have lvl : y.lvl = levelOf k x.lvl := takeSamples_lvl seen
    have first : y.first = if y.raw ≠ x.raw then gridUp p f else x.first := takeSamples_first seen
    exact ⟨fun high => lvl.trans (levelOf_high high _), fun low => lvl.trans (levelOf_low low _),
      fun above below => lvl.trans (levelOf_between above below _), takeSamples_raw seen,
      fun edge => first.trans (if_pos edge), fun none => first.trans (if_neg (not_not_intro none)), takeSamples_deb seen⟩
  case states =>
    intro c i deb act g x st new stuck lim
    refine ⟨newState_broken, fun intact => ⟨fun broken => ?_, fun stuck => ?_, newState_sticks intact,
      fun normal never => ⟨fun ⟨window, many⟩ => newState_chatters intact never normal window many,
        newState_stays intact never normal⟩, fun chatter never few => newState_of_chatter intact never chatter few⟩⟩
    · exact broken ▸ newState_of_wireBreak intact broken
    · exact stuck ▸ newState_of_stuck intact stuck
  case colander =>
    intro a i g x st act
    exact ⟨fun normal done differs stays => ⟨colander_changed_stamped normal done differs rfl stays,
        colander_changed_unstamped normal done differs rfl stays⟩,
      fun waits new next => ⟨colander_rests waits next, colander_enters_safe waits next,
        colander_enters_chatter waits next, colander_returns waits next⟩⟩
  case commands =>
    intro s n k f t c
    refine ⟨fun i input => sliceRuns_of_slice (f := (·.sampled i k f)) rfl (sampled_input input),
      fun i feedback => sliceRuns_of_slice (f := (·.sampled i k f)) rfl (sampled_feedback feedback), fun i => ?_,
      fun lost drained => sliceRuns_of_slice (f := (·.edgeOverflow)) rfl (edgeOverflow_due lost drained),
      fun quiet => sliceRuns_of_slice (f := (·.edgeOverflow)) rfl (edgeOverflow_none quiet)⟩
    intro j
    have samples : c.sampled j k f = (c.takeSamples j k f).colander j := sampled_input i.isLt
    exact ⟨sliceRuns_of_slice (f := (·.colander j)) rfl rfl, sliceRuns_of_slice (f := (·.sampled j k f)) rfl samples,
      sliceRuns_of_slice (f := (·.sampled j k f)) rfl samples, sliceRuns_of_slice (f := (·.sampled j k f)) rfl samples⟩

end Sys2Proof.Proofs
end

section
/-! PROOFS. Field outputs of a slice: the end of a pulse, what latches a stage, loads, the supply, the SAFE stages, the probe
(R299 to R308). -/

namespace Sys2Proof.Proofs

open Sys2Proof Sys2Proof.Machine Sys2Proof.Safety

section
variable {c : Slice} {i : Fin 16}

/-! The end of a pulse (R300) -/

/-- The slice without the pulses of a unit that are over. -/
def withoutEnded (c : Slice) (i : Nat) : Slice :=
  c.mapFio fun x => { x with pulses := x.pulses.filter fun p => !(bit (c.unit i) p.1 && decide (p.2.2 ≤ c.gt)) }

theorem pulseEnd_one {k o e : Nat} {v : Bool} (only : (c.fio.pulses.filter fun p => bit (c.unit k) p.1) = [(o, v, e)])
    (past : e ≤ c.gt) : c.pulseEnd k = (withoutEnded c k).setAction (2 ^ o) (if v then 2 ^ o else 0) := by
  have ended : (c.fio.pulses.filter fun p => bit (c.unit k) p.1 && decide (p.2.2 ≤ c.gt)) = [(o, v, e)] := by
    simp only [Bool.and_comm (bit _ _), ← List.filter_filter, only, List.filter_cons, past, decide_true, if_true,
      List.filter_nil]
  simp only [Slice.pulseEnd, ended, List.foldl_cons, List.foldl_nil]
  rfl

/-! What latches a stage (R301, R303) -/

theorem outLatch_overload {g : Nat} (demanded : bit c.demand i.val) (supplied : c.fio.vsOff = false)
    (lasts : c.outFor i g 10) : c.outLatch i none g =
      let b := c.mapFio fun x => { x with latch := x.latch ||| c.unit i.val, trip := x.trip ||| 2 ^ i.val }
      if c.fio.latch &&& c.unit i.val = 0 then b.inc Reg.FIO_CNT_LATCH else b := by
  simp only [Slice.outLatch, demanded, supplied, lasts, Bool.not_false, Bool.and_self, if_true]

theorem outLatch_brief {g : Nat} (brief : c.outFor i g 10 = false) : c.outLatch i none g = c := by
  simp only [Slice.outLatch, brief, Bool.and_false, Bool.false_eq_true, if_false]

/-- The bits of a union over the members of a list. -/
theorem bit_foldl_or (f : Nat → Nat) (p : Nat → Bool) (l : List Nat) (a k : Nat) :
    bit (l.foldl (fun a j => if p j then a ||| f j else a) a) k ↔ bit a k ∨ ∃ j ∈ l, p j ∧ bit (f j) k := by
  induction l generalizing a with
  | nil => simp only [List.foldl_nil, List.not_mem_nil, false_and, exists_false, or_false]
  | cons j l ih =>
    rw [List.foldl_cons, ih, List.exists_mem_cons_iff, ← or_assoc]
    refine or_congr_left ?_
    by_cases takes : p j
    · simp only [takes, if_true, true_and, bit, Nat.testBit_or, Bool.or_eq_true]
    · simp only [takes, Bool.false_eq_true, if_false, false_and, or_false]

/-- An output stands in its own unit. -/
theorem bit_unit_self (c : Slice) (k : Nat) : bit (c.unit k) k := by
  unfold Slice.unit
  split
  · have even := Nat.div_mul_le_self k 2
    have odd : k - k / 2 * 2 = 0 ∨ k - k / 2 * 2 = 1 := by omega
    rw [bit, Nat.testBit_mul_two_pow, decide_eq_true even, Bool.true_and]
    obtain odd | odd := odd <;> rw [odd] <;> decide
  · exact Nat.testBit_two_pow_self

theorem bit_units (c : Slice) {m : Nat} (i : Fin 16) (set : bit m i.val) : bit (c.units m) i.val :=
  (bit_foldl_or ..).2 (.inr ⟨i.val, List.mem_range.2 i.isLt, set, bit_unit_self c i.val⟩)

/-- The demand reads the action values, the settings, the doors and the overload. -/
theorem demand_congr {x : Slice} (action : x.rd Reg.FIO_OUT_CMD_ACTION = c.rd Reg.FIO_OUT_CMD_ACTION) (cfg : x.cfg = c.cfg)
    (doors : x.doors = c.doors) (ovl : x.lse.ovl = c.lse.ovl) : x.demand = c.demand := by
  have set (f : Nat → RF) : x.set f = c.set f := Slice.set_of_cfg cfg f
  simp only [Slice.demand, Slice.roles, Slice.units, Slice.unit, Slice.dset, set, action, doors, ovl]
  rfl

/-- A stage in thermal shutdown with demand latches its unit, by what `c` says of demand, supply and temperatures. -/
theorem heatRule_latch {x : Slice} (cfg : x.cfg = c.cfg) (demand : x.demand = c.demand) (supply : x.fio.vsOff = c.fio.vsOff)
    (heat : x.fio.heat = c.fio.heat) : x.heatRule.fio.latch =
      x.fio.latch ||| c.units (if c.fio.vsOff then 0 else c.demand &&& c.fio.heat) := by
  have set (f : Nat → RF) : x.set f = c.set f := Slice.set_of_cfg cfg f
  simp only [Slice.heatRule, Slice.wr_fio, Slice.mapFio_fio, Slice.units, Slice.unit, set, demand, supply, heat]

/-- The common fault latches nothing. -/
theorem faultRule_latch (c : Slice) : c.faultRule.fio.latch = c.fio.latch := by
  simp only [Slice.faultRule]
  split
  · simp only [Slice.evt_fio, Slice.mapFio_fio, Slice.inc_fio, Slice.wr_fio]
  · split
    · simp only [Slice.evt_fio, Slice.wr_fio]
    · rfl

/-- A happening ends the latches without demand and latches the units with a stage in thermal shutdown that has one. -/
theorem settle_latch (c : Slice) : c.settle.fio.latch =
    (c.fio.latch &&& c.demand) ||| c.units (if c.fio.vsOff then 0 else c.demand &&& c.fio.heat) := by
  refine (faultRule_latch _).trans (heatRule_latch (c := c) rfl ?_ rfl rfl)
  exact demand_congr (Slice.rd_wr_ne _ _ _ _ (by decide)) rfl rfl rfl

theorem stageTemp_heat_hot {x : Int} (hot : 165 < x) : bit (c.stageTemp i x).fio.heat i.val := by
  simp only [Slice.stageTemp, Slice.mapFio_fio, bit_setBit_same, hot, decide_true, Bool.true_or]

theorem stageTemp_heat_cool {x : Int} (cool : x ≤ 150) : bit (c.stageTemp i x).fio.heat i.val = false := by
  have notHot : ¬165 < x := by omega
  simp only [Slice.stageTemp, Slice.mapFio_fio, bit_setBit_same, notHot, Int.not_lt.2 cool, decide_false, Bool.and_false,
    Bool.or_self]

/-- A stage in thermal shutdown latches as soon as it has demand (R303). -/
theorem settle_latch_hot (demanded : bit c.demand i.val) (supplied : c.fio.vsOff = false) (hot : bit c.fio.heat i.val) :
    bit c.settle.fio.latch i.val := by
  have both : bit (c.demand &&& c.fio.heat) i.val := by
    rw [bit, Nat.testBit_and, Bool.and_eq_true]; exact ⟨demanded, hot⟩
  rw [settle_latch, supplied, if_neg Bool.false_ne_true, bit, Nat.testBit_or, Bool.or_eq_true]
  exact .inr (bit_units c i both)

/-! The supply (R303, R307) -/

theorem seeVs_inOperation {mv : Nat} (operates : 13500 ≤ mv) : c.seeVs mv = c.measureVs mv := if_neg (Nat.not_lt.2 operates)

/-! A SAFE stage that disagrees (R306) -/

section
variable {d : Fin 2} {why : Fin 3} {g : Nat}

theorem stageMismatch_bad (bad : c.stageBad why g) : c.stageMismatch d why g =
    (c.flag (if d = 0 then Reg.FIO_SAFE_STAT_MISM_A else Reg.FIO_SAFE_STAT_MISM_B) true).safeDrop 3 := if_pos bad

theorem stageMismatch_agrees (agrees : c.stageBad why g = false) : c.stageMismatch d why g = c :=
  if_neg (Bool.eq_false_iff.1 agrees)

end

/-! The end of a probe step (R308) -/

/-- The channels in fault are told by no flag but those of the SAFE stages. -/
theorem faults_flag (c : Slice) {f : Nat → RF} (b : Bool) (notA : (Reg.FIO_SAFE_STAT_MISM_A 0).key ≠ (f 0).key)
    (notB : (Reg.FIO_SAFE_STAT_MISM_B 0).key ≠ (f 0).key) : (c.flag f b).faults = c.faults := by
  have set (g : Nat → RF) : (c.wr f (b2n b)).set g = c.set g := Slice.set_of_cfg rfl g
  simp only [Slice.faults, Slice.flag, Slice.wr_fio, set, Slice.rd_wr_ne _ _ _ _ notA, Slice.rd_wr_ne _ _ _ _ notB]

/-- The slice with its probe idle again. -/
def probeIdle (c : Slice) : Slice := (c.flag Reg.FIO_STAT_PROBE false).flag Reg.FIO_PROBE_DONE true

theorem probeIdle_faults (c : Slice) : (probeIdle c).faults = c.faults :=
  (faults_flag _ _ (by decide) (by decide)).trans (faults_flag _ _ (by decide) (by decide))

theorem probeIdle_channel (c : Slice) : (probeIdle c).rd Reg.FIO_PROBE_CHANNEL = c.rd Reg.FIO_PROBE_CHANNEL :=
  (Slice.rd_wr_ne _ _ _ _ (by decide)).trans (Slice.rd_wr_ne _ _ _ _ (by decide))

theorem probeDone_due (probing : c.rd Reg.FIO_STAT_PROBE = 1)
    (due : c.fio.probeGt + probeNs (c.rd Reg.FIO_PROBE_STEP) ≤ c.gt) : c.probeDone =
      (probeIdle c).flag Reg.FIO_PROBE_RESULT (!bit (probeIdle c).faults ((probeIdle c).rd Reg.FIO_PROBE_CHANNEL)) := by
  rw [probeIdle_faults, probeIdle_channel]
  exact if_pos (by rw [probing, decide_eq_true due]; rfl)

theorem probeDone_early (early : c.gt < c.fio.probeGt + probeNs (c.rd Reg.FIO_PROBE_STEP)) : c.probeDone = c := by
  simp only [Slice.probeDone, Nat.not_le.2 early, decide_false, Bool.and_false, Bool.false_eq_true, if_false]

end

/-- Settles O46: each command by the rule of its operation; a stage that is too hot latches as the outputs settle. -/
theorem sliceOutputs : Obligations.SliceOutputs := by
  intro s n t c
  refine ⟨?pulse, ?overload, ?brief, ?temperature, ?openLoad, ?shortToSupply, ?hold, ?supply, ?stage, ?probe, ?warning,
    ?probeWrite⟩
  case pulse =>
    exact fun i o e v only past => sliceRuns_of_slice (f := (·.pulseEnd i.val)) rfl (pulseEnd_one only past)
  case overload =>
    exact fun i g demanded supplied lasts => sliceRuns_of_slice (f := (·.outLatch i none g)) rfl
      (outLatch_overload demanded supplied lasts)
  case brief => exact fun i g brief => sliceRuns_of_slice (f := (·.outLatch i none g)) rfl (outLatch_brief brief)
  case temperature =>
    exact fun i x g => ⟨sliceRuns_of_slice (f := (·.outLatch i (some x) g)) rfl rfl,
      fun hot demanded supplied => settle_latch_hot demanded supplied (stageTemp_heat_hot hot), stageTemp_heat_cool⟩
  case openLoad => exact fun i x g => sliceRuns_of_slice (f := (·.loadFault i false x g)) rfl rfl
  case shortToSupply => exact fun i x g => sliceRuns_of_slice (f := (·.loadFault i true x g)) rfl rfl
  case hold => exact sliceRuns_of_slice (f := fun c => c) rfl rfl
  case supply =>
    intro mv operates ok b
    have measured : c.seeVs mv = b := seeVs_inOperation operates
    exact ⟨sliceRuns_of_slice (f := (·.seeVs mv)) rfl measured, sliceRuns_of_slice (f := (·.seeVs mv)) rfl measured,
      sliceRuns_of_slice (f := (·.seeVs mv)) rfl measured⟩
  case stage =>
    exact fun d why g => ⟨fun bad => sliceRuns_of_slice (f := (·.stageMismatch d why g)) rfl (stageMismatch_bad bad),
      fun agrees => sliceRuns_of_slice (f := (·.stageMismatch d why g)) rfl (stageMismatch_agrees agrees)⟩
  case probe =>
    exact fun probing => ⟨fun due => sliceRuns_of_slice (f := (·.probeDone)) rfl (probeDone_due probing due),
      fun early => sliceRuns_of_slice (f := (·.probeDone)) rfl (probeDone_early early)⟩
  case warning => exact fun x => sliceRuns_of_slice (f := (·.outTemp x)) rfl rfl
  case probeWrite =>
    exact fun v step channel own => becomes_of_run (f := (·.probeWr n v.toNat)) rfl
      ((probeWr_of_valid step channel).trans (slnWrite_held _ own))

end Sys2Proof.Proofs
end

section
/-! PROOFS. The queue and OTP: a step takes one command from the queue, and what OTP holds only grows (R483, R439). -/

namespace Sys2Proof.Safety

open Sys2Proof.Machine

/-! `Grown` is an order, and each write to OTP goes upward in it -/

theorem Grown.refl (o : Otp) : Grown o o :=
  ⟨⟨rfl, rfl, rfl, rfl, rfl⟩, fun _ _ h => h, fun _ h => h, fun _ h => h, id, fun _ => ⟨rfl, rfl⟩, List.prefix_rfl⟩

/-- The identity item is programmed or unusable. -/
theorem identDone_iff (o : Otp) : o.done 0 ↔ bit o.spoiled 0 ∨ o.ssvid ≠ 0 ∨ o.ssid ≠ 0 := by simp [Otp.done]

theorem Grown.ident_done {o p : Otp} (h : Grown o p) (done : o.done 0) : p.done 0 := by
  obtain ⟨ssid, ssvid⟩ := h.ident done
  rw [identDone_iff, ssid, ssvid]
  exact ((identDone_iff o).1 done).imp_left (h.spoiled 0)

theorem Grown.trans {o p r : Otp} (h : Grown o p) (k : Grown p r) : Grown o r where
  maker := by
    obtain ⟨h1, h2, h3, h4, h5⟩ := h.maker
    obtain ⟨k1, k2, k3, k4, k5⟩ := k.maker
    exact ⟨k1.trans h1, k2.trans h2, k3.trans h3, k4.trans h4, k5.trans h5⟩
  slot i x e := k.slot i x (h.slot i x e)
  revoked i e := k.revoked i (h.revoked i e)
  spoiled i e := k.spoiled i (h.spoiled i e)
  imgReq e := k.imgReq (h.imgReq e)
  ident done := by
    obtain ⟨h1, h2⟩ := h.ident done
    obtain ⟨k1, k2⟩ := k.ident (h.ident_done done)
    exact ⟨k1.trans h1, k2.trans h2⟩
  hard := h.hard.trans k.hard

/-- A bit set leaves every set bit set. -/
theorem bit_setBit_true {v i k : Nat} (h : bit v k) : bit (setBit v i true) k := by
  simp only [bit, setBit, if_true, Nat.testBit_or, Bool.or_eq_true]
  exact .inl h

/-- A failed programming marks an item unusable and changes nothing else. -/
theorem grown_spoil (o : Otp) (item : Nat) : Grown o { o with spoiled := setBit o.spoiled item true } :=
  { Grown.refl o with spoiled := fun _ => bit_setBit_true }

/-- A hard repair adds its entries behind those that stand. -/
theorem grown_hard (o : Otp) (l : List HardEnt) : Grown o { o with hard := o.hard ++ l } :=
  { Grown.refl o with hard := List.prefix_append _ _ }

/-- A key slot takes a hash only while it is free. -/
theorem grown_slot (o : Otp) {j : Fin 4} (free : o.slot[j] = none) (data : List Byte) :
    Grown o { o with slot := o.slot.set j (some data) } :=
  { Grown.refl o with
    slot := fun k h e => by
      have other : j.val ≠ k.val := fun same => by
        rw [← Fin.ext same, free] at e
        exact absurd e (Option.some_ne_none h).symm
      simpa [other] using e }

/-- An item written by its number: an item that is done takes no second write (R484). -/
theorem grown_program (o : Otp) (item : Nat) (data : List Byte) : Grown o (o.program item data) := by
  unfold Otp.program
  split
  case isTrue => exact Grown.refl o
  case isFalse notDone =>
    split
    case isTrue identity =>
      subst identity
      exact { Grown.refl o with ident := fun done => absurd done notDone }
    case isFalse notIdentity =>
      split
      case isTrue key =>
        have sound : bit o.spoiled item = false ∧ o.slot[Fin.ofNat 4 (item - 1)] = none := by
          simpa [Otp.done, notIdentity, key] using notDone
        exact grown_slot o sound.2 data
      case isFalse =>
        split
        · exact { Grown.refl o with revoked := fun _ => bit_setBit_true }
        · exact { Grown.refl o with imgReq := fun _ => rfl }

end Sys2Proof.Safety

namespace Sys2Proof.Proofs

open Sys2Proof Sys2Proof.Machine Sys2Proof.Safety

/-! What the commands that write OTP make of it -/

theorem grown_otpDone (good : Bool) (s : State) : Grown s.otp (otpDone good s).otp := by
  unfold otpDone
  split
  · exact Grown.refl _
  · cases good
    · exact grown_spoil _ _
    · exact grown_program _ _ _

theorem grown_fetchEntry (q : Fin 32) (s : State) (f : Fetched) : Grown s.otp (fetchEntry q s f).otp := by
  simp only [fetchEntry]
  split
  · exact Grown.refl _
  · simp only [Dev.hardOf]
    split
    · exact grown_hard _ _
    · exact Grown.refl _

/-- The entries of a read, one by one. -/
theorem grown_fetchFold {o : Otp} (q : Fin 32) (l : List Fetched) {s : State} (grown : Grown o s.otp) :
    Grown o (l.foldl (fetchEntry q) s).otp := by
  induction l generalizing s with
  | nil => exact grown
  | cons f l ih => exact ih (grown.trans (grown_fetchEntry q s f))

theorem grown_fetchRead (r : Fetch) (l : List Fetched) (s : State) : Grown s.otp (fetchRead r l s).otp := by
  simp only [fetchRead, fetchTake]
  refine grown_fetchFold _ _ ?_
  exact Grown.refl s.otp

theorem grown_sqFetch (l : List Fetched) (s : State) : Grown s.otp (sqFetch l s).otp := by
  unfold sqFetch
  split
  case h_1 r d pick => exact grown_fetchRead r l { s with dev := d }
  case h_2 => exact Grown.refl _

theorem grown_readError (q : Fin 32) (e : DmaErr) (l : List Fetched) (again : Bool) (s : State) :
    Grown s.otp (readError q e l again s).otp := by
  simp only [readError]
  split
  case h_1 r d pick =>
    split
    · exact Grown.refl _
    · split
      · exact Grown.refl _
      · exact grown_fetchRead r (l.take (r.ents - 1)) { s with dev := d.askFetch r }
  case h_2 => exact Grown.refl _

theorem sliceFire_pending {s t : State} {n : Fin 16} {a : Nat} {f : Slice → Slice} (h : s.sliceFire n a f = .next t) :
    t.pending = s.pending := by
  simp only [State.sliceFire] at h
  split at h <;> cases h <;> rfl

/-- A command leaves the queue behind it alone, and OTP at least as full. -/
theorem exec_keeps {c : Instr} {s t : State} (h : exec c s = .next t) : t.pending = s.pending ∧ Grown s.otp t.otp := by
  cases c
  case sqFetch l =>
    cases h
    exact ⟨sqFetch_pending l s, grown_sqFetch l s⟩
  case dmaReadError q e l again =>
    cases h
    exact ⟨readError_pending q e l again s, grown_readError q e l again s⟩
  case otpProgramDone good =>
    cases h
    exact ⟨otpDone_pending good s, grown_otpDone good s⟩
  case repairHard q b bad =>
    cases h
    exact ⟨rfl, grown_hard _ _⟩
  case indexPulse n e x a =>
    cases h
    exact ⟨indexPulse_pending n e x a s, by rw [indexPulse_otp]; exact Grown.refl _⟩
  case recordResend n up p =>
    cases h
    exact ⟨recordResend_pending n up p s, by rw [recordResend_otp]; exact Grown.refl _⟩
  case sliceActionFire n a =>
    obtain ⟨otp, -⟩ := sliceFire_next (f := Slice.fireDue) h
    exact ⟨sliceFire_pending (f := Slice.fireDue) h, by rw [otp]; exact Grown.refl _⟩
  case heleaFrameStart n p a =>
    obtain ⟨otp, -⟩ := sliceFire_next (f := fun c => c.helStart p) h
    exact ⟨sliceFire_pending (f := fun c => c.helStart p) h, by rw [otp]; exact Grown.refl _⟩
  case slicePowerUp n b cur mv a =>
    unfold exec execSlicePowerUp at h
    cases h
    exact ⟨rfl, Grown.refl _⟩
  all_goals
    cases h
    exact ⟨rfl, Grown.refl _⟩

theorem step_front {c : Instr} {q : List Instr} {s : State} (front : s.pending = c :: q) :
    step s = exec c { s with pending := q } := by simp only [step, front]

theorem step_idle {s : State} (empty : s.pending = []) : step s = .next s := by simp only [step, empty]

/-- Settles O1: a step is the command at the front, by the definition of `step`. -/
theorem stepRunsFront : Obligations.StepRunsFront := fun _ _ _ front => step_front front

/-- Settles O2: no command touches the queue behind it. -/
theorem queueFirstInFirstOut : Obligations.QueueFirstInFirstOut := by
  refine ⟨fun c q s t front h => ?_, fun s empty => step_idle empty⟩
  rw [step_front front] at h
  exact (exec_keeps h).1

/-- Settles O4: every command keeps what OTP holds, and `Grown` is transitive. -/
theorem otpIsOneTime : Obligations.OtpIsOneTime := by
  intro o s t grown h
  cases front : s.pending with
  | nil =>
    rw [step_idle front] at h
    cases h
    exact grown
  | cons c q =>
    rw [step_front front] at h
    exact grown.trans (exec_keeps h).2

end Sys2Proof.Proofs
end

section
/-! PROOFS. Records offered to the Logbook, and its stores, freezes and flushes (R403 to R416). -/

namespace Sys2Proof.Proofs

open Sys2Proof Sys2Proof.Machine Sys2Proof.Safety

/-! A record offered (R403, R405, R411) -/

section
variable {d : Dev} {r : Rec}

theorem record_below (below : r.sev < d.rd Reg.LOG_CTRL_MIN_SEV) : d.record r = d := if_pos below

@[simp] theorem logReserve_log (d : Dev) : d.logReserve.log = d.log := by
  unfold Dev.logReserve
  split <;> rfl

/-- A record as staging takes it. -/
def stagedRec (d : Dev) (r : Rec) : Rec :=
  { r with seq := d.log.seq, pinned := decide (r.sev = 7) && decide (d.logP.pins < 1024) }

theorem record_taken_log (above : d.rd Reg.LOG_CTRL_MIN_SEV ≤ r.sev) (quiet : d.log.flushing = false)
    (room : d.log.staging.length < 4096) :
    (d.record r).log = { d.log with staging := d.log.staging ++ [stagedRec d r], seq := d.log.seq + 1 } := by
  have taken : ((d.log.flushing && decide (r.sev ≤ 5)) || decide (4096 ≤ d.log.staging.length)) = false := by
    simp [quiet, room]
  rw [Dev.record, if_neg (Nat.not_lt.2 above), if_neg (Bool.eq_false_iff.1 taken), logReserve_log]
  rfl

end

/-! What posting an event leaves of the Logbook -/

@[simp] theorem wakeReason_log (d : Dev) (e : Nat) : (d.wakeReason e).log = d.log := by
  unfold Dev.wakeReason
  split <;> rfl

theorem eqWrite_log (d : Dev) (e : Nat) (v : Evt) : (d.eqWrite e v).log = d.log := by
  simp only [Dev.eqWrite]
  generalize (if _ = 0 then _ else _ : Nat) = phase
  split <;> rfl

theorem eqPost_log (d : Dev) (e : Nat) (v : Evt) : (d.eqPost e v).log = d.log := by
  unfold Dev.eqPost
  split
  case isTrue => rfl
  case isFalse =>
    split
    case isTrue =>
      dsimp only
      split <;> split <;> simp
    case isFalse =>
      split
      · rfl
      · exact eqWrite_log d e v

theorem steer_log (d : Dev) (v : Evt) : (d.steer v).log = d.log := by
  unfold Dev.steer
  split
  · exact eqPost_log ..
  · rfl

/-- The record of an event: its code and severity, its GT and its count. -/
def evtRec (d : Dev) (v : Evt) (ext : List Part) : Rec :=
  { d.mkRec v.code v.sev v.src v.tclass v.tindex [] with gt := v.gt, eseq := v.eseq, pay := v.pay ++ layout 42 14 ext }

/-- An event changes the Logbook as its record does. -/
theorem raiseSev_log (d : Dev) (e : Ev) (sev u : Nat) (pay ext : List Part) :
    let v := d.mkEvt e sev u pay
    (d.raiseSev e sev u pay ext).log = ((d.countEvt v).record (evtRec (d.countEvt v) v ext)).log := steer_log _ _

/-- Settles O53: by the record's severity and the room, and an event by its record. -/
theorem recordsOffered : Obligations.RecordsOffered := by
  refine ⟨fun d r below => record_below below, fun d r high minimum quiet room => ?_, fun d e u pay => ?_⟩
  · have log := record_taken_log (minimum.trans (by omega : 3 ≤ r.sev)) quiet room
    exact ⟨stagedRec d r, by rw [log], rfl, rfl, rfl, rfl, by rw [log], by rw [log]⟩
  · exact ⟨evtRec (d.countEvt (d.mkEvt e e.sev u pay)) (d.mkEvt e e.sev u pay) [], rfl, rfl,
      raiseSev_log d e e.sev u pay []⟩

/-! RING_WRITE (R408, R413) -/

section
variable {d : Dev} {r : Rec} {l : List Rec}

/-- The controller once the next staged record is taken. -/
def unstaged (d : Dev) (l : List Rec) : Dev := d.mapLog fun x => { x with staging := l }

variable (staged : d.log.staging = r :: l)
include staged

theorem ringWrite_ring (thawed : d.log.freeze = none) (ready : d.on Reg.LOG_STAT_READY) :
    d.ringWrite = (unstaged d l).ringPut r := by
  simp only [Dev.ringWrite, staged, thawed, ready, Option.isSome_none, Bool.false_eq_true, if_false, if_true, unstaged]

variable (frozen : d.log.freeze.isSome)
include frozen

theorem ringWrite_holds (room : d.log.holding.length < 8192) :
    d.ringWrite = (unstaged d l).mapLog fun x => { x with holding := x.holding ++ [r] } := by
  simp only [Dev.ringWrite, staged, frozen, room, if_true, unstaged]

variable (full : 8192 ≤ d.log.holding.length)
include full

theorem ringWrite_drops (low : r.sev < 6) : d.ringWrite = (unstaged d l).logDropped r.sev := by
  simp only [Dev.ringWrite, staged, frozen, Nat.not_lt.2 full, Nat.not_le.2 low, if_true, if_false, unstaged]

/-- A record of S6 or S7 bypasses a full holding queue, and is mirrored at once where it stays. -/
theorem ringWrite_bypasses (high : 6 ≤ r.sev) :
    let y := { r with bypass := true }
    let x := ((unstaged d l).inc Reg.LOG_CNT_BYPASS).ringPut y
    d.ringWrite =
      if x.log.ring.contains y && !r.mirrored && x.on Reg.LOG_STAT_P_READY then x.mirrorRec y false else x := by
  simp only [Dev.ringWrite, staged, frozen, Nat.not_lt.2 full, high, if_true, if_false, unstaged]
  rfl

end

/-! MIRROR_COPY (R408, R415) -/

theorem mirrorCopy_flushes {d : Dev} (todo : d.log.todo ≠ []) : d.mirrorCopy = d.flushNext := by
  simp only [Dev.mirrorCopy, List.isEmpty_eq_false_iff.2 todo, Bool.not_false, if_true]

theorem mirrorCopy_next {d : Dev} {r : Rec} (done : d.log.todo = []) (thawed : d.log.freeze = none)
    (ready : d.on Reg.LOG_STAT_P_READY)
    (next : (d.log.ring.find? fun x => x.unmirrored && decide (d.log.mirPtr ≤ x.seq)) = some r) :
    d.mirrorCopy = (d.mirrorRec r false).mapLog fun x => { x with mirPtr := r.seq + 1 } := by
  simp only [Dev.mirrorCopy, done, thawed, ready, next, List.isEmpty_nil, Option.isSome_none, Bool.not_true, Bool.or_self,
    Bool.false_eq_true, if_false]

/-! The end of a freeze (R412) -/

theorem freezeExpire_due {d : Dev} {f : Freeze} (frozen : d.log.freeze = some f) (due : f.stop ≤ d.gt) :
    d.freezeExpire = d.endFreeze (if f.capped then 2 else 1) := by
  simp only [Dev.freezeExpire, frozen, due, if_true]

theorem freezeExpire_early {d : Dev} {f : Freeze} (frozen : d.log.freeze = some f) (early : d.gt < f.stop) :
    d.freezeExpire = d := by
  simp only [Dev.freezeExpire, frozen, Nat.not_le.2 early, if_false]

/-! Drops reported (R411) -/

/-- The report of one severity (R411). -/
def dropStep (d : Dev) (i : Fin 8) : Dev :=
  let quiet := match d.log.dropGt[i] with
    | some g => decide (g + 1000000000 ≤ d.gt)
    | none => true
  if d.log.drops[i] != 0 && quiet then
    (d.mapLog fun x => { x with drops := x.drops.set i 0, dropGt := x.dropGt.set i (some d.gt) }).raise .logDrop 0
      [pU 16 1 i.val, pU 20 4 d.log.drops[i]]
  else d

theorem dropReport_eq (d : Dev) : d.dropReport = (List.finRange 8).foldl dropStep d := rfl

theorem dropStep_none {d : Dev} {i : Fin 8} (none : d.log.drops[i] = 0) : dropStep d i = d := by
  simp [dropStep, none]

theorem dropStep_first {d : Dev} {i : Fin 8} (dropped : d.log.drops[i] ≠ 0) (first : d.log.dropGt[i] = none) :
    dropStep d i =
      (d.mapLog fun x => { x with drops := x.drops.set i 0, dropGt := x.dropGt.set i (some d.gt) }).raise .logDrop 0
        [pU 16 1 i.val, pU 20 4 d.log.drops[i]] := by
  have reports : (d.log.drops[i] != 0) = true := bne_iff_ne.2 dropped
  simp only [dropStep, reports, first, Bool.and_self, if_true]

/-- With drops of one severity alone, and none reported of it yet, one report is all. -/
theorem dropReport_s7 {d : Dev} {k : Nat} (dropped : 0 < k) (drops : d.log.drops = #v[0, 0, 0, 0, 0, 0, 0, k])
    (first : d.log.dropGt[7] = none) :
    d.dropReport =
      (d.mapLog fun x => { x with drops := x.drops.set 7 0, dropGt := x.dropGt.set 7 (some d.gt) }).raise .logDrop 0
        [pU 16 1 7, pU 20 4 k] := by
  have none : ∀ i : Fin 8, i ≠ 7 → d.log.drops[i] = 0 := by
    rw [drops]
    intro i other
    match i with
    | 0 | 1 | 2 | 3 | 4 | 5 | 6 => rfl
    | 7 => exact absurd rfl other
  have seven : d.log.drops[(7 : Fin 8)] = k := by rw [drops]; rfl
  have order : List.finRange 8 = [0, 1, 2, 3, 4, 5, 6, 7] := by decide
  rw [dropReport_eq, order]
  simp only [List.foldl_cons, List.foldl_nil, dropStep_none, none, ne_eq, Fin.reduceEq, not_false_eq_true]
  rw [dropStep_first (by omega) first, seven]
  rfl

/-! Power failure (R414 to R416) -/

/-- A record copied into the mirror, or dropped there. (The definition is opened as a function: to compare it applied, the
kernel would count the mirror's capacity in unary.) -/
theorem mirrorRec_cases (d : Dev) (r : Rec) (b : Bool) : d.mirrorRec r b = d ∨
    ∃ l, d.mirrorRec r b = (d.mapLogP fun x => { x with mirror := l }).markMirrored r.seq := by
  obtain ⟨f, opened⟩ : ∃ f, f = Dev.mirrorRec := ⟨_, rfl⟩
  rw [← opened]
  delta Dev.mirrorRec at opened
  subst opened
  beta_reduce
  generalize storePut _ _ _ = put
  cases put with
  | none => exact .inl rfl
  | some p => exact .inr ⟨p.1, rfl⟩

/-- A flush under way with `n` records planned, beside the cars and the action store of `s`. -/
structure Flushing (s d : Dev) (n : Nat) : Prop where
  flushing : d.log.flushing
  planned  : d.logP.flush.planned = n
  cars     : d.cars = s.cars
  ladle    : d.ladle = s.ladle

theorem Flushing.mirrorRec {s d : Dev} {n : Nat} (h : Flushing s d n) (r : Rec) (b : Bool) :
    Flushing s (d.mirrorRec r b) n := by
  obtain same | ⟨l, copied⟩ := mirrorRec_cases d r b
  · rw [same]
    exact h
  · rw [copied]
    exact ⟨h.flushing, h.planned, h.cars, h.ladle⟩

theorem Flushing.mark {s d : Dev} {n : Nat} (h : Flushing s d n) (w : Nat) (l : List Nat) :
    Flushing s (d.mapLogP fun x =>
      { x with flush := if l.isEmpty then .done x.flush.planned w else .started x.flush.planned w }) n where
  flushing := h.flushing
  planned := by
    simp only [Dev.mapLogP_logP]
    split <;> exact h.planned
  cars := h.cars
  ladle := h.ladle

/-- The next record of a flush. -/
theorem Flushing.flushNext {s d : Dev} {n : Nat} (h : Flushing s d n) : Flushing s d.flushNext n := by
  unfold Dev.flushNext
  split
  case h_1 => exact h
  case h_2 q l todo =>
    refine Flushing.mark ?_ _ l
    have popped : Flushing s (d.mapLog fun x => { x with todo := l }) n := ⟨h.flushing, h.planned, h.cars, h.ladle⟩
    split
    · exact popped.mirrorRec _ true
    · exact popped

theorem Flushing.steps {s d : Dev} {n : Nat} (h : Flushing s d n) (l : List Nat) :
    Flushing s (l.foldl (fun e _ => e.flushNext) d) n := by
  induction l generalizing d with
  | nil => exact h
  | cons _ l ih => exact ih h.flushNext

section
variable {d : Dev} (enabled : d.on Reg.LOG_CTRL_PF_EN) (idle : d.log.flushing = false)
include enabled idle

theorem pfail_nothing (nothing : d.flushSet = []) : d.pfail =
    ((d.note 0x800C 6 81 0 0 [pU 28 4 0]).mapLog fun x => { x with flushing := true, todo := [] }).mapLogP fun x =>
      { x with flush := .done 0 0 } := by
  simp only [Dev.pfail, enabled, idle, nothing, Bool.not_true, Bool.or_self, Bool.false_eq_true, if_false, List.isEmpty_nil,
    if_true, List.length_nil]
  rfl

/-- A flush that begins: its records are planned, and it goes some way. -/
theorem pfail_flushing (some : d.flushSet ≠ []) : Flushing d d.pfail d.flushSet.length := by
  have quiet := d.note_quiet 0x800C 6 81 0 0 [pU 28 4 d.flushSet.length]
  simp only [Dev.pfail, enabled, idle, List.isEmpty_eq_false_iff.2 some, Bool.not_true, Bool.or_self, Bool.false_eq_true,
    if_false]
  refine Flushing.steps ?_ _
  exact ⟨rfl, rfl, quiet.core.cars, quiet.core.ladle⟩

end

theorem pfailReturn_flushing {d : Dev} (flushing : d.log.flushing) : d.pfailReturn =
    (d.mapLog fun x => { x with flushing := false, todo := [] }).mapLogP fun x =>
      { x with flush := .done x.flush.planned x.flush.written } := if_pos flushing

theorem pfailReturn_idle {d : Dev} (idle : d.log.flushing = false) : d.pfailReturn = d := if_neg (Bool.eq_false_iff.1 idle)

/-- Settles O52: each service by the rule of its operation. -/
theorem logService : Obligations.LogService := by
  refine ⟨fun s r l staged => ?_, fun s todo => ?_, fun s r done thawed ready next => ?_, fun s f frozen => ?_,
    fun s k dropped drops first => ?_, fun s enabled idle => ?_, fun s => ?_⟩
  · exact ⟨fun thawed ready => becomes_of_run rfl (ringWrite_ring staged thawed ready),
      fun frozen room => becomes_of_run rfl (ringWrite_holds staged frozen room),
      fun frozen full low => becomes_of_run rfl (ringWrite_drops staged frozen full low),
      fun frozen full high => becomes_of_run rfl (ringWrite_bypasses staged frozen full high)⟩
  · exact becomes_of_run rfl (mirrorCopy_flushes todo)
  · exact becomes_of_run rfl (mirrorCopy_next done thawed ready next)
  · exact ⟨fun due => becomes_of_run rfl (freezeExpire_due frozen due),
      fun early => becomes_of_run rfl (freezeExpire_early frozen early)⟩
  · exact becomes_of_run rfl (dropReport_s7 dropped drops first)
  · refine ⟨fun nothing => becomes_of_run rfl (pfail_nothing enabled idle nothing), fun some => ⟨_, rfl, ?_⟩⟩
    have flush := pfail_flushing enabled idle some
    exact ⟨flush.flushing, flush.planned, flush.cars, flush.ladle⟩
  · exact ⟨fun flushing => becomes_of_run rfl (pfailReturn_flushing flushing),
      fun idle => becomes_of_run rfl (pfailReturn_idle idle)⟩

end Sys2Proof.Proofs
end

section
/-! PROOFS. The descriptors of the Logbook, and the steps of a clear (R412, R413, R418 to R420). -/

namespace Sys2Proof.Proofs

open Sys2Proof Sys2Proof.Machine Sys2Proof.Safety

/-! LOG_READ, LOG_FREEZE, LOG_THAW -/

section
variable {s : State} {q : Fin 32} {b : List Byte} {d : Dev}

theorem answers_logRead (passes : Passes s 0x70 q b) (fetch : (fetched s 0x70 q b).2 = d) (idle : d.log.clear = none)
    (records : bit (byteAt b 29) 1 = false) (mastering : d.mastering) :
    let src := if bit (byteAt b 29) 0 then sortBy (fun (a b : Rec) => a.seq ≤ b.seq) d.logP.mirror else d.log.ring
    let r := readFrom (byteAt b 28) (leAt b 24 4) (src.filter fun r => leAt b 32 8 ≤ r.seq)
    let next := if r.1.isEmpty then leAt b 32 8 else r.2.getD (leAt b 32 8)
    let bad := src.filter fun x => leAt b 32 8 ≤ x.seq && x.torn && r.2.any fun e => decide (x.seq < e)
    Answers (.logRead q b) s 0x70 q b ((d.incBy Reg.LOG_CNT_CRC bad.length).dmaBlocks (leAt b 16 8) (r.1.map Rec.bytes))
      (AdmRes.readOnly next r.1.length) := by
  subst fetch
  refine answers_of_admit passes rfl ?_
  simp only [idle, records, mastering, Option.isSome_none, Bool.false_eq_true, if_false, if_true]

theorem answers_logFreeze (passes : Passes s 0x71 q b) (fetch : (fetched s 0x71 q b).2 = d) (noClear : d.log.clear = none)
    (noFlush : d.log.flushing = false) (thawed : d.log.freeze = none) :
    let want := d.gt + leAt b 16 2 * 1000000
    let cap := d.gt + 10000000000
    Answers (.logFreeze q b) s 0x71 q b
      ((d.mapLog fun x =>
        { x with freeze := some { start := d.gt, stop := min want cap, capped := decide (cap < want) } }).freezeEvent 0)
      (AdmRes.done 0 0) := by
  subst fetch
  refine answers_of_admit passes rfl ?_
  simp only [noClear, noFlush, thawed, Option.isSome_none, Option.isNone_none, Bool.or_self, Bool.false_eq_true, if_false,
    if_true]

theorem answers_logThaw (passes : Passes s 0x72 q b) :
    Answers (.logThaw q b) s 0x72 q b ((fetched s 0x72 q b).2.endFreeze 1) (AdmRes.done 0 0) :=
  answers_of_admit passes rfl rfl

end

/-! LOG_CLEAR (R419, R421) -/

section
variable {s : State} {q : Fin 32} {b : List Byte} {d : Dev} (passes : Passes s 0x73 q b)
  (fetch : (fetched s 0x73 q b).2 = d) (thawed : d.log.freeze = none) (noFlush : d.log.flushing = false)
  (noClear : d.log.clear = none)
include passes fetch thawed noFlush noClear

/-- What the response to the challenge makes of the controller. -/
def clearAuth (d : Dev) (o : Otp) (b : List Byte) : Bool × Dev :=
  d.checkAuth 1 (leAt b 48 4) o.logKey (d.clearMsg (leAt b 48 4)) (cut b 16 32)

theorem answers_logClear_refused (fails : (clearAuth d s.otp b).1 = false) :
    Answers (.logClear q b) s 0x73 q b (clearAuth d s.otp b).2 (AdmRes.refuse Stat.authFail) := by
  subst fetch
  refine answers_of_admit passes rfl ?_
  simp only [thawed, noFlush, noClear, Option.isSome_none, Bool.or_self, Bool.false_eq_true, if_false]
  exact if_pos (by rw [← clearAuth, fails]; rfl)

theorem becomes_logClear (holds : (clearAuth d s.otp b).1) :
    let x := (clearAuth d s.otp b).2
    Becomes (.logClear q b) s (x.mapLog fun y =>
      { y with clear := some { sq := q.val, dn := (fetched s 0x73 q b).1, num := x.logP.clears + 1, floor := x.log.seq - 1,
                               auth := leAt b 48 4, gt := x.gt, step := 0 } }) := by
  subst fetch
  refine becomes_of_admit passes rfl ?_
  simp only [thawed, noFlush, noClear, Option.isSome_none, Bool.or_self, Bool.false_eq_true, if_false]
  exact if_neg (by rw [← clearAuth, holds]; decide)

end

/-! The steps of a clear (R420) -/

/-- A clear moved on by a step. -/
def clearNext (d : Dev) (c : ClearRun) : Dev :=
  d.mapLog fun x => { x with clear := if c.step < 7 then some { c with step := c.step + 1 } else none }

/-- The write of each step, once the clear has moved on. -/
def clearWrite (c : ClearRun) (d : Dev) : Nat → Dev
  | 0 => d.mapLogP fun x => { x with slotA := c.mark .prepared }
  | 1 => d.mapLogP fun x => { x with slotB := c.mark .prepared }
  | 2 => d.mapLogP fun x => { x with slotA := c.mark .committed }
  | 3 => d.mapLogP fun x => { x with slotB := c.mark .committed }
  | 4 => (d.applyFloor c.floor).mapLogP fun x => { x with clears := c.num, clrFloor := c.floor, clrAuth := c.auth }
  | 5 => d.logCleared c.auth c.floor false
  | 6 => d.mapLogP fun x => { x with slotA := c.mark .done }
  | _ => (d.mapLogP fun x => { x with slotB := c.mark .done }).admSet c.sq c.dn (AdmRes.done 0 0)

theorem clearStep_eq {d : Dev} {c : ClearRun} (runs : d.log.clear = some c) :
    d.clearStep = clearWrite c (clearNext d c) c.step := by
  simp only [Dev.clearStep, runs]
  rfl

theorem record_clear (d : Dev) (r : Rec) : (d.record r).log.clear = d.log.clear := by
  unfold Dev.record
  split
  · rfl
  · split
    · rfl
    · rw [logReserve_log]

theorem mirrorRec_clear (d : Dev) (r : Rec) (b : Bool) : (d.mirrorRec r b).log.clear = d.log.clear := by
  obtain same | ⟨l, copied⟩ := mirrorRec_cases d r b
  · rw [same]
  · rw [copied]; rfl

/-- The LOG_CLEARED record leaves the clear under way. -/
theorem logCleared_clear (d : Dev) (auth floor : Nat) (late : Bool) :
    (d.logCleared auth floor late).log.clear = d.log.clear := by
  have event : (d.raiseSev .logCleared 7 0 [pU 16 4 auth] [pU 42 8 floor, pU 50 1 (b2n late)]).log.clear = d.log.clear := by
    rw [raiseSev_log, record_clear]
    rfl
  unfold Dev.logCleared
  dsimp only
  split
  · split
    · rw [mirrorRec_clear, event]
    · exact event
  · exact event

/-- Every write but the last leaves the clear under way. -/
theorem clearWrite_clear (c : ClearRun) (d : Dev) {k : Nat} (more : k < 7) : (clearWrite c d k).log.clear = d.log.clear := by
  match k with
  | 0 | 1 | 2 | 3 | 4 | 6 => rfl
  | 5 => exact logCleared_clear d c.auth c.floor false

section
variable {d : Dev} {c : ClearRun} (runs : d.log.clear = some c)
include runs

theorem clearStep_goesOn (more : c.step < 7) : d.clearStep.log.clear = some { c with step := c.step + 1 } := by
  rw [clearStep_eq runs, clearWrite_clear c _ more, clearNext, Dev.mapLog_log]
  exact if_pos more

theorem clearStep_commits (third : c.step = 3) : d.clearStep.logP = { d.logP with slotB := c.mark .committed } := by
  rw [clearStep_eq runs, third]
  rfl

/-- The floor applied: what is cleared is shown, and no record at or below the floor is left. -/
theorem clearStep_floor (fourth : c.step = 4) :
    let x := d.clearStep.logP
    x.clears = c.num ∧ x.clrFloor = c.floor ∧ x.clrAuth = c.auth ∧ x.pins = 0 ∧
      ∀ r ∈ x.mirror ++ d.clearStep.log.ring, c.floor < r.seq := by
  rw [clearStep_eq runs, fourth]
  refine ⟨rfl, rfl, rfl, rfl, fun r mem => ?_⟩
  obtain mem | mem := List.mem_append.1 mem
  · exact of_decide_eq_true (List.mem_filter.1 mem).2
  · exact of_decide_eq_true (List.mem_filter.1 mem).2

theorem clearStep_ends (last : c.step = 7) :
    let x := d.mapLog fun y => { y with clear := none }
    d.clearStep = (x.mapLogP fun y => { y with slotB := c.mark .done }).answer c.sq c.dn (AdmRes.done 0 0) := by
  have next : clearNext d c = d.mapLog fun y => { y with clear := none } := by
    simp only [clearNext, last, Nat.lt_irrefl, if_false]
  rw [clearStep_eq runs, last, next]
  rfl

end

/-- Settles O51: each descriptor by its own part past the common checks, a clear by its steps. -/
theorem logDescriptors : Obligations.LogDescriptors := by
  refine ⟨fun s q b passes => ?_, fun s q b passes => ?_, fun s q b passes => answers_logThaw passes,
    fun s q b passes => ?_, fun d c runs => ?_⟩
  · exact fun idle records mastering => answers_logRead passes rfl idle records mastering
  · exact fun noClear noFlush thawed => answers_logFreeze passes rfl noClear noFlush thawed
  · exact fun thawed noFlush noClear => ⟨fun fails => answers_logClear_refused passes rfl thawed noFlush noClear fails,
      fun holds => becomes_logClear passes rfl thawed noFlush noClear holds⟩
  · exact ⟨clearStep_goesOn runs, clearStep_commits runs, clearStep_floor runs, clearStep_ends runs⟩

end Sys2Proof.Proofs
end

section
/-! PROOFS. The block at reset, and power at a slice (R450, R451, R457, R461). -/

namespace Sys2Proof.Proofs

open Sys2Proof Sys2Proof.Machine Sys2Proof.Safety

/-! At reset -/

/-- No engine runs at reset and no lease is held: the one register of the map is the state of domain 111 (R443). -/
theorem start_engines : ∀ n : Fin 16, Dev.start.engineOn n.val = false ∧ Dev.start.own n = false := by decide

/-- Settles O60: field by field of `State.reset`. -/
theorem atReset : Obligations.AtReset :=
  ⟨Grown.refl _, rfl, rfl, rfl, rfl, by decide, rfl, rfl, rfl, rfl, fun n =>
    ⟨(start_engines n).1, (start_engines n).2, by simp [State.reset, Slice.cold]⟩⟩

/-! What a slice is at power-up beside its registers, doors, fields and lamps (R461, R279) -/

/-- Power, lease, time and persistent board of a slice. -/
def powerLease (c : Slice) : Bool × Arb × Option (Fin 2 × Nat) × Nat × Board := (c.on, c.arb, c.grant, c.gt, c.board)

theorem powerLease_wr (c : Slice) (f : Nat → RF) (v : Nat) : powerLease (c.wr f v) = powerLease c := rfl

theorem powerLease_mapFio (c : Slice) (f : Fio → Fio) : powerLease (c.mapFio f) = powerLease c := rfl

theorem powerLease_measureVs (c : Slice) (mv : Nat) : powerLease (c.measureVs mv) = powerLease c := rfl

theorem powerLease_sfbRead (c : Slice) (i : Fin 34) : powerLease (c.sfbRead i) = powerLease c := rfl

theorem powerLease_settle (c : Slice) : powerLease c.settle = powerLease c := by simp [powerLease]

theorem powerLease_lstrStart (c : Slice) : powerLease c.lstrStart = powerLease c := by
  have lamps (c : Slice) (l : Lamps) : powerLease { c with lamps := l } = powerLease c := rfl
  simp only [Slice.lstrStart, lamps]
  rw [foldl_keeps powerLease, foldl_keeps powerLease]
  · exact fun _ _ => rfl
  · exact fun _ _ => rfl

theorem powerLease_doorStart (c : Slice) (d : Fin 2) : powerLease (c.doorStart d) = powerLease c := by
  simp only [Slice.doorStart]
  split <;> rfl

theorem powerLease_firstSamples (c : Slice) (cur : List Nat) (free : Nat) :
    powerLease (c.firstSamples cur free) = powerLease c := by
  simp only [Slice.firstSamples, powerLease_sfbRead, powerLease_wr, powerLease_mapFio]

/-- The board with one more boot (R265). -/
def booted (b : Board) : Board := { b with boot := (b.boot + 1) % 65536 }

/-- A slice board just powered, its configuration and its scenes read, nothing sampled. -/
def powered (c : Slice) (b : Board) (t : Nat) : Slice :=
  let s := { Slice.cold c.tx (c.free + 1) (booted b) with
    on := true, gt := t, cfg := b.cfg, doors := Vector.replicate 2 Door.start }
  { s with hels := Vector.ofFn fun (p : Fin 2) => Hel.start (s.nodes p) b.bank[p] }

/-- The instants a slice counts from, set at its start. -/
def marked (c : Slice) (t : Nat) : Slice :=
  { c.mapLse fun l => { l with lastHold := t, trainGt := t } with guardGt := t, markGt := t }

theorem powerLease_marked (c : Slice) (t : Nat) : powerLease (marked c t) = powerLease c := rfl

/-- The slice once its inputs, its supply and its outputs are set. -/
def sampledUp (c : Slice) (cur : List Nat) (mv t free : Nat) : Slice :=
  let s := ((c.firstSamples cur free).mapFio fun x => { x with vsOff := true }).measureVs mv
  marked (s.wr Reg.FIO_OUT_CMD_ACTION (s.set Reg.FIO_OUT_INIT)) t

theorem powerUp_eq (c : Slice) (b : Option Board) (cur : List Nat) (mv t free : Nat) : c.powerUp b cur mv t free =
    (((sampledUp (powered c (b.getD c.board) t) cur mv t free).doorStart 0).doorStart 1).lstrStart.settle := rfl

theorem powerLease_sampledUp (c : Slice) (cur : List Nat) (mv t free : Nat) :
    powerLease (sampledUp c cur mv t free) = powerLease c := by
  simp only [sampledUp, powerLease_marked, powerLease_wr, powerLease_measureVs, powerLease_mapFio, powerLease_firstSamples]

/-- A slice that powers up: in GUARD, owned by nobody, on its board with one more boot. -/
theorem powerLease_powerUp (c : Slice) (b : Option Board) (cur : List Nat) (mv t free : Nat) :
    powerLease (c.powerUp b cur mv t free) = (true, Arb.guard, none, t, booted (b.getD c.board)) := by
  rw [powerUp_eq, powerLease_settle, powerLease_lstrStart, powerLease_doorStart, powerLease_doorStart, powerLease_sampledUp]
  rfl

theorem exec_slicePowerUp (s : State) (n : Fin 16) (b : Option Board) (cur : List Nat) (mv t : Nat) :
    exec (.slicePowerUp n b cur mv t) s = s.runS n fun c =>
      if c.on || decide (mv ≤ 14500) then c else c.powerUp b cur mv t (Config.sliceNat n.val (c.free + 1)) := by
  unfold exec execSlicePowerUp
  rfl

/-- Settles O44: a slice that is off powers up above 14.5 V alone; a low supply and a reset leave its board. -/
theorem slicePower : Obligations.SlicePower := by
  refine ⟨fun s n b cur mv t off => ⟨fun high => ?_, fun low => ?_⟩, fun s n mv t on low => ?_, fun s n => rfl⟩
  · have up := powerLease_powerUp s.slices[n] b cur mv t (Config.sliceNat n.val (s.slices[n].free + 1))
    simp only [powerLease, Prod.mk.injEq] at up
    obtain ⟨power, guard, grant, time, board⟩ := up
    refine ⟨_, sliceBecomes_of_runS (exec_slicePowerUp ..) ?_, power, guard, grant, time, board⟩
    have runs : (s.slices[n].on || decide (mv ≤ 14500)) = false := by rw [off, decide_eq_false (Nat.not_le.2 high)]; rfl
    exact if_neg (Bool.eq_false_iff.1 runs)
  · exact sliceBecomes_of_runS (exec_slicePowerUp ..) (if_pos (by simp [low]))
  · have reset : (stands s n t).seeVs mv = (stands s n t).reset := if_pos low
    refine ⟨_, sliceRuns_of_slice (f := (·.seeVs mv)) rfl reset on, ?_, ?_⟩
    · rw [Slice.settle_on]; rfl
    · rw [Slice.settle_board]
      simp only [Slice.reset, Slice.cold, stands, Slice.at]
      split <;> rfl

end Sys2Proof.Proofs
end

section
/-! PROOFS. The shaft bus: transmission, arbitration, reception, error states (R338 to R352). -/

namespace Sys2Proof.Proofs

open Sys2Proof Sys2Proof.Machine Sys2Proof.Safety

/-! Sorting (R338) -/

section
variable {α : Type} {le : α → α → Bool}

theorem mem_insertBy (x : α) (l : List α) {y : α} : y ∈ insertBy le x l ↔ y = x ∨ y ∈ l := by
  induction l with
  | nil => simp [insertBy]
  | cons z l ih =>
    unfold insertBy
    split
    · simp
    · simp [ih, or_left_comm]

theorem mem_sortBy (l : List α) {y : α} : y ∈ sortBy le l ↔ y ∈ l := by
  induction l with
  | nil => simp [sortBy]
  | cons x l ih => rw [sortBy, List.foldr_cons, mem_insertBy, ← sortBy, ih, List.mem_cons]

/-- What comes first in a sorted list has the least key, where the order compares keys first. -/
theorem sortBy_head_le (key : α → Nat) (before : ∀ a b, le a b → key a ≤ key b)
    (after : ∀ a b, ¬le a b → key b ≤ key a)
    {l : List α} {m : α} (head : (sortBy le l).head? = some m) : ∀ x ∈ l, key m ≤ key x := by
  induction l generalizing m with
  | nil => simp [sortBy] at head
  | cons x l ih =>
    rw [sortBy, List.foldr_cons, ← sortBy] at head
    cases sorted : sortBy le l with
    | nil =>
      have none : l = [] := List.eq_nil_iff_forall_not_mem.2 fun y mem => by
        simpa [sorted] using (mem_sortBy (le := le) l).2 mem
      rw [sorted] at head
      cases head
      simp [none]
    | cons y t =>
      have least := ih (m := y) (by rw [sorted]; rfl)
      rw [sorted, insertBy] at head
      split at head
      case isTrue first =>
        cases head
        intro z mem
        obtain rfl | mem := List.mem_cons.1 mem
        · exact Nat.le_refl _
        · exact (before _ _ first).trans (least z mem)
      case isFalse later =>
        cases head
        intro z mem
        obtain rfl | mem := List.mem_cons.1 mem
        · exact after _ _ later
        · exact least z mem

end

theorem arbKey_le_of_before {a b : Mbx} (h : a.before b) : arbKey a.f ≤ arbKey b.f := by
  simp only [Mbx.before, Bool.or_eq_true, Bool.and_eq_true, decide_eq_true_eq] at h
  omega

theorem arbKey_le_of_not_before {a b : Mbx} (h : ¬a.before b) : arbKey b.f ≤ arbKey a.f := by
  simp only [Mbx.before, Bool.or_eq_true, Bool.and_eq_true, decide_eq_true_eq] at h
  omega

/-- Settles O23: the frame offered is the head of the frames that entered in time, sorted. -/
theorem arbitrationOffersLowest : Obligations.ArbitrationOffersLowest := by
  intro d c sof m offered
  have mem := (mem_sortBy (le := Mbx.before) _).1 (List.mem_of_mem_head? offered)
  obtain ⟨held, entered⟩ := List.mem_filter.1 mem
  refine ⟨held, of_decide_eq_true entered, fun x there entered => ?_⟩
  exact sortBy_head_le (fun m => arbKey m.f) (fun _ _ => arbKey_le_of_before) (fun _ _ => arbKey_le_of_not_before) offered x
    (List.mem_filter.2 ⟨there, decide_eq_true entered⟩)

/-! Transmission (R340, R341, R348, R349) -/

section
variable {d : Dev} {c : Fin 4} {m : Mbx}

theorem txDone_offered {sof : Nat} (busy : Bool) (on : d.chSt c ≠ Ch.busOff) (offered : d.offered c sof = some m) :
    let x := ((d.emit (.can c.val m.f sof)).inc (Reg.SBC_CNT_TX c.val)).mapChan c fun h => { h with mbx := h.mbx.erase m }
    let e := if m.done then x else (x.abortCopy c m busy).completeAt m.act m.st sof c.val m.fired
    d.txDone c sof busy = e.busCount c (e.rd (Reg.SBC_CH_ERR_TEC c.val) - 1) (e.rd (Reg.SBC_CH_ERR_REC c.val)) := by
  simp only [Dev.txDone, on, offered, if_false]

section
variable {i : Nat} (waits : (d.chan c).mbx.find? (fun m => m.num = i && !m.done) = some m)
include waits

theorem wireTimeout_past (limited : d.wireTmo c.val m.cls ≠ 0)
    (past : m.gt + d.wireTmo c.val m.cls * 1000000 ≤ d.gt) : d.wireTimeout c i =
    (((d.mapChan c fun h => { h with mbx := h.mbx.erase m }).abortCopy c m false).inc (Reg.SBC_CNT_EXP c.val)).completeAct
      m.act Stat.expired m.act.gt 0 := by
  simp only [Dev.wireTimeout, waits, limited, Nat.not_lt.2 past, decide_false, Bool.or_self, Bool.false_eq_true, if_false]

theorem wireTimeout_early (early : d.gt < m.gt + d.wireTmo c.val m.cls * 1000000) : d.wireTimeout c i = d := by
  simp only [Dev.wireTimeout, waits, early, decide_true, Bool.or_true, if_true]

end

/-- The one frame of the migration queue, with a mailbox for it. -/
theorem migDrain_only {i : Nat} (only : (d.chan c).mig = [m])
    (free : (if m.copy then d.mbxFree c 0 8 else d.mbxFor c m.cls) = some i) :
    d.migDrain c = (d.mapChan c fun h => { h with mig := [] }).mbxEnter c i m := by
  have emptied : (d.mapChan c fun h => { h with mig := h.mig.erase m }) = d.mapChan c fun h => { h with mig := [] } := by
    have erased : d.bus[c].mig.erase m = [] := by rw [show d.bus[c].mig = [m] from only]; simp
    simp only [Dev.mapChan, erased]
  simp only [Dev.migDrain, only, List.find?_cons, free, Option.isSome_some, emptied]

end

/-- Settles O22: each command by the rule of its operation. -/
theorem busTransmits : Obligations.BusTransmits := by
  refine ⟨fun s c sof busy m on offered => ?_, fun s c i m => ?_, fun s c m i only free => ?_⟩
  · exact becomes_of_run (f := fun d => d.txDone c sof busy) rfl (txDone_offered busy on offered)
  · exact fun waits limited => ⟨fun past => becomes_of_run (f := fun d => d.wireTimeout c i.val) rfl
        (wireTimeout_past waits limited past),
      fun early => becomes_of_run (f := fun d => d.wireTimeout c i.val) rfl (wireTimeout_early waits early)⟩
  · exact becomes_of_run (f := fun d => d.migDrain c) rfl (migDrain_only only free)

/-! Reception (R342, R343, R346) -/

section
variable {d : Dev} {c : Fin 4} {f : CanFrame} {esi : Bool} {sof : Nat}

/-- The controller with a frame received counted, by itself and in REC. -/
def rxCounted (d : Dev) (c : Fin 4) : Dev :=
  let s := d.inc (Reg.SBC_CNT_RX c.val)
  s.busCount c (s.rd (Reg.SBC_CH_ERR_TEC c.val)) (recLess (s.rd (Reg.SBC_CH_ERR_REC c.val)))

/-- A data frame kept: in its FIFO, with the event of its class. -/
def rxKept (d : Dev) (c : Fin 4) (f : CanFrame) (esi : Bool) (sof : Nat) : Dev :=
  (d.rxStore c (d.frameClass f) f esi sof).rxEvent c (d.frameClass f) f

/-- What a counted frame does: a remote one nothing, a numbered one is kept where the partner has not brought it. -/
def rxTaken (d : Dev) (c : Fin 4) (f : CanFrame) (esi rtr : Bool) (sof : Nat) : Dev :=
  if rtr then d.inc (Reg.SBC_CNT_RTR c.val)
  else match d.seqField c (d.frameClass f) f with
  | none => rxKept d c f esi sof
  | some q =>
    let k : RxKey := { ide := f.ide, id := f.id, seq := q, gt := sof }
    if d.isDup c k then (d.remember c k).inc (Reg.SBC_CNT_SUPP c.val)
    else ((d.remember c k).rxStore c (d.frameClass f) f esi sof).rxEvent c (d.frameClass f) f

theorem rxTaken_plain (plain : d.seqField c (d.frameClass f) f = none) :
    rxTaken d c f esi false sof = rxKept d c f esi sof := by
  simp only [rxTaken, plain, Bool.false_eq_true, if_false]

theorem rxTaken_duplicate {q : Nat} (numbered : d.seqField c (d.frameClass f) f = some q)
    (dup : d.isDup c { ide := f.ide, id := f.id, seq := q, gt := sof }) :
    rxTaken d c f esi false sof =
      (d.remember c { ide := f.ide, id := f.id, seq := q, gt := sof }).inc (Reg.SBC_CNT_SUPP c.val) := by
  simp only [rxTaken, numbered, dup, Bool.false_eq_true, if_false, if_true]

/-- A frame of a form that the channel takes while it is on. -/
theorem canRx_heard {rtr : Bool} (enabled : d.chEn c) (on : d.chSt c ≠ Ch.busOff)
    (form : f.fdf → d.on (Reg.SBC_CH_CFG_FD_EN c.val)) :
    d.canRx c f esi rtr sof = rxTaken (rxCounted d c) c f esi rtr sof := by
  have heard : (!d.chEn c || d.chSt c = Ch.busOff || (f.fdf && !d.on (Reg.SBC_CH_CFG_FD_EN c.val))) = false := by
    cases fd : f.fdf with
    | false => simp [enabled, on]
    | true => simp [enabled, on, form fd]
  exact if_neg (Bool.eq_false_iff.1 heard)

end

theorem mapChan_chan_same (d : Dev) (c : Fin 4) (f : Chan → Chan) : (d.mapChan c f).chan c = f (d.chan c) := by
  simp [Dev.mapChan]

theorem rxPop_chan (d : Dev) (c : Fin 4) (i : Fin 2) : (d.rxPop c i).chan c =
    { d.chan c with rx := (d.chan c).rx.set i ((d.chan c).rx[i].drop 1) } := mapChan_chan_same ..

theorem rxPop_head {d : Dev} {c : Fin 4} {i : Fin 2} {x : RxEnt} {l : List RxEnt} (held : (d.chan c).rx[i] = x :: l) :
    ((d.rxPop c i).chan c).rx[i] = l := by
  rw [rxPop_chan]
  exact (Vector.getElem_set_self _).trans (by rw [held, List.drop_one, List.tail_cons])

/-- Settles O24: a frame by its kind, a pop by the channel it leaves. -/
theorem busReceives : Obligations.BusReceives := by
  refine ⟨fun s c f esi sof enabled on form => ?_, fun s c i x l held => ?_⟩
  · have heard (rtr : Bool) {x : Dev} (taken : rxTaken (rxCounted s.dev c) c f esi rtr sof = x) :
        Becomes (.canFrameReceived c f esi rtr sof) s x :=
      becomes_of_run (f := fun d => d.canRx c f esi rtr sof) rfl ((canRx_heard enabled on form).trans taken)
    exact ⟨heard true rfl, fun plain => heard false (rxTaken_plain plain),
      fun q numbered dup => heard false (rxTaken_duplicate numbered dup)⟩
  · exact ⟨s.dev.rxPop c i, rfl, rxPop_head held, by rw [rxPop_chan], rfl⟩

/-! Error states (R347, R352) -/

section
variable {d : Dev} {c : Fin 4}

theorem busError_judged {tec rec lec : Nat} (enabled : d.chEn c) (on : d.chSt c ≠ Ch.busOff) :
    d.busError c tec rec lec = (d.wr (Reg.SBC_CH_ERR_LEC c.val) lec).busCount c tec rec :=
  if_neg (by simp [enabled, on])

/-- The counters and the passive and recovering bits of a channel at 0. -/
def errCleared (d : Dev) (c : Fin 4) : Dev :=
  (((d.wr (Reg.SBC_CH_ERR_TEC c.val) 0).wr (Reg.SBC_CH_ERR_REC c.val) 0).flag (Reg.SBC_CH_STAT_PASSIVE c.val) false).flag
    (Reg.SBC_CH_STAT_RECOVERING c.val) false

theorem busRecovered_due (off : d.chSt c = Ch.busOff) (recovering : d.on (Reg.SBC_CH_STAT_RECOVERING c.val))
    (due : (d.chan c).recGt + d.recoveryNs c ≤ d.gt) :
    d.busRecovered c = (((errCleared d c).busEvent c 4 0).setCh c Ch.active).busEvent c 0 0 :=
  if_pos (by rw [decide_eq_true off, recovering, decide_eq_true due]; rfl)

theorem busEvent_quiet (d : Dev) (c : Fin 4) (code n : Nat) : Quiet d (d.busEvent c code n) := d.raiseSev_quiet ..

/-- The fields of a channel that its error states show. -/
def errFields (c : Fin 4) : List RF :=
  [Reg.SBC_CH_ERR_TEC c.val, Reg.SBC_CH_ERR_REC c.val, Reg.SBC_CH_STAT_STATE c.val, Reg.SBC_CH_STAT_RECOVERING c.val]

theorem errFields_apart : ∀ c : Fin 4, ∀ f ∈ errFields c, Apart f := by unfold Apart; decide

/-- They are four fields, and none of them is the passive bit. -/
theorem errFields_distinct : ∀ c : Fin 4,
    (errFields c ++ [Reg.SBC_CH_STAT_PASSIVE c.val]).Pairwise (·.key ≠ ·.key) := by decide

theorem rd_wr_zero (d : Dev) (f : RF) : (d.wr f 0).rd f = 0 := by simp

theorem rd_flag_false (d : Dev) (f : RF) : (d.flag f false).rd f = 0 := rd_wr_zero d f

/-- At the end of recovery the counters are at 0, the channel active, its bus as it was. -/
theorem recovered_shows (d : Dev) (c : Fin 4) :
    let x := (((errCleared d c).busEvent c 4 0).setCh c Ch.active).busEvent c 0 0
    x.rd (Reg.SBC_CH_ERR_TEC c.val) = 0 ∧ x.rd (Reg.SBC_CH_ERR_REC c.val) = 0 ∧ x.chSt c = Ch.active ∧
      x.rd (Reg.SBC_CH_STAT_RECOVERING c.val) = 0 ∧ x.bus = d.bus := by
  have first := busEvent_quiet (errCleared d c) c 4 0
  have second := busEvent_quiet (((errCleared d c).busEvent c 4 0).setCh c Ch.active) c 0 0
  have apart := errFields_apart c
  have distinct := errFields_distinct c
  simp only [errFields, List.cons_append, List.nil_append, List.pairwise_cons, List.forall_mem_cons,
    List.not_mem_nil] at distinct apart
  obtain ⟨tecA, recA, stateA, recovA, -⟩ := apart
  obtain ⟨⟨tr, ts, tv, tp, -⟩, ⟨rs, rv, rp, -⟩, ⟨sv, sp, -⟩, ⟨vp, -⟩, -⟩ := distinct
  refine ⟨?_, ?_, ?_, ?_, ?_⟩
  · rw [second.rd _ tecA, Dev.setCh, Dev.rd_wr_ne _ _ _ _ ts, first.rd _ tecA, errCleared, Dev.flag, Dev.rd_wr_ne _ _ _ _ tv,
      Dev.flag, Dev.rd_wr_ne _ _ _ _ tp, Dev.rd_wr_ne _ _ _ _ tr, rd_wr_zero]
  · rw [second.rd _ recA, Dev.setCh, Dev.rd_wr_ne _ _ _ _ rs, first.rd _ recA, errCleared, Dev.flag, Dev.rd_wr_ne _ _ _ _ rv,
      Dev.flag, Dev.rd_wr_ne _ _ _ _ rp, rd_wr_zero]
  · rw [Dev.chSt, second.rd _ stateA, Dev.setCh, Dev.rd_wr_same]; rfl
  · rw [second.rd _ recovA, Dev.setCh, Dev.rd_wr_ne _ _ _ _ sv.symm, first.rd _ recovA, errCleared, rd_flag_false]
  · rw [second.core.bus, Dev.setCh, Dev.wr_bus, first.core.bus]; rfl

/-- BUS_RECOVER of a channel that is off and does not recover by itself. -/
theorem answers_busRecover {s : State} {q : Fin 32} {b : List Byte} {d : Dev} (passes : Passes s 0x61 q b)
    (fetch : (fetched s 0x61 q b).2 = d) (off : d.chSt (Fin.ofNat 4 (dIndex b)) = Ch.busOff)
    (manual : d.on (Reg.SBC_CH_CFG_AUTO_REC (Fin.ofNat 4 (dIndex b)).val) = false)
    (idle : d.on (Reg.SBC_CH_STAT_RECOVERING (Fin.ofNat 4 (dIndex b)).val) = false)
    (notIsolated : bit (d.rd Reg.CTN_ISO_IO_SB) (Fin.ofNat 4 (dIndex b)).val = false) :
    Answers (.busRecover q b) s 0x61 q b (d.startRecovery (Fin.ofNat 4 (dIndex b))) (AdmRes.done 0 0) := by
  subst fetch
  refine answers_of_admit passes rfl ?_
  simp only [off, manual, idle, notIsolated, bne_self_eq_false, Bool.or_self, Bool.false_eq_true, if_false]

end

/-- Settles O25: an error by its counters, the end of recovery by what it leaves, BUS_RECOVER by its checks. -/
theorem busErrorStates : Obligations.BusErrorStates := by
  refine ⟨fun s c tec rec lec enabled on => ?_, fun s c off recovering due => ?_, fun s q b passes => ?_⟩
  · exact becomes_of_run (f := fun d => d.busError c tec rec lec.val) rfl (busError_judged enabled on)
  · have ends := becomes_of_run (i := .busRecoveryDone c) (f := fun d => d.busRecovered c) rfl
      (busRecovered_due off recovering due)
    exact ⟨_, ends, recovered_shows s.dev c⟩
  · exact fun off manual idle notIsolated => answers_busRecover passes rfl off manual idle notIsolated

end Sys2Proof.Proofs
end

section
/-! PROOFS. Fault containment: correctable errors, isolations, lost pages of Larder (R354 to R365). -/

namespace Sys2Proof.Proofs

open Sys2Proof Sys2Proof.Machine Sys2Proof.Safety

/-! Correctable errors (R354) -/

theorem cntCorr_apart : Apart Reg.CTN_CNT_CORR := by unfold Apart; decide

/-- A correctable error: counted, its run noted, recorded once it passes the limit. -/
theorem eccCorr_cases (d : Dev) (region unit page : Nat) : ∃ run u n,
    d.eccCorr region unit page = ((d.inc Reg.CTN_CNT_CORR).mapCtn run).memError 5 region u page n ∨
    d.eccCorr region unit page = (d.inc Reg.CTN_CNT_CORR).mapCtn run :=
  ⟨_, _, _, ite_eq_or_eq ..⟩

theorem memError_quiet (d : Dev) (sev region unit page n : Nat) : Quiet d (d.memError sev region unit page n) := d.note_quiet ..

/-- What follows the count touches no register but those of records, no engine and no action. -/
theorem eccCorr_quiet (d : Dev) (region unit page : Nat) : ∃ run, Quiet ((d.inc Reg.CTN_CNT_CORR).mapCtn run)
    (d.eccCorr region unit page) := by
  obtain ⟨run, u, n, noted | plain⟩ := eccCorr_cases d region unit page
  · exact ⟨run, noted ▸ memError_quiet ..⟩
  · exact ⟨run, plain ▸ Quiet.refl _⟩

/-- Settles O26: the count is one register, and the rest is quiet. -/
theorem correctableErrors : Obligations.CorrectableErrors := by
  intro s r u p
  refine ⟨_, rfl, ?_⟩
  obtain ⟨run, quiet⟩ := eccCorr_quiet s.dev ((r.map (·.val)).getD 0xFF) (if r.isSome then 0 else u.val) p.val
  refine ⟨(quiet.rd _ cntCorr_apart).trans (rd_inc _ _), quiet.core.cars, quiet.core.ladle, ?_⟩
  have counted : Keeps [Reg.CTN_CNT_CORR] s.dev (s.dev.inc Reg.CTN_CNT_CORR) := (Keeps.refl _ _).inc (List.mem_singleton.2 rfl)
  have noting : Keeps [Reg.CTN_CNT_CORR] (s.dev.inc Reg.CTN_CNT_CORR) ((s.dev.inc Reg.CTN_CNT_CORR).mapCtn run) :=
    Keeps.of_regs _ rfl
  exact (counted.trans noting).trans (Keeps.of_quiet _ quiet)

/-! Engines (R355, R356) -/

/-- An error that ECC found in a unit in service is counted. -/
theorem uncorr_in_service {found serves : Bool} (d : Dev) (on : serves = true) :
    d.uncorr (found && serves) = if found then d.inc Reg.CTN_CNT_UNCORR else d := by
  rw [on, Bool.and_true]; rfl

theorem ite_decide {α : Type} (p : Prop) [Decidable p] (x y : α) : (if decide p = true then x else y) = if p then x else y :=
  if_congr (by simp) rfl rfl

/-- Settles O27: a running engine that is not isolated takes every step of the isolation. -/
theorem engineIsolated : Obligations.EngineIsolated := by
  intro s n cause on z notYet runs
  refine becomes_of_run (f := fun d => (d.uncorr (cause.val = 0 && d.engineOn n.val)).isolateEngine n cause.val) rfl ?_
  have fails : (!z.engineOn n.val || bit (z.rd Reg.CTN_ISO_CE) n.val) = false := by rw [runs, notYet]; rfl
  have counted : s.dev.uncorr (cause.val = 0 && s.dev.engineOn n.val) = z := (uncorr_in_service _ on).trans (ite_decide ..)
  show (s.dev.uncorr _).isolateEngine n cause.val = _
  rw [counted]
  exact if_neg (Bool.eq_false_iff.1 fails)

/-! Slice ports, Ethernet ports, channels (R362 to R364) -/

theorem isolatePort_of_running {d : Dev} {n : Fin 16} (on : d.carOn n.val) (notYet : bit (d.rd Reg.CTN_ISO_SP) n.val = false) :
    (bit (d.rd Reg.CTN_ISO_SP) n.val || !d.carOn n.val) = false := by rw [on, notYet]; rfl

theorem portIsolated (s : State) (n : Fin 16) (ecc : Bool) (served : s.dev.carOn n.val)
    (f : Dev) (isolated : (if ecc then s.dev.inc Reg.CTN_CNT_UNCORR else s.dev).isolatePort n = f) :
    Becomes (.slicePortIsolation n ecc) s f := by
  refine becomes_of_run (f := fun d => (d.uncorr (ecc && d.carOn n.val)).isolatePort n) rfl ?_
  show (s.dev.uncorr _).isolatePort n = _
  rw [uncorr_in_service _ served, isolated]

theorem ethIsolated (s : State) (p : Fin 2) (ecc : Bool) (served : s.dev.dom (97 + p.val) = Dom.on)
    (f : Dev) (isolated : (if ecc then s.dev.inc Reg.CTN_CNT_UNCORR else s.dev).isolateEth p = f) :
    Becomes (.ethPortIsolation p ecc) s f := by
  refine becomes_of_run (f := fun d => (d.uncorr (ecc && d.dom (97 + p.val) = Dom.on)).isolateEth p) rfl ?_
  show (s.dev.uncorr _).isolateEth p = _
  rw [uncorr_in_service _ (decide_eq_true served), isolated]

theorem channelIsolated (s : State) (c : Fin 4) (served : s.dev.chEn c)
    (f : Dev) (isolated : (s.dev.inc Reg.CTN_CNT_UNCORR).isolateChan c = f) :
    Becomes (.channelIsolation c) s f := by
  refine becomes_of_run (f := fun d => (d.uncorr (d.chEn c)).isolateChan c) rfl ?_
  show (s.dev.uncorr _).isolateChan c = _
  rw [Dev.uncorr, if_pos served, isolated]

theorem isolateEth_in_service {d : Dev} {p : Fin 2} (on : d.dom (97 + p.val) = Dom.on) :
    let a := (d.setDom (97 + p.val) Dom.isolated).flag (if p = 0 then Reg.CTN_ISO_IO_ETH0 else Reg.CTN_ISO_IO_ETH1) true
    d.isolateEth p = (if a.actPort = p then a.ptpLinkLost else a.flag (Reg.PTP_ETH_STAT_LINK p.val) false).memError 6 0xFF
      (97 + p.val) 0 0 := by
  exact if_neg (by rw [on]; decide)

theorem isolateEth_out_of_service {d : Dev} {p : Fin 2} (off : d.dom (97 + p.val) ≠ Dom.on) : d.isolateEth p = d :=
  if_pos (bne_iff_ne.2 off)

theorem isolateChan_in_service {d : Dev} {c : Fin 4} (on : d.chEn c) (notYet : bit (d.rd Reg.CTN_ISO_IO_SB) c.val = false) :
    let a := (d.setDom (99 + c.val) Dom.isolated).wr Reg.CTN_ISO_IO_SB (setBit (d.rd Reg.CTN_ISO_IO_SB) c.val true)
    d.isolateChan c = if a.chSt c = Ch.busOff then (a.flag (Reg.SBC_CH_STAT_RECOVERING c.val) false).busEvent c 3 0
      else a.enterBusOff c false := by
  have runs : (bit (d.rd Reg.CTN_ISO_IO_SB) c.val || !d.chEn c) = false := by rw [on, notYet]; rfl
  exact if_neg (Bool.eq_false_iff.1 runs)

/-! Pages of Larder (R365, R392) -/

theorem larder_mirrored {d : Dev} {region : Nat} (off page : Nat) (mirrored : region ≤ 2)
    (two : (d.inc Reg.CTN_CNT_UNCORR).ctn.single.contains (region, page) = false) :
    d.larder region off page false =
      (((d.inc Reg.CTN_CNT_UNCORR).mirrorServe region page).wr Reg.CTN_LAR_LAST_REGION region).wr
        Reg.CTN_LAR_LAST_PAGE page := by
  have serves : (decide (region ≤ 2) && !false && !(d.inc Reg.CTN_CNT_UNCORR).ctn.single.contains (region, page)) = true := by
    rw [two, decide_eq_true mirrored]; rfl
  unfold Dev.larder
  dsimp only
  rw [if_pos serves]

theorem isolateEth_uncounted (d : Dev) (p : Fin 2) (ecc : Bool) (off : d.dom (97 + p.val) ≠ Dom.on) :
    (d.uncorr (ecc && d.dom (97 + p.val) = Dom.on)).isolateEth p = d := by
  rw [decide_eq_false off, Bool.and_false]
  exact isolateEth_out_of_service off

/-- Settles O28: each unit by its isolation, each page by its region. -/
theorem otherIsolations : Obligations.OtherIsolations := by
  refine ⟨?port, ?eth, ?ethOff, ?chan, ?mirrored, ?single⟩
  case port =>
    intro s n ecc served z on notYet i cals a l b c
    exact portIsolated s n ecc served _ (if_neg (Bool.eq_false_iff.1 (isolatePort_of_running on notYet)))
  case eth =>
    intro s p ecc f z a served on
    refine ⟨fun active => ethIsolated s p ecc served _ ?_, fun other => ethIsolated s p ecc served _ ?_⟩
    · rw [isolateEth_in_service on]
      exact congrArg (fun d => Dev.memError d 6 0xFF (97 + p.val) 0 0) (if_pos active)
    · rw [isolateEth_in_service on]
      exact congrArg (fun d => Dev.memError d 6 0xFF (97 + p.val) 0 0) (if_neg other)
  case ethOff =>
    intro s p ecc off
    exact becomes_of_run (f := fun d => (d.uncorr (ecc && d.dom (97 + p.val) = Dom.on)).isolateEth p) rfl
      (isolateEth_uncounted s.dev p ecc off)
  case chan =>
    intro s c served z on notYet a
    refine ⟨fun running => channelIsolated s c served _ ?_, fun off => channelIsolated s c served _ ?_⟩
    · rw [isolateChan_in_service on notYet]; exact if_neg running
    · rw [isolateChan_in_service on notYet]; exact if_pos off
  case mirrored =>
    intro s r off p mirrored a two
    exact becomes_of_run (f := fun d => d.larder r.val off p.val false) rfl (larder_mirrored off p.val mirrored two)
  case single =>
    intro s off p b
    exact ⟨becomes_of_run (f := fun d => d.larder 3 off p.val b) rfl rfl,
      becomes_of_run (f := fun d => d.larder 4 off p.val b) rfl rfl⟩

end Sys2Proof.Proofs
end

section
/-! PROOFS. Frames of the partner (R371 to R375, R389 to R391) and the states of the link and of the pair (R375 to R383). -/

namespace Sys2Proof.Proofs

open Sys2Proof Sys2Proof.Machine Sys2Proof.Safety

theorem byteAt_lt (b : List Byte) (i : Nat) : byteAt b i < 256 := (b.getD i 0).isLt

theorem leAt_lt (b : List Byte) (i n : Nat) : leAt b i n < 256 ^ n := by
  induction n generalizing i with
  | zero => exact Nat.one_pos
  | succ n ih =>
    have low := byteAt_lt b i
    have high := ih (i + 1)
    rw [leAt, Nat.pow_succ]
    omega

theorem beAt_lt (b : List Byte) (i n : Nat) : beAt b i n < 256 ^ n := leAt_lt ..

/-! Frames (R375) -/

section
variable {d : Dev} {k : Nat} {b : List Byte} {bad : Bool} {t : Nat} {go : Dev → Dev}

theorem pexRx_fails (framing : d.pxFraming) (fails : (d.at t).pexOk k b bad = false) :
    d.pexRx k b bad t go = (d.at t).inc Reg.PBX_CNT_ERR := by
  rw [Dev.pexRx, framing]
  exact if_neg (Bool.eq_false_iff.1 fails)

theorem pexRx_passes (framing : d.pxFraming) (passes : (d.at t).pexOk k b bad) : d.pexRx k b bad t go = go (d.at t) := by
  rw [Dev.pexRx, framing]
  exact if_pos passes

end

/-- A heartbeat that shows cars held: its sender is alive. -/
theorem deadStill_alive (d : Dev) (b : List Byte) (holds : beAt b 32 2 ≠ 0) :
    ((d.wr Reg.PBX_HELD_PEER (beAt b 32 2)).deadStill).on Reg.PBX_STAT_PRESUMED_DEAD = false := by
  have shown : (d.wr Reg.PBX_HELD_PEER (beAt b 32 2)).rd Reg.PBX_HELD_PEER ≠ 0 := by
    rw [Dev.rd_wr_same]
    exact (Nat.mod_eq_of_lt (beAt_lt b 32 2)).symm ▸ holds
  rw [Dev.deadStill, if_neg shown, Dev.on, rd_flag_false]
  rfl

section
variable {s : State} {b : List Byte} {bad : Bool} {t : Nat} {d : Dev}

theorem becomes_heartbeat (e : s.dev.hbRx b bad t (fun x => x.takePool 16) = d) : Becomes (.heartbeatReceived b bad t) s d :=
  becomes_of_run (f := fun v => v.hbRx b bad t fun x => x.takePool 16) rfl e

theorem becomes_chunk (e : s.dev.chunkRx b bad t = d) : Becomes (.chunkReceived b bad t) s d :=
  becomes_of_run (f := fun v => v.chunkRx b bad t) rfl e

theorem becomes_ack (e : s.dev.ackRx b bad t = d) : Becomes (.ackReceived b bad t) s d :=
  becomes_of_run (f := fun v => v.ackRx b bad t) rfl e

theorem becomes_health (e : s.dev.healthRx b bad t = d) : Becomes (.healthReceived b bad t) s d :=
  becomes_of_run (f := fun v => v.healthRx b bad t) rfl e

theorem becomes_ident (e : s.dev.identRx b bad t = d) : Becomes (.identReceived b bad t) s d :=
  becomes_of_run (f := fun v => v.identRx b bad t) rfl e

end

theorem px_up_passes {d : Dev} (up : d.px = Px.up) : (d.px != Px.up) = false := by rw [up]; rfl

/-- The payload of a chunk: what lies between its header and its check word. -/
def chunkPart (b : List Byte) : List Byte := (b.drop 16).take (b.length - 20)

theorem chunkPart_length (b : List Byte) : (chunkPart b).length = b.length - 20 := by
  rw [chunkPart, List.length_take, List.length_drop]
  omega

/-- Chunk `b` is the last of the bytes `w` received without a gap (R390). -/
def chunkLast (b w : List Byte) : Bool :=
  if 64 ≤ w.length then decide (leAt w 28 4 ≤ beAt b 12 4 + (chunkPart b).length) else decide ((chunkPart b).length < 4064)

theorem chunkLast_of_header {b w : List Byte} (header : 64 ≤ w.length) :
    chunkLast b w = decide (leAt w 28 4 ≤ beAt b 12 4 + (b.length - 20)) := by
  rw [chunkLast, if_pos header, chunkPart_length]

theorem chunkLast_of_short {b w : List Byte} (short : w.length < 64) : chunkLast b w = decide (b.length - 20 < 4064) := by
  rw [chunkLast, if_neg (Nat.not_le.2 short), chunkPart_length]

/-- The chunks of the checkpoint that chunk `b` belongs to. -/
def chunksWith (d : Dev) (b : List Byte) : List (Nat × List Byte) :=
  (if d.tvt.rxSeq = beAt b 8 4 then d.tvt.rx else []) ++ [(beAt b 12 4, (b.drop 16).take (b.length - 20))]

/-- The bytes of the chunks received without a gap. -/
def chunkBytes (d : Dev) (b : List Byte) : List Byte := joined ((chunksWith d b).filter fun p => p.1 != 0xFFFFFFFF)

section
variable {d : Dev} {b : List Byte} {bad : Bool} {t : Nat} (framing : d.pxFraming) (passes : (d.at t).pexOk 0xC2 b bad)
  (up : (d.at t).px = Px.up)
include framing passes up

/-- A chunk is kept with its checkpoint, which is taken once it is whole (R390). -/
theorem chunkRx_up : d.chunkRx b bad t =
    if chunkLast b (chunkBytes (d.at t) b) then
      ((d.at t).mapTvt fun x => { x with rxSeq := beAt b 8 4, rx := chunksWith (d.at t) b }).ckpWhole (beAt b 8 4)
        (chunkBytes (d.at t) b) ((chunksWith (d.at t) b).any fun p => p.1 = 0xFFFFFFFF)
    else (d.at t).mapTvt fun x => { x with rxSeq := beAt b 8 4, rx := chunksWith (d.at t) b } :=
  (pexRx_passes framing passes).trans (if_neg (Bool.eq_false_iff.1 (px_up_passes up)))

theorem chunkRx_last (last : chunkLast b (chunkBytes (d.at t) b) = true) : d.chunkRx b bad t =
    ((d.at t).mapTvt fun x => { x with rxSeq := beAt b 8 4, rx := chunksWith (d.at t) b }).ckpWhole (beAt b 8 4)
      (chunkBytes (d.at t) b) ((chunksWith (d.at t) b).any fun p => p.1 = 0xFFFFFFFF) :=
  (chunkRx_up framing passes up).trans (if_pos last)

theorem chunkRx_more (more : chunkLast b (chunkBytes (d.at t) b) = false) : d.chunkRx b bad t =
    (d.at t).mapTvt fun x => { x with rxSeq := beAt b 8 4, rx := chunksWith (d.at t) b } :=
  (chunkRx_up framing passes up).trans (if_neg (Bool.eq_false_iff.1 more))

end

theorem ack_mine {d : Dev} {b : List Byte} {f : InFlight} (up : d.px = Px.up) (mine : beAt b 8 4 = f.img.seq) :
    (d.px != Px.up || beAt b 8 4 != f.img.seq) = false := by
  rw [px_up_passes up, mine, bne_self_eq_false]; rfl

section
variable {d : Dev} {b : List Byte} {bad : Bool} {t : Nat} {f : InFlight} (framing : d.pxFraming)
  (passes : (d.at t).pexOk 0xC3 b bad) (fly : (d.at t).tvt.fly = some f) (up : (d.at t).px = Px.up)
  (mine : beAt b 8 4 = f.img.seq)
include framing passes fly up mine

/-- An acknowledgement that refuses the checkpoint in flight abandons it. -/
theorem ackRx_refuses (refuses : byteAt b 12 ≠ 0) : d.ackRx b bad t = ((d.at t).inc Reg.TVT_CNT_REFUSED).ckpAbandon := by
  rw [Dev.ackRx, pexRx_passes framing passes]
  dsimp only
  rw [fly]
  dsimp only
  rw [if_neg (Bool.eq_false_iff.1 (ack_mine up mine)), if_neg refuses]

/-- An acknowledgement of the full checkpoint in flight makes it the base. -/
theorem ackRx_accepts (accepts : byteAt b 12 = 0) (full : f.full) (unserved : (d.at t).tvt.serve = []) :
    let a := d.at t
    d.ackRx b bad t =
      ((((((a.wr Reg.TVT_TX_ACK f.img.seq).wr Reg.TVT_LAST_LAT ((a.gt - f.img.gt) / 1000)).inc Reg.TVT_CNT_FULL).mapTvt fun x =>
        { x with
          fly := none, base := some f.img, deltas := 0, full := false, serve := [], ackGt := a.gt, waitGt := none,
          stalls := 0 }).fenceMove f.img).handoverAck f) := by
  rw [Dev.ackRx, pexRx_passes framing passes]
  dsimp only
  rw [fly]
  dsimp only
  rw [if_neg (Bool.eq_false_iff.1 (ack_mine up mine)), if_pos accepts, unserved, List.foldl_nil]
  simp only [full, if_true]
  rfl

end

section
variable {d : Dev} {b : List Byte} {bad : Bool} {t : Nat} (framing : d.pxFraming)
include framing

theorem healthRx_up (passes : (d.at t).pexOk 0xC4 b bad) (up : (d.at t).px = Px.up) :
    d.healthRx b bad t =
      ((((d.at t).wr Reg.WHK_PEER_HEALTH_PASSED (beAt b 8 2)).wr Reg.WHK_PEER_HEALTH_FAILED (beAt b 10 2)).wr
        Reg.WHK_PEER_LAST (byteAt b 12)).raise .standbyHealth 0
          [pU 16 2 (beAt b 8 2), pU 18 2 (beAt b 10 2), pU 20 1 (byteAt b 12)] :=
  (pexRx_passes framing passes).trans (if_neg (Bool.eq_false_iff.1 (px_up_passes up)))

/-- An IDENT with another boot count: the partner was started again (R375). -/
theorem identRx_rebooted {x : Nat} (passes : (d.at t).pexOk 0xC5 b bad) (was : (d.at t).pbx.boot = some x)
    (other : x ≠ beAt b 18 2) :
    d.identRx b bad t = (((d.at t).mapPbx fun p => { p with boot := some (beAt b 18 2) }).pebexDrop).pebexLock := by
  have rebooted : ((d.at t).pbx.boot.isSome && (d.at t).pbx.boot != some (beAt b 18 2)) = true := by
    rw [was]; exact bne_iff_ne.2 fun same => other (Option.some.inj same)
  exact (pexRx_passes framing passes).trans (if_pos rebooted)

/-- The state a heartbeat has been noted in (R372, R373). -/
def heard (a : Dev) (b : List Byte) (t : Nat) : Dev :=
  ((((a.pexTrip b t).peerDiff b t).mapPbx fun p =>
    { p with got := true, miss := 0, rx := some (beAt b 4 4, t), peerGt := beAt b 8 8, gone := 0 }).wr
      Reg.PBX_HELD_PEER (beAt b 32 2)).deadStill

theorem hbRx_refused {go : Dev → Dev} (passes : (d.at t).pexOk 0xC1 b bad) (refused : (heard (d.at t) b t).px = Px.refused) :
    d.hbRx b bad t go = heard (d.at t) b t :=
  (pexRx_passes framing passes).trans (if_pos refused)

theorem hbRx_up {go : Dev → Dev} (passes : (d.at t).pexOk 0xC1 b bad) (served : (heard (d.at t) b t).px ≠ Px.refused)
    (up : ((heard (d.at t) b t).peerSeeds b).px = Px.up) :
    d.hbRx b bad t go = ((heard (d.at t) b t).peerSeeds b).peerSays b t go := by
  have heard_of : d.hbRx b bad t go = if ((heard (d.at t) b t).peerSeeds b).px = Px.up
      then ((heard (d.at t) b t).peerSeeds b).peerSays b t go else (heard (d.at t) b t).peerSeeds b :=
    (pexRx_passes framing passes).trans (if_neg served)
  rw [heard_of, if_pos up]

end

/-- Settles O48: each kind of frame past the check that all share. -/
theorem partnerFrames : Obligations.PartnerFrames := by
  intro s b bad t framing a
  refine ⟨fun fails => ?bad, fun passes => ?beat, fun passes up => ?chunk, fun f passes fly up mine => ?ack,
    fun passes up => becomes_health (healthRx_up framing passes up),
    fun x passes was other => becomes_ident (identRx_rebooted framing passes was other)⟩
  case bad =>
    exact ⟨becomes_heartbeat (pexRx_fails framing (fails _)), becomes_chunk (pexRx_fails framing (fails _)),
      becomes_ack (pexRx_fails framing (fails _)), becomes_health (pexRx_fails framing (fails _)),
      becomes_ident (pexRx_fails framing (fails _))⟩
  case beat =>
    intro c
    exact ⟨fun holds => deadStill_alive _ b holds, fun refused => becomes_heartbeat (hbRx_refused framing passes refused),
      fun served upNow => becomes_heartbeat (hbRx_up framing passes served upNow)⟩
  case chunk =>
    intro l w d spoilt
    refine ⟨fun short full => ?_, fun short part => ?_, fun header whole => ?_, fun header part => ?_⟩
    · exact becomes_chunk (chunkRx_more framing passes up ((chunkLast_of_short short).trans (decide_eq_false (by omega))))
    · exact becomes_chunk (chunkRx_last framing passes up ((chunkLast_of_short short).trans (decide_eq_true (by omega))))
    · exact becomes_chunk (chunkRx_last framing passes up ((chunkLast_of_header header).trans (decide_eq_true whole)))
    · exact becomes_chunk (chunkRx_more framing passes up
        ((chunkLast_of_header header).trans (decide_eq_false (Nat.not_le.2 part))))
  case ack =>
    exact ⟨fun refuses => becomes_ack (ackRx_refuses framing passes fly up mine refuses),
      fun accepts full unserved => becomes_ack (ackRx_accepts framing passes fly up mine accepts full unserved)⟩

end Sys2Proof.Proofs
end

section
/-! PROOFS. The states of the partner link and of this controller in the pair (R375 to R383). -/

namespace Sys2Proof.Proofs

open Sys2Proof Sys2Proof.Machine Sys2Proof.Safety

/-- A refused link that drops searches again, and was never up. -/
theorem pebexDrop_refused {d : Dev} (framing : d.pxFraming) (refused : d.px = Px.refused) :
    let a := (d.inc Reg.PBX_CNT_DROP).wr Reg.PBX_STAT_LANES 0
    let x := (a.mapPbx fun p => { p with got := false, miss := 0 }).wr Reg.PBX_RETRY_STAT_ATTEMPTS 0
    let y := (x.wr Reg.TSP_PEER_DIFF 0).mapTime fun t => { t with peerOver := false }
    d.pebexDrop = ((y.mapPbx fun p => { p with dropGt := d.gt }).setPx Px.search) := by
  intro a x y
  rw [Dev.pebexDrop, framing, refused]
  rfl

section
variable {d : Dev} {i : Fin 2} (framing : d.pxFraming)
include framing

theorem laneLoss_shown (shown : bit (d.rd Reg.PBX_STAT_LANES) i.val) :
    let m := setBit (d.rd Reg.PBX_STAT_LANES) i.val false
    let a := (d.wr Reg.PBX_STAT_LANES m).note 0x800B 4 80 0 0 [pU 28 1 0, pU 29 1 i.val]
    d.laneLoss i.val = if m = 0 then a.pebexDrop else a.inc Reg.PBX_CNT_DEGR := by
  have live : (!d.pxFraming || !bit (d.rd Reg.PBX_STAT_LANES) i.val) = false := by rw [framing, shown]; rfl
  exact if_neg (Bool.eq_false_iff.1 live)

theorem laneBack_framing : d.laneBack i.val =
    d.wr Reg.PBX_STAT_LANES (setBit (d.rd Reg.PBX_STAT_LANES) i.val true) := if_pos framing

end

theorem pebexLock_starts {d : Dev} (out : d.px = Px.search ∨ d.px = Px.retry ∨ d.px = Px.lost) :
    d.pebexLock = ((d.setPx Px.ident).wr Reg.PBX_STAT_LANES 3).mapPbx fun p =>
      { p with retry := none, sent := [], rx := none } :=
  if_pos (by simpa [or_assoc] using out)

theorem pebexExpire_retry {d : Dev} {g : Nat} (retries : d.px = Px.retry) (ends : d.pbx.retry = some g) :
    d.pebexExpire = if g ≤ d.gt then (d.setPx Px.lost).mapPbx fun p => { p with retry := none } else d :=
  if_congr (by simp [retries, ends]) rfl rfl

theorem peerConfirm_same {d : Dev} {v : BitVec 32} (pending : d.px = Px.pending)
    (low : d.rd Reg.PBX_CONFIRM_LO = d.rd Reg.PBX_PEER_SER_LO) (high : v.toNat = d.rd Reg.PBX_PEER_SER_HI) :
    let lo := d.rd Reg.PBX_PEER_SER_LO
    let hi := d.rd Reg.PBX_PEER_SER_HI
    d.peerConfirm v.toNat = (((d.mapNv fun x => { x with peer := some (hi * 2 ^ 32 + lo) }).wr Reg.PBX_REC_SER_LO lo).wr
      Reg.PBX_REC_SER_HI hi).pebexUp 1 :=
  if_pos (by simp [pending, low, high])

theorem due_iff {o : Option Nat} {g : Nat} (waits : o = some g) (w now : Nat) :
    (o.any fun g => decide (g + w ≤ now)) = true ↔ g + w ≤ now := by rw [waits]; exact decide_eq_true_iff

/-- The boot wait ends at its time with the duty role (R380). -/
theorem bootWait_waiting {d : Dev} {g : Nat} (enabled : d.on Reg.PBX_CTRL_EN) (noRole : d.role = 3) (alone : d.px ≠ Px.up)
    (waits : d.pbx.boot0 = some g) :
    d.bootWait = if g + d.rd Reg.PBX_CFG_BOOT_WAIT_MS * 1000000 ≤ d.gt
      then (d.mapPbx fun p => { p with boot0 := none }).setRole 0 1 else d := by
  have due := due_iff waits (d.rd Reg.PBX_CFG_BOOT_WAIT_MS * 1000000) d.gt
  refine if_congr ?_ rfl rfl
  rw [enabled, noRole, bne_iff_ne.2 alone]
  exact due

/-- A dead partner is presumed dead once, and a standby takes over (R381, R383). -/
theorem presumeDead_dead {d : Dev} (dead : d.peerDead) (notYet : d.on Reg.PBX_STAT_PRESUMED_DEAD = false) :
    let a := d.flag Reg.PBX_STAT_PRESUMED_DEAD true
    d.presumeDead = if a.role = 1 then a.promote else a := by
  have first : (!d.peerDead || d.on Reg.PBX_STAT_PRESUMED_DEAD) = false := by rw [dead, notYet]; rfl
  exact if_neg (Bool.eq_false_iff.1 first)

/-- Settles O49: each state of the link by the branch that its guard takes. -/
theorem partnerLink : Obligations.PartnerLink := by
  refine ⟨?drop, ?lanes, ?lock, ?retry, ?confirm, ?boot, ?dead, ?standby⟩
  case drop => exact fun s framing refused => becomes_of_run rfl (pebexDrop_refused framing refused)
  case lanes =>
    intro s i framing m a
    refine ⟨fun shown last => ?_, fun shown other => ?_, ?_⟩
    · exact becomes_of_run (f := fun d => d.laneLoss i.val) rfl ((laneLoss_shown framing shown).trans (if_pos last))
    · exact becomes_of_run (f := fun d => d.laneLoss i.val) rfl ((laneLoss_shown framing shown).trans (if_neg other))
    · exact becomes_of_run (f := fun d => d.laneBack i.val) rfl (laneBack_framing framing)
  case lock => exact fun s out => becomes_of_run rfl (pebexLock_starts out)
  case retry =>
    intro s g retries ends
    exact ⟨fun up => becomes_of_run rfl ((pebexExpire_retry retries ends).trans (if_pos up)),
      fun early => becomes_of_run rfl ((pebexExpire_retry retries ends).trans (if_neg (Nat.not_le.2 early)))⟩
  case confirm =>
    exact fun s v pending low high =>
      becomes_of_run (f := fun d => d.peerConfirm v.toNat) rfl (peerConfirm_same pending low high)
  case boot =>
    intro s g enabled noRole alone waits due
    exact ⟨fun up => becomes_of_run rfl ((bootWait_waiting enabled noRole alone waits).trans (if_pos up)),
      fun early => becomes_of_run rfl ((bootWait_waiting enabled noRole alone waits).trans (if_neg (Nat.not_le.2 early)))⟩
  case dead =>
    intro s dead notYet duty a dutyStill
    have notStandby : a.role ≠ 1 := by rw [dutyStill]; decide
    exact becomes_of_run rfl ((presumeDead_dead dead notYet).trans (if_neg notStandby))
  case standby =>
    exact fun s dead notYet standby => becomes_of_run rfl ((presumeDead_dead dead notYet).trans (if_pos standby))

end Sys2Proof.Proofs
end

section
/-! PROOFS. Checkpoints, engine starts and handovers (R384 to R394). -/

namespace Sys2Proof.Proofs

open Sys2Proof Sys2Proof.Machine Sys2Proof.Safety

/-! Checkpoints sent (R387, R391) -/

/-- Chunks are frames: sending them leaves the checkpoint, the cars and the store of actions alone. -/
theorem sendChunks_keeps {α : Type} (g : Dev → α) (sends : ∀ (d : Dev) k body, g (d.pexSend k body) = g d) (d : Dev)
    (seq : Nat) (b : List Byte) : g (d.sendChunks seq b) = g d :=
  foldl_keeps g _ (fun x _ => sends x ..) _ d

/-- A full checkpoint that is due is put in flight, then its chunks are sent. -/
theorem snapshot_full {d : Dev} (due : d.ckpDue) (full : d.ckpFull) : ∃ (x : Dev) (seq : Nat) (b : List Byte) (f : InFlight),
    d.snapshot = x.sendChunks seq b ∧ x.tvt.fly = some f ∧ f.full ∧ f.img.gt = d.tickStart ∧ x.tvt.seq = f.img.seq ∧
      x.tvt.want = [] ∧ x.cars = d.cars ∧ x.ladle = d.ladle := by
  have late : ¬ (!d.ckpDue) = true := by rw [due]; decide
  exact ⟨_, _, _, _, if_neg late, rfl, full, rfl, rfl, rfl, rfl, rfl⟩

theorem snapshot_flies {d : Dev} (due : d.ckpDue) (full : d.ckpFull) :
    ∃ f, d.snapshot.tvt.fly = some f ∧ f.full ∧ f.img.gt = d.tickStart ∧ d.snapshot.tvt.seq = f.img.seq ∧
      d.snapshot.tvt.want = [] ∧ d.snapshot.cars = d.cars ∧ d.snapshot.ladle = d.ladle := by
  obtain ⟨x, seq, b, f, sent, fly, whole, gt, next, want, cars, ladle⟩ := snapshot_full due full
  have tvt : d.snapshot.tvt = x.tvt := by rw [sent]; exact sendChunks_keeps (·.tvt) (fun _ _ _ => rfl) x seq b
  have keptCars : d.snapshot.cars = x.cars := by rw [sent]; exact sendChunks_keeps (·.cars) (fun _ _ _ => rfl) x seq b
  have keptLadle : d.snapshot.ladle = x.ladle := by rw [sent]; exact sendChunks_keeps (·.ladle) (fun _ _ _ => rfl) x seq b
  exact ⟨f, tvt ▸ fly, whole, gt, tvt ▸ next, tvt ▸ want, keptCars.trans cars, keptLadle.trans ladle⟩

/-- A stall is reported at each STALL_MS without an acknowledgement, not before (R391). -/
theorem ckpStall_up {d : Dev} {g : Nat} (up : d.px = Px.up) (waits : d.tvt.waitGt = some g) :
    d.ckpStall = if g + d.rd Reg.TVT_STALL_STALL_MS * 1000000 * (d.tvt.stalls + 1) ≤ d.gt
      then (d.mapTvt fun t => { t with stalls := t.stalls + 1 }).raise .checkpointStall 0
        [pU 16 4 ((d.gt - d.tvt.ackGt) / 1000000)] else d := by
  have due := due_iff waits (d.rd Reg.TVT_STALL_STALL_MS * 1000000 * (d.tvt.stalls + 1)) d.gt
  refine if_congr ?_ rfl rfl
  rw [up]
  exact due

/-! Engines (R394) -/

/-- An engine that starts without an image takes its car fresh. -/
theorem engineStarted_fresh {d : Dev} {n : Fin 16} (starts : d.dom (5 * n.val) = Dom.starting)
    (noImage : (d.setEngine n.val Dom.on).imgSec (0x10 + n.val) = none) :
    d.engineStarted n = ((d.setEngine n.val Dom.on).freshCar n).takeCar n := by
  have waiting : ¬ (d.dom (5 * n.val) != Dom.starting) = true := by rw [starts]; decide
  rw [Dev.engineStarted]
  dsimp only
  rw [if_neg waiting, noImage]

/-! Descriptors of family 0x9_ (R384, R385, R388, R393) -/

section
variable {s : State} {q : Fin 32} {b : List Byte} {d : Dev} {dn : Nat}

theorem becomes_leaseRelease (passes : Passes s 0x90 q b) (fetch : fetched s 0x90 q b = (dn, d)) (up : d.px = Px.up)
    (ready : d.on Reg.PBX_STAT_PEER_READY) (owns : d.own (Fin.ofNat 16 (dIndex b)))
    (idle : ∀ h ∈ d.pbx.handing, h.car ≠ dIndex b) :
    Becomes (.leaseRelease q b) s (d.mapPbx fun p =>
      { p with handing := p.handing ++
          [{ car := dIndex b, start := d.gt, who := some (q.val, dn), closed := false, acked := false }] }) := by
  have notYet : (d.pbx.handing.any fun h => h.car = dIndex b) = false :=
    List.any_eq_false.2 fun h mem same => idle h mem (of_decide_eq_true same)
  refine becomes_of_admit passes rfl ?_
  rw [fetch]
  dsimp only
  rw [px_up_passes up, ready, owns, notYet]
  rfl

theorem becomes_dutyHandover (passes : Passes s 0x91 q b) (fetch : fetched s 0x91 q b = (dn, d)) (up : d.px = Px.up)
    (ready : d.on Reg.PBX_STAT_PEER_READY) (duty : d.role = 0) (idle : d.pbx.duty = none) :
    Becomes (.dutyHandover q b) s (d.mapPbx fun p => { p with duty := some (q.val, dn, d.gt) }) := by
  refine becomes_of_admit passes rfl ?_
  rw [fetch]
  dsimp only
  rw [px_up_passes up, ready, duty, idle]
  rfl

theorem answers_standbyMode_tested (passes : Passes s 0x93 q b) (fetch : fetched s 0x93 q b = (dn, d))
    (standby : d.role = 1) (tested : byteAt b 16 ≠ 0) :
    Answers (.standbyMode q b) s 0x93 q b (d.wr Reg.PBX_STAT_TESTED (byteAt b 16)) (AdmRes.done 0 0) := by
  refine answers_of_admit passes rfl ?_
  rw [fetch]
  dsimp only
  rw [standby, decide_eq_false tested]
  rfl

theorem answers_standbyMode_busy (passes : Passes s 0x93 q b) (fetch : fetched s 0x93 q b = (dn, d)) (other : d.role ≠ 1) :
    Answers (.standbyMode q b) s 0x93 q b d (AdmRes.refuse Stat.busy) := by
  refine answers_of_admit passes rfl ?_
  rw [fetch]
  dsimp only
  rw [bne_iff_ne.2 other]
  rfl

end

/-- A request 60 s old closes, a younger one does not (R384). -/
theorem handExpire_over {d : Dev} {n : Nat} (old : ∃ h ∈ d.pbx.handing, h.car = n ∧ h.start + 60000000000 ≤ d.gt) :
    d.handExpire n = d.handClose n := by
  obtain ⟨h, mem, mine, over'⟩ := old
  exact if_pos (List.any_eq_true.2 ⟨h, mem, by rw [decide_eq_true mine, decide_eq_true over']; rfl⟩)

theorem handExpire_young {d : Dev} {n : Nat} (young : ∀ h ∈ d.pbx.handing, h.car = n → d.gt < h.start + 60000000000) :
    d.handExpire n = d := by
  refine if_neg (Bool.eq_false_iff.1 (List.any_eq_false.2 fun h mem old => ?_))
  obtain ⟨mine, over'⟩ := Bool.and_eq_true_iff.1 old
  exact Nat.not_le.2 (young h mem (of_decide_eq_true mine)) (of_decide_eq_true over')

/-- Settles O50: snapshot and stall, an engine's start, the descriptors of the pair, a handover's time. -/
theorem checkpointsAndHandover : Obligations.CheckpointsAndHandover := by
  refine ⟨?snap, ?stall, ?start, ?release, ?duty, ?now, ?mode, ?wait⟩
  case snap =>
    intro s due full
    obtain ⟨f, flies⟩ := snapshot_flies due full
    exact ⟨_, f, becomes_of_run rfl rfl, flies⟩
  case stall =>
    intro s g up waits due
    exact ⟨fun late => becomes_of_run rfl ((ckpStall_up up waits).trans (if_pos late)),
      fun early => becomes_of_run rfl ((ckpStall_up up waits).trans (if_neg (Nat.not_le.2 early)))⟩
  case start =>
    exact fun s n starts noImage => becomes_of_run (f := fun d => d.engineStarted n) rfl (engineStarted_fresh starts noImage)
  case release => exact fun s q b passes up ready owns idle => becomes_leaseRelease passes rfl up ready owns idle
  case duty => exact fun s q b passes up ready duty idle => becomes_dutyHandover passes rfl up ready duty idle
  case now => exact fun s q b passes => becomes_of_admit passes rfl rfl
  case mode =>
    exact fun s q b passes => ⟨fun standby tested => answers_standbyMode_tested passes rfl standby tested,
      fun other => answers_standbyMode_busy passes rfl other⟩
  case wait =>
    exact fun s n => ⟨fun old => becomes_of_run (f := fun d => d.handExpire n.val) rfl (handExpire_over old),
      fun young => becomes_of_run (f := fun d => d.handExpire n.val) rfl (handExpire_young young)⟩

end Sys2Proof.Proofs
end

section
/-! PROOFS. Whisk: requests, repairs, the health report, rolling steps, results (R428 to R439). -/

namespace Sys2Proof.Proofs

open Sys2Proof Sys2Proof.Machine Sys2Proof.Safety

/-! Requests (R110, R434, R436) -/

section
variable {s : State} {q : Fin 32} {b : List Byte} {d : Dev} {dn : Nat}

theorem answers_bistRun (passes : Passes s 0x80 q b) (fetch : fetched s 0x80 q b = (dn, d))
    (testable : d.testable (byteAt b 16)) (room : d.whk.queue.length < 16) :
    Answers (.bistRun q b) s 0x80 q b
      (d.mapWhk fun w => { w with
        queue := w.queue ++ [{ domain := byteAt b 16, kind := byteAt b 17, pset := byteAt b 18, asked := true }] }).testNext
      (AdmRes.done 0 0) := by
  refine answers_of_admit passes rfl ?_
  rw [fetch]
  dsimp only
  rw [testable, decide_eq_false (Nat.not_le.2 room)]
  rfl

theorem answers_bistRun_busy (passes : Passes s 0x80 q b) (fetch : fetched s 0x80 q b = (dn, d))
    (untestable : d.testable (byteAt b 16) = false) :
    Answers (.bistRun q b) s 0x80 q b d (AdmRes.refuse Stat.busy) := by
  refine answers_of_admit passes rfl ?_
  rw [fetch]
  dsimp only
  rw [untestable]
  rfl

/-! Repairs (R437 to R439) -/

theorem answers_repairSoft_busy (passes : Passes s 0x81 q b) (fetch : fetched s 0x81 q b = (dn, d))
    (untestable : d.testable (byteAt b 16) = false) :
    Answers (.repairSoft q b) s 0x81 q b d (AdmRes.refuse Stat.busy) := by
  refine answers_of_admit passes rfl ?_
  rw [fetch]
  dsimp only
  rw [untestable]
  rfl

theorem answers_repairSoft_rows {l : List (MacroRes)} {r : MacroRes} (passes : Passes s 0x81 q b)
    (fetch : fetched s 0x81 q b = (dn, d)) (testable : d.testable (byteAt b 16))
    (tested : (d.whk.mem.find? fun p => p.1 = byteAt b 16) = some (byteAt b 16, l))
    (found : (l.find? fun r => r.mac = byteAt b 17) = some r) (failed : r.ok = false) (listed : r.ovf = false)
    (room : (distinct (r.pairs.map (·.1))).length ≤ (d.rowsFree (byteAt b 16) (byteAt b 17)).length) :
    let x := d.addSpares (((distinct (r.pairs.map (·.1))).zip (d.rowsFree (byteAt b 16) (byteAt b 17))).map fun p =>
      { domain := byteAt b 16, mac := byteAt b 17, row := some p.2, value := p.1, hard := false })
    Answers (.repairSoft q b) s 0x81 q b x (AdmRes.done 0 (x.sparesInfo (byteAt b 16) (byteAt b 17))) := by
  refine answers_of_admit passes rfl ?_
  rw [fetch]
  dsimp only
  have result : ((d.whk.mem.find? fun p => p.1 = byteAt b 16).bind fun p =>
      p.2.find? fun r => r.mac = byteAt b 17) = some r := by
    rw [tested]; exact found
  rw [testable, result]
  dsimp only
  rw [failed, listed, decide_eq_true room]
  rfl

/-- REPAIR_HARD answers, and adds to OTP the entries it wrote. -/
theorem exec_repairHard {k : Option (Fin 3)} {y : AdmRes} (passes : Passes s 0x82 q b) (fetch : fetched s 0x82 q b = (dn, d))
    (answer : (d.repairHard s.otp (byteAt b 16) (byteAt b 17) (leAt b 20 4) (cut b 24 32) (k.map (·.val))).2.2 = some y) :
    let r := d.repairHard s.otp (byteAt b 16) (byteAt b 17) (leAt b 20 4) (cut b 24 32) (k.map (·.val))
    exec (.repairHard q b k) s =
      .next { s with dev := r.1.admSet q.val dn y, otp := { s.otp with hard := s.otp.hard ++ r.2.1 } } := by
  intro r
  have number : dn = (fetched s 0x82 q b).1 := by rw [fetch]
  have device : d = (fetched s 0x82 q b).2 := by rw [fetch]
  have entries : s.dev.hardEntries s.otp q.val b (k.map (·.val)) = r.2.1 := by
    have noFault : (s.dev.fetchOne q.val b 0x82).2.precheck 0x82 q.val b = none := passes
    subst device
    unfold Dev.hardEntries
    dsimp only
    rw [noFault]
  have device' : s.dev.opRepairHard s.otp q.val b (k.map (·.val)) = r.1.admSet q.val dn y := by
    subst number device
    exact Dev.admit_done _ passes (Prod.ext rfl answer)
  show Host.Outcome.next _ = _
  rw [entries, device']

end

theorem repairHard_noSoft {d : Dev} {o : Otp} {dom mac auth : Nat} {resp : List Byte} {bad : Option Nat}
    (noSoft : (d.sparesOf dom mac).filter (fun x => !x.hard) = []) :
    d.repairHard o dom mac auth resp bad = (d, [], some (AdmRes.refuse Stat.busy)) := by
  rw [Dev.repairHard, noSoft]; rfl

/-! The health report (R435) -/

/-- A health report that is due while the link is not up: its counts are shown, and nothing is sent. -/
theorem healthReport_alone {d : Dev} (tested : d.tested) (cold : d.coldDomains ≠ []) (due : d.healthDue) :
    let l := d.coldDomains
    let ok := (l.filter fun x => d.lastLogic x = some true && d.lastMem x = some true).length
    let bad := (l.filter fun x => d.lastLogic x = some false || d.lastMem x = some false).length
    let a := d.mapWhk fun w => { w with healthGt := some d.tickStart }
    let x := ((a.wr Reg.WHK_HEALTH_PASSED ok).wr Reg.WHK_HEALTH_FAILED bad).wr Reg.WHK_HEALTH_LAST (d.whk.seen.getD 0)
    x.px ≠ Px.up → d.healthReport = x := by
  intro l ok bad a x alone
  have forms : (!d.tested || d.coldDomains.isEmpty || !d.healthDue) = false := by
    rw [tested, due, List.isEmpty_eq_false_iff.2 cold]; rfl
  exact (if_neg (Bool.eq_false_iff.1 forms)).trans (if_pos (bne_iff_ne.2 alone))

theorem healthReport_notDue {d : Dev} (notDue : d.healthDue = false) : d.healthReport = d := by
  have idle : (!d.tested || d.coldDomains.isEmpty || !d.healthDue) = true := by rw [notDue, Bool.not_false, Bool.or_true]
  exact if_pos idle

/-! Rolling tests (R434) -/

/-- The first rolling step past its gap begins with the first cold domain. -/
theorem rollStep_first {d : Dev} {k : Nat} {l : List Nat} (tested : d.tested) (idle : d.whk.run = none)
    (noRequest : d.whk.queue = []) (cold : d.coldDomains = k :: l) (first : d.whk.last = none) (past : d.whk.gapGt ≤ d.gt) :
    d.rollStep = d.testBegin { domain := k, kind := 0, pset := d.rd Reg.WHK_CTRL_ROLL_PSET, asked := false } := by
  have goes : (!d.tested || d.whk.run.isSome || !d.whk.queue.isEmpty || decide (d.gt < d.whk.gapGt)) = false := by
    rw [tested, idle, noRequest, decide_eq_false (Nat.not_lt.2 past)]; rfl
  rw [Dev.rollStep, goes, cold, first]
  rfl

/-! Results (R428 to R432) -/

theorem firstBad_none_iff (g : BistSig) (pset : Nat) (misr : Vector (BitVec 64) 4) :
    firstBad g pset misr = none ↔ ∀ k : Fin 4, k.val ≤ pset → misr[k] = g.sets[k] := by
  simp [firstBad, List.find?_eq_none]

/-- A logic test passes where no pattern set run shows a bad signature. -/
theorem logicRes_pass_iff (g : BistSig) (diag : Bool) (pset : Nat) (misr : Vector (BitVec 64) 4)
    (chains : Vector (BitVec 64) 64) : (logicRes g diag pset misr chains).pass ↔ firstBad g pset misr = none := by
  unfold logicRes
  split
  · next good => simp [good]
  · next k bad =>
    simp only [bad, reduceCtorEq, iff_false, Bool.not_eq_true]
    split
    · rfl
    · split
      · rfl
      · split <;> rfl

section
variable {d : Dev} {o : Otp} {t : Test} (runs : d.whk.run = some t)
include runs

theorem testDone_logic_early {m : Vector (BitVec 64) 4} {c : Vector (BitVec 64) 64}
    (early : d.logicRan t (logicRes (bistSig o.bist t.domain) (d.on Reg.WHK_CTRL_DIAG_EN) t.pset m c).diag = false) :
    d.testDone o (.logic m c) = d := by
  unfold Dev.testDone
  rw [runs]
  dsimp only
  rw [early, Bool.not_false, Bool.or_true, if_pos rfl]

theorem testDone_logic_ran {m : Vector (BitVec 64) 4} {c : Vector (BitVec 64) 64} (logic : t.kind = 0)
    (ran : d.logicRan t (logicRes (bistSig o.bist t.domain) (d.on Reg.WHK_CTRL_DIAG_EN) t.pset m c).diag) (asked : t.asked) :
    d.testDone o (.logic m c) = (((d.testSeen t).logicDone t.domain true
      (logicRes (bistSig o.bist t.domain) (d.on Reg.WHK_CTRL_DIAG_EN) t.pset m c)).testOver t) := by
  unfold Dev.testDone
  rw [runs]
  dsimp only
  rw [ran, logic, asked]
  rfl

theorem testDone_memory {l : List (Fin 64 × List ReadErr)} (memory : t.kind = 1) (asked : t.asked) :
    d.testDone o (.memory l) = (((d.testSeen t).memDone t.domain true (d.memRes t.domain l)).testOver t) := by
  unfold Dev.testDone
  rw [runs]
  dsimp only
  rw [memory, asked]
  rfl

end

/-- Settles O54: requests and repairs past the common checks, the report, a rolling step, the ends of tests. -/
theorem whiskCommands : Obligations.WhiskCommands := by
  refine ⟨?run, ?soft, ?hard, ?report, ?noReport, ?roll, ?logic, ?memory⟩
  case run =>
    exact fun s q b passes => ⟨fun testable room => answers_bistRun passes rfl testable room,
      fun untestable => answers_bistRun_busy passes rfl untestable⟩
  case soft =>
    exact fun s q b passes => ⟨fun untestable => answers_repairSoft_busy passes rfl untestable,
      fun l r testable tested found failed listed room =>
        answers_repairSoft_rows passes rfl testable tested found failed listed room⟩
  case hard =>
    intro s q b k passes r
    refine ⟨fun y answer => exec_repairHard passes rfl answer, fun noSoft => ?_⟩
    have refused : r = _ := repairHard_noSoft noSoft
    exact ⟨congrArg (·.2.1) refused, congrArg (·.2.2) refused⟩
  case report =>
    exact fun s tested cold due _ alone => becomes_of_run rfl (healthReport_alone tested cold due alone)
  case noReport => exact fun s notDue => becomes_of_run rfl (healthReport_notDue notDue)
  case roll =>
    exact fun s k l tested idle noRequest cold first past =>
      becomes_of_run rfl (rollStep_first tested idle noRequest cold first past)
  case logic =>
    intro s t m c runs logic g r
    exact ⟨fun early => becomes_of_runO (f := fun o d => d.testDone o (.logic m c)) rfl (testDone_logic_early runs early),
      fun ran asked => becomes_of_runO (f := fun o d => d.testDone o (.logic m c)) rfl
        (testDone_logic_ran runs logic ran asked),
      (logicRes_pass_iff ..).trans (firstBad_none_iff ..)⟩
  case memory =>
    exact fun s t l runs memory asked => becomes_of_runO (f := fun o d => d.testDone o (.memory l)) rfl
      (testDone_memory runs memory asked)

end Sys2Proof.Proofs
end

section
/-! PROOFS. Resets and start-up of the controller (R450 to R457). -/

namespace Sys2Proof.Proofs

open Sys2Proof Sys2Proof.Machine Sys2Proof.Safety

/-! Registers through a reset (R451) -/

theorem get_filter (p : Nat → Bool) (m : RegMap) (key : Nat) :
    RegMap.get (m.filter fun e => p e.1) key = if p key then m.get key else 0 := by
  induction m with
  | nil => simp [RegMap.get]
  | cons e m ih =>
    obtain ⟨k, v⟩ := e
    by_cases same : k = key
    · subst same
      cases kept : p k <;> simp [RegMap.get, kept, ih]
    · cases kept : p k <;> simp [RegMap.get, kept, ih, same]

section
variable {d x : Dev} (regs : x.regs = d.regs.filter fun e => aonKeeps e.1)
include regs

/-- A field that AON keeps reads as before. -/
theorem rd_kept {f : RF} (kept : aonKeeps f.key = true) : x.rd f = d.rd f := by
  rw [Dev.rd, RegMap.rd, regs, get_filter, if_pos kept]; rfl

/-- Any other field reads its reset value. -/
theorem rd_lost {f : RF} (lost : aonKeeps f.key = false) : x.rd f = (0 ^^^ f.rst) % 2 ^ f.w := by
  rw [Dev.rd, RegMap.rd, regs, get_filter, if_neg (Bool.eq_false_iff.1 lost)]

end

/-- A controller just reset, before the registers that tell of the reset are written. -/
def resetBase (s : Dev) (kept : Bool) : Dev :=
  let sys := { SysSt.start with
    dpSts := s.sys.dpSts
    latch := s.sys.latch.filter fun p => 0x4000 ≤ p.1 && p.1 < 0x4800
    prevStep := if s.on Reg.RST_STAT_BOOT_DONE then 0xFF else s.rd Reg.RST_STAT_STEP
    lostActs := if !kept then 0xFFFFFFFF else if s.inReset then s.sys.lostActs else s.ladle.acts.length
    lostCmps := if !kept then 0xFFFFFFFF else if s.inReset then s.sys.lostCmps else s.host.backlog.length }
  { Dev.start with
    tx := s.tx
    free := s.free
    regs := s.regs.filter fun e => aonKeeps e.1
    time := s.time.warm
    nv := s.nv
    logP := s.logP
    log := LogSt.start s.logP.reserve (if kept then s.log.ring else [])
    sys := sys }

/-- The registers that tell of a reset, written. -/
def resetShown (x : Dev) (gen cause : Nat) (kept : Bool) (gt : Nat) : Dev :=
  let a := (x.wr Reg.HST_STAT_GEN gen).wr Reg.HST_STAT_LAST_RST 1
  let b := ((a.wr Reg.RST_STAT_CAUSE cause).flag Reg.RST_STAT_COLD false).flag Reg.RST_STAT_LP4X_KEPT kept
  let c := ((b.wr Reg.RST_STAT_STEP 0).flag Reg.RST_STAT_BOOT_DONE false).flag Reg.RST_STAT_IMAGE false
  (((c.wr Reg.TSP_PEER_DIFF 0).inc Reg.RST_CNT).wr Reg.RST_GT_LO gt).wr Reg.RST_GT_HI (gt / 2 ^ 32)

theorem ctrlReset_eq (s : Dev) (cause : Nat) (kept : Bool) :
    s.ctrlReset cause kept = resetShown (resetBase s kept) (nextGen s.gen) cause kept s.gt := rfl

section
variable (x : Dev) (gen cause gt : Nat) (kept : Bool)

theorem resetShown_cause : (resetShown x gen cause kept gt).rd Reg.RST_STAT_CAUSE = cause % 8 := by
  simp (disch := decide) only [resetShown, Dev.flag, Dev.inc, Dev.rd_wr_ne, Dev.rd_wr_same]
  rfl

theorem resetShown_count : (resetShown x gen cause kept gt).rd Reg.RST_CNT = (x.rd Reg.RST_CNT + 1) % 2 ^ 32 := by
  simp (disch := decide) only [resetShown, Dev.flag, Dev.inc, Dev.rd_wr_ne, Dev.rd_wr_same]
  rfl

theorem resetShown_lock : (resetShown x gen cause kept gt).rd Reg.GLB_LOCK = x.rd Reg.GLB_LOCK := by
  simp (disch := decide) only [resetShown, Dev.flag, Dev.inc, Dev.rd_wr_ne]

end

/-- Only registers are written. -/
theorem resetShown_leaves (x : Dev) (gen cause gt : Nat) (kept : Bool) :
    let d := resetShown x gen cause kept gt
    d.time = x.time ∧ d.ladle = x.ladle ∧ d.nv = x.nv ∧ d.logP = x.logP := by
  simp [resetShown]

/-- Group Time and the persistent tier stay, and no action is left. -/
theorem resetBase_leaves (s : Dev) (kept : Bool) : (resetBase s kept).gt = s.gt ∧ (resetBase s kept).ladle.acts = [] ∧
    (resetBase s kept).nv = s.nv ∧ (resetBase s kept).logP = s.logP := by
  unfold resetBase
  exact ⟨rfl, rfl, rfl, rfl⟩

/-- A reset ends the lock and every action, and keeps Group Time and the persistent tier. -/
theorem ctrlReset_leaves (s : Dev) (c : Nat) (k : Bool) (small : c < 8) : let d := s.ctrlReset c k
    d.gt = s.gt ∧ d.rd Reg.RST_STAT_CAUSE = c ∧ d.locked = false ∧ d.ladle.acts = [] ∧ d.nv = s.nv ∧
      d.logP = s.logP ∧ d.rd Reg.RST_CNT = (s.rd Reg.RST_CNT + 1) % 2 ^ 32 := by
  rw [ctrlReset_eq]
  have unlocked : (resetBase s k).rd Reg.GLB_LOCK = 0 := rd_lost (d := s) rfl (by decide)
  have counted : (resetBase s k).rd Reg.RST_CNT = s.rd Reg.RST_CNT := rd_kept rfl (by decide)
  obtain ⟨time, ladle, nv, logP⟩ := resetShown_leaves (resetBase s k) (nextGen s.gen) c s.gt k
  obtain ⟨baseTime, baseActs, baseNv, baseLogP⟩ := resetBase_leaves s k
  refine ⟨(congrArg (·.gt) time).trans baseTime, ?_, ?_, (congrArg (·.acts) ladle).trans baseActs, nv.trans baseNv,
    logP.trans baseLogP, ?_⟩
  · rw [resetShown_cause, Nat.mod_eq_of_lt small]
  · rw [Dev.locked, Dev.on, resetShown_lock, unlocked]; rfl
  · rw [resetShown_count, counted]

/-! Power-on (R450) -/

/-- After a power-on the registers are those of the start, but the strap. -/
theorem powerOn_rd (s : Dev) {f : RF} (other : f.key ≠ Reg.GLB_ID_XY.key) : s.powerOn.rd f = Dev.start.rd f := by
  rw [Dev.powerOn, Dev.rd_wr_ne _ _ _ _ other]; rfl

theorem powerOn_leaves (s : Dev) : s.powerOn.gt = 0 ∧ s.powerOn.on Reg.TSP_STAT_GT_VALID = false ∧
    s.powerOn.locked = false ∧ s.powerOn.inReset ∧ s.powerOn.ladle.acts = [] ∧
    s.powerOn.nv.boots = (s.nv.boots + 1) % 65536 ∧ s.powerOn.nv.marker = s.nv.marker ∧ s.powerOn.logP = s.logP := by
  refine ⟨rfl, ?_, ?_, ?_, rfl, rfl, rfl, rfl⟩
  · rw [Dev.on, powerOn_rd s (by decide)]; decide
  · rw [Dev.locked, Dev.on, powerOn_rd s (by decide)]; decide
  · rw [Dev.inReset, Dev.dom, powerOn_rd s (by decide)]; decide

/-! Requests and faults that lead to a reset (R366, R453 to R455) -/

section
variable {d : Dev} {v : Nat} {kept : Bool}

theorem swReset_unkeyed (unkeyed : Reg.RST_CTRL_KEY.cut v ≠ 0xA5C3) : d.swReset v kept = d.inc Reg.RST_CNT_REFUSED :=
  if_pos (bne_iff_ne.2 unkeyed)

theorem swReset_keyed (keyed : Reg.RST_CTRL_KEY.cut v = 0xA5C3) (go : Reg.RST_CTRL_GO.cut v ≠ 0) :
    d.swReset v kept = if d.locked && !d.on Reg.RST_CFG_SW_EN then d.inc Reg.RST_CNT_REFUSED else d.endSoon 3 kept := by
  have key : ¬ (Reg.RST_CTRL_KEY.cut v != 0xA5C3) = true := by rw [keyed]; decide
  exact (if_neg key).trans (if_neg go)

theorem swReset_open (keyed : Reg.RST_CTRL_KEY.cut v = 0xA5C3) (go : Reg.RST_CTRL_GO.cut v ≠ 0)
    (unlocked : d.locked = false) :
    d.swReset v kept = d.endSoon 3 kept := by
  rw [swReset_keyed keyed go, unlocked]; rfl

theorem swReset_disabled (keyed : Reg.RST_CTRL_KEY.cut v = 0xA5C3) (go : Reg.RST_CTRL_GO.cut v ≠ 0) (locked : d.locked)
    (disabled : d.on Reg.RST_CFG_SW_EN = false) : d.swReset v kept = d.inc Reg.RST_CNT_REFUSED := by
  rw [swReset_keyed keyed go, locked, disabled]; rfl

theorem thermStop_hot {t : Int} (hot : 115 < t) : d.thermStop t kept = (d.seeTj t).ctrlReset 6 kept := if_pos hot

theorem thermStop_cool {t : Int} (cool : t ≤ 115) : d.thermStop t kept = d.seeTj t := if_neg (Int.not_lt.2 cool)

end

/-! Start-up (R457) -/

/-- Steps 0 to 6 of a start-up, its image judged. -/
def bootJudged (d : Dev) (o : Otp) (b : BootIn) : Bool × Dev :=
  let a := (d.bootEarly o b).wr Reg.RST_STAT_STEP 6
  (a.wr Reg.PBX_STAT_TESTED (a.rd Reg.PBX_CTRL_TESTED)).imgBoot o

/-- The start-up up to the lock. -/
def bootOpen (d : Dev) (o : Otp) (b : BootIn) : Dev :=
  let e := ((bootJudged d o b).2.startPorts o.bist b.tests).flag Reg.WHK_STAT_BOOT_DONE true
  { e with sys := { e.sys with release := (e.gt : Int) - b.ms * 1000000 } }

/-- A start-up that may be released ends before the lock, or at it where its image is applied. -/
theorem boot_released {d : Dev} {o : Otp} {b : BootIn} (inReset : d.inReset) (released : d.released b) :
    d.boot o b = if (bootJudged d o b).1 then (bootOpen d o b).lockDone 1 else bootOpen d o b := by
  have may : (!d.inReset || !d.released b) = false := by rw [inReset, released]; rfl
  exact if_neg (Bool.eq_false_iff.1 may)

/-- Settles O55: each reset by its command, what it leaves by its registers, a start-up by its image. -/
theorem controllerResets : Obligations.ControllerResets := by
  refine ⟨fun s => ⟨_, becomes_of_run rfl rfl, powerOn_leaves s.dev⟩,
    fun s k => ⟨?nreset, ?brownout, ?dog, ?dogReset, ?hot⟩,
    fun s c k small => ctrlReset_leaves s.dev c k small, fun s v k => ⟨?unkeyed, ?keyed⟩, ?fault, ?start⟩
  case nreset => exact becomes_of_run (f := fun d => d.ctrlReset 2 k) rfl rfl
  case brownout => exact becomes_of_run (f := fun d => d.ctrlReset 1 false) rfl rfl
  case dog =>
    exact fun runs => becomes_of_run (f := fun d => if d.inReset then d else d.watchdog k) rfl
      (if_neg (Bool.eq_false_iff.1 runs))
  case dogReset =>
    exact fun inReset => becomes_of_run (f := fun d => if d.inReset then d else d.watchdog k) rfl (if_pos inReset)
  case hot =>
    exact fun t => ⟨fun hot => becomes_of_run (f := fun d => d.thermStop t k) rfl (thermStop_hot hot),
      fun cool => becomes_of_run (f := fun d => d.thermStop t k) rfl (thermStop_cool cool)⟩
  case unkeyed =>
    exact fun unkeyed => becomes_of_run (f := fun d => d.swReset v.toNat k) rfl (swReset_unkeyed unkeyed)
  case keyed =>
    exact fun keyed go =>
      ⟨fun unlocked => becomes_of_run (f := fun d => d.swReset v.toNat k) rfl (swReset_open keyed go unlocked),
        fun locked disabled => becomes_of_run (f := fun d => d.swReset v.toNat k) rfl
          (swReset_disabled keyed go locked disabled)⟩
  case fault =>
    exact fun s l k runs => becomes_of_run (f := fun d => d.ctrlFault l k) rfl (if_neg (Bool.eq_false_iff.1 runs))
  case start =>
    intro s b inReset released a r e d
    exact ⟨fun unapplied => becomes_of_runO (f := fun o d => d.boot o b) rfl
        ((boot_released inReset released).trans (if_neg (Bool.eq_false_iff.1 unapplied))),
      fun applied => becomes_of_runO (f := fun o d => d.boot o b) rfl
        ((boot_released inReset released).trans (if_pos applied))⟩

end Sys2Proof.Proofs
end

section
/-! PROOFS. Domains, clocks, temperature and Ethernet links (R443 to R455, R145), and the setup commands (R469 to R472, R483,
R484). -/

namespace Sys2Proof.Proofs

open Sys2Proof Sys2Proof.Machine Sys2Proof.Safety

/-! Domains and clocks (R443, R449) -/

theorem domIdle_may {d : Dev} {k : Nat} (auto : d.on Reg.PWR_CTRL_AUTO_IDLE) (runs : d.dom k = Dom.on) (may : d.idleOk k) :
    d.domIdle k = d.setDom k Dom.idle :=
  if_pos (by rw [auto, may, decide_eq_true runs]; rfl)

/-- The lost clock of the host island holds the island and nothing else. -/
theorem pllUnlock_host {d : Dev} {kept : Bool} (runs : d.host.refHeld = false) :
    (d.pllUnlock .host kept).host.refHeld ∧ (d.pllUnlock .host kept).cars = d.cars ∧
      (d.pllUnlock .host kept).ladle = d.ladle ∧ (d.pllUnlock .host kept).gt = d.gt := by
  have held : d.pllUnlock .host kept =
      (((d.hostReset .perst).flag Reg.CLK_STAT_HOST_LOCK false).flag Reg.CLK_STAT_PCIE_REF_OK false).mapHost fun h =>
        { h with refHeld := true } := if_neg (Bool.eq_false_iff.1 runs)
  have core := hostReset_core d .perst
  rw [held]
  exact ⟨rfl, core.cars, core.ladle, congrArg (·.gt) core.time⟩

/-! Temperature (R455) -/

section
variable {d : Dev} {t : Int}

theorem thermWarn_first (hot : 100 < t) (notYet : (d.seeTj t).on Reg.PWR_MON_TWARN = false) :
    d.thermWarn t = ((d.seeTj t).flag Reg.PWR_MON_TWARN true).warnRecord := by
  have warns : (decide (t ≤ 100) || (d.seeTj t).on Reg.PWR_MON_TWARN) = false := by
    rw [notYet, decide_eq_false (Int.not_le.2 hot)]; rfl
  exact if_neg (Bool.eq_false_iff.1 warns)

theorem thermWarn_cool (cool : t ≤ 100) : d.thermWarn t = d.seeTj t :=
  if_pos (by rw [decide_eq_true cool]; rfl)

theorem thermClear_cool (cool : t ≤ 95) : d.thermClear t = (d.seeTj t).flag Reg.PWR_MON_TWARN false := if_pos cool

theorem thermClear_hot (hot : 95 < t) : d.thermClear t = d.seeTj t := if_neg (Int.not_le.2 hot)

end

/-! Ethernet links (R43, R145) -/

section
variable {d : Dev} {p : Fin 2} {gig : Bool}
  (serves : d.on (if p = 0 then Reg.CTN_ISO_IO_ETH0 else Reg.CTN_ISO_IO_ETH1) = false)
include serves

theorem ethLink_up : d.ethLink p true gig =
    let x := (d.flag (Reg.PTP_ETH_STAT_LINK p.val) true).flag (Reg.PTP_ETH_STAT_SPEED p.val) gig
    (x.cueFirstAll x.gt).cueSecondAll x.gt :=
  (if_neg (Bool.eq_false_iff.1 serves)).trans (if_pos rfl)

theorem ethLink_down : d.ethLink p false gig =
    if d.actPort = p then d.ptpLinkLost else d.flag (Reg.PTP_ETH_STAT_LINK p.val) false :=
  (if_neg (Bool.eq_false_iff.1 serves)).trans (if_neg Bool.false_ne_true)

end

/-- Settles O56: each clock, each threshold and each link by its own branch. -/
theorem powerService : Obligations.PowerService := by
  refine ⟨?domains, ?engine, ?spine, ?host, ?refclk, ?heat, ?eth⟩
  case domains =>
    exact fun s k => ⟨fun auto runs may => becomes_of_run (f := fun d => d.domIdle k.val) rfl (domIdle_may auto runs may),
      fun idle => becomes_of_run (f := fun d => d.domWake k.val) rfl (if_pos idle)⟩
  case engine => exact fun s n k => becomes_of_run (f := fun d => d.pllUnlock (.engine n) k) rfl rfl
  case spine => exact fun s k => becomes_of_run (f := fun d => d.pllUnlock .spine k) rfl rfl
  case host =>
    exact fun s k runs => ⟨_, becomes_of_run (f := fun d => d.pllUnlock .host k) rfl rfl, pllUnlock_host runs⟩
  case refclk =>
    exact fun s speed x2 runs => becomes_of_run (f := fun d => d.refclkBack speed x2) rfl (if_neg (Bool.eq_false_iff.1 runs))
  case heat =>
    exact fun s t =>
      ⟨fun hot notYet => becomes_of_run (f := fun d => d.thermWarn t) rfl (thermWarn_first hot notYet),
        fun cool => becomes_of_run (f := fun d => d.thermWarn t) rfl (thermWarn_cool cool),
        fun cool => becomes_of_run (f := fun d => d.thermClear t) rfl (thermClear_cool cool),
        fun hot => becomes_of_run (f := fun d => d.thermClear t) rfl (thermClear_hot hot)⟩
  case eth =>
    exact fun s p gig serves =>
      ⟨becomes_of_run (f := fun d => d.ethLink p true gig) rfl (ethLink_up serves),
        fun active => becomes_of_run (f := fun d => d.ethLink p false gig) rfl ((ethLink_down serves).trans (if_pos active)),
        fun other => becomes_of_run (f := fun d => d.ethLink p false gig) rfl ((ethLink_down serves).trans (if_neg other))⟩

/-! The lock (R469 to R471) -/

/-- A keyed lock request before the lock tries it. -/
theorem lockReq_keyed {d : Dev} {v : Nat} (keyed : Reg.GLB_LOCK_KEY.cut v = 0x5E7C) (asks : Reg.GLB_LOCK.cut v ≠ 0)
    (started : d.inReset = false) (byHost : d.on Reg.OTP_STAT_IMG_REQ = false) (unlocked : d.locked = false) :
    d.lockReq v = (d.tryLock 0).2 := by
  have taken : (Reg.GLB_LOCK_KEY.cut v != 0x5E7C || decide (Reg.GLB_LOCK.cut v = 0) || d.inReset) = false := by
    rw [keyed, started, decide_eq_false asks]; rfl
  have first : (d.on Reg.OTP_STAT_IMG_REQ || d.locked) = false := by rw [byHost, unlocked]; rfl
  exact (if_neg (Bool.eq_false_iff.1 taken)).trans (if_neg (Bool.eq_false_iff.1 first))

theorem tryLock_none {d : Dev} {src : Nat} (passes : d.lockFail = none) : (d.tryLock src).2 = d.lockDone src := by
  rw [Dev.tryLock, passes]

/-- A lock that fails shows and records the first condition that failed. -/
theorem tryLock_fails {d : Dev} {src blk unit chk : Nat} (fails : d.lockFail = some (blk, unit, chk)) :
    (d.tryLock src).2 =
      ((((d.wr Reg.GLB_LOCK_ERR_BLOCK blk).wr Reg.GLB_LOCK_ERR_UNIT unit).wr Reg.GLB_LOCK_ERR_CHECK chk).flag
        Reg.GLB_LOCK_ERR_VALID true).note 0x800F 3 83 0 0 [pU 28 1 blk, pU 29 1 unit, pU 30 1 chk, pU 31 1 src] := by
  rw [Dev.tryLock, fails]

/-! Car enables (R472) -/

theorem carMaskWr_locked {d : Dev} {v : Nat} (locked : d.locked) : d.carMaskWr v = d.inc Reg.GLB_CNT_LOCKWR := if_pos locked

theorem carMaskWr_open {d : Dev} {v : Nat} (unlocked : d.locked = false) :
    d.carMaskWr v = d.wr Reg.GLB_CAR_EN_MASK (d.rd Reg.GLB_CAR_EN_MASK ||| (v % 65536)) :=
  if_neg (Bool.eq_false_iff.1 unlocked)

theorem becomes_carEnable {s : State} {v : BitVec 32} {l : List (Fin 112 × TestEnd)} {d : Dev}
    (started : s.dev.inReset = false) (written : s.dev.carMaskWr v.toNat = d) : Becomes (.carEnableWrite v l) s (d.startPorts s.otp.bist l) := by
  subst written
  exact becomes_of_runO (f := fun o d => if d.inReset then d else (d.carMaskWr v.toNat).startPorts o.bist l) rfl
    (if_neg (Bool.eq_false_iff.1 started))

/-! Programming of OTP (R483, R484) -/

/-- The 32 bytes of an item as the host wrote them. -/
def progData (d : Dev) : List Byte := (List.range 8).flatMap fun w => leBytes 4 (d.rd (Reg.SEC_PROG_DATA w))

theorem progData_length (d : Dev) : (progData d).length = 32 := by simp [progData, List.length_flatMap]

section
variable {d : Dev} {o : Otp} {v : Nat} (keyed : Reg.SEC_PROG_GO_KEY.cut v = 0x0F7A) (go : Reg.SEC_PROG_GO.cut v ≠ 0)
  (idle : d.sys.prog = none)
include keyed go idle

theorem otpProg_keyed : d.otpProg o v = if d.progRefused o (d.rd Reg.SEC_PROG_SEL_ITEM)
    then (d.flag Reg.SEC_PROG_STAT_DONE true).wr Reg.SEC_PROG_STAT_RESULT 1
    else { d.flag Reg.SEC_PROG_STAT_DONE false with
      sys := { d.sys with prog := some (d.rd Reg.SEC_PROG_SEL_ITEM, progData d) } } := by
  have taken : (Reg.SEC_PROG_GO_KEY.cut v != 0x0F7A || decide (Reg.SEC_PROG_GO.cut v = 0) || d.sys.prog.isSome) = false := by
    rw [keyed, idle, decide_eq_false go]; rfl
  exact if_neg (Bool.eq_false_iff.1 taken)

theorem otpProg_starts (admitted : d.progRefused o (d.rd Reg.SEC_PROG_SEL_ITEM) = false) :
    ∃ i x, (d.otpProg o v).sys.prog = some (i, x) ∧ i = d.rd Reg.SEC_PROG_SEL_ITEM ∧ x.length = 32 ∧
      (d.otpProg o v).rd Reg.SEC_PROG_STAT_DONE = 0 := by
  rw [otpProg_keyed keyed go idle, if_neg (Bool.eq_false_iff.1 admitted)]
  exact ⟨_, _, rfl, rfl, progData_length d, rd_flag_false d Reg.SEC_PROG_STAT_DONE⟩

end

theorem otpDone_running {s : State} {i : Nat} {x : List Byte} (runs : s.dev.sys.prog = some (i, x)) :
    let a : Dev := { s.dev with sys := { s.dev.sys with prog := none } }
    otpDone false s = { s with
      otp := { s.otp with spoiled := setBit s.otp.spoiled i true },
      dev := (a.flag Reg.SEC_PROG_STAT_DONE true).wr Reg.SEC_PROG_STAT_RESULT 2 } ∧
    otpDone true s = { s with
      otp := s.otp.program i x,
      dev := ((a.loadOtp (s.otp.program i x)).flag Reg.SEC_PROG_STAT_DONE true).wr Reg.SEC_PROG_STAT_RESULT 0 } := by
  unfold otpDone
  rw [runs]
  exact ⟨rfl, rfl⟩

/-- Settles O58: the lock by its first failing condition, car enables by the lock, OTP by what it refuses. -/
theorem setupCommands : Obligations.SetupCommands := by
  refine ⟨?lock, ?cars, ?prog, ?done⟩
  case lock =>
    intro s v keyed asks started byHost unlocked
    have tries := lockReq_keyed keyed asks started byHost unlocked
    exact ⟨fun passes => becomes_of_run (f := fun d => d.lockReq v.toNat) rfl (tries.trans (tryLock_none passes)),
      fun blk unit chk fails => becomes_of_run (f := fun d => d.lockReq v.toNat) rfl (tries.trans (tryLock_fails fails))⟩
  case cars =>
    exact fun s v l started => ⟨fun locked => becomes_carEnable started (carMaskWr_locked locked),
      fun unlocked => becomes_carEnable started (carMaskWr_open unlocked)⟩
  case prog =>
    intro s v keyed go idle
    refine ⟨fun refused => ?_, fun admitted => ?_⟩
    · exact becomes_of_runO (f := fun o d => d.otpProg o v.toNat) rfl ((otpProg_keyed keyed go idle).trans (if_pos refused))
    · obtain ⟨i, x, starts⟩ := otpProg_starts keyed go idle admitted
      exact ⟨_, i, x, becomes_of_runO (f := fun o d => d.otpProg o v.toNat) rfl rfl, starts⟩
  case done =>
    intro s i x runs a
    obtain ⟨spoilt, good⟩ := otpDone_running runs
    exact ⟨congrArg Host.Outcome.next spoilt, congrArg Host.Outcome.next good⟩

end Sys2Proof.Proofs
end

section
/-! PROOFS. IMAGE_LOAD and IMAGE_COMMIT (R474, R478 to R480). -/

namespace Sys2Proof.Proofs

open Sys2Proof Sys2Proof.Machine Sys2Proof.Safety

/-- An image stored in a slot and staged. -/
def imgStaged (d : Dev) (slot : Nat) (img : List Byte) : Dev :=
  let x := d.mapNv fun v => { v with images := v.images.set (Fin.ofNat 2 slot) (some img) }
  ({ x with sys := { x.sys with staged := some slot } }.flag Reg.SEC_IMG_STAT_STAGED true).wr Reg.SEC_IMG_STAT_STG_SLOT slot

theorem imgStaged_first (d : Dev) (img : List Byte) : (imgStaged d 0 img).nv.images[0] = some img ∧
    (imgStaged d 0 img).sys.staged = some 0 ∧ (imgStaged d 0 img).rd Reg.SEC_IMG_STAT_STAGED = 1 := by
  refine ⟨?_, rfl, ?_⟩
  · simp [imgStaged]
  · rw [imgStaged, Dev.rd_wr_ne _ _ _ _ (by decide)]
    exact rd_flag_true _ rfl

/-- What IMAGE_LOAD answers once its image is read, by what its checks came to. -/
def imgTaken (d : Dev) (img : List Byte) : Nat ⊕ Nat → Admission
  | .inr 0 => d.refuse Stat.badDesc
  | .inr _ => (d.authFailed 0 0).refuse Stat.authFail
  | .inl _ =>
    (imgStaged d (match d.nv.committed with
      | some m => 1 - m.2
      | none => 0) img, some (AdmRes.done (leAt (imgHash img) 0 8) 0))

section
variable {s : State} {q : Fin 32} {b : List Byte} {m : Option (List Byte)} {f d x : Dev} {dn : Nat} {r : AdmRes}
  (passes : Passes s 0xA0 q b) (fetch : fetched s 0xA0 q b = (dn, f))
include passes fetch

/-- IMAGE_LOAD whose read brings nothing. -/
theorem answers_imageLoad_unread (read : f.readHost (leAt b 16 8) (leAt b 24 4) m = (none, d)) :
    Answers (.imageLoad q b m) s 0xA0 q b d (AdmRes.refuse Stat.badDesc) := by
  refine answers_of_admit passes rfl ?_
  rw [fetch]
  dsimp only
  rw [read]
  rfl

/-- IMAGE_LOAD whose read brings an image. -/
theorem answers_imageLoad_read {img : List Byte} (read : f.readHost (leAt b 16 8) (leAt b 24 4) m = (some img, d))
    {c : Nat ⊕ Nat}
    (check : d.imgCheck s.otp (leAt b 24 4) img = c) (taken : imgTaken d img c = (x, some r)) :
    Answers (.imageLoad q b m) s 0xA0 q b x r := by
  refine answers_of_admit passes rfl ?_
  rw [fetch]
  dsimp only
  rw [read]
  exact (congrArg (imgTaken d img) check).trans taken

end

theorem imgTaken_first {d : Dev} {k : Nat} (img : List Byte) (first : d.nv.committed = none) :
    imgTaken d img (.inl k) = (imgStaged d 0 img, some (AdmRes.done (leAt (imgHash img) 0 8) 0)) := by
  simp only [imgTaken, first]

section
variable {s : State} {q : Fin 32} {b : List Byte} {d : Dev} {dn : Nat} (passes : Passes s 0xA1 q b)
  (fetch : fetched s 0xA1 q b = (dn, d))
include passes fetch

theorem answers_imageCommit_nothing (nothing : d.sys.staged = none) :
    Answers (.imageCommit q b) s 0xA1 q b d (AdmRes.refuse Stat.busy) := by
  refine answers_of_admit passes rfl ?_
  rw [fetch]
  dsimp only
  rw [nothing]
  rfl

theorem answers_imageCommit_locked {k : Nat} (staged : d.sys.staged = some k) (locked : d.locked) :
    Answers (.imageCommit q b) s 0xA1 q b (d.writeCommit k) (AdmRes.done 0 0) := by
  refine answers_of_admit passes rfl ?_
  rw [fetch]
  dsimp only
  rw [staged]
  exact if_pos locked

end

/-- Settles O59: a load by its read and its check, a commit by what is staged. -/
theorem imageDescriptors : Obligations.ImageDescriptors := by
  refine ⟨fun s q b passes => ⟨?_, ?_, ?_, ?_, ?_⟩, fun s q b passes => ⟨?_, ?_⟩⟩
  · exact fun mastering => answers_imageLoad_unread passes rfl (readHost_none mastering)
  · exact fun off m => answers_imageLoad_unread passes rfl (readHost_idle off)
  · exact fun m mastering check => answers_imageLoad_read passes rfl (readHost_some mastering) check rfl
  · exact fun m k mastering check => answers_imageLoad_read passes rfl (readHost_some mastering) check rfl
  · exact fun m k mastering check first => ⟨_, answers_imageLoad_read passes rfl (readHost_some mastering)
      check (imgTaken_first m first), imgStaged_first _ m⟩
  · exact fun nothing => answers_imageCommit_nothing passes rfl nothing
  · exact fun k staged locked => answers_imageCommit_locked passes rfl staged locked

end Sys2Proof.Proofs
end

section
/-! PROOFS. Strings and Helea chains of a slice (R312 to R328). -/

namespace Sys2Proof.Proofs

open Sys2Proof Sys2Proof.Machine Sys2Proof.Safety

/-! Strings (R312 to R317) -/

theorem inLstr_on {c : Slice} (power : c.lstrOn) (f : Slice → Slice) : c.inLstr f = f c := if_pos power

theorem inLstr_off {c : Slice} (dark : c.lstrOn = false) (f : Slice → Slice) : c.inLstr f = c :=
  if_neg (Bool.eq_false_iff.1 dark)

/-- What a string block does runs where LSTR has power. -/
theorem sliceRuns_of_inLstr {i : Instr} {s : State} {n : Fin 16} {t : Nat} {f : Slice → Slice} {x : Slice}
    (power : (stands s n t).lstrOn) (runs : exec i s = s.slice n t fun c => c.inLstr f) (e : f (stands s n t) = x) :
    SliceRuns i s n x := sliceRuns_of_slice runs ((inLstr_on power f).trans e)

theorem any_early {o : Option Nat} {g now w : Nat} (last : o = some g) (early : now < g + w) :
    (o.any fun g => decide (now < g + w)) = true := by
  rw [last]; exact decide_eq_true early

theorem any_early_false {o : Option Nat} {now w : Nat} (due : ∀ g ∈ o, g + w ≤ now) :
    ¬ (o.any fun g => decide (now < g + w)) = true := by
  cases o with
  | none => exact Bool.false_ne_true
  | some g => exact fun early => Nat.not_lt.2 (due g rfl) (of_decide_eq_true early)

section
variable {c : Slice}

/-- The temperatures taken and the factors they give (R315). -/
def derated (c : Slice) (die ta tb : Int) : Slice :=
  let x := ((c.wrI Reg.LMP_S_TEMP_DIE die).wrI Reg.LMP_S_TEMP_TA ta).wrI Reg.LMP_S_TEMP_TB tb
  (x.wr Reg.LMP_S_FACT_FA (x.factorA / 10)).wr Reg.LMP_S_FACT_FB (x.factorB / 10)

theorem derate_early {a b : Nat} {k : Int} {g : Nat} (last : c.lamps.derGt = some g) (early : c.gt < g + 100000000) :
    c.derate a b k = c :=
  if_pos (any_early last early)

/-- A reading of a broken sensor. -/
def broken (r : Nat) : Bool := decide (r < 50) || decide (2000000 < r)

theorem broken_of {r : Nat} (out : r < 50 ∨ 2000000 < r) : broken r = true := by simpa [broken] using out

/-- The temperature of a group: of the die where it has no sensor, else of the sensor, or the last where that is broken. -/
def groupTemp (onDie bad : Bool) (die last now : Int) : Int := if onDie then die else if bad then last else now

theorem derate_due {a b : Nat} {k : Int} (due : ∀ g ∈ c.lamps.derGt, g + 100000000 ≤ c.gt) :
    let ta := groupTemp (c.setOn Reg.LMP_S_CFG_SRC_A) (broken a) k c.lamps.tempA (c.ntcTemp a)
    let tb := groupTemp (c.setOn Reg.LMP_S_CFG_SRC_B) (broken b) k c.lamps.tempB (c.ntcTemp b)
    c.derate a b k = derated (c.mapLamps fun l => { l with
      ntcA := !c.setOn Reg.LMP_S_CFG_SRC_A && broken a, ntcB := !c.setOn Reg.LMP_S_CFG_SRC_B && broken b,
      derGt := some c.gt, tempA := ta, tempB := tb }) k ta tb :=
  if_neg (any_early_false due)

/-- Two broken sensors: the temperatures last read stay, and each group derates for its fault. -/
theorem derate_broken {a b : Nat} {k : Int} (badA : a < 50 ∨ 2000000 < a) (badB : b < 50 ∨ 2000000 < b)
    (ntcA : c.setOn Reg.LMP_S_CFG_SRC_A = false) (ntcB : c.setOn Reg.LMP_S_CFG_SRC_B = false)
    (due : ∀ g ∈ c.lamps.derGt, g + 100000000 ≤ c.gt) :
    c.derate a b k = derated (c.mapLamps fun l => { l with ntcA := true, ntcB := true, derGt := some c.gt }) k c.lamps.tempA
      c.lamps.tempB := by
  rw [derate_due due, ntcA, ntcB, broken_of badA, broken_of badB]
  rfl

theorem pairUntested_due {k : Fin 7} (tested : bit (c.set Reg.LMP_S_CFG_TEST_EN) k.val)
    (due : c.lamps.pairGt[k] + 10000000000 ≤ c.gt) :
    c.pairUntested k = c.mapLamps fun l => { l with untested := setBit l.untested k.val true } :=
  if_pos (by rw [tested, decide_eq_true due]; rfl)

section
variable {k : Fin 8} (fits : c.strFits k.val) (free : c.lamps.latch[k] = none)
include fits free

theorem strOpen_low (low : 10 ≤ c.lamps.lows[k]) : c.strOpen k =
    ((c.inc Reg.LMP_S_CNT_OPEN).latchStr (2 ^ k.val) 1).mapLamps fun l => { l with lows := l.lows.set k 0 } :=
  if_pos (by rw [fits, free, decide_eq_true low]; rfl)

theorem strOpen_measured (few : c.lamps.lows[k] < 10) : c.strOpen k = c :=
  if_neg (by rw [fits, free, decide_eq_false (Nat.not_le.2 few)]; decide)

end

theorem lampHot_first {x : Int} (cool : c.lamps.hot = false) (hot : 135 < x) :
    c.lampHot x = (c.mapLamps fun l => { l with hot := true }).latchStr (c.set Reg.LMP_S_CFG_STR_EN) 2 :=
  if_neg (by rw [cool, decide_eq_false (Int.not_le.2 hot)]; decide)

theorem lampCool_below {x : Int} (cool : x ≤ 125) :
    c.lampCool x = (c.mapLamps fun l => { l with hot := false }).unlatch fun k => c.lamps.latch[k] = some 2 :=
  if_neg (Int.not_lt.2 cool)

/-! The pair in turn (R316) -/

/-- The next pair is in turn. -/
def turned (c : Slice) : Slice := c.mapLamps fun l => { l with pair := c.nextPair }

theorem pairTest_noWindow {fall : Nat} (closed : c.offWindow (Fin.ofNat 7 c.lamps.pair) = false) :
    c.pairTest fall = turned c := by
  unfold Slice.pairTest
  dsimp only
  rw [closed, Bool.and_false, if_neg Bool.false_ne_true]
  rfl

theorem and_unless_iff (p a b : Prop) [Decidable p] [Decidable a] [Decidable b] :
    (decide p && !(decide a && decide b)) = true ↔ p ∧ ¬(a ∧ b) := by simp [imp_iff_not_or]

/-- The pair in turn tested: it counts as tested, and a short not yet held latches both strings. -/
theorem pairTest_window {fall : Nat} (opens : c.offWindow (Fin.ofNat 7 c.lamps.pair))
    (tested : bit (c.set Reg.LMP_S_CFG_TEST_EN) (Fin.ofNat 7 c.lamps.pair).val) :
    let k : Fin 7 := Fin.ofNat 7 c.lamps.pair
    let y := (c.inc Reg.LMP_S_CNT_TEST).mapLamps fun x =>
      { x with untested := setBit x.untested k false, pairGt := x.pairGt.set k c.gt }
    let was := c.lamps.latch[k.castSucc] = some 0 ∧ c.lamps.latch[k.succ] = some 0
    c.pairTest fall = turned (if 2000 < fall ∧ ¬was then (y.inc Reg.LMP_S_CNT_SHORT).latchStr (3 * 2 ^ k.val) 0 else y) := by
  intro k y was
  unfold Slice.pairTest
  dsimp only
  rw [tested, opens, Bool.and_self, if_pos rfl]
  exact congrArg turned (if_congr (and_unless_iff ..) rfl rfl)

end

/-! Chains (R318, R324 to R327) -/

section
variable {c : Slice} {p : Fin 2}

theorem chainCheck_none (idle : c.hels[p].frame = none) (bits word : Nat) : c.chainCheck p bits word = c := by
  unfold Slice.chainCheck
  rw [idle]

theorem chainCheck_again {f : HFrame} (frame : c.hels[p].frame = some f) (checked : f.checked) (bits word : Nat) :
    c.chainCheck p bits word = c := by
  unfold Slice.chainCheck
  rw [frame]
  exact if_pos checked

/-- A good check of 32 bits in NORMAL ends the count of failures. -/
theorem chainCheck_good {f : HFrame} (frame : c.hels[p].frame = some f) (first : f.checked = false)
    (normal : c.hels[p].state = 1) :
    c.chainCheck p 32 f.tail =
      (((c.mapHel p fun h => { h with frame := some { f with checked := true } }).mapHel p fun h =>
        { h with fails := 0 }).locateEnd p) := by
  have good : (decide (32 = 32) && decide (f.tail = f.tail)) = true := by rw [decide_eq_true rfl, decide_eq_true rfl]; rfl
  unfold Slice.chainCheck
  rw [frame]
  dsimp only
  rw [if_neg (Bool.eq_false_iff.1 first), good, if_pos rfl, if_pos normal, if_pos rfl]

theorem helSwap_none (none' : c.hels[p].swap = false) (lam : Nat) : c.helSwap p lam = c :=
  if_neg (Bool.eq_false_iff.1 none')

section
variable {m : Nat} (enabled : c.hcOn p) (idle : c.hels[p].frame = none) (shape : c.helShape p = some (m, false))
include enabled idle shape

/-- A frame leaves where it latches on the grid. -/
theorem helStart_latches (noAction : c.acts = []) (noSwap : c.hels[p].swap = false)
    (latches : c.latchesAt p (c.gt + helNs m)) :
    c.helStart p = (((c.emit (.helea p.val (c.hels[p].bytes p.val m))).inc fun n => Reg.HLC_CNT_FRAME n p.val).mapHel p
      fun h => { h with
        frame := some { m := m, retest := false, lam := c.gt + helNs m, latched := false, checked := false,
                        tail := h.tail p.val }
        count := (h.count + 1) % 65536 }) := by
  unfold Slice.helStart
  rw [idle, enabled, chainCheck_none idle]
  dsimp only
  rw [shape]
  dsimp only
  rw [latches, noAction, helSwap_none noSwap]
  rfl

theorem helStart_waits (offGrid : c.latchesAt p (c.gt + helNs m) = false) : c.helStart p = c := by
  unfold Slice.helStart
  rw [idle, enabled, chainCheck_none idle]
  dsimp only
  rw [shape]
  dsimp only
  rw [offGrid]
  rfl

end

end

/-- Settles O47: each command of the strings by its guard, each of a chain by its frame. -/
theorem lampsAndHelea : Obligations.LampsAndHelea := by
  intro s n t c
  refine ⟨fun power => ⟨?derate, ?early, ?untested, ?low, ?hot, ?cool, ?period⟩, ?dark, ?latch, ?start, ?check⟩
  case derate =>
    exact fun a b k badA badB ntcA ntcB due => sliceRuns_of_inLstr (f := fun c => c.derate a b k) power rfl
      (derate_broken badA badB ntcA ntcB due)
  case early =>
    exact fun a b k g last early => sliceRuns_of_inLstr (f := fun c => c.derate a b k) power rfl (derate_early last early)
  case untested =>
    exact fun k tested due => sliceRuns_of_inLstr (f := fun c => c.pairUntested k) power rfl (pairUntested_due tested due)
  case low =>
    exact fun k fits free =>
      ⟨fun low => sliceRuns_of_inLstr (f := fun c => c.strOpen k) power rfl (strOpen_low fits free low),
        fun few => sliceRuns_of_inLstr (f := fun c => c.strOpen k) power rfl (strOpen_measured fits free few)⟩
  case hot =>
    exact fun x cool hot => sliceRuns_of_inLstr (f := fun c => c.lampHot x) power rfl (lampHot_first cool hot)
  case cool =>
    exact fun x cool => sliceRuns_of_inLstr (f := fun c => c.lampCool x) power rfl (lampCool_below cool)
  case period =>
    intro l fall b k
    exact ⟨fun closed => sliceRuns_of_inLstr (f := fun c => (c.boost l).pairTest fall) power rfl (pairTest_noWindow closed),
      fun opens tested => sliceRuns_of_inLstr (f := fun c => (c.boost l).pairTest fall) power rfl
        (pairTest_window opens tested)⟩
  case dark =>
    intro dark a b x k j l i mem
    have still {i : Instr} {f : Slice → Slice} (runs : exec i s = s.slice n t fun c => c.inLstr f) : SliceRuns i s n c :=
      sliceRuns_of_slice runs (inLstr_off dark f)
    simp only [List.mem_cons, List.not_mem_nil, or_false] at mem
    obtain rfl | rfl | rfl | rfl | rfl | rfl := mem
    · exact still (f := fun c => c.derate a b x) rfl
    · exact still (f := fun c => c.pairUntested k) rfl
    · exact still (f := fun c => c.strOpen j) rfl
    · exact still (f := fun c => c.lampHot x) rfl
    · exact still (f := fun c => c.lampCool x) rfl
    · exact still (f := fun c => (c.boost l).pairTest a) rfl
  case latch => exact fun p => sliceRuns_of_slice (f := fun c => c.helLatch p) rfl rfl
  case start =>
    intro p m c enabled idle shape noAction noSwap
    exact ⟨fun latches => sliceFires_of_sliceFire (f := fun c => c.helStart p) rfl
        (helStart_latches enabled idle shape noAction noSwap latches),
      fun offGrid => sliceFires_of_sliceFire (f := fun c => c.helStart p) rfl (helStart_waits enabled idle shape offGrid)⟩
  case check =>
    intro p f frame
    exact ⟨fun checked b k => sliceRuns_of_slice (f := fun c => c.chainCheck p b k) rfl (chainCheck_again frame checked b k),
      fun first normal => sliceRuns_of_slice (f := fun c => c.chainCheck p 32 f.tail) rfl
        (chainCheck_good frame first normal)⟩

end Sys2Proof.Proofs
end
